-- ==== Sys2Proof/Word.lean ====
section
/-! DEFINITION. Word.lean: the words of the block and the sorted tables its state is written with. -/

namespace Sys2Proof

/-- A register word: all registers are 32 bits wide (R6). -/
abbrev Word := BitVec 32

/-- A byte of memory, of a record or of a frame. -/
abbrev Byte := BitVec 8

/-- A sample time: the 48-bit count of 1 µs ticks, which wraps (R56). -/
abbrev Stamp := BitVec 48

/-- A table from indices to values, sorted by index, that lists no entry equal to what an unlisted index reads as. -/
abbrev Tab (α : Type) := List (Nat × α)

end Sys2Proof
end

