-- ==== Sys2Proof/Types.lean ====
section
/-! DEFINITION. Types.lean: the plain data that commands, events and state share: blocks, events, sources, descriptors,
bus accesses, records and frames. -/

namespace Sys2Proof

/-- The part: Table SCP-1 gives the instances of each (R1). -/
inductive Part where
  | dx8856 | dx8828
deriving DecidableEq, Repr

/-- The register blocks of Table WLD-2. -/
inductive Blk where
  | flt | isl | pwr | bot | wld | hst | haz | hed | sec | win | pgn | lmp | saf | ser | net | kvt | twn | evt
deriving DecidableEq, Repr

/-- The codes of the event catalogue, Table EVT-4; each constructor is the name of its row. -/
inductive Ev where
  | endgameEnter | endgameExpired | endgameRefused | endgameEnded | egSpeedExceeded | fltGroupReleased
  | clkWindowVital | clkWindowIsland | clkWindowCore | islandHeld | d2dLinkLost | timeMap | vfieldRange
  | vsensLow | vbatLow | pwrHoldEnter | pwrHoldExit | retCorrupt | bootImageRefused | bootFail
  | sealReadFault | sealScanFault | sealMismatch | sealChanged | sealChangedOffline | imageCopyCorrupt
  | otpProgFail | wldViolation | wldAssignRefused | eccCorrected | eccUncorrectable | svLockstep
  | hstLinkLost | hstLinkUp | hstRingError | hstEvtOverflow | blankOverlong | bankClamp | hazSelftestFail
  | auxOpen | auxRefFault | senOpen | senSupplyShort | senOutOfBand | senOvr | headSysStuck | headPattern
  | headSingleDirection | headRecordOverrun | remoteHeadLost | headConfig | headRecovered | headEvent
  | gambit | gambitConfirm | gambitCancel | headState | secState | secCountNegative | secCountLimit
  | secSweepTimeout | secConfig | secResetDone | secResetRefused | winLatch | winTrip | winSelftestFail
  | winSelftestMissed | winDacFail | winConfig | pgTrip | pgClearRefused | pgConfig | ssoFeedback | lampDark
  | lampGhost | lampShortSupply | lampOvercurrent | lampCross | lampString | lmpConfig | sigConfig
  | lmpDutyUnreachable | sigDark | lampChangeover | lampRearmed | lampRearmRefused | aspectRefused
  | lampStatus | siTestpulse | siCross | tpFault | fbDiscrepancy | fbOssdNopulse | fbConfig | soFeedback
  | soStuckOff | soConfig | fbButtonStuck | fbResetStuck | fbResetRefused | fbDemand | fbState | serConfig
  | serAutobaudFail | serCardInserted | serCardRemoved | serTsFault | serCardTxerr | netLinkUp | netLinkDown
  | netLinkHeld | netConfig | ptpStep | kvtSessionOpen | kvtSessionLost | kvtIntegrity | kvtAged | kvtConfig
  | twinPaired | twinLost | twinPairRefused | twinSampleMismatch | twinDecisionMismatch | twinDisagree
  | twinLinkError | twinTickSlip | twinCastled | twinCastleAborted | twinIsolated | twinPromoted | twinConfig
  | twinLostSeries
deriving DecidableEq, Repr

/-- The SOURCE of a record: block code of Table WLD-2 and instance of Table EVT-2. -/
structure Src where
  code : Nat
  inst : Nat
deriving DecidableEq, Repr

/-- An event record (Table EVT-1) without the sequence number its ring gives it: bytes 12 to 31 are `pay`. -/
structure EvRec where
  ev : Ev
  src : Src
  stamp : Stamp
  pay : List Byte
deriving DecidableEq, Repr

/-- A fault that is present on an object (R23, R510): `sub` tells the faults of one name on one object apart, `cls` is
the class of the reaction applied (R509), `groups` the function groups an F3 acts on (R32). -/
structure Cause where
  ev : Ev
  src : Src
  sub : Nat
  cls : Nat
  groups : Nat
deriving DecidableEq, Repr

/-- The host's fields of a CMD descriptor (Table HST-6) as the ring engine has read it: the ring, FLAGS with byte 3 above it, TAG and the
bytes 8 to 23, byte 8 in the lowest bits. -/
structure Cmd where
  ring : Fin 64
  flags : BitVec 16
  tag : BitVec 32
  param : BitVec 128
deriving DecidableEq, Repr

/-- A bus access: the master's code of Table WLD-1, the ring when the master is ring DMA or the block code when
it is an engine (R142), the byte enables of R537. -/
structure Access where
  master : Fin 9
  ring : Fin 64
  be : BitVec 4
deriving DecidableEq, Repr

/-- What the master of an access sees beside data: the answers of Table WLD-8, R141 and R186; an inbound
request that no BAR maps is unsupported (assumption log 168). -/
inductive Answer where
  | ok | loadFault | fetchFault | completerAbort | ringError | unsupported
deriving DecidableEq, Repr

/-- A signalled interrupt: a source of the secure or the non-secure controller (Table WLD-9), or an MSI-X vector. -/
inductive Irq where
  | secure (source : Nat) | nonSecure (source : Nat) | msix (vector : Nat)
deriving DecidableEq, Repr

/-- The reset events of Table SCP-4, in the order of its letters. -/
inductive Rst where
  | g | p | b | x | w | s | n | i | y
deriving DecidableEq, Repr

/-- A KVT frame past its Ethernet header (Table KVT-1): SYN and DUP of FLAGS, AUTH follows the port. -/
structure KvtFrame where
  type : Nat
  syn : Bool := false
  dup : Bool := false
  sid : Nat
  seq : Nat
  ack : Nat
  stamp : Nat
  sub : Nat := 0
  payload : List Byte
deriving DecidableEq, Repr

/-- A KVT message that waits for the send window (R457). -/
structure KvtMsg where
  type : Nat
  payload : List Byte
deriving DecidableEq, Repr

/-- A sequenced frame not yet acknowledged: when it was last sent and how often (R457). -/
structure KvtSent where
  frame : KvtFrame
  at_ : Stamp
  times : Nat
deriving DecidableEq, Repr

/-- A decision record for the twin (chapter 18): event code, source, stamp, and the content bytes in network byte order. -/
structure Decision where
  code : Nat
  src : Src
  stamp : Stamp
  content : List Byte
deriving DecidableEq, Repr

/-- A sample record or frequency word as it reaches the head engine (Tables HAZ-5 and R198): the code, the code that SEN_OPEN
judges (the mean-current code of a FREQ channel), and the tags. -/
structure ChanRec where
  chan : Nat
  code : Int
  openCode : Int
  ovr : Bool
  blanked : Bool
  disturb : Bool
  limit : Bool
deriving DecidableEq, Repr

/-- The fields of a head record (Table HED-3): event (wheel, STATE, gambit, confirm, cancel), direction, flags, gambit,
cancel reason, speed and damping duration; of a neighbour's record the neighbour's own stamp, kept for reporting (R240). -/
structure HeadRec where
  ev : Ev
  dir : Nat := 0
  fast : Bool := false
  slow : Bool := false
  single : Bool := false
  faulted : Bool := false
  gid : Nat := 0
  reason : Nat := 0
  speed : Nat := 0
  damp : Nat := 0
  at_ : Option Stamp := none
deriving DecidableEq, Repr

/-- What a poll of a doorbell word finds (R168, R172, R182): the host-memory bytes that have become visible by then, and a value that the
mirror page takes in the same cycle. -/
structure PollSeen where
  batch : List (BitVec 64 × Byte)
  mirror : Option Word
deriving DecidableEq, Repr

/-- A level that a pin BLANK_p has held for a number of nanoseconds (R200). -/
structure PinHeld where
  level : Bool
  ns : BitVec 16
deriving DecidableEq, Repr

/-- A level that the card-detect input of a serial port has held for a number of microseconds (R410). -/
structure CardLevel where
  port : Fin 7
  high : Bool
  us : BitVec 32
deriving DecidableEq, Repr

/-- What RXD showed beside a transmitted character of a synchronous port, bit by bit from its first: at the instant of each bit and at that of
SAMPLE_LATE (R413). -/
structure SyncRx where
  early : BitVec 9
  late : BitVec 9
deriving DecidableEq, Repr

/-- What a serial receiver sees of one character (R397, R399, R406): the stamp of its sample 0, the levels of the pin at the receiver's
sample instants from sample 0 on (16 or 8 per bit of the bit time that decides the character; the line rests after the last), and the times
of the pin's later falling and rising edges in units of 10 ns after the start edge. -/
structure LineChar where
  first : Stamp
  samples : List Bool
  falls : List Nat
  rises : List Nat
deriving DecidableEq, Repr

/-- A TIME_MARK block (Table TWN-2): STAMP, TX_OFS and RX_MEAS in ps, GEN_CYCLES, the seal in force, PAIR_ID, bytes 32 to 34,
ENGINE_START, the heads and the lamps in service. -/
structure Mark where
  stamp : Stamp
  txOfs : BitVec 32
  rxMeas : BitVec 32
  gen : BitVec 64
  sealCode : BitVec 32
  pairId : BitVec 32
  state : BitVec 8
  devState : BitVec 8
  vsens : BitVec 8
  start : Stamp
  heads : BitVec 32
  lamps : BitVec 48
deriving DecidableEq, Repr

/-- A planned castling (R488, R489): boundary B, reason 1 COMMAND or 2 SAFE, acknowledged. -/
structure CastlePlan where
  b : Stamp
  reason : Nat
  acked : Bool
deriving DecidableEq, Repr

/-- A record that is matched between twins (R484): the decision, and whether its head or lamp was in service on both evaluators
when it was made or received, whether it has been judged. -/
structure TwinRec where
  what : Decision
  serves : Bool
  judged : Bool := false
deriving DecidableEq, Repr

end Sys2Proof
end

