-- ==== Sys2Proof/Syntax.lean ====
section
/-! DEFINITION. Syntax.lean: the commands of the evaluator, one constructor per row of spec/opcode_table.json. Every command carries the
sample time `t` at which it falls, and the operands the environment decides. -/

namespace Sys2Proof

/-- A command. -/
inductive Instr where
  /-- NOP. NOP (R174); an OPCODE that is not in Table HST-10 completes with BAD_OPCODE. -/
  | nop (t : Stamp) (c : Cmd) (opcode : BitVec 16)
  /-- ASPECT_REQUEST. ASPECT_REQUEST from a ring (R335). -/
  | aspectRequest (t : Stamp) (c : Cmd)
  /-- LAMP_REARM. LAMP_REARM (R347, R348). -/
  | lampRearm (t : Stamp) (c : Cmd)
  /-- PG_CLEAR. PG_CLEAR (R315, R316). -/
  | pgClear (t : Stamp) (c : Cmd)
  /-- SECTION_RESET. SECTION_RESET: an authorisation by firmware (R264 to R266). -/
  | sectionReset (t : Stamp) (c : Cmd)
  /-- GROUP_RELEASE. GROUP_RELEASE (R33). -/
  | groupRelease (t : Stamp) (c : Cmd)
  /-- ENDGAME_ACK. ENDGAME_ACK (R39, R540). -/
  | endgameAck (t : Stamp) (c : Cmd)
  /-- FB_RESET. FB_RESET (R373). -/
  | fbReset (t : Stamp) (c : Cmd)
  /-- CASTLE. CASTLE (R488). -/
  | castle (t : Stamp) (c : Cmd)
  /-- SEN_THRESHOLD. SEN_THRESHOLD (R229). -/
  | senThreshold (t : Stamp) (c : Cmd)
  /-- WM_THRESHOLD. WM_THRESHOLD (R291): a secure command, or for the general monitors their owner's. -/
  | wmThreshold (t : Stamp) (c : Cmd)
  /-- BLANK. BLANK (R202). -/
  | blank (t : Stamp) (c : Cmd)
  /-- APP_SEND. APP_SEND (R176, R466). -/
  | appSend (t : Stamp) (c : Cmd)
  /-- STREAM_CTRL. STREAM_CTRL (R196), for the owner of the source. -/
  | streamCtrl (t : Stamp) (c : Cmd)
  /-- SER_FLUSH. SER_FLUSH (R404), for the owner of the UART. -/
  | serFlush (t : Stamp) (c : Cmd)
  /-- BOOT_IMAGE. BOOT_IMAGE: the boot ROM acts on the first one that the boot ring consumes (R178). Any other ring completes it with WORLD. -/
  | bootImage (t : Stamp) (c : Cmd)
  /-- SECURE_WORLD_RESET. A write of PWR_SW_RESET with S set (R99, R104); `chain` is what the seal block delivers to the scans of the re-application. -/
  | secureWorldReset (t : Stamp) (acc : Access) (v : Word) (chain : List (BitVec 64))
  /-- NON_SECURE_WORLD_RESET. N: a function-level reset, or a write of PWR_SW_RESET with N set (R99, R103). -/
  | nonSecureWorldReset (t : Stamp) (acc : Access) (v : Word) (flr : Bool)
  /-- ISLAND_RESET_DUSK. I of DUSK, or its release (R69, R190). -/
  | islandResetDusk (t : Stamp) (acc : Access)
  /-- ISLAND_RESET_SER. I of the serial-port logic (R421). -/
  | islandResetSer (t : Stamp) (acc : Access)
  /-- ISLAND_RESET_PORT. I of a port that is not in TWIN role (R446). -/
  | islandResetPort (t : Stamp) (acc : Access) (n : Fin 4)
  /-- WDT_KICK. A write of PWR_WDT_KICK (R94). -/
  | wdtKick (t : Stamp) (acc : Access) (v : Word)
  /-- RTC_SET. A write of PWR_RTC_SEC (R91). -/
  | rtcSet (t : Stamp) (acc : Access) (v : Word)
  /-- RELOAD. A write of BOT_CTRL (R124). -/
  | reload (t : Stamp) (acc : Access) (v : Word)
  /-- OTP_READ. BOT_OTP_CMD.READ (R117). -/
  | otpRead (t : Stamp) (acc : Access)
  /-- OTP_PROGRAM. BOT_OTP_CMD.PROGRAM (R117); `back` is what the word reads back, where that is not what it should. -/
  | otpProgram (t : Stamp) (acc : Access) (back : Option Word)
  /-- PEAK_CLEAR. A write of HAZ_CH_PEAK_CLR (Table of chapter 08). -/
  | peakClear (t : Stamp) (acc : Access) (n : Fin 64)
  /-- AB_ARM. A write of SER_CTRL.AB_ARM (R406). -/
  | abArm (t : Stamp) (acc : Access) (n : Fin 7)
  /-- CARD_ARM. A write of SER_CTRL.CARD_ARM (R410). -/
  | cardArm (t : Stamp) (acc : Access) (n : Fin 7)
  /-- CARD_STOP. A write of SER_CTRL.CARD_STOP (R410). -/
  | cardStop (t : Stamp) (acc : Access) (n : Fin 7)
  /-- LINK_RELEASE. A write of NET_CTRL.RELEASE (R443). -/
  | linkRelease (t : Stamp) (acc : Access) (n : Fin 4)
  /-- PTP_SET. A write of NET_PTP_CTRL.SET (R435). -/
  | ptpSet (t : Stamp) (acc : Access) (n : Fin 4)
  /-- PTP_OFFSET_STEP. A write of NET_PTP_CTRL.STEP (R435). -/
  | ptpOffsetStep (t : Stamp) (acc : Access) (n : Fin 4)
  /-- KVT_KEY_WRITE. A write of a key word (R463). -/
  | kvtKeyWrite (t : Stamp) (acc : Access) (p : Fin 4) (j : Fin 4) (v : Word)
  /-- KEY_COMMIT. A write of KVT_KEY_CTRL.COMMIT (R463). -/
  | keyCommit (t : Stamp) (acc : Access) (p : Fin 4)
  /-- RING_ENABLE. A write of ENABLE = 1 of a ring (R179). -/
  | ringEnable (t : Stamp) (acc : Access) (n : Fin 64)
  /-- RING_DISABLE. A write of ENABLE = 0 of a ring (R180). -/
  | ringDisable (t : Stamp) (acc : Access) (n : Fin 64)
  /-- WINDOW_DISABLE. A write that clears ENABLE of a host window (R156). -/
  | windowDisable (t : Stamp) (acc : Access) (w : Fin 16) (v : Word)
  /-- REGION_TAG_WRITE. A write of the tags of 16 SRAM regions (R137). -/
  | regionTagWrite (t : Stamp) (acc : Access) (k : Fin 8) (v : Word)
  /-- REGION_ZEROED. The zeroing of a region has ended (R137). -/
  | regionZeroed (t : Stamp) (r : Fin 128)
  /-- WAT_WRITE. A write of a World Assignment Table entry (R133, R155). -/
  | watWrite (t : Stamp) (acc : Access) (e : Fin 128) (v : Word)
  /-- AP_RUN_WRITE. A write of WLD_AP_RUN (R147). -/
  | apRunWrite (t : Stamp) (acc : Access) (v : Word)
  /-- HEAD_ENABLE. A write of HED_CFG (R253). -/
  | headEnable (t : Stamp) (acc : Access) (h : Fin 64) (v : Word)
  /-- HEAD_CONFIG_WRITE. A write of a configuration register of a head, word `k` of its slot (R543). -/
  | headConfigWrite (t : Stamp) (acc : Access) (h : Fin 64) (k : Fin 9) (v : Word)
  /-- HEAD_COUNTER_PRESET. A write of a lifetime wheel counter (R239); `inc` when an increment falls in the same cycle, which is applied after it (R152). -/
  | headCounterPreset (t : Stamp) (acc : Access) (h : Fin 64) (ba : Bool) (v : Word) (inc : Bool)
  /-- SECTION_ENABLE. A write of a configuration register of a section, word `k` of its registers (R278). -/
  | sectionEnable (t : Stamp) (acc : Access) (i : Fin 64) (k : Fin 5) (v : Word)
  /-- MONITOR_ENABLE. A write of WIN_CFG (R302, R303). -/
  | monitorEnable (t : Stamp) (acc : Access) (m : Fin 128) (v : Word)
  /-- MONITOR_THRESHOLD_WRITE. A write of WIN_THR (R291). -/
  | monitorThresholdWrite (t : Stamp) (acc : Access) (m : Fin 128) (v : Word)
  /-- GENERATOR_ENABLE. A write of a configuration register of a generator, word `k` of its registers (R328). -/
  | generatorEnable (t : Stamp) (acc : Access) (g : Fin 64) (k : Fin 6) (v : Word)
  /-- LAMP_ENABLE. A write of LMP_CFG (R360). -/
  | lampEnable (t : Stamp) (acc : Access) (k : Fin 48) (v : Word)
  /-- SIGNAL_ENABLE. A write of LMP_SIG_CFG (R361). -/
  | signalEnable (t : Stamp) (acc : Access) (i : Fin 16) (v : Word)
  /-- FUNCTION_ENABLE. A write of SAF_FB_CFG (R392). -/
  | functionEnable (t : Stamp) (acc : Access) (f : Fin 16) (v : Word)
  /-- SAFE_OUTPUT_ENABLE. A write of SAF_SO_CFG (R393). -/
  | safeOutputEnable (t : Stamp) (acc : Access) (o : Fin 8) (v : Word)
  /-- SERIAL_PORT_ENABLE. A write of SER_CFG (R418). -/
  | serialPortEnable (t : Stamp) (acc : Access) (n : Fin 7) (v : Word)
  /-- PORT_ENABLE. A write of NET_CFG (R444). -/
  | portEnable (t : Stamp) (acc : Access) (n : Fin 4) (v : Word)
  /-- KVT_ENABLE. A write of KVT_PCFG (R471). -/
  | kvtEnable (t : Stamp) (acc : Access) (p : Fin 4) (v : Word)
  /-- TWIN_ENABLE. A write of TWN_CFG (R500). -/
  | twinEnable (t : Stamp) (acc : Access) (v : Word)
  /-- COUNTER_PAIR_LOW_READ. A read of the low word of a counter pair (R150). -/
  | counterPairLowRead (t : Stamp) (acc : Access) (a : BitVec 32)
  /-- REGISTER_WRITE. A write on the bus (R9, R537); `hw` are the flag bits that hardware sets in the same cycle (R153). -/
  | registerWrite (t : Stamp) (acc : Access) (a : BitVec 32) (v : Word) (hw : Word)
  /-- VIOLATING_ACCESS. An access that violates worlds or finds nothing (R131, R140). -/
  | violatingAccess (t : Stamp) (acc : Access) (a : BitVec 32) (write : Bool) (v : Word)
  /-- INSTRUCTION_FETCH_REFUSED. An instruction fetch (R141). -/
  | instructionFetchRefused (t : Stamp) (acc : Access) (a : BitVec 32)
  /-- SCRUB_PASS. The scrubber has corrected `fixed` words and found uncorrectable ones at `bad` (R144, R145). -/
  | scrubPass (t : Stamp) (fixed : BitVec 16) (bad : List (BitVec 32))
  /-- SV_LOCKSTEP. A lockstep mismatch of an SV pair (R146). -/
  | svLockstep (t : Stamp) (p : Fin 2)
  /-- CORE_TIMER_INTERRUPT. A core's timer is compared with mtime (R149); cores 0 and 1 are the SV pairs. -/
  | coreTimerInterrupt (t : Stamp) (core : Fin 6)
  /-- DOORBELL_WRITE. A write of a ring's doorbell word, or of its word on the mirror page, after the host has made `batch` visible (R166, R168, R172). -/
  | doorbellWrite (t : Stamp) (acc : Access) (batch : List (BitVec 64 × Byte)) (mirror : Bool) (n : Fin 64) (v : Word)
  /-- DOORBELL_POLL. DUSK polls a ring's doorbell word (R168, R182). -/
  | doorbellPoll (t : Stamp) (seen : PollSeen) (n : Fin 64)
  /-- WRITEBACK_WRITE. A write-back block that is due (R167). -/
  | writebackWrite (t : Stamp) (n : Fin 64)
  /-- RING_INTERRUPT. A ring's interrupt, once a condition of R175 is met. -/
  | ringInterrupt (t : Stamp) (n : Fin 64)
  /-- STRM_BUFFER_COMPLETE. A STRM buffer 1 ms after its first record (R170). -/
  | strmBufferComplete (t : Stamp) (n : Fin 64)
  /-- HST_EVT_OVERFLOW. A slot is free on a ring that dropped records (R183). -/
  | hstEvtOverflow (t : Stamp) (n : Fin 64)
  /-- PCIE_LINK_DOWN. The PCIe link is lost (R185). -/
  | pcieLinkDown (t : Stamp)
  /-- PCIE_LINK_UP. The PCIe link comes up (R188); `msix` when the host enables MSI-X with it. -/
  | pcieLinkUp (t : Stamp) (gen : Fin 6) (width : Fin 3) (msix : Bool)
  /-- PCIE_COMPLETION_TIMEOUT. A non-posted request that has waited `us`, or has returned an error status (R186, R187). -/
  | pcieCompletionTimeout (t : Stamp) (acc : Access) (a : BitVec 32) (us : BitVec 32) (error : Bool) (buffer : Bool)
  /-- POWER_ON_RESET_RELEASE. Power-on reset releases (R76): the GLOW cycles since the last command, the balls BOOT_SEL, the supplies, the letters of other reset events that fall together (R97). -/
  | powerOnResetRelease (t : Stamp) (cycles : BitVec 48) (sel : Fin 4) (rails : BitVec 17) (vmain : Bool) (also : BitVec 9)
  /-- ALL_POWER_LOST. VDD_IO and VBAT are both absent (R80). -/
  | allPowerLost (t : Stamp)
  /-- BROWN_OUT. A rail has been below its threshold for 2 µs (R77). -/
  | brownOut (t : Stamp) (rails : BitVec 17) (also : BitVec 9)
  /-- EXTERNAL_RESET. RST_N has been low for 1 µs (R103). -/
  | externalReset (t : Stamp) (also : BitVec 9)
  /-- WATCHDOG_EXPIRY. The watchdog reaches TIMEOUT_MS (R94). -/
  | watchdogExpiry (t : Stamp) (also : BitVec 9)
  /-- VFIELD_RANGE. VFIELD has been out of range for 100 µs (R78). -/
  | vfieldRange (t : Stamp) (high : Bool)
  /-- VSENS_LOW. VSENS_b has been below 7.5 V for 100 µs (R79). -/
  | vsensLow (t : Stamp) (b : Fin 8)
  /-- VBAT_LOW. VBAT falls below 2.0 V (R80). -/
  | vbatLow (t : Stamp)
  /-- GLOW_SUPPLY_SWITCHOVER. GLOW switches supply (R80). -/
  | glowSupplySwitchover (t : Stamp) (onVbat : Bool)
  /-- DOZE_ENTRY. The cores in `waiting` wait for an interrupt (R81): bits 0 and 1 the SV pairs, 2 to 5 the AP cores. -/
  | dozeEntry (t : Stamp) (waiting : BitVec 6)
  /-- DOZE_EXIT. DOZE ends (R81). -/
  | dozeExit (t : Stamp)
  /-- HOLD_ENTRY. VMAIN_SENSE has been below its threshold for 20 µs (R82). -/
  | holdEntry (t : Stamp)
  /-- HOLD_EXIT. VMAIN_SENSE has been back for 10 ms (R83). -/
  | holdExit (t : Stamp)
  /-- ORDERLY_SHUTDOWN. The budget of HOLD ends (R84). -/
  | orderlyShutdown (t : Stamp)
  /-- WAKE_SOURCE. A wake source acts (R85): 0 WAKE_N, 1 and 2 the comparators, 3 the RTC alarm. -/
  | wakeSource (t : Stamp) (cycles : BitVec 48) (source : Fin 4) (rising : Bool)
  /-- WAKE_FAIL. The rails are not in window 500 ms after a BOOT wake (R86). -/
  | wakeFail (t : Stamp) (cycles : BitVec 48)
  /-- STANDBY_POWER_OFF. VBAT is lost in STANDBY (R81). -/
  | standbyPowerOff (t : Stamp)
  /-- BOOT_SOURCE_TRY. The boot ROM reads and checks the image of the source in turn (R107, R115): what its slot delivers in 8D-8D-8D, if the
  flash describes that read, and what it delivers in 1S-1S-1S (R108). -/
  | bootSourceTry (t : Stamp) (octal : Option (List Byte)) (image : List Byte)
  /-- PCIE_TIMEOUT. No PCIe image 10 s after the release (R109). -/
  | pcieTimeout (t : Stamp)
  /-- SEAL_SCAN. UART_7 scans the seal block, which delivers `w` (R120). -/
  | sealScan (t : Stamp) (w : BitVec 64)
  /-- SEAL_SCAN_RETRY. The scan 10 ms after an invalid read (R120). -/
  | sealScanRetry (t : Stamp) (w : BitVec 64)
  /-- ENGINE_START. The engines start (R21, R504). -/
  | engineStart (t : Stamp)
  /-- MAPPING_PAIR_CAPTURE. A mapping pair is captured (R61, R62, R65). -/
  | mappingPairCapture (t : Stamp)
  /-- SAMPLE_TIME_WRAP. Sample time wraps from 2^48 - 1 to 0 (R56, R539). -/
  | sampleTimeWrap
  /-- CLOCK_MONITOR_GATE. A gate of clock i's monitor ends with a count of the faster clock (R63, R73); `stopped` when one of the clocks has stopped. -/
  | clockMonitorGate (t : Stamp) (i : Fin 13) (count : BitVec 24) (stopped : Bool)
  /-- D2D_LINK_LOST. The die-to-die link has been silent for 2 µs, or `bad` words in a row have failed their CRC (R71). -/
  | d2dLinkLost (t : Stamp) (silent : Bool) (bad : BitVec 16)
  /-- SAMPLE_RECORD. The aperture that ends at t (R196): per channel the mean differential voltage in nanovolts and whether its switch was in current limit. -/
  | sampleRecord (t : Stamp) (records : List (Fin 64 × Int × Bool))
  /-- FREQUENCY_WORD. The gate that ends at t (R197): per channel its rising crossings, how long before its end the last one fell in units of 1.5625 ns, whether a further one falls exactly on its end, the mean shunt voltage in nanovolts, the switch in current limit. -/
  | frequencyWord (t : Stamp) (words : List (Fin 64 × BitVec 16 × BitVec 16 × Bool × Int × Bool))
  /-- GAMBIT_WINDOW_EXPIRY. The gambit window expires (R235). -/
  | gambitWindowExpiry (t : Stamp) (h : Fin 32)
  /-- HEAD_SYS_STUCK. A system has been DAMPED for T_STUCK (R248). -/
  | headSysStuck (t : Stamp) (h : Fin 32)
  /-- ENDGAME_EXPIRY. The time limits of Endgames that are reached (R37, R38). -/
  | endgameExpiry (t : Stamp)
  /-- CURRENT_LIMIT_TRIP. A switch has been in current limit for 200 µs (R195). -/
  | currentLimitTrip (t : Stamp) (c : Fin 64)
  /-- SWITCH_RECLOSE. The switch closes again (R195). -/
  | switchReclose (t : Stamp) (c : Fin 64)
  /-- BLANK_PIN_EDGE. BLANK_p has held a level for a time (R200): an edge that the 50 ns filter passes, or one it does not. -/
  | blankPinEdge (t : Stamp) (ns : Fin 1000) (p : Fin 4) (held : PinHeld)
  /-- BLANK_COMMAND_END. A command blank has run out (R202). -/
  | blankCommandEnd (t : Stamp) (b : Fin 8)
  /-- BLANK_OVERLONG. A bank has been blanked for LIMIT_US (R203). -/
  | blankOverlong (t : Stamp) (b : Fin 8)
  /-- BANK_HOLD_END. The sources of a held bank have been inactive for 1 ms (R203). -/
  | bankHoldEnd (t : Stamp) (b : Fin 8)
  /-- BANK_CLAMP. A channel goes beyond ±1.5 V (R206). -/
  | bankClamp (t : Stamp) (c : Fin 64)
  /-- BANK_CLAMP_RELEASE. The clamp of a channel releases (R206). -/
  | bankClampRelease (t : Stamp) (c : Fin 64)
  /-- AUX_RESULT. An auxiliary channel completes a pair of conversions, in nanovolts (R208). -/
  | auxResult (t : Stamp) (a : Fin 16) (even : Int) (odd : Int) (beyond : Bool)
  /-- HAZ_SELFTEST. A channel's self-test aperture (R211). -/
  | hazSelftest (t : Stamp) (c : Fin 64) (code : BitVec 16)
  /-- CLEAR_CONFIRM_EXPIRY. A section has been ready to clear for CONFIRM (R261). -/
  | clearConfirmExpiry (t : Stamp) (i : Fin 64)
  /-- SEC_SWEEP_TIMEOUT. A section has been PREPARED without ENTERED for SWEEP_TIMEOUT_S (R270). -/
  | secSweepTimeout (t : Stamp) (i : Fin 64)
  /-- PANEL_AUTHORISATION. The sections judge a panel's authorisation (R277). -/
  | panelAuthorisation (t : Stamp) (f : Fin 16)
  /-- COMPARATOR_CHANGE. The input of a monitor takes a level, in mV and sixteenths of a mV, and its comparators follow (R282, R284). -/
  | comparatorChange (t : Stamp) (ns : Fin 1000) (m : Fin 128) (mv : BitVec 12) (frac : BitVec 4)
  /-- PERIOD_VERDICT. NIMBUS takes the oldest verdict of a monitor (R286, R287). -/
  | periodVerdict (t : Stamp) (m : Fin 128)
  /-- WIN_SELFTEST. A due monitor is tested in a blank (R292, R293): per step the outputs of HI and LO. -/
  | winSelftest (t : Stamp) (ns : Fin 1000) (m : Fin 128) (outs : List (Bool × Bool))
  /-- WIN_SELFTEST_MISSED. No blank came by P/2 (R294): a test is inserted, or missed. -/
  | winSelftestMissed (t : Stamp) (ns : Fin 1000) (m : Fin 128) (outs : List (Bool × Bool))
  /-- DAC_READBACK. The housekeeping converter reads the next threshold converter (R295). -/
  | dacReadback (t : Stamp) (code : BitVec 10)
  /-- PG_PERIOD_BOUNDARY. A generator reaches a period boundary at `cyc` SQUALL cycles (R309); `sync` where it is one that an edge of its sync monitor has made (R310). -/
  | pgPeriodBoundary (t : Stamp) (ns : Fin 1000) (k : Fin 64) (cyc : BitVec 64) (sync : Bool)
  /-- PROVING_PULSE. The proving slot of an unlit lamp (R343). -/
  | provingPulse (t : Stamp) (k : Fin 48)
  /-- FLASH_PHASE_CHANGE. The flash clock of a signal turns on or off (R338). -/
  | flashPhaseChange (t : Stamp) (i : Fin 16)
  /-- SI_FILTER_CHANGE. The voltages of safety inputs change, in millivolts, and at a tick of 10 µs all inputs are sampled (R364, R365,
  R388). -/
  | siFilterChange (t : Stamp) (l : List (Fin 32 × Int))
  /-- TEST_PULSE_START. A test pulse starts (R366). -/
  | testPulseStart (t : Stamp) (p : Fin 8)
  /-- TEST_WINDOW_END. The window of a test pulse ends (R367, R368). -/
  | testWindowEnd (t : Stamp) (p : Fin 8)
  /-- TP_FAULT. The pin of a test-pulse source has read `level` for `us` (R369). -/
  | tpFault (t : Stamp) (p : Fin 8) (level : Bool) (us : BitVec 32)
  /-- FB_DISCREPANCY. A discrepancy has lasted DISC_MS (R375). -/
  | fbDiscrepancy (t : Stamp) (f : Fin 16)
  /-- FB_OSSD_NOPULSE. An OSSD input has shown no pulse within OSSD_CHECK_S (R376). -/
  | fbOssdNopulse (t : Stamp) (f : Fin 16)
  /-- PANEL_HOLD_COMPLETE. A panel has been actuated for PANEL_HOLD (R381). -/
  | panelHoldComplete (t : Stamp) (f : Fin 16)
  /-- SPEED_HOLD_EXPIRY. HOLD_S of an SLS or SLD has run out (R378). -/
  | speedHoldExpiry (t : Stamp) (f : Fin 16)
  /-- FB_RESET_STUCK. A reset input has been high for more than 5 s (R372). -/
  | fbResetStuck (t : Stamp) (f : Fin 16)
  /-- FB_BUTTON_STUCK. A hand has been held alone for STUCK_S (R389). -/
  | fbButtonStuck (t : Stamp) (f : Fin 16)
  /-- SO_FEEDBACK. The feedback of a safe output after command off (R386). -/
  | soFeedback (t : Stamp) (o : Fin 8) (level : Bool)
  /-- SO_STUCK_OFF. The feedback of a safe output after command on (R386). -/
  | soStuckOff (t : Stamp) (o : Fin 8) (level : Bool)
  /-- CHARACTER_RECEIVED. A port decides a character (R398 to R401). -/
  | characterReceived (t : Stamp) (n : Fin 7) (c : LineChar)
  /-- AUTOBAUD_QUIET. The line has been quiet for AB_QUIET_MS (R408); `from_` is the start of a character of which edges are still expected. -/
  | autobaudQuiet (t : Stamp) (n : Fin 7) (from_ : Option Stamp)
  /-- LINE_IDLE. The line has been high for one character time (R403). -/
  | lineIdle (t : Stamp) (n : Fin 7)
  /-- RX_TIMEOUT_FLUSH. No start for RX_TIMEOUT character times (R404). -/
  | rxTimeoutFlush (t : Stamp) (n : Fin 7)
  /-- TRANSMIT_CHARACTER. The transmitter ends a character (R405, R412, R413): what RXD showed beside it in SYNC, whether the card signalled an error. -/
  | transmitCharacter (t : Stamp) (n : Fin 7) (rx : SyncRx) (err : Bool)
  /-- SER_CARD_INSERTED. The card-detect input has held a level for a time (R410). -/
  | serCardInserted (t : Stamp) (det : CardLevel)
  /-- SER_CARD_REMOVED. The card-detect input has held a level for a time (R410, R417). -/
  | serCardRemoved (t : Stamp) (det : CardLevel)
  /-- LINK_UP. A link has been good for `us` (R428), with the lane bits of NET_STAT. -/
  | linkUp (t : Stamp) (n : Fin 4) (lane : BitVec 5) (us : BitVec 32)
  /-- LINK_DOWN. A link ceases to be good (R428). -/
  | linkDown (t : Stamp) (n : Fin 4) (lane : BitVec 5)
  /-- FRAME_RECEIVED. A frame arrives (R429, R430): its bytes without FCS, the FEC codewords corrected and lost with it. -/
  | frameReceived (t : Stamp) (ns : Fin 1000) (n : Fin 4) (raw : List Byte) (fcsOk : Bool) (corrected : BitVec 16) (uncorr : BitVec 16)
  /-- FRAME_TRANSMIT. A port sends its next frame (R431); `cut` when the link goes down during it (R439). -/
  | frameTransmit (t : Stamp) (ns : Fin 1000) (n : Fin 4) (cut : Bool)
  /-- KVT_HEARTBEAT_RX. A HEARTBEAT (R452): the frame as its form gives it, and whether its CRC and its tag are right. -/
  | kvtHeartbeatRx (t : Stamp) (p : Fin 4) (f : KvtFrame) (crcOk : Bool) (tagOk : Bool)
  /-- KVT_SYN_RX. A SYN (R453): the frame as its form gives it, and whether its CRC and its tag are right. -/
  | kvtSynRx (t : Stamp) (p : Fin 4) (f : KvtFrame) (crcOk : Bool) (tagOk : Bool)
  /-- KVT_HEAD_EVENT_RX. A head record (R240): the frame as its form gives it, and whether its CRC and its tag are right. -/
  | kvtHeadEventRx (t : Stamp) (p : Fin 4) (f : KvtFrame) (crcOk : Bool) (tagOk : Bool)
  /-- KVT_GAMBIT_RX. A GAMBIT (R240): the frame as its form gives it, and whether its CRC and its tag are right. -/
  | kvtGambitRx (t : Stamp) (p : Fin 4) (f : KvtFrame) (crcOk : Bool) (tagOk : Bool)
  /-- KVT_GAMBIT_CONFIRM_RX. A GAMBIT_CONFIRM (R240): the frame as its form gives it, and whether its CRC and its tag are right. -/
  | kvtGambitConfirmRx (t : Stamp) (p : Fin 4) (f : KvtFrame) (crcOk : Bool) (tagOk : Bool)
  /-- KVT_GAMBIT_CANCEL_RX. A GAMBIT_CANCEL (R240): the frame as its form gives it, and whether its CRC and its tag are right. -/
  | kvtGambitCancelRx (t : Stamp) (p : Fin 4) (f : KvtFrame) (crcOk : Bool) (tagOk : Bool)
  /-- KVT_SECTION_STATE_RX. A SECTION_STATE (R465): the frame as its form gives it, and whether its CRC and its tag are right. -/
  | kvtSectionStateRx (t : Stamp) (p : Fin 4) (f : KvtFrame) (crcOk : Bool) (tagOk : Bool)
  /-- KVT_ASPECT_REQUEST_RX. An ASPECT_REQUEST (R335): the frame as its form gives it, and whether its CRC and its tag are right. -/
  | kvtAspectRequestRx (t : Stamp) (p : Fin 4) (f : KvtFrame) (crcOk : Bool) (tagOk : Bool)
  /-- KVT_ASPECT_FALLBACK_RX. An ASPECT_FALLBACK (R351): the frame as its form gives it, and whether its CRC and its tag are right. -/
  | kvtAspectFallbackRx (t : Stamp) (p : Fin 4) (f : KvtFrame) (crcOk : Bool) (tagOk : Bool)
  /-- KVT_LAMP_STATUS_RX. A LAMP_STATUS (R465): the frame as its form gives it, and whether its CRC and its tag are right. -/
  | kvtLampStatusRx (t : Stamp) (p : Fin 4) (f : KvtFrame) (crcOk : Bool) (tagOk : Bool)
  /-- RESET_PERMIT. A RESET_PERMIT (R264): the frame as its form gives it, and whether its CRC and its tag are right. -/
  | resetPermit (t : Stamp) (p : Fin 4) (f : KvtFrame) (crcOk : Bool) (tagOk : Bool)
  /-- KVT_SAFETY_STATE_RX. A SAFETY_STATE (R465): the frame as its form gives it, and whether its CRC and its tag are right. -/
  | kvtSafetyStateRx (t : Stamp) (p : Fin 4) (f : KvtFrame) (crcOk : Bool) (tagOk : Bool)
  /-- KVT_APP_RX. An APP message (R466): the frame as its form gives it, and whether its CRC and its tag are right. -/
  | kvtAppRx (t : Stamp) (p : Fin 4) (f : KvtFrame) (crcOk : Bool) (tagOk : Bool)
  /-- KVT_ACK_RX. An ACK (R455): the frame as its form gives it, and whether its CRC and its tag are right. -/
  | kvtAckRx (t : Stamp) (p : Fin 4) (f : KvtFrame) (crcOk : Bool) (tagOk : Bool)
  /-- KVT_RETRANSMIT. RTO_MS has run out for unacknowledged frames (R457). -/
  | kvtRetransmit (t : Stamp) (p : Fin 4)
  /-- KVT_SYN_RESEND. A SYN is sent again (R451). -/
  | kvtSynResend (t : Stamp) (p : Fin 4)
  /-- KVT_HEARTBEAT_SEND. HB_MS without a sequenced frame (R459). -/
  | kvtHeartbeatSend (t : Stamp) (p : Fin 4)
  /-- KVT_ACK_DELAY. A delivery is acknowledged (R456). -/
  | kvtAckDelay (t : Stamp) (p : Fin 4)
  /-- KVT_TIMEOUT. No valid frame for TIMEOUT_MS (R460). -/
  | kvtTimeout (t : Stamp) (p : Fin 4)
  /-- KVT_REOPEN. REOPEN_MS after a loss (R451). -/
  | kvtReopen (t : Stamp) (p : Fin 4)
  /-- CODEWORD_RECEIVED. An Aqsor codeword arrives (R476, R477). -/
  | codewordReceived (t : Stamp) (decodes : Bool) (corrected : Bool) (marker : BitVec 4) (counter : BitVec 16)
  /-- TIME_MARK_RX. A partner's TIME_MARK arrives `ps` after the tick edge (R479 to R482), at `cyc` own SQUALL cycles. -/
  | timeMarkRx (t : Stamp) (k : Mark) (ps : BitVec 32) (cyc : BitVec 64)
  /-- TIME_MARK_SEND. A TIME_MARK is sent (R479). -/
  | timeMarkSend (t : Stamp) (cyc : BitVec 64) (txOfs : BitVec 32)
  /-- CASTLE_PLAN_RX. A PLAN arrives (R489). -/
  | castlePlanRx (t : Stamp) (b : Stamp) (reason : Fin 3)
  /-- CASTLE_ACK_RX. An ACK of a PLAN arrives (R489). -/
  | castleAckRx (t : Stamp) (b : Stamp)
  /-- CASTLE_ABORT_RX. An ABORT arrives (R489). -/
  | castleAbortRx (t : Stamp) (b : Stamp)
  /-- CASTLE_ACK_DEADLINE. No ACK by B - 100 µs (R489). -/
  | castleAckDeadline (t : Stamp)
  /-- CASTLE_SWITCH. The roles are exchanged at B (R490). -/
  | castleSwitch (t : Stamp)
  /-- DECISION_RX. A DECISION block arrives (R484). -/
  | decisionRx (t : Stamp) (r : Decision)
  /-- DECISION_JUDGE. The records that are due are judged (R484). -/
  | decisionJudge (t : Stamp)
  /-- DIGEST_RX. Partner sample records arrive (R483). -/
  | digestRx (t : Stamp) (stamp : Stamp) (part : Fin 5) (words : List Word)
  /-- HASH_SEND. The section hash is formed and sent (R485). -/
  | hashSend (t : Stamp)
  /-- HASH_RX. A HASH block arrives (R485). -/
  | hashRx (t : Stamp) (stamp : Stamp) (h : BitVec 64) (mask : BitVec 64)
  /-- TWIN_PARTNER_LOSS. The loss of the partner is looked for (R495). -/
  | twinPartnerLoss (t : Stamp)
  /-- PROMOTE_JUDGE. A Mirror promotes or isolates itself (R497). -/
  | promoteJudge (t : Stamp)
  /-- LOCK_WAIT_EXPIRY. LOCK_WAIT_MS has passed without pairing (R505). -/
  | lockWaitExpiry (t : Stamp)
  /-- SCHEDULED_EDGE. A generator reaches the next instant of its schedule (R308). -/
  | scheduledEdge (t : Stamp) (ns : Fin 1000) (k : Fin 64) (cyc : BitVec 64)
  /-- SETTLING_END. The settling blank of a monitor ends (R291). -/
  | settlingEnd (t : Stamp) (ns : Fin 1000) (m : Fin 128)
  /-- VSENS_RESTORED. VSENS_b is back above its threshold (R79). -/
  | vsensRestored (t : Stamp) (b : Fin 8)
  /-- VBAT_RESTORED. VBAT rises above 2.0 V again (R80). -/
  | vbatRestored (t : Stamp)
  /-- START_GLITCH. A low pulse on an idle line (R398). -/
  | startGlitch (t : Stamp) (n : Fin 7) (samples : List Bool)
  /-- REFERENCE_SLOT. The reference slot of an auxiliary channel (R208). -/
  | referenceSlot (t : Stamp) (a : Fin 16) (nv : Int) (beyond : Bool)
  /-- RST_N_RISE. RST_N rises (R103). -/
  | rstNRise (t : Stamp) (cycles : BitVec 48)
  /-- UNCORRECTABLE_READ. A read that meets a memory error (R143, R145, R187); `buffer` when a ring was reading what its entry names, not an area of its own. -/
  | uncorrectableRead (t : Stamp) (acc : Access) (a : BitVec 32) (fetch : Bool) (corrected : Bool) (buffer : Bool)
  /-- HOST_WINDOW_ACCESS. An access through a host window (R186). -/
  | hostWindowAccess (t : Stamp) (acc : Access) (a : BitVec 32) (write : Bool) (v : Word)
  /-- TEST_PULSE_END. A test pulse ends (R366); `high` when its pin read high during it (R369). -/
  | testPulseEnd (t : Stamp) (p : Fin 8) (high : Bool)
deriving DecidableEq, Repr

end Sys2Proof
end

