-- ==== Sys2Proof/Machine/Bytes.lean ====
section
/-! DEFINITION. Machine/Bytes.lean: intervals of sample time, signed fields, byte orders. -/

namespace Sys2Proof

/-- The interval from stamp `b` to stamp `a`, the difference modulo 2^48 (R57). -/
def Stamp.since (a b : Stamp) : Nat := (a - b).toNat

/-- `a` is later than `b`: the difference lies between 1 and 2^47 - 1 (R57). -/
def Stamp.later (a b : Stamp) : Bool := 1 ≤ a.since b && a.since b < 2 ^ 47

/-- `a` is later than `b` or equal to it (R57). -/
def Stamp.reached (a b : Stamp) : Bool := a.since b < 2 ^ 47

/-- The stamp `n` ticks after `a`. -/
def Stamp.plus (a : Stamp) (n : Nat) : Stamp := a + BitVec.ofNat 48 n

/-- The two's-complement value of the low `w` bits of `n`. -/
def sgn (w n : Nat) : Int := if n % 2 ^ w < 2 ^ (w - 1) then (n % 2 ^ w : Nat) else (n % 2 ^ w : Nat) - (2 ^ w : Nat)

/-- The low `w` bits of an integer, as a field of `w` bits holds them. -/
def unsgn (w : Nat) (i : Int) : Nat := (i % (2 ^ w : Nat)).toNat

/-- The larger and the smaller bound applied to an integer. -/
def clampI (lo hi i : Int) : Int := if i < lo then lo else if hi < i then hi else i

/-- `n` bytes of `v`, least significant first (R6). -/
def leBytes : Nat → Nat → List Byte
  | 0, _ => []
  | n + 1, v => BitVec.ofNat 8 v :: leBytes n (v / 256)

/-- `n` bytes of `v`, most significant first (network byte order). -/
def beBytes (n v : Nat) : List Byte := (leBytes n v).reverse

/-- The value of bytes, least significant first. -/
def ofLe : List Byte → Nat
  | [] => 0
  | b :: r => b.toNat + 256 * ofLe r

/-- The value of bytes, most significant first. -/
def ofBe (l : List Byte) : Nat := ofLe l.reverse

/-- A list of `n` values: its first `n`, filled with `z`. -/
def padTo {α : Type} (n : Nat) (z : α) (l : List α) : List α := l.take n ++ List.replicate (n - l.length) z

end Sys2Proof
end

