-- ==== Sys2Proof/Machine/Crypto.lean ====
section
/-! DEFINITION. Machine/Crypto.lean: the published algorithms the spec names (Table SCP-3): AES-128-GMAC (R462), SHA-256 (R113) and
ECDSA P-256 verification (R114). -/

namespace Sys2Proof.Machine

/-! ### AES-128 and GMAC -/

/-- Multiplication by x in GF(2^8). -/
def xtime (a : Nat) : Nat := if a < 128 then 2 * a else (2 * a % 256) ^^^ 0x1B

/-- Product in GF(2^8), over the bits of `b` from bit `n - 1` down. -/
def gmul (a b : Nat) : Nat → Nat
  | 0 => 0
  | n + 1 =>
    let r := gmul a (b / 2) n
    xtime r ^^^ (if b % 2 = 1 then a else 0)

def gmul8 (a b : Nat) : Nat := gmul a b 8

/-- The inverse in GF(2^8): the 254th power. -/
def ginv (a : Nat) : Nat :=
  let a2 := gmul8 a a
  let a3 := gmul8 a2 a
  let a6 := gmul8 a3 a3
  let a7 := gmul8 a6 a
  let a14 := gmul8 a7 a7
  let a15 := gmul8 a14 a
  let a30 := gmul8 a15 a15
  let a60 := gmul8 a30 a30
  let a63 := gmul8 a60 a3
  let a126 := gmul8 a63 a63
  let a127 := gmul8 a126 a
  gmul8 a127 a127

/-- Rotation of a byte to the left. -/
def rotl8 (a n : Nat) : Nat := (a * 2 ^ n ||| a / 2 ^ (8 - n)) % 256

/-- The AES substitution box. -/
def sbox (a : Nat) : Nat :=
  let b := ginv a
  b ^^^ rotl8 b 1 ^^^ rotl8 b 2 ^^^ rotl8 b 3 ^^^ rotl8 b 4 ^^^ 0x63

def xorL (a b : List Nat) : List Nat := List.zipWith (· ^^^ ·) a b

/-- The next round key of AES-128. -/
def nextKey (k : List Nat) (rcon : Nat) : List Nat :=
  let w (i : Nat) : List Nat := (k.drop (4 * i)).take 4
  let t := ((w 3).drop 1 ++ (w 3).take 1).map sbox
  let w0 := xorL (w 0) (xorL t [rcon, 0, 0, 0])
  let w1 := xorL (w 1) w0
  let w2 := xorL (w 2) w1
  let w3 := xorL (w 3) w2
  w0 ++ w1 ++ w2 ++ w3

/-- ShiftRows of a block held by columns. -/
def shiftRows (s : List Nat) : List Nat := (List.range 16).map (fun i => s.getD ((i + 4 * (i % 4)) % 16) 0)

/-- MixColumns of one column. -/
def mixColumn (c : List Nat) : List Nat :=
  (List.range 4).map (fun i =>
    let a (j : Nat) : Nat := c.getD ((i + j) % 4) 0
    gmul8 (a 0) 2 ^^^ gmul8 (a 1) 3 ^^^ a 2 ^^^ a 3)

def mixColumns (s : List Nat) : List Nat := (List.range 4).flatMap (fun i => mixColumn ((s.drop (4 * i)).take 4))

/-- The rounds of AES-128 after the first key addition. -/
def aesRounds : List Nat → List Nat → List Nat → List Nat
  | [], _, s => s
  | rc :: r, k, s =>
    let k := nextKey k rc
    let s := shiftRows (s.map sbox)
    aesRounds r k (xorL k (if r = [] then s else mixColumns s))

/-- AES-128 of one block. -/
def aes128 (key block : List Nat) : List Nat :=
  aesRounds [0x01, 0x02, 0x04, 0x08, 0x10, 0x20, 0x40, 0x80, 0x1B, 0x36] key (xorL key block)

/-- The value of bytes, most significant first. -/
def natBe (l : List Nat) : Nat := l.foldl (fun a b => a * 256 + b) 0

/-- `n` bytes of a value, most significant first. -/
def beNat (n v : Nat) : List Nat := ((leBytes n v).reverse).map (fun b => b.toNat)

/-- Product in the field of GHASH (NIST SP 800-38D), over the bits of `x` from the most significant of 128. -/
def ghashMul (x : Nat) : Nat → Nat → Nat → Nat
  | 0, _, z => z
  | n + 1, v, z =>
    let z := if x.testBit n then z ^^^ v else z
    ghashMul x n (if v % 2 = 1 then (v / 2) ^^^ (0xE1 * 2 ^ 120) else v / 2) z

/-- The blocks of 16 bytes of a list, the last filled with zeros. -/
def blocks16 (l : List Nat) : List (List Nat) := (List.range ((l.length + 15) / 16)).map (fun i => padTo 16 0 ((l.drop (16 * i)).take 16))

/-- The first 64 bits of the AES-128-GMAC tag: key of 16 bytes, initial value of 12, additional authenticated data (R462). -/
def gmac64 (key iv data : List Nat) : List Nat :=
  let h := natBe (aes128 key (List.replicate 16 0))
  let s := (blocks16 data ++ [beNat 8 (8 * data.length) ++ List.replicate 8 0]).foldl (fun y b => ghashMul (y ^^^ natBe b) 128 h 0) 0
  (xorL (beNat 16 s) (aes128 key (iv ++ [0, 0, 0, 1]))).take 8

/-! ### SHA-256 (R113) -/

/-- The primes below `n`, in rising order: each is divided by none of the smaller ones. -/
def primesBelow (n : Nat) : List Nat :=
  (List.range n).foldl (fun ps q => if q < 2 || ps.any (fun p => q % p = 0) then ps else ps ++ [q]) []

/-- The largest number whose `e`-th power is at most `v`, found bit by bit from bit `n - 1` on the part `x` already found. -/
def rootFrom (e v : Nat) : Nat → Nat → Nat
  | 0, x => x
  | n + 1, x => rootFrom e v n (if (x + 2 ^ n) ^ e ≤ v then x + 2 ^ n else x)

/-- The first 32 bits of the fractional part of the `e`-th root of a small number: how FIPS 180-4 defines the constants of SHA-256. -/
def rootBits (e p : Nat) : Nat := rootFrom e (p * 2 ^ (32 * e)) 35 0 % 2 ^ 32

/-- The round constants of SHA-256, from the cube roots of the first 64 primes. -/
def sha256K : List Nat := (primesBelow 312).map (rootBits 3)

/-- The initial hash value of SHA-256, from the square roots of the first 8 primes. -/
def sha256Start : List Nat := (primesBelow 20).map (rootBits 2)

def rotr32 (x n : Nat) : Nat := (x / 2 ^ n) ||| (x % 2 ^ n * 2 ^ (32 - n))
def not32 (x : Nat) : Nat := 0xFFFFFFFF - x
def add32 (a b : Nat) : Nat := (a + b) % 2 ^ 32

/-- The message schedule: `n` further words from the latest 16, oldest first. -/
def shaSchedule : Nat → List Nat → List Nat
  | 0, _ => []
  | n + 1, w =>
    let x := w.getD 1 0
    let y := w.getD 14 0
    let s0 := rotr32 x 7 ^^^ rotr32 x 18 ^^^ (x / 8)
    let s1 := rotr32 y 17 ^^^ rotr32 y 19 ^^^ (y / 1024)
    let new := add32 (add32 (w.getD 0 0) s0) (add32 (w.getD 9 0) s1)
    new :: shaSchedule n (w.drop 1 ++ [new])

/-- One round: the eight working variables, a round constant and a word of the schedule. -/
def shaRound (v : List Nat) (kw : Nat × Nat) : List Nat :=
  let g (i : Nat) : Nat := v.getD i 0
  let s1 := rotr32 (g 4) 6 ^^^ rotr32 (g 4) 11 ^^^ rotr32 (g 4) 25
  let ch := (g 4 &&& g 5) ^^^ (not32 (g 4) &&& g 6)
  let t1 := add32 (add32 (g 7) s1) (add32 ch (add32 kw.1 kw.2))
  let s0 := rotr32 (g 0) 2 ^^^ rotr32 (g 0) 13 ^^^ rotr32 (g 0) 22
  let maj := (g 0 &&& g 1) ^^^ (g 0 &&& g 2) ^^^ (g 1 &&& g 2)
  [add32 t1 (add32 s0 maj), g 0, g 1, g 2, add32 (g 3) t1, g 4, g 5, g 6]

/-- One block of 64 bytes. -/
def shaBlock (h : List Nat) (b : List Nat) : List Nat :=
  let w := (List.range 16).map (fun i => natBe ((b.drop (4 * i)).take 4))
  let w := w ++ shaSchedule 48 w
  List.zipWith add32 h ((sha256K.zip w).foldl shaRound h)

/-- SHA-256 of bytes, as 32 bytes. -/
def sha256 (l : List Byte) : List Byte :=
  let m := l.map (fun b => b.toNat)
  let z := (119 - m.length % 64) % 64
  let p := m ++ [0x80] ++ List.replicate z 0 ++ beNat 8 (8 * m.length)
  let h := (List.range (p.length / 64)).foldl (fun h i => shaBlock h ((p.drop (64 * i)).take 64)) sha256Start
  h.flatMap (fun x => beBytes 4 x)

/-! ### ECDSA P-256 (R114) -/

def p256P : Nat := 0xffffffff00000001000000000000000000000000ffffffffffffffffffffffff
def p256N : Nat := 0xffffffff00000000ffffffffffffffffbce6faada7179e84f3b9cac2fc632551
def p256B : Nat := 0x5ac635d8aa3a93e7b3ebbd55769886bc651d06b0cc53b0f63bce3c3e27d2604b
def p256Gx : Nat := 0x6b17d1f2e12c4247f8bce6e563a440f277037d812deb33a0f4a13945d898c296
def p256Gy : Nat := 0x4fe342e2fe1a7f9b8ee7eb4a7c0f9e162bce33576b315ececbb6406837bf51f5

/-- Power modulo `m`, over `n` bits of the exponent. -/
def powMod (m : Nat) : Nat → Nat → Nat → Nat
  | 0, _, _ => 1 % m
  | n + 1, b, e => powMod m n (b * b % m) (e / 2) * (if e % 2 = 1 then b else 1) % m

/-- The inverse modulo a prime. -/
def invMod (m a : Nat) : Nat := powMod m 256 (a % m) (m - 2)

def subMod (m a b : Nat) : Nat := (a % m + m - b % m) % m

/-- A point of the curve, or the point at infinity. -/
abbrev EcPoint := Option (Nat × Nat)

/-- Sum of two points. -/
def ecAdd (a b : EcPoint) : EcPoint := match a, b with
  | none, q => q
  | q, none => q
  | some (x1, y1), some (x2, y2) =>
    let p := p256P
    if x1 = x2 ∧ (y1 + y2) % p = 0 then none
    else
      let l := if x1 = x2 then (3 * x1 * x1 + (p - 3)) * invMod p (2 * y1) % p else subMod p y2 y1 * invMod p (subMod p x2 x1) % p
      let x3 := subMod p (l * l) (x1 + x2)
      some (x3, subMod p (l * subMod p x1 x3) y1)

/-- A multiple of a point, over `n` bits of the factor. -/
def ecMul : Nat → Nat → EcPoint → EcPoint
  | 0, _, _ => none
  | n + 1, k, q => ecAdd (if k % 2 = 1 then q else none) (ecMul n (k / 2) (ecAdd q q))

/-- The point lies on the curve. -/
def onCurve (x y : Nat) : Bool :=
  x < p256P && y < p256P && y * y % p256P = (x * x * x + (p256P - 3) * x + p256B) % p256P

/-- ECDSA P-256 verification of a signature (r, s) over a digest with public key (x, y). -/
def ecdsaOk (digest r s x y : Nat) : Bool :=
  let n := p256N
  if r = 0 || n ≤ r || s = 0 || n ≤ s || !onCurve x y then false
  else
    let w := invMod n s
    match ecAdd (ecMul 256 (digest % n * w % n) (some (p256Gx, p256Gy))) (ecMul 256 (r * w % n) (some (x, y))) with
    | some (v, _) => v % n = r
    | none => false

end Sys2Proof.Machine
end

