-- ==== Sys2Proof/Config.lean ====
section
/-! DEFINITION. Config.lean: the free values of the model: constants without a body, so that no proof can see what they are.
Each is applied to a counter of the state, or to the operands it depends on. -/

namespace Sys2Proof

/-- The 8-bit sample E of ring-oscillator phase jitter (R450). -/
opaque Config.freeByte : Nat → BitVec 8

/-- The code of an auxiliary result whose reference is 0 (R208 states no ratio there). -/
opaque Config.freeRatio : Nat → BitVec 24

/-- The signed code of a frequency word formed before two crossings have been seen (R197 states no code there). -/
opaque Config.freeCode : Nat → BitVec 16

/-- Whether a monitor reports a clock that is 5 % to 6 % off nominal (R63 leaves it open). -/
opaque Config.freeReport : Nat → Bool

/-- What a read of a ring's word on the mirror page returns (R161 names the word's ring and no value). -/
opaque Config.freeMirror : Nat → Word

/-- The detail with which APP_SEND is refused for want of an open session: Table HST-10 gives the reason no number. -/
opaque Config.freeDetail : BitVec 8

end Sys2Proof
end

