-- ==== Sys2Proof/Machine/RegMap.lean ====
section
/-! DEFINITION. Machine/RegMap.lean: the register map. One `RegDef` per register of the register tables of chapters 02 to 19
(offset, instances, fields with access code, reset value, Kept-by column and stored-value rule), and one accessor
`F.<REGISTER>.<FIELD>` per field, spelled as the tables spell them. -/

namespace Sys2Proof.Machine

/-- Access codes, Table SCP-5. -/
inductive Acc where
  | ro | rw | w1c | w1s | wo | rwl | rws
deriving DecidableEq, Repr

/-- How a written value that the field's row does not admit is stored (the Limits sections and the field rows):
`range lo hi` stores the nearer limit, `over m v` stores v for a value above m, `srange` is `range` on a signed
field, `even lo hi` is `range` rounded down to an even value, `set m` keeps the bits of m always 1. -/
inductive Fix where
  | none | range (lo hi : Nat) | over (max store : Nat) | srange (lo hi : Int) | even (lo hi : Nat) | set (mask : Nat)
deriving DecidableEq, Repr

/-- One field of a register table: bits [lo+w-1:lo], repeated `n` times every `step` bits; `keep` is the Kept-by
column with bit k for letter k of G P B X W S N I Y (R8), `world` its word "world" (R191, R420, R445). -/
structure FieldDef where
  lo : Nat
  w : Nat
  acc : Acc
  reset : Nat → Nat
  keep : Nat
  world : Bool
  fix : Fix
  n : Nat
  step : Nat

/-- One register of a block: instance (i, j) stands at offset base + i * s1 + j * s2, i < n1, j < n2. `setCnt` is the
lowest bit of its SET_COUNT field (R153), if it has one. -/
structure RegDef where
  base : Nat
  s1 : Nat
  n1 : Nat
  s2 : Nat
  n2 : Nat
  setCnt : Option Nat
  fields : List FieldDef

/-- A field of one register instance: block, offset of the register in the block, lowest bit, width. -/
structure Fld where
  blk : Blk
  off : Nat
  lo : Nat
  w : Nat
deriving DecidableEq, Repr

def fd (lo w : Nat) (acc : Acc) (reset keep : Nat) (world : Bool := false) (fix : Fix := .none) (n : Nat := 1)
    (step : Nat := 0) : FieldDef := ⟨lo, w, acc, fun _ => reset, keep, world, fix, n, step⟩

def fdI (lo w : Nat) (acc : Acc) (reset : Nat → Nat) (keep : Nat) : FieldDef :=
  ⟨lo, w, acc, reset, keep, false, .none, 1, 0⟩

def O.FLT_STATE : Nat := 0x0
def O.FLT_FIRST_CAUSE : Nat := 0x4
def O.FLT_FIRST_TIME_LO : Nat := 0x8
def O.FLT_FIRST_TIME_HI : Nat := 0xc
def O.FLT_EG_TIME : Nat := 0x10
def O.FLT_EG_AXLES : Nat := 0x1c
def O.FLT_EG_SLS : Nat := 0x20
def O.FLT_EG_ENABLE : Nat := 0x24
def O.FLT_EG_LOCK : Nat := 0x28
def O.FLT_CLASS_CNT : Nat := 0x34
def O.FLT_FG_SEC : Nat := 0x4c
def O.FLT_FG_SIG : Nat := 0x6c
def O.FLT_FG_FB : Nat := 0x74
def O.FLT_FG_SO : Nat := 0x7c
def O.FLT_EG_SLOT_A : Nat := 0x80
def O.FLT_EG_SLOT_B : Nat := 0x84

def regDefsFLT0 : List RegDef := [
  ⟨O.FLT_STATE, 0x100000, 1, 0x4, 1, none, [
    fd 0 3 .ro 0 0x0, fd 8 5 .ro 0 0x1fe, fd 16 8 .ro 0 0x0]⟩,
  ⟨O.FLT_FIRST_CAUSE, 0x100000, 1, 0x4, 1, none, [
    fd 0 16 .ro 0 0xe0, fd 16 16 .ro 0 0xe0]⟩,
  ⟨O.FLT_FIRST_TIME_LO, 0x100000, 1, 0x4, 1, none, [
    fd 0 32 .ro 0 0xe0]⟩,
  ⟨O.FLT_FIRST_TIME_HI, 0x100000, 1, 0x4, 1, none, [
    fd 0 16 .ro 0 0xe0]⟩,
  ⟨O.FLT_EG_TIME, 0x4, 3, 0x4, 1, none, [
    ⟨0, 17, .rwl, fun i => [600, 86400, 3600].getD i 0, 0xc0, false, .range 1 86400, 1, 0⟩]⟩,
  ⟨O.FLT_EG_AXLES, 0x100000, 1, 0x4, 1, none, [
    fd 0 16 .rwl 0x100 0xc0 false (.range 1 65535)]⟩,
  ⟨O.FLT_EG_SLS, 0x100000, 1, 0x4, 1, none, [
    fd 0 9 .rwl 0x28 0xc0 false (.range 5 400)]⟩,
  ⟨O.FLT_EG_ENABLE, 0x100000, 1, 0x4, 1, none, [
    fd 0 1 .rwl 0 0xc0, fd 1 1 .rwl 0 0xc0, fd 2 1 .rwl 0 0xc0]⟩,
  ⟨O.FLT_EG_LOCK, 0x4, 3, 0x4, 1, none, [
    fd 0 32 .ro 0 0x1fe]⟩,
  ⟨O.FLT_CLASS_CNT, 0x4, 6, 0x4, 1, none, [
    fd 0 16 .ro 0 0xe0]⟩,
  ⟨O.FLT_FG_SEC, 0x4, 8, 0x4, 1, none, [
    fd 0 4 .rwl 0 0xc0 false (.over 7 7) 8 4]⟩,
  ⟨O.FLT_FG_SIG, 0x4, 2, 0x4, 1, none, [
    fd 0 4 .rwl 0 0xc0 false (.over 7 7) 8 4]⟩]

def regDefsFLT1 : List RegDef := [
  ⟨O.FLT_FG_FB, 0x4, 2, 0x4, 1, none, [
    fd 0 4 .rwl 0 0xc0 false (.over 7 7) 8 4]⟩,
  ⟨O.FLT_FG_SO, 0x100000, 1, 0x4, 1, none, [
    fd 0 4 .rwl 0 0xc0 false (.over 7 7) 8 4]⟩,
  ⟨O.FLT_EG_SLOT_A, 0x8, 16, 0x4, 1, none, [
    fd 0 2 .ro 0 0x1fe, fd 2 1 .ro 0 0x1fe, fd 3 1 .ro 0 0x1fe, fd 8 8 .ro 0 0x1fe, fd 16 16 .ro 0 0x1fe]⟩,
  ⟨O.FLT_EG_SLOT_B, 0x8, 16, 0x4, 1, none, [
    fd 0 17 .ro 0 0x1fe]⟩]

/-- The registers of block FLT, in offset order. -/
def regDefsFLT : List RegDef := regDefsFLT0 ++ regDefsFLT1

def F.FLT_STATE.DEV_STATE : Fld := ⟨.flt, 0x0, 0, 3⟩
def F.FLT_STATE.EG_ACTIVE : Fld := ⟨.flt, 0x0, 8, 5⟩
def F.FLT_STATE.F3_GROUPS : Fld := ⟨.flt, 0x0, 16, 8⟩
def F.FLT_FIRST_CAUSE.CODE : Fld := ⟨.flt, 0x4, 0, 16⟩
def F.FLT_FIRST_CAUSE.SOURCE : Fld := ⟨.flt, 0x4, 16, 16⟩
def F.FLT_FIRST_TIME_LO.TIME_LO : Fld := ⟨.flt, 0x8, 0, 32⟩
def F.FLT_FIRST_TIME_HI.TIME_HI : Fld := ⟨.flt, 0xc, 0, 16⟩
def F.FLT_EG_TIME.LIMIT_S (i : Nat) : Fld := ⟨.flt, 0x10 + 0x4 * i, 0, 17⟩
def F.FLT_EG_AXLES.LIMIT_AXLES : Fld := ⟨.flt, 0x1c, 0, 16⟩
def F.FLT_EG_SLS.SPEED_KMH : Fld := ⟨.flt, 0x20, 0, 9⟩
def F.FLT_EG_ENABLE.HEAD_SINGLE : Fld := ⟨.flt, 0x24, 0, 1⟩
def F.FLT_EG_ENABLE.LAMP_STRING : Fld := ⟨.flt, 0x24, 1, 1⟩
def F.FLT_EG_ENABLE.TWIN_LOST : Fld := ⟨.flt, 0x24, 2, 1⟩
def F.FLT_EG_LOCK.BITS (i : Nat) : Fld := ⟨.flt, 0x28 + 0x4 * i, 0, 32⟩
def F.FLT_CLASS_CNT.COUNT (i : Nat) : Fld := ⟨.flt, 0x34 + 0x4 * i, 0, 16⟩
def F.FLT_FG_SEC.GROUP (i m : Nat) : Fld := ⟨.flt, 0x4c + 0x4 * i, 0 + 4 * m, 4⟩
def F.FLT_FG_SIG.GROUP (i m : Nat) : Fld := ⟨.flt, 0x6c + 0x4 * i, 0 + 4 * m, 4⟩
def F.FLT_FG_FB.GROUP (i m : Nat) : Fld := ⟨.flt, 0x74 + 0x4 * i, 0 + 4 * m, 4⟩
def F.FLT_FG_SO.GROUP (m : Nat) : Fld := ⟨.flt, 0x7c, 0 + 4 * m, 4⟩
def F.FLT_EG_SLOT_A.CAUSE (i : Nat) : Fld := ⟨.flt, 0x80 + 0x8 * i, 0, 2⟩
def F.FLT_EG_SLOT_A.CAUSE_GONE (i : Nat) : Fld := ⟨.flt, 0x80 + 0x8 * i, 2, 1⟩
def F.FLT_EG_SLOT_A.SYSTEM (i : Nat) : Fld := ⟨.flt, 0x80 + 0x8 * i, 3, 1⟩
def F.FLT_EG_SLOT_A.OBJECT (i : Nat) : Fld := ⟨.flt, 0x80 + 0x8 * i, 8, 8⟩
def F.FLT_EG_SLOT_A.AXLES_USED (i : Nat) : Fld := ⟨.flt, 0x80 + 0x8 * i, 16, 16⟩
def F.FLT_EG_SLOT_B.REMAIN_S (i : Nat) : Fld := ⟨.flt, 0x84 + 0x8 * i, 0, 17⟩

def O.ISL_CLK_OK : Nat := 0x0
def O.ISL_CLK_FLAG : Nat := 0x4
def O.ISL_ST_LO : Nat := 0x8
def O.ISL_ST_HI : Nat := 0xc
def O.ISL_TRIM : Nat := 0x10
def O.ISL_PTP_SRC : Nat := 0x14
def O.ISL_MAP_ST_LO : Nat := 0x18
def O.ISL_MAP_ST_HI : Nat := 0x1c
def O.ISL_MAP_SEC_LO : Nat := 0x20
def O.ISL_MAP_SEC_HI : Nat := 0x24
def O.ISL_MAP_NS : Nat := 0x28
def O.ISL_MAP_EPOCH : Nat := 0x2c
def O.ISL_ISLAND_RESET : Nat := 0x30
def O.ISL_ISLAND_HELD : Nat := 0x34
def O.ISL_D2D_STAT : Nat := 0x38
def O.ISL_CLK_MEAS : Nat := 0x40

def regDefsISL0 : List RegDef := [
  ⟨O.ISL_CLK_OK, 0x100000, 1, 0x4, 1, none, [
    fd 0 13 .ro 0 0x0]⟩,
  ⟨O.ISL_CLK_FLAG, 0x100000, 1, 0x4, 1, some 16, [
    fd 0 13 .w1c 0 0xe0, fd 16 8 .ro 0 0xe0]⟩,
  ⟨O.ISL_ST_LO, 0x100000, 1, 0x4, 1, none, [
    fd 0 32 .ro 0 0xe0]⟩,
  ⟨O.ISL_ST_HI, 0x100000, 1, 0x4, 1, none, [
    fd 0 16 .ro 0 0xe0]⟩,
  ⟨O.ISL_TRIM, 0x100000, 1, 0x4, 1, none, [
    fd 0 16 .ro 0 0xe0, fd 16 16 .ro 0 0xe0]⟩,
  ⟨O.ISL_PTP_SRC, 0x100000, 1, 0x4, 1, none, [
    fd 0 2 .rws 0 0xc0, fd 2 1 .rws 0 0xc0]⟩,
  ⟨O.ISL_MAP_ST_LO, 0x100000, 1, 0x4, 1, none, [
    fd 0 32 .ro 0 0xe0]⟩,
  ⟨O.ISL_MAP_ST_HI, 0x100000, 1, 0x4, 1, none, [
    fd 0 16 .ro 0 0xe0]⟩,
  ⟨O.ISL_MAP_SEC_LO, 0x100000, 1, 0x4, 1, none, [
    fd 0 32 .ro 0 0xe0]⟩,
  ⟨O.ISL_MAP_SEC_HI, 0x100000, 1, 0x4, 1, none, [
    fd 0 16 .ro 0 0xe0]⟩,
  ⟨O.ISL_MAP_NS, 0x100000, 1, 0x4, 1, none, [
    fd 0 30 .ro 0 0xe0]⟩,
  ⟨O.ISL_MAP_EPOCH, 0x100000, 1, 0x4, 1, none, [
    fd 0 16 .ro 0 0xe0]⟩]

def regDefsISL1 : List RegDef := [
  ⟨O.ISL_ISLAND_RESET, 0x100000, 1, 0x4, 1, none, [
    fd 0 1 .wo 0 0x0, fd 1 1 .wo 0 0x0, fd 2 4 .wo 0 0x0]⟩,
  ⟨O.ISL_ISLAND_HELD, 0x100000, 1, 0x4, 1, none, [
    fd 0 6 .ro 0 0x60]⟩,
  ⟨O.ISL_D2D_STAT, 0x100000, 1, 0x4, 1, none, [
    fd 0 16 .ro 0 0xe0]⟩,
  ⟨O.ISL_CLK_MEAS, 0x4, 13, 0x4, 1, none, [
    fd 0 24 .ro 0 0x0]⟩]

/-- The registers of block ISL, in offset order. -/
def regDefsISL : List RegDef := regDefsISL0 ++ regDefsISL1

def F.ISL_CLK_OK.IN_WINDOW : Fld := ⟨.isl, 0x0, 0, 13⟩
def F.ISL_CLK_FLAG.OUT_SEEN : Fld := ⟨.isl, 0x4, 0, 13⟩
def F.ISL_CLK_FLAG.SET_COUNT : Fld := ⟨.isl, 0x4, 16, 8⟩
def F.ISL_ST_LO.ST_LO : Fld := ⟨.isl, 0x8, 0, 32⟩
def F.ISL_ST_HI.ST_HI : Fld := ⟨.isl, 0xc, 0, 16⟩
def F.ISL_TRIM.LONG_TICKS : Fld := ⟨.isl, 0x10, 0, 16⟩
def F.ISL_TRIM.SHORT_TICKS : Fld := ⟨.isl, 0x10, 16, 16⟩
def F.ISL_PTP_SRC.PORT : Fld := ⟨.isl, 0x14, 0, 2⟩
def F.ISL_PTP_SRC.ENABLE : Fld := ⟨.isl, 0x14, 2, 1⟩
def F.ISL_MAP_ST_LO.V : Fld := ⟨.isl, 0x18, 0, 32⟩
def F.ISL_MAP_ST_HI.V : Fld := ⟨.isl, 0x1c, 0, 16⟩
def F.ISL_MAP_SEC_LO.V : Fld := ⟨.isl, 0x20, 0, 32⟩
def F.ISL_MAP_SEC_HI.V : Fld := ⟨.isl, 0x24, 0, 16⟩
def F.ISL_MAP_NS.NS : Fld := ⟨.isl, 0x28, 0, 30⟩
def F.ISL_MAP_EPOCH.EPOCH : Fld := ⟨.isl, 0x2c, 0, 16⟩
def F.ISL_ISLAND_RESET.DUSK : Fld := ⟨.isl, 0x30, 0, 1⟩
def F.ISL_ISLAND_RESET.SER : Fld := ⟨.isl, 0x30, 1, 1⟩
def F.ISL_ISLAND_RESET.PORT : Fld := ⟨.isl, 0x30, 2, 4⟩
def F.ISL_ISLAND_HELD.HELD : Fld := ⟨.isl, 0x34, 0, 6⟩
def F.ISL_D2D_STAT.CRC_ERR : Fld := ⟨.isl, 0x38, 0, 16⟩
def F.ISL_CLK_MEAS.COUNT (i : Nat) : Fld := ⟨.isl, 0x40 + 0x4 * i, 0, 24⟩

def O.PWR_STATE : Nat := 0x0
def O.PWR_RAIL_STAT : Nat := 0x4
def O.PWR_RAIL_FLAG : Nat := 0x8
def O.PWR_HOLD_CFG : Nat := 0xc
def O.PWR_DOZE_CFG : Nat := 0x10
def O.PWR_SW_RESET : Nat := 0x14
def O.PWR_WDT_CFG : Nat := 0x18
def O.PWR_WDT_KICK : Nat := 0x1c
def O.PWR_WDT_STAT : Nat := 0x20
def O.PWR_GLOW_STAT : Nat := 0x40
def O.PWR_RESET_CAUSE : Nat := 0x44
def O.PWR_RTC_SUB : Nat := 0x48
def O.PWR_RTC_SEC : Nat := 0x4c
def O.PWR_RTC_ALARM : Nat := 0x50
def O.PWR_WAKE_CFG : Nat := 0x54
def O.PWR_WAKE_SRC : Nat := 0x58
def O.PWR_BOOT_CNT : Nat := 0x5c
def O.PWR_TAMPER : Nat := 0x60
def O.PWR_SEAL_LAST : Nat := 0x64
def O.PWR_OUTLOG_IDX : Nat := 0x68

def regDefsPWR0 : List RegDef := [
  ⟨O.PWR_STATE, 0x100000, 1, 0x4, 1, none, [
    fd 0 3 .ro 0 0x0, fd 3 1 .ro 0 0x0, fd 8 8 .ro 0 0x0]⟩,
  ⟨O.PWR_RAIL_STAT, 0x100000, 1, 0x4, 1, none, [
    fd 0 9 .ro 0 0x0, fd 9 8 .ro 0 0x0]⟩,
  ⟨O.PWR_RAIL_FLAG, 0x100000, 1, 0x4, 1, some 24, [
    fd 0 17 .w1c 0 0xe0, fd 24 8 .ro 0 0xe0]⟩,
  ⟨O.PWR_HOLD_CFG, 0x100000, 1, 0x4, 1, none, [
    fd 0 8 .rwl 0x32 0xc0 false (.range 5 200)]⟩,
  ⟨O.PWR_DOZE_CFG, 0x100000, 1, 0x4, 1, none, [
    fd 0 1 .rws 0 0xc0]⟩,
  ⟨O.PWR_SW_RESET, 0x100000, 1, 0x4, 1, none, [
    fd 0 16 .wo 0 0x0, fd 16 1 .wo 0 0x0, fd 17 1 .wo 0 0x0]⟩,
  ⟨O.PWR_WDT_CFG, 0x100000, 1, 0x4, 1, none, [
    fd 0 14 .rws 0x7d0 0xc0 false (.range 10 10000), fd 16 14 .rws 0 0xc0]⟩,
  ⟨O.PWR_WDT_KICK, 0x100000, 1, 0x4, 1, none, [
    fd 0 16 .wo 0 0x0]⟩,
  ⟨O.PWR_WDT_STAT, 0x100000, 1, 0x4, 1, none, [
    fd 0 14 .ro 0x7d0 0x0, fd 16 16 .ro 0 0xe0]⟩,
  ⟨O.PWR_GLOW_STAT, 0x100000, 1, 0x4, 1, none, [
    fd 0 1 .w1c 1 0x1fe, fd 1 1 .ro 0 0x1fe, fd 2 1 .ro 0 0x1fe, fd 3 1 .ro 0 0x1fe]⟩,
  ⟨O.PWR_RESET_CAUSE, 0x100000, 1, 0x4, 1, some 24, [
    fd 0 9 .w1c 1 0x1fe, fd 24 8 .ro 0 0x1fe]⟩,
  ⟨O.PWR_RTC_SUB, 0x100000, 1, 0x4, 1, none, [
    fd 0 15 .ro 0 0x1fe]⟩]

def regDefsPWR1 : List RegDef := [
  ⟨O.PWR_RTC_SEC, 0x100000, 1, 0x4, 1, none, [
    fd 0 32 .rws 0 0x1fe]⟩,
  ⟨O.PWR_RTC_ALARM, 0x100000, 1, 0x4, 1, none, [
    fd 0 32 .rws 0 0x1fe]⟩,
  ⟨O.PWR_WAKE_CFG, 0x100000, 1, 0x4, 1, none, [
    fd 0 8 .rws 0x1a 0x1fe, fd 8 1 .rws 0 0x1fe]⟩,
  ⟨O.PWR_WAKE_SRC, 0x100000, 1, 0x4, 1, some 24, [
    fd 0 4 .w1c 0 0x1fe, fd 24 8 .ro 0 0x1fe]⟩,
  ⟨O.PWR_BOOT_CNT, 0x100000, 1, 0x4, 1, none, [
    fd 0 32 .ro 0 0x1fe]⟩,
  ⟨O.PWR_TAMPER, 0x100000, 1, 0x4, 1, some 24, [
    fd 0 1 .w1c 0 0x1fe, fd 1 1 .w1c 0 0x1fe, fd 2 1 .w1c 0 0x1fe, fd 3 1 .w1c 0 0x1fe, fd 4 1 .w1c 0 0x1fe,
    fd 24 8 .ro 0 0x1fe]⟩,
  ⟨O.PWR_SEAL_LAST, 0x100000, 1, 0x4, 1, none, [
    fd 0 32 .ro 0 0x1fe]⟩,
  ⟨O.PWR_OUTLOG_IDX, 0x100000, 1, 0x4, 1, none, [
    fd 0 4 .ro 0 0x1fe, fd 16 16 .ro 0 0x1fe]⟩]

/-- The registers of block PWR, in offset order. -/
def regDefsPWR : List RegDef := regDefsPWR0 ++ regDefsPWR1

def F.PWR_STATE.STATE : Fld := ⟨.pwr, 0x0, 0, 3⟩
def F.PWR_STATE.VMAIN_OK : Fld := ⟨.pwr, 0x0, 3, 1⟩
def F.PWR_STATE.HOLD_MS : Fld := ⟨.pwr, 0x0, 8, 8⟩
def F.PWR_RAIL_STAT.IN_WINDOW : Fld := ⟨.pwr, 0x4, 0, 9⟩
def F.PWR_RAIL_STAT.VSENS_OK : Fld := ⟨.pwr, 0x4, 9, 8⟩
def F.PWR_RAIL_FLAG.OUT_SEEN : Fld := ⟨.pwr, 0x8, 0, 17⟩
def F.PWR_RAIL_FLAG.SET_COUNT : Fld := ⟨.pwr, 0x8, 24, 8⟩
def F.PWR_HOLD_CFG.BUDGET_MS : Fld := ⟨.pwr, 0xc, 0, 8⟩
def F.PWR_DOZE_CFG.ENABLE : Fld := ⟨.pwr, 0x10, 0, 1⟩
def F.PWR_SW_RESET.KEY : Fld := ⟨.pwr, 0x14, 0, 16⟩
def F.PWR_SW_RESET.S : Fld := ⟨.pwr, 0x14, 16, 1⟩
def F.PWR_SW_RESET.N : Fld := ⟨.pwr, 0x14, 17, 1⟩
def F.PWR_WDT_CFG.TIMEOUT_MS : Fld := ⟨.pwr, 0x18, 0, 14⟩
def F.PWR_WDT_CFG.WINDOW_MIN_MS : Fld := ⟨.pwr, 0x18, 16, 14⟩
def F.PWR_WDT_KICK.KEY : Fld := ⟨.pwr, 0x1c, 0, 16⟩
def F.PWR_WDT_STAT.REMAIN_MS : Fld := ⟨.pwr, 0x20, 0, 14⟩
def F.PWR_WDT_STAT.KICKS : Fld := ⟨.pwr, 0x20, 16, 16⟩
def F.PWR_GLOW_STAT.GLOW_LOST : Fld := ⟨.pwr, 0x40, 0, 1⟩
def F.PWR_GLOW_STAT.ON_VBAT : Fld := ⟨.pwr, 0x40, 1, 1⟩
def F.PWR_GLOW_STAT.VBAT_LOW : Fld := ⟨.pwr, 0x40, 2, 1⟩
def F.PWR_GLOW_STAT.SNAP_VALID : Fld := ⟨.pwr, 0x40, 3, 1⟩
def F.PWR_RESET_CAUSE.EVENT : Fld := ⟨.pwr, 0x44, 0, 9⟩
def F.PWR_RESET_CAUSE.SET_COUNT : Fld := ⟨.pwr, 0x44, 24, 8⟩
def F.PWR_RTC_SUB.SUB : Fld := ⟨.pwr, 0x48, 0, 15⟩
def F.PWR_RTC_SEC.SEC : Fld := ⟨.pwr, 0x4c, 0, 32⟩
def F.PWR_RTC_ALARM.ALARM : Fld := ⟨.pwr, 0x50, 0, 32⟩
def F.PWR_WAKE_CFG.MODE : Fld := ⟨.pwr, 0x54, 0, 8⟩
def F.PWR_WAKE_CFG.CMP_1_BOTH : Fld := ⟨.pwr, 0x54, 8, 1⟩
def F.PWR_WAKE_SRC.SEEN : Fld := ⟨.pwr, 0x58, 0, 4⟩
def F.PWR_WAKE_SRC.SET_COUNT : Fld := ⟨.pwr, 0x58, 24, 8⟩
def F.PWR_BOOT_CNT.COUNT : Fld := ⟨.pwr, 0x5c, 0, 32⟩
def F.PWR_TAMPER.DOOR : Fld := ⟨.pwr, 0x60, 0, 1⟩
def F.PWR_TAMPER.SEAL_CHANGED : Fld := ⟨.pwr, 0x60, 1, 1⟩
def F.PWR_TAMPER.VBAT_LOW_SEEN : Fld := ⟨.pwr, 0x60, 2, 1⟩
def F.PWR_TAMPER.RET_CORRUPT : Fld := ⟨.pwr, 0x60, 3, 1⟩
def F.PWR_TAMPER.WAKE_FAIL : Fld := ⟨.pwr, 0x60, 4, 1⟩
def F.PWR_TAMPER.SET_COUNT : Fld := ⟨.pwr, 0x60, 24, 8⟩
def F.PWR_SEAL_LAST.CODE : Fld := ⟨.pwr, 0x64, 0, 32⟩
def F.PWR_OUTLOG_IDX.NEXT : Fld := ⟨.pwr, 0x68, 0, 4⟩
def F.PWR_OUTLOG_IDX.TOTAL : Fld := ⟨.pwr, 0x68, 16, 16⟩

def O.BOT_STATUS : Nat := 0x0
def O.BOT_IMAGE : Nat := 0x4
def O.BOT_IMG_SEAL : Nat := 0x8
def O.BOT_SEAL_IN_FORCE : Nat := 0xc
def O.BOT_SEAL_RAW_T : Nat := 0x10
def O.BOT_SEAL_RAW_C : Nat := 0x14
def O.BOT_SEAL_FLAG : Nat := 0x18
def O.BOT_CTRL : Nat := 0x20
def O.BOT_OTP_ADDR : Nat := 0x24
def O.BOT_OTP_DATA : Nat := 0x28
def O.BOT_OTP_CMD : Nat := 0x2c
def O.BOT_DIGEST : Nat := 0x40

def regDefsBOT0 : List RegDef := [
  ⟨O.BOT_STATUS, 0x100000, 1, 0x4, 1, none, [
    fd 0 4 .ro 0 0xe0, fd 4 2 .ro 0 0xe0, fd 6 1 .ro 0 0xe0, fd 7 1 .ro 0 0xe0, fd 8 1 .ro 0 0xe0,
    fd 9 1 .ro 0 0xe0, fd 10 2 .ro 0 0xe0, fd 16 4 .ro 0 0xe0, fd 20 4 .ro 0 0xe0, fd 24 4 .ro 0 0xe0]⟩,
  ⟨O.BOT_IMAGE, 0x100000, 1, 0x4, 1, none, [
    fd 0 7 .ro 0 0xe0, fd 8 8 .ro 0 0xe0, fd 16 16 .ro 0 0xe0]⟩,
  ⟨O.BOT_IMG_SEAL, 0x100000, 1, 0x4, 1, none, [
    fd 0 32 .ro 0 0xe0]⟩,
  ⟨O.BOT_SEAL_IN_FORCE, 0x100000, 1, 0x4, 1, none, [
    fd 0 32 .ro 0 0xe0]⟩,
  ⟨O.BOT_SEAL_RAW_T, 0x100000, 1, 0x4, 1, none, [
    fd 0 32 .ro 0 0xc0]⟩,
  ⟨O.BOT_SEAL_RAW_C, 0x100000, 1, 0x4, 1, none, [
    fd 0 32 .ro 0 0xc0]⟩,
  ⟨O.BOT_SEAL_FLAG, 0x100000, 1, 0x4, 1, some 24, [
    fd 0 1 .w1c 0 0xc0, fd 1 1 .w1c 0 0xc0, fd 8 8 .ro 0 0xc0, fd 24 8 .ro 0 0xc0]⟩,
  ⟨O.BOT_CTRL, 0x100000, 1, 0x4, 1, none, [
    fd 0 16 .wo 0 0x0, fd 16 1 .wo 0 0x0]⟩,
  ⟨O.BOT_OTP_ADDR, 0x100000, 1, 0x4, 1, none, [
    fd 0 7 .rw 0 0xc0]⟩,
  ⟨O.BOT_OTP_DATA, 0x100000, 1, 0x4, 1, none, [
    fd 0 32 .rw 0 0xc0]⟩,
  ⟨O.BOT_OTP_CMD, 0x100000, 1, 0x4, 1, none, [
    fd 0 1 .wo 0 0x0, fd 1 1 .wo 0 0x0, fd 8 1 .ro 0 0x0, fd 9 1 .ro 0 0xc0]⟩,
  ⟨O.BOT_DIGEST, 0x4, 8, 0x4, 1, none, [
    fd 0 32 .ro 0 0xe0]⟩]

/-- The registers of block BOT, in offset order. -/
def regDefsBOT : List RegDef := regDefsBOT0

def F.BOT_STATUS.PHASE : Fld := ⟨.bot, 0x0, 0, 4⟩
def F.BOT_STATUS.SOURCE : Fld := ⟨.bot, 0x0, 4, 2⟩
def F.BOT_STATUS.OCTAL : Fld := ⟨.bot, 0x0, 6, 1⟩
def F.BOT_STATUS.COMMISSIONING : Fld := ⟨.bot, 0x0, 7, 1⟩
def F.BOT_STATUS.LOCKED : Fld := ⟨.bot, 0x0, 8, 1⟩
def F.BOT_STATUS.SIGNED : Fld := ⟨.bot, 0x0, 9, 1⟩
def F.BOT_STATUS.BOOT_SEL : Fld := ⟨.bot, 0x0, 10, 2⟩
def F.BOT_STATUS.REASON_A : Fld := ⟨.bot, 0x0, 16, 4⟩
def F.BOT_STATUS.REASON_B : Fld := ⟨.bot, 0x0, 20, 4⟩
def F.BOT_STATUS.REASON_PCIE : Fld := ⟨.bot, 0x0, 24, 4⟩
def F.BOT_IMAGE.ROLLBACK : Fld := ⟨.bot, 0x4, 0, 7⟩
def F.BOT_IMAGE.SECT_COUNT : Fld := ⟨.bot, 0x4, 8, 8⟩
def F.BOT_IMAGE.PART : Fld := ⟨.bot, 0x4, 16, 16⟩
def F.BOT_IMG_SEAL.CODE : Fld := ⟨.bot, 0x8, 0, 32⟩
def F.BOT_SEAL_IN_FORCE.CODE : Fld := ⟨.bot, 0xc, 0, 32⟩
def F.BOT_SEAL_RAW_T.TRUE : Fld := ⟨.bot, 0x10, 0, 32⟩
def F.BOT_SEAL_RAW_C.COMPL : Fld := ⟨.bot, 0x14, 0, 32⟩
def F.BOT_SEAL_FLAG.READ_FAULT : Fld := ⟨.bot, 0x18, 0, 1⟩
def F.BOT_SEAL_FLAG.CHANGED : Fld := ⟨.bot, 0x18, 1, 1⟩
def F.BOT_SEAL_FLAG.FAULTS : Fld := ⟨.bot, 0x18, 8, 8⟩
def F.BOT_SEAL_FLAG.SET_COUNT : Fld := ⟨.bot, 0x18, 24, 8⟩
def F.BOT_CTRL.KEY : Fld := ⟨.bot, 0x20, 0, 16⟩
def F.BOT_CTRL.RELOAD : Fld := ⟨.bot, 0x20, 16, 1⟩
def F.BOT_OTP_ADDR.WORD : Fld := ⟨.bot, 0x24, 0, 7⟩
def F.BOT_OTP_DATA.DATA : Fld := ⟨.bot, 0x28, 0, 32⟩
def F.BOT_OTP_CMD.READ : Fld := ⟨.bot, 0x2c, 0, 1⟩
def F.BOT_OTP_CMD.PROGRAM : Fld := ⟨.bot, 0x2c, 1, 1⟩
def F.BOT_OTP_CMD.BUSY : Fld := ⟨.bot, 0x2c, 8, 1⟩
def F.BOT_OTP_CMD.REFUSED : Fld := ⟨.bot, 0x2c, 9, 1⟩
def F.BOT_DIGEST.DIGEST (i : Nat) : Fld := ⟨.bot, 0x40 + 0x4 * i, 0, 32⟩

def O.WLD_STATUS : Nat := 0x0
def O.WLD_OBSERVE : Nat := 0x4
def O.WLD_VIOL_FLAG : Nat := 0x8
def O.WLD_VIOL_CNT : Nat := 0xc
def O.WLD_ECC_FLAG : Nat := 0x10
def O.WLD_ECC_CNT : Nat := 0x14
def O.WLD_ECC_ADDR : Nat := 0x18
def O.WLD_SCRUB_CFG : Nat := 0x1c
def O.WLD_LOCKSTEP : Nat := 0x20
def O.WLD_AP_RUN : Nat := 0x24
def O.WLD_AP_BOOT : Nat := 0x28
def O.WLD_WAT : Nat := 0x40
def O.WLD_REGION_TAG : Nat := 0x240
def O.WLD_HWIN_DEV : Nat := 0x260
def O.WLD_HWIN_HOST_LO : Nat := 0x264
def O.WLD_HWIN_HOST_HI : Nat := 0x268
def O.WLD_HWIN_CTRL : Nat := 0x26c
def O.WLD_VLOG_ADDR : Nat := 0x360
def O.WLD_VLOG_INFO : Nat := 0x364
def O.WLD_VLOG_TIME_LO : Nat := 0x368
def O.WLD_VLOG_TIME_HI : Nat := 0x36c

def regDefsWLD0 : List RegDef := [
  ⟨O.WLD_STATUS, 0x100000, 1, 0x4, 1, none, [
    fd 0 1 .ro 0 0xc0, fd 2 4 .ro 0 0xc0]⟩,
  ⟨O.WLD_OBSERVE, 0x100000, 1, 0x4, 1, none, [
    fd 1 18 .rwl 0xa 0xc0 false (.set 0xA)]⟩,
  ⟨O.WLD_VIOL_FLAG, 0x100000, 1, 0x4, 1, some 24, [
    fd 0 1 .w1c 0 0xe0, fd 1 1 .w1c 0 0xe0, fd 24 8 .ro 0 0xe0]⟩,
  ⟨O.WLD_VIOL_CNT, 0x100000, 1, 0x4, 1, none, [
    fd 0 16 .ro 0 0xe0, fd 16 4 .ro 0 0xe0]⟩,
  ⟨O.WLD_ECC_FLAG, 0x100000, 1, 0x4, 1, some 24, [
    fd 0 1 .w1c 0 0xe0, fd 1 1 .w1c 0 0xe0, fd 24 8 .ro 0 0xe0]⟩,
  ⟨O.WLD_ECC_CNT, 0x100000, 1, 0x4, 1, none, [
    fd 0 16 .ro 0 0xe0, fd 16 8 .ro 0 0xe0]⟩,
  ⟨O.WLD_ECC_ADDR, 0x100000, 1, 0x4, 1, none, [
    fd 0 32 .ro 0 0xe0]⟩,
  ⟨O.WLD_SCRUB_CFG, 0x100000, 1, 0x4, 1, none, [
    fd 0 14 .rwl 0x3e8 0xc0 false (.range 100 10000)]⟩,
  ⟨O.WLD_LOCKSTEP, 0x100000, 1, 0x4, 1, none, [
    fd 0 2 .ro 0 0xc0, fd 8 8 .ro 0 0xc0]⟩,
  ⟨O.WLD_AP_RUN, 0x100000, 1, 0x4, 1, none, [
    fd 0 4 .rws 0 0xc0]⟩,
  ⟨O.WLD_AP_BOOT, 0x4, 4, 0x4, 1, none, [
    fd 2 30 .rws 0 0xc0]⟩,
  ⟨O.WLD_WAT, 0x4, 128, 0x4, 1, none, [
    fd 0 1 .rwl 0 0xc0, fd 1 1 .rwl 0 0xc0, fd 2 1 .ro 0 0xc0]⟩]

def regDefsWLD1 : List RegDef := [
  ⟨O.WLD_REGION_TAG, 0x4, 8, 0x4, 1, none, [
    fd 0 2 .rwl 0 0xc0 false (.over 2 0) 16 2]⟩,
  ⟨O.WLD_HWIN_DEV, 0x10, 16, 0x4, 1, none, [
    fd 12 16 .rwl 0 0xc0]⟩,
  ⟨O.WLD_HWIN_HOST_LO, 0x10, 16, 0x4, 1, none, [
    fd 12 20 .rwl 0 0xc0]⟩,
  ⟨O.WLD_HWIN_HOST_HI, 0x10, 16, 0x4, 1, none, [
    fd 0 32 .rwl 0 0xc0]⟩,
  ⟨O.WLD_HWIN_CTRL, 0x10, 16, 0x4, 1, none, [
    fd 0 1 .rwl 0 0xc0, fd 1 5 .rwl 0xc 0xc0 false (.range 12 28), fd 6 2 .rwl 0 0xc0 false (.over 2 0)]⟩,
  ⟨O.WLD_VLOG_ADDR, 0x10, 16, 0x4, 1, none, [
    fd 0 32 .ro 0 0xe0]⟩,
  ⟨O.WLD_VLOG_INFO, 0x10, 16, 0x4, 1, none, [
    fd 0 4 .ro 0 0xe0, fd 4 6 .ro 0 0xe0, fd 10 1 .ro 0 0xe0, fd 11 3 .ro 0 0xe0, fd 16 16 .ro 0 0xe0]⟩,
  ⟨O.WLD_VLOG_TIME_LO, 0x10, 16, 0x4, 1, none, [
    fd 0 32 .ro 0 0xe0]⟩,
  ⟨O.WLD_VLOG_TIME_HI, 0x10, 16, 0x4, 1, none, [
    fd 0 16 .ro 0 0xe0]⟩]

/-- The registers of block WLD, in offset order. -/
def regDefsWLD : List RegDef := regDefsWLD0 ++ regDefsWLD1

def F.WLD_STATUS.TRUSTED_HOST : Fld := ⟨.wld, 0x0, 0, 1⟩
def F.WLD_STATUS.AP_SECURE : Fld := ⟨.wld, 0x0, 2, 4⟩
def F.WLD_OBSERVE.NS_OBSERVE : Fld := ⟨.wld, 0x4, 1, 18⟩
def F.WLD_VIOL_FLAG.VIOLATION : Fld := ⟨.wld, 0x8, 0, 1⟩
def F.WLD_VIOL_FLAG.WRAPPED : Fld := ⟨.wld, 0x8, 1, 1⟩
def F.WLD_VIOL_FLAG.SET_COUNT : Fld := ⟨.wld, 0x8, 24, 8⟩
def F.WLD_VIOL_CNT.ENTRIES : Fld := ⟨.wld, 0xc, 0, 16⟩
def F.WLD_VIOL_CNT.NEXT : Fld := ⟨.wld, 0xc, 16, 4⟩
def F.WLD_ECC_FLAG.CORRECTED : Fld := ⟨.wld, 0x10, 0, 1⟩
def F.WLD_ECC_FLAG.UNCORRECTABLE : Fld := ⟨.wld, 0x10, 1, 1⟩
def F.WLD_ECC_FLAG.SET_COUNT : Fld := ⟨.wld, 0x10, 24, 8⟩
def F.WLD_ECC_CNT.CORRECTED : Fld := ⟨.wld, 0x14, 0, 16⟩
def F.WLD_ECC_CNT.UNCORRECTABLE : Fld := ⟨.wld, 0x14, 16, 8⟩
def F.WLD_ECC_ADDR.ADDR : Fld := ⟨.wld, 0x18, 0, 32⟩
def F.WLD_SCRUB_CFG.PASS_MS : Fld := ⟨.wld, 0x1c, 0, 14⟩
def F.WLD_LOCKSTEP.HELD : Fld := ⟨.wld, 0x20, 0, 2⟩
def F.WLD_LOCKSTEP.MISMATCHES : Fld := ⟨.wld, 0x20, 8, 8⟩
def F.WLD_AP_RUN.RUN : Fld := ⟨.wld, 0x24, 0, 4⟩
def F.WLD_AP_BOOT.ADDR (i : Nat) : Fld := ⟨.wld, 0x28 + 0x4 * i, 2, 30⟩
def F.WLD_WAT.NONSECURE (i : Nat) : Fld := ⟨.wld, 0x40 + 0x4 * i, 0, 1⟩
def F.WLD_WAT.NS_OBSERVE (i : Nat) : Fld := ⟨.wld, 0x40 + 0x4 * i, 1, 1⟩
def F.WLD_WAT.APPLIED_NS (i : Nat) : Fld := ⟨.wld, 0x40 + 0x4 * i, 2, 1⟩
def F.WLD_REGION_TAG.TAG (i m : Nat) : Fld := ⟨.wld, 0x240 + 0x4 * i, 0 + 2 * m, 2⟩
def F.WLD_HWIN_DEV.DEV_BASE (i : Nat) : Fld := ⟨.wld, 0x260 + 0x10 * i, 12, 16⟩
def F.WLD_HWIN_HOST_LO.HOST_LO (i : Nat) : Fld := ⟨.wld, 0x264 + 0x10 * i, 12, 20⟩
def F.WLD_HWIN_HOST_HI.HOST_HI (i : Nat) : Fld := ⟨.wld, 0x268 + 0x10 * i, 0, 32⟩
def F.WLD_HWIN_CTRL.ENABLE (i : Nat) : Fld := ⟨.wld, 0x26c + 0x10 * i, 0, 1⟩
def F.WLD_HWIN_CTRL.SIZE (i : Nat) : Fld := ⟨.wld, 0x26c + 0x10 * i, 1, 5⟩
def F.WLD_HWIN_CTRL.TAG (i : Nat) : Fld := ⟨.wld, 0x26c + 0x10 * i, 6, 2⟩
def F.WLD_VLOG_ADDR.ADDR (i : Nat) : Fld := ⟨.wld, 0x360 + 0x10 * i, 0, 32⟩
def F.WLD_VLOG_INFO.MASTER (i : Nat) : Fld := ⟨.wld, 0x364 + 0x10 * i, 0, 4⟩
def F.WLD_VLOG_INFO.RING (i : Nat) : Fld := ⟨.wld, 0x364 + 0x10 * i, 4, 6⟩
def F.WLD_VLOG_INFO.WRITE (i : Nat) : Fld := ⟨.wld, 0x364 + 0x10 * i, 10, 1⟩
def F.WLD_VLOG_INFO.KIND (i : Nat) : Fld := ⟨.wld, 0x364 + 0x10 * i, 11, 3⟩
def F.WLD_VLOG_INFO.REPEAT (i : Nat) : Fld := ⟨.wld, 0x364 + 0x10 * i, 16, 16⟩
def F.WLD_VLOG_TIME_LO.V (i : Nat) : Fld := ⟨.wld, 0x368 + 0x10 * i, 0, 32⟩
def F.WLD_VLOG_TIME_HI.V (i : Nat) : Fld := ⟨.wld, 0x36c + 0x10 * i, 0, 16⟩

def O.HST_STATUS : Nat := 0x0
def O.HST_LINK_FLAG : Nat := 0x4
def O.HST_LINK_CNT : Nat := 0x8
def O.HST_PCIE_CFG : Nat := 0xc
def O.HST_ID : Nat := 0x10
def O.HST_POLL : Nat := 0x20
def O.HST_RING_BASE : Nat := 0x100
def O.HST_RING_DB : Nat := 0x104
def O.HST_RING_WB : Nat := 0x108
def O.HST_RING_CFG : Nat := 0x10c
def O.HST_RING_IRQ : Nat := 0x110
def O.HST_RING_CTRL : Nat := 0x114
def O.HST_RING_IDX : Nat := 0x118
def O.HST_RING_CNT : Nat := 0x11c

def regDefsHST0 : List RegDef := [
  ⟨O.HST_STATUS, 0x100000, 1, 0x4, 1, none, [
    fd 0 1 .ro 0 0x0, fd 1 3 .ro 0 0x0, fd 4 2 .ro 0 0x0, fd 6 1 .ro 0 0x0, fd 7 1 .ro 0 0x0]⟩,
  ⟨O.HST_LINK_FLAG, 0x100000, 1, 0x4, 1, some 24, [
    fd 0 1 .w1c 0 0xe0, fd 1 1 .w1c 0 0xe0, fd 2 1 .w1c 0 0xe0, fd 24 8 .ro 0 0xe0]⟩,
  ⟨O.HST_LINK_CNT, 0x100000, 1, 0x4, 1, none, [
    fd 0 16 .ro 0 0xe0, fd 16 16 .ro 0 0xe0]⟩,
  ⟨O.HST_PCIE_CFG, 0x100000, 1, 0x4, 1, none, [
    fd 0 3 .rwl 5 0xc0, fd 3 2 .rwl 2 0xc0, fd 8 8 .rwl 0xa 0xc0 false (.range 1 64)]⟩,
  ⟨O.HST_ID, 0x100000, 1, 0x4, 1, none, [
    fd 16 16 .ro 0x1d9b 0xe0, fd 0 16 .ro 0x8856 0xe0]⟩,
  ⟨O.HST_POLL, 0x4, 8, 0x4, 1, none, [
    fd 0 12 .rw 0xc8 0xc0 false (.range 1 2000)]⟩,
  ⟨O.HST_RING_BASE, 0x20, 64, 0x4, 1, none, [
    fd 6 26 .rw 0 0x80 true]⟩,
  ⟨O.HST_RING_DB, 0x20, 64, 0x4, 1, none, [
    fd 2 30 .rw 0 0x80 true]⟩,
  ⟨O.HST_RING_WB, 0x20, 64, 0x4, 1, none, [
    fd 4 28 .rw 0 0x80 true]⟩,
  ⟨O.HST_RING_CFG, 0x20, 64, 0x4, 1, none, [
    fd 0 3 .rw 0 0x80 true (.over 6 0), fd 4 5 .rw 4 0x80 true (.range 4 16), fd 9 2 .rw 0 0x80 true,
    fd 11 1 .rw 0 0x80 true, fd 12 8 .rw 0 0x80 true, fd 20 2 .rw 0 0x80 true]⟩,
  ⟨O.HST_RING_IRQ, 0x20, 64, 0x4, 1, none, [
    fd 0 6 .rw 0 0x80 true, fd 8 8 .rw 1 0x80 true (.range 1 255), fd 16 16 .rw 0 0x80 true]⟩,
  ⟨O.HST_RING_CTRL, 0x20, 64, 0x4, 1, none, [
    fd 0 1 .rw 0 0x0 true, fd 8 3 .ro 0 0x0, fd 12 4 .ro 0 0x0]⟩]

def regDefsHST1 : List RegDef := [
  ⟨O.HST_RING_IDX, 0x20, 64, 0x4, 1, none, [
    fd 0 16 .rw 0 0x80 true, fd 16 8 .rw 0 0x80 true]⟩,
  ⟨O.HST_RING_CNT, 0x20, 64, 0x4, 1, none, [
    fd 0 16 .ro 0 0x0 true, fd 16 8 .ro 0 0x0 true]⟩]

/-- The registers of block HST, in offset order. -/
def regDefsHST : List RegDef := regDefsHST0 ++ regDefsHST1

def F.HST_STATUS.LINK_UP : Fld := ⟨.hst, 0x0, 0, 1⟩
def F.HST_STATUS.SPEED : Fld := ⟨.hst, 0x0, 1, 3⟩
def F.HST_STATUS.WIDTH : Fld := ⟨.hst, 0x0, 4, 2⟩
def F.HST_STATUS.MSIX_EN : Fld := ⟨.hst, 0x0, 6, 1⟩
def F.HST_STATUS.BOOT_RING : Fld := ⟨.hst, 0x0, 7, 1⟩
def F.HST_LINK_FLAG.LINK_LOST : Fld := ⟨.hst, 0x4, 0, 1⟩
def F.HST_LINK_FLAG.CPL_ERR : Fld := ⟨.hst, 0x4, 1, 1⟩
def F.HST_LINK_FLAG.FLR : Fld := ⟨.hst, 0x4, 2, 1⟩
def F.HST_LINK_FLAG.SET_COUNT : Fld := ⟨.hst, 0x4, 24, 8⟩
def F.HST_LINK_CNT.LOSSES : Fld := ⟨.hst, 0x8, 0, 16⟩
def F.HST_LINK_CNT.CPL_ERRORS : Fld := ⟨.hst, 0x8, 16, 16⟩
def F.HST_PCIE_CFG.MAX_SPEED : Fld := ⟨.hst, 0xc, 0, 3⟩
def F.HST_PCIE_CFG.MAX_WIDTH : Fld := ⟨.hst, 0xc, 3, 2⟩
def F.HST_PCIE_CFG.CPL_TO_MS : Fld := ⟨.hst, 0xc, 8, 8⟩
def F.HST_ID.VENDOR_ID : Fld := ⟨.hst, 0x10, 16, 16⟩
def F.HST_ID.DEVICE_ID : Fld := ⟨.hst, 0x10, 0, 16⟩
def F.HST_POLL.INTERVAL (i : Nat) : Fld := ⟨.hst, 0x20 + 0x4 * i, 0, 12⟩
def F.HST_RING_BASE.BASE (i : Nat) : Fld := ⟨.hst, 0x100 + 0x20 * i, 6, 26⟩
def F.HST_RING_DB.DB_ADDR (i : Nat) : Fld := ⟨.hst, 0x104 + 0x20 * i, 2, 30⟩
def F.HST_RING_WB.WB_ADDR (i : Nat) : Fld := ⟨.hst, 0x108 + 0x20 * i, 4, 28⟩
def F.HST_RING_CFG.TYPE (i : Nat) : Fld := ⟨.hst, 0x10c + 0x20 * i, 0, 3⟩
def F.HST_RING_CFG.LOG2SIZE (i : Nat) : Fld := ⟨.hst, 0x10c + 0x20 * i, 4, 5⟩
def F.HST_RING_CFG.DISC (i : Nat) : Fld := ⟨.hst, 0x10c + 0x20 * i, 9, 2⟩
def F.HST_RING_CFG.SECURE_CMDS (i : Nat) : Fld := ⟨.hst, 0x10c + 0x20 * i, 11, 1⟩
def F.HST_RING_CFG.BIND (i : Nat) : Fld := ⟨.hst, 0x10c + 0x20 * i, 12, 8⟩
def F.HST_RING_CFG.TARGET (i : Nat) : Fld := ⟨.hst, 0x10c + 0x20 * i, 20, 2⟩
def F.HST_RING_IRQ.VECTOR (i : Nat) : Fld := ⟨.hst, 0x110 + 0x20 * i, 0, 6⟩
def F.HST_RING_IRQ.COAL_CNT (i : Nat) : Fld := ⟨.hst, 0x110 + 0x20 * i, 8, 8⟩
def F.HST_RING_IRQ.COAL_US (i : Nat) : Fld := ⟨.hst, 0x110 + 0x20 * i, 16, 16⟩
def F.HST_RING_CTRL.ENABLE (i : Nat) : Fld := ⟨.hst, 0x114 + 0x20 * i, 0, 1⟩
def F.HST_RING_CTRL.STATE (i : Nat) : Fld := ⟨.hst, 0x114 + 0x20 * i, 8, 3⟩
def F.HST_RING_CTRL.ERR (i : Nat) : Fld := ⟨.hst, 0x114 + 0x20 * i, 12, 4⟩
def F.HST_RING_IDX.DIDX (i : Nat) : Fld := ⟨.hst, 0x118 + 0x20 * i, 0, 16⟩
def F.HST_RING_IDX.DGEN (i : Nat) : Fld := ⟨.hst, 0x118 + 0x20 * i, 16, 8⟩
def F.HST_RING_CNT.DROP (i : Nat) : Fld := ⟨.hst, 0x11c + 0x20 * i, 0, 16⟩
def F.HST_RING_CNT.DB_BAD (i : Nat) : Fld := ⟨.hst, 0x11c + 0x20 * i, 16, 8⟩

def O.HAZ_BANK_CFG : Nat := 0x0
def O.HAZ_BANK_BLANK : Nat := 0x4
def O.HAZ_BANK_BLANK_T : Nat := 0x8
def O.HAZ_BANK_STAT : Nat := 0xc
def O.HAZ_BANK_FLAG : Nat := 0x10
def O.HAZ_BANK_CNT : Nat := 0x14
def O.HAZ_BANK_BLANK_MAX : Nat := 0x18
def O.HAZ_CH_CFG : Nat := 0x1000
def O.HAZ_CH_FREF : Nat := 0x1004
def O.HAZ_CH_SAMPLE : Nat := 0x1008
def O.HAZ_CH_MEAN : Nat := 0x100c
def O.HAZ_CH_STAT : Nat := 0x1010
def O.HAZ_CH_FLAG : Nat := 0x1014
def O.HAZ_CH_CNT : Nat := 0x1018
def O.HAZ_CH_PEAK : Nat := 0x101c
def O.HAZ_CH_PEAK_CLR : Nat := 0x1020
def O.HAZ_CH_ST_RESULT : Nat := 0x1024
def O.HAZ_CH_REC_LO : Nat := 0x1028
def O.HAZ_CH_REC_HI : Nat := 0x102c
def O.HAZ_CH_BLANKED : Nat := 0x1030
def O.HAZ_CH_FRAW : Nat := 0x1034
def O.HAZ_AUX_CFG : Nat := 0x2000
def O.HAZ_AUX_RESULT : Nat := 0x2004
def O.HAZ_AUX_STAT : Nat := 0x2008
def O.HAZ_AUX_FLAG : Nat := 0x200c
def O.HAZ_AUX_CNT_LO : Nat := 0x2010
def O.HAZ_AUX_CNT_HI : Nat := 0x2014
def O.HAZ_AUX_TIME_LO : Nat := 0x2018
def O.HAZ_AUX_TIME_HI : Nat := 0x201c
def O.HAZ_AUX_HALF_E : Nat := 0x2020
def O.HAZ_AUX_HALF_O : Nat := 0x2024
def O.HAZ_AUX_VREF : Nat := 0x2028

def regDefsHAZ0 : List RegDef := [
  ⟨O.HAZ_BANK_CFG, 0x20, 8, 0x4, 1, none, [
    fd 0 1 .rwl 1 0xc0, fd 2 12 .rwl 0x3e8 0xc0 false (.range 100 4000)]⟩,
  ⟨O.HAZ_BANK_BLANK, 0x20, 8, 0x4, 1, none, [
    fd 0 4 .rwl 0 0xc0, fd 4 4 .rwl 0 0xc0, fd 8 6 .rwl 0 0xc0, fd 14 1 .rwl 0 0xc0]⟩,
  ⟨O.HAZ_BANK_BLANK_T, 0x20, 8, 0x4, 1, none, [
    fd 0 8 .rwl 0 0xc0, fd 8 8 .rwl 0 0xc0, fd 16 14 .rwl 0x7d0 0xc0 false (.range 10 10000)]⟩,
  ⟨O.HAZ_BANK_STAT, 0x20, 8, 0x4, 1, none, [
    fd 0 1 .ro 0 0x0, fd 1 1 .ro 0 0x0, fd 2 1 .ro 0 0x0, fd 3 1 .ro 0 0x0]⟩,
  ⟨O.HAZ_BANK_FLAG, 0x20, 8, 0x4, 1, some 24, [
    fd 0 1 .w1c 0 0x80 true, fd 1 1 .w1c 0 0x80 true, fd 24 8 .ro 0 0x80 true]⟩,
  ⟨O.HAZ_BANK_CNT, 0x20, 8, 0x4, 1, none, [
    fd 0 16 .ro 0 0x80 true, fd 16 16 .ro 0 0x80 true]⟩,
  ⟨O.HAZ_BANK_BLANK_MAX, 0x20, 8, 0x4, 1, none, [
    fd 0 24 .ro 0 0x80 true]⟩,
  ⟨O.HAZ_CH_CFG, 0x40, 64, 0x4, 1, none, [
    fd 0 2 .rwl 0 0xc0, fd 2 6 .rwl 5 0xc0 false (.range 5 63), fd 8 1 .rwl 0 0xc0]⟩,
  ⟨O.HAZ_CH_FREF, 0x40, 64, 0x4, 1, none, [
    fd 0 17 .rwl 0xc350 0xc0 false (.range 20000 100000)]⟩,
  ⟨O.HAZ_CH_SAMPLE, 0x40, 64, 0x4, 1, none, [
    fd 0 32 .ro 0 0x0]⟩,
  ⟨O.HAZ_CH_MEAN, 0x40, 64, 0x4, 1, none, [
    fd 0 16 .ro 0 0x0]⟩,
  ⟨O.HAZ_CH_STAT, 0x40, 64, 0x4, 1, none, [
    fd 0 2 .ro 0 0x0, fd 2 1 .ro 0 0x0, fd 3 1 .ro 0 0x0, fd 4 1 .ro 0 0x0, fd 5 1 .ro 0 0x0,
    fd 6 1 .ro 0 0x0]⟩]

def regDefsHAZ1 : List RegDef := [
  ⟨O.HAZ_CH_FLAG, 0x40, 64, 0x4, 1, some 24, [
    fd 0 1 .w1c 0 0x80 true, fd 1 1 .w1c 0 0x80 true, fd 2 1 .w1c 0 0x80 true, fd 3 1 .w1c 0 0x80 true,
    fd 24 8 .ro 0 0x80 true]⟩,
  ⟨O.HAZ_CH_CNT, 0x40, 64, 0x4, 1, none, [
    fd 0 16 .ro 0 0x80 true, fd 16 16 .ro 0 0x80 true]⟩,
  ⟨O.HAZ_CH_PEAK, 0x40, 64, 0x4, 1, none, [
    fd 0 16 .ro 0 0x80 true, fd 16 16 .ro 0 0x80 true]⟩,
  ⟨O.HAZ_CH_PEAK_CLR, 0x40, 64, 0x4, 1, none, [
    fd 0 1 .wo 0 0x0]⟩,
  ⟨O.HAZ_CH_ST_RESULT, 0x40, 64, 0x4, 1, none, [
    fd 0 16 .ro 0 0x80 true, fd 16 16 .ro 0 0x80 true]⟩,
  ⟨O.HAZ_CH_REC_LO, 0x40, 64, 0x4, 1, none, [
    fd 0 32 .ro 0 0x80 true]⟩,
  ⟨O.HAZ_CH_REC_HI, 0x40, 64, 0x4, 1, none, [
    fd 0 32 .ro 0 0x80 true]⟩,
  ⟨O.HAZ_CH_BLANKED, 0x40, 64, 0x4, 1, none, [
    fd 0 32 .ro 0 0x80 true]⟩,
  ⟨O.HAZ_CH_FRAW, 0x40, 64, 0x4, 1, none, [
    fd 0 8 .ro 0 0x0, fd 8 24 .ro 0 0x0]⟩,
  ⟨O.HAZ_AUX_CFG, 0x40, 16, 0x4, 1, none, [
    fd 0 2 .rwl 0 0xc0, fd 2 6 .rwl 1 0xc0 false (.range 1 32), fd 8 1 .rwl 1 0xc0, fd 9 3 .rwl 0 0xc0]⟩,
  ⟨O.HAZ_AUX_RESULT, 0x40, 16, 0x4, 1, none, [
    fd 0 32 .ro 0 0x0]⟩,
  ⟨O.HAZ_AUX_STAT, 0x40, 16, 0x4, 1, none, [
    fd 0 1 .ro 0 0x0, fd 1 1 .ro 0 0x0, fd 2 1 .ro 0 0x0]⟩]

def regDefsHAZ2 : List RegDef := [
  ⟨O.HAZ_AUX_FLAG, 0x40, 16, 0x4, 1, some 24, [
    fd 0 1 .w1c 0 0x80 true, fd 1 1 .w1c 0 0x80 true, fd 2 1 .w1c 0 0x80 true, fd 24 8 .ro 0 0x80 true]⟩,
  ⟨O.HAZ_AUX_CNT_LO, 0x40, 16, 0x4, 1, none, [
    fd 0 32 .ro 0 0x80 true]⟩,
  ⟨O.HAZ_AUX_CNT_HI, 0x40, 16, 0x4, 1, none, [
    fd 0 32 .ro 0 0x80 true]⟩,
  ⟨O.HAZ_AUX_TIME_LO, 0x40, 16, 0x4, 1, none, [
    fd 0 32 .ro 0 0x0]⟩,
  ⟨O.HAZ_AUX_TIME_HI, 0x40, 16, 0x4, 1, none, [
    fd 0 16 .ro 0 0x0]⟩,
  ⟨O.HAZ_AUX_HALF_E, 0x40, 16, 0x4, 1, none, [
    fd 0 24 .ro 0 0x0]⟩,
  ⟨O.HAZ_AUX_HALF_O, 0x40, 16, 0x4, 1, none, [
    fd 0 24 .ro 0 0x0]⟩,
  ⟨O.HAZ_AUX_VREF, 0x40, 16, 0x4, 1, none, [
    fd 0 24 .ro 0 0x0]⟩]

/-- The registers of block HAZ, in offset order. -/
def regDefsHAZ : List RegDef := regDefsHAZ0 ++ regDefsHAZ1 ++ regDefsHAZ2

def F.HAZ_BANK_CFG.SELFTEST_EN (i : Nat) : Fld := ⟨.haz, 0x0 + 0x20 * i, 0, 1⟩
def F.HAZ_BANK_CFG.PERIOD_MS (i : Nat) : Fld := ⟨.haz, 0x0 + 0x20 * i, 2, 12⟩
def F.HAZ_BANK_BLANK.PIN_MASK (i : Nat) : Fld := ⟨.haz, 0x4 + 0x20 * i, 0, 4⟩
def F.HAZ_BANK_BLANK.PIN_POL (i : Nat) : Fld := ⟨.haz, 0x4 + 0x20 * i, 4, 4⟩
def F.HAZ_BANK_BLANK.PG_SEL (i : Nat) : Fld := ⟨.haz, 0x4 + 0x20 * i, 8, 6⟩
def F.HAZ_BANK_BLANK.PG_EN (i : Nat) : Fld := ⟨.haz, 0x4 + 0x20 * i, 14, 1⟩
def F.HAZ_BANK_BLANK_T.LEAD_US (i : Nat) : Fld := ⟨.haz, 0x8 + 0x20 * i, 0, 8⟩
def F.HAZ_BANK_BLANK_T.TRAIL_US (i : Nat) : Fld := ⟨.haz, 0x8 + 0x20 * i, 8, 8⟩
def F.HAZ_BANK_BLANK_T.LIMIT_US (i : Nat) : Fld := ⟨.haz, 0x8 + 0x20 * i, 16, 14⟩
def F.HAZ_BANK_STAT.BLANKED (i : Nat) : Fld := ⟨.haz, 0xc + 0x20 * i, 0, 1⟩
def F.HAZ_BANK_STAT.CLAMP (i : Nat) : Fld := ⟨.haz, 0xc + 0x20 * i, 1, 1⟩
def F.HAZ_BANK_STAT.HELD (i : Nat) : Fld := ⟨.haz, 0xc + 0x20 * i, 2, 1⟩
def F.HAZ_BANK_STAT.CMD_BLANK (i : Nat) : Fld := ⟨.haz, 0xc + 0x20 * i, 3, 1⟩
def F.HAZ_BANK_FLAG.OVERLONG (i : Nat) : Fld := ⟨.haz, 0x10 + 0x20 * i, 0, 1⟩
def F.HAZ_BANK_FLAG.CLAMP_SEEN (i : Nat) : Fld := ⟨.haz, 0x10 + 0x20 * i, 1, 1⟩
def F.HAZ_BANK_FLAG.SET_COUNT (i : Nat) : Fld := ⟨.haz, 0x10 + 0x20 * i, 24, 8⟩
def F.HAZ_BANK_CNT.BLANKS (i : Nat) : Fld := ⟨.haz, 0x14 + 0x20 * i, 0, 16⟩
def F.HAZ_BANK_CNT.CLAMPS (i : Nat) : Fld := ⟨.haz, 0x14 + 0x20 * i, 16, 16⟩
def F.HAZ_BANK_BLANK_MAX.MAX_US (i : Nat) : Fld := ⟨.haz, 0x18 + 0x20 * i, 0, 24⟩
def F.HAZ_CH_CFG.MODE (i : Nat) : Fld := ⟨.haz, 0x1000 + 0x40 * i, 0, 2⟩
def F.HAZ_CH_CFG.ILIM_MA (i : Nat) : Fld := ⟨.haz, 0x1000 + 0x40 * i, 2, 6⟩
def F.HAZ_CH_CFG.TWIN_SHARED (i : Nat) : Fld := ⟨.haz, 0x1000 + 0x40 * i, 8, 1⟩
def F.HAZ_CH_FREF.F_REF_HZ (i : Nat) : Fld := ⟨.haz, 0x1004 + 0x40 * i, 0, 17⟩
def F.HAZ_CH_SAMPLE.RECORD (i : Nat) : Fld := ⟨.haz, 0x1008 + 0x40 * i, 0, 32⟩
def F.HAZ_CH_MEAN.CODE (i : Nat) : Fld := ⟨.haz, 0x100c + 0x40 * i, 0, 16⟩
def F.HAZ_CH_STAT.MODE_NOW (i : Nat) : Fld := ⟨.haz, 0x1010 + 0x40 * i, 0, 2⟩
def F.HAZ_CH_STAT.SWITCH_ON (i : Nat) : Fld := ⟨.haz, 0x1010 + 0x40 * i, 2, 1⟩
def F.HAZ_CH_STAT.LIMIT (i : Nat) : Fld := ⟨.haz, 0x1010 + 0x40 * i, 3, 1⟩
def F.HAZ_CH_STAT.OPENED (i : Nat) : Fld := ⟨.haz, 0x1010 + 0x40 * i, 4, 1⟩
def F.HAZ_CH_STAT.OVR (i : Nat) : Fld := ⟨.haz, 0x1010 + 0x40 * i, 5, 1⟩
def F.HAZ_CH_STAT.CARRIER_LOST (i : Nat) : Fld := ⟨.haz, 0x1010 + 0x40 * i, 6, 1⟩
def F.HAZ_CH_FLAG.OVR_SEEN (i : Nat) : Fld := ⟨.haz, 0x1014 + 0x40 * i, 0, 1⟩
def F.HAZ_CH_FLAG.LIMIT_TRIP (i : Nat) : Fld := ⟨.haz, 0x1014 + 0x40 * i, 1, 1⟩
def F.HAZ_CH_FLAG.SELFTEST_FAIL (i : Nat) : Fld := ⟨.haz, 0x1014 + 0x40 * i, 2, 1⟩
def F.HAZ_CH_FLAG.CARRIER_LOST (i : Nat) : Fld := ⟨.haz, 0x1014 + 0x40 * i, 3, 1⟩
def F.HAZ_CH_FLAG.SET_COUNT (i : Nat) : Fld := ⟨.haz, 0x1014 + 0x40 * i, 24, 8⟩
def F.HAZ_CH_CNT.OVR_EPISODES (i : Nat) : Fld := ⟨.haz, 0x1018 + 0x40 * i, 0, 16⟩
def F.HAZ_CH_CNT.LIMIT_TRIPS (i : Nat) : Fld := ⟨.haz, 0x1018 + 0x40 * i, 16, 16⟩
def F.HAZ_CH_PEAK.MIN (i : Nat) : Fld := ⟨.haz, 0x101c + 0x40 * i, 0, 16⟩
def F.HAZ_CH_PEAK.MAX (i : Nat) : Fld := ⟨.haz, 0x101c + 0x40 * i, 16, 16⟩
def F.HAZ_CH_PEAK_CLR.CLEAR (i : Nat) : Fld := ⟨.haz, 0x1020 + 0x40 * i, 0, 1⟩
def F.HAZ_CH_ST_RESULT.ZERO_CODE (i : Nat) : Fld := ⟨.haz, 0x1024 + 0x40 * i, 0, 16⟩
def F.HAZ_CH_ST_RESULT.REF_CODE (i : Nat) : Fld := ⟨.haz, 0x1024 + 0x40 * i, 16, 16⟩
def F.HAZ_CH_REC_LO.V (i : Nat) : Fld := ⟨.haz, 0x1028 + 0x40 * i, 0, 32⟩
def F.HAZ_CH_REC_HI.V (i : Nat) : Fld := ⟨.haz, 0x102c + 0x40 * i, 0, 32⟩
def F.HAZ_CH_BLANKED.BLANKED (i : Nat) : Fld := ⟨.haz, 0x1030 + 0x40 * i, 0, 32⟩
def F.HAZ_CH_FRAW.N (i : Nat) : Fld := ⟨.haz, 0x1034 + 0x40 * i, 0, 8⟩
def F.HAZ_CH_FRAW.T (i : Nat) : Fld := ⟨.haz, 0x1034 + 0x40 * i, 8, 24⟩
def F.HAZ_AUX_CFG.WIRES (i : Nat) : Fld := ⟨.haz, 0x2000 + 0x40 * i, 0, 2⟩
def F.HAZ_AUX_CFG.IEXC (i : Nat) : Fld := ⟨.haz, 0x2000 + 0x40 * i, 2, 6⟩
def F.HAZ_AUX_CFG.SWAP (i : Nat) : Fld := ⟨.haz, 0x2000 + 0x40 * i, 8, 1⟩
def F.HAZ_AUX_CFG.RATE (i : Nat) : Fld := ⟨.haz, 0x2000 + 0x40 * i, 9, 3⟩
def F.HAZ_AUX_RESULT.RECORD (i : Nat) : Fld := ⟨.haz, 0x2004 + 0x40 * i, 0, 32⟩
def F.HAZ_AUX_STAT.RUNNING (i : Nat) : Fld := ⟨.haz, 0x2008 + 0x40 * i, 0, 1⟩
def F.HAZ_AUX_STAT.OPEN (i : Nat) : Fld := ⟨.haz, 0x2008 + 0x40 * i, 1, 1⟩
def F.HAZ_AUX_STAT.REF_FAULT (i : Nat) : Fld := ⟨.haz, 0x2008 + 0x40 * i, 2, 1⟩
def F.HAZ_AUX_FLAG.OPEN (i : Nat) : Fld := ⟨.haz, 0x200c + 0x40 * i, 0, 1⟩
def F.HAZ_AUX_FLAG.REF_FAULT (i : Nat) : Fld := ⟨.haz, 0x200c + 0x40 * i, 1, 1⟩
def F.HAZ_AUX_FLAG.OVR (i : Nat) : Fld := ⟨.haz, 0x200c + 0x40 * i, 2, 1⟩
def F.HAZ_AUX_FLAG.SET_COUNT (i : Nat) : Fld := ⟨.haz, 0x200c + 0x40 * i, 24, 8⟩
def F.HAZ_AUX_CNT_LO.V (i : Nat) : Fld := ⟨.haz, 0x2010 + 0x40 * i, 0, 32⟩
def F.HAZ_AUX_CNT_HI.V (i : Nat) : Fld := ⟨.haz, 0x2014 + 0x40 * i, 0, 32⟩
def F.HAZ_AUX_TIME_LO.V (i : Nat) : Fld := ⟨.haz, 0x2018 + 0x40 * i, 0, 32⟩
def F.HAZ_AUX_TIME_HI.V (i : Nat) : Fld := ⟨.haz, 0x201c + 0x40 * i, 0, 16⟩
def F.HAZ_AUX_HALF_E.V (i : Nat) : Fld := ⟨.haz, 0x2020 + 0x40 * i, 0, 24⟩
def F.HAZ_AUX_HALF_O.V (i : Nat) : Fld := ⟨.haz, 0x2024 + 0x40 * i, 0, 24⟩
def F.HAZ_AUX_VREF.VREF_UV (i : Nat) : Fld := ⟨.haz, 0x2028 + 0x40 * i, 0, 24⟩

def O.HED_CFG : Nat := 0x0
def O.HED_TIME : Nat := 0x4
def O.HED_GEOM : Nat := 0x8
def O.HED_LIMIT : Nat := 0xc
def O.HED_THR_DAMP : Nat := 0x10
def O.HED_THR_REL : Nat := 0x14
def O.HED_BAND_A : Nat := 0x18
def O.HED_BAND_B : Nat := 0x1c
def O.HED_OPEN : Nat := 0x20
def O.HED_STATE : Nat := 0x24
def O.HED_FAULT : Nat := 0x28
def O.HED_LAST : Nat := 0x2c
def O.HED_LAST_T : Nat := 0x30
def O.HED_CNT_AB : Nat := 0x34
def O.HED_CNT_BA : Nat := 0x38
def O.HED_STAT_CNT : Nat := 0x3c

def regDefsHED0 : List RegDef := [
  ⟨O.HED_CFG, 0x40, 64, 0x4, 1, none, [
    fd 0 1 .rwl 0 0xc0, fd 1 1 .rwl 1 0xc0, fd 2 1 .rwl 0 0xc0, fd 3 1 .rwl 1 0xc0, fd 24 2 .rwl 0 0xc0,
    fd 26 5 .rwl 0 0xc0, fdI 8 6 .rwl (fun i => if i < 32 then 2 * i else 0) 0xc0,
    fdI 16 6 .rwl (fun i => if i < 32 then 2 * i + 1 else 0) 0xc0]⟩,
  ⟨O.HED_TIME, 0x40, 64, 0x4, 1, none, [
    fd 0 10 .rwl 0x14 0xc0 false (.range 1 1000), fd 16 10 .rwl 0x1e 0xc0 false (.range 1 1000)]⟩,
  ⟨O.HED_GEOM, 0x40, 64, 0x4, 1, none, [
    fd 0 9 .rwl 0x64 0xc0 false (.range 50 400), fd 16 6 .rwl 5 0xc0 false (.range 1 50),
    fd 24 8 .rwl 0x14 0xc0 false (.range 1 255)]⟩,
  ⟨O.HED_LIMIT, 0x40, 64, 0x4, 1, none, [
    fd 0 12 .rwl 0x12c 0xc0 false (.range 10 3600), fd 16 8 .rwl 0xa 0xc0 false (.range 1 255),
    fd 24 8 .rwl 5 0xc0 false (.range 1 255)]⟩,
  ⟨O.HED_THR_DAMP, 0x40, 64, 0x4, 1, none, [
    fd 0 16 .rwl 0 0xc0, fd 16 16 .rwl 0 0xc0]⟩,
  ⟨O.HED_THR_REL, 0x40, 64, 0x4, 1, none, [
    fd 0 16 .rwl 0 0xc0, fd 16 16 .rwl 0 0xc0]⟩,
  ⟨O.HED_BAND_A, 0x40, 64, 0x4, 1, none, [
    fd 0 16 .rwl 0 0xc0, fd 16 16 .rwl 0 0xc0]⟩,
  ⟨O.HED_BAND_B, 0x40, 64, 0x4, 1, none, [
    fd 0 16 .rwl 0 0xc0, fd 16 16 .rwl 0 0xc0]⟩,
  ⟨O.HED_OPEN, 0x40, 64, 0x4, 1, none, [
    fd 0 16 .rwl 0xfa 0xc0 false (.range 0 32766)]⟩,
  ⟨O.HED_STATE, 0x40, 64, 0x4, 1, none, [
    fd 0 3 .ro 0 0x0, fd 3 1 .ro 0 0x0, fd 4 2 .ro 0 0x0, fd 6 2 .ro 0 0x0, fd 8 1 .ro 0 0x0,
    fd 9 1 .ro 0 0x0, fd 10 1 .ro 0 0x0, fd 16 8 .ro 0 0x0, fd 24 7 .ro 0 0x0]⟩,
  ⟨O.HED_FAULT, 0x40, 64, 0x4, 1, some 24, [
    fd 0 10 .w1c 0 0xc0, fd 24 8 .ro 0 0xc0]⟩,
  ⟨O.HED_LAST, 0x40, 64, 0x4, 1, none, [
    fd 0 16 .ro 0 0xc0, fd 16 1 .ro 0 0xc0, fd 17 1 .ro 0 0xc0, fd 18 1 .ro 0 0xc0, fd 19 1 .ro 0 0xc0]⟩]

def regDefsHED1 : List RegDef := [
  ⟨O.HED_LAST_T, 0x40, 64, 0x4, 1, none, [
    fd 0 24 .ro 0 0xc0, fd 24 8 .ro 0 0xc0]⟩,
  ⟨O.HED_CNT_AB, 0x40, 64, 0x4, 1, none, [
    fd 0 32 .rws 0 0xc0]⟩,
  ⟨O.HED_CNT_BA, 0x40, 64, 0x4, 1, none, [
    fd 0 32 .rws 0 0xc0]⟩,
  ⟨O.HED_STAT_CNT, 0x40, 64, 0x4, 1, some 24, [
    fd 0 1 .w1c 0 0xc0, fd 1 1 .w1c 0 0xc0, fd 8 8 .ro 0 0xc0, fd 16 8 .ro 0 0xc0, fd 24 8 .ro 0 0xc0]⟩]

/-- The registers of block HED, in offset order. -/
def regDefsHED : List RegDef := regDefsHED0 ++ regDefsHED1

def F.HED_CFG.ENABLE (i : Nat) : Fld := ⟨.hed, 0x0 + 0x40 * i, 0, 1⟩
def F.HED_CFG.GAMBIT_EN (i : Nat) : Fld := ⟨.hed, 0x0 + 0x40 * i, 1, 1⟩
def F.HED_CFG.DIR_DEFAULT (i : Nat) : Fld := ⟨.hed, 0x0 + 0x40 * i, 2, 1⟩
def F.HED_CFG.DIR_FOLLOW (i : Nat) : Fld := ⟨.hed, 0x0 + 0x40 * i, 3, 1⟩
def F.HED_CFG.PORT (i : Nat) : Fld := ⟨.hed, 0x0 + 0x40 * i, 24, 2⟩
def F.HED_CFG.PARTNER_HEAD (i : Nat) : Fld := ⟨.hed, 0x0 + 0x40 * i, 26, 5⟩
def F.HED_CFG.CH_A (i : Nat) : Fld := ⟨.hed, 0x0 + 0x40 * i, 8, 6⟩
def F.HED_CFG.CH_B (i : Nat) : Fld := ⟨.hed, 0x0 + 0x40 * i, 16, 6⟩
def F.HED_TIME.T_ON (i : Nat) : Fld := ⟨.hed, 0x4 + 0x40 * i, 0, 10⟩
def F.HED_TIME.T_OFF (i : Nat) : Fld := ⟨.hed, 0x4 + 0x40 * i, 16, 10⟩
def F.HED_GEOM.SPACING_MM (i : Nat) : Fld := ⟨.hed, 0x8 + 0x40 * i, 0, 9⟩
def F.HED_GEOM.GAMBIT_WIN_MS (i : Nat) : Fld := ⟨.hed, 0x8 + 0x40 * i, 16, 6⟩
def F.HED_GEOM.TRAIN_GAP (i : Nat) : Fld := ⟨.hed, 0x8 + 0x40 * i, 24, 8⟩
def F.HED_LIMIT.T_STUCK (i : Nat) : Fld := ⟨.hed, 0xc + 0x40 * i, 0, 12⟩
def F.HED_LIMIT.T_OVR (i : Nat) : Fld := ⟨.hed, 0xc + 0x40 * i, 16, 8⟩
def F.HED_LIMIT.BAND_TIME (i : Nat) : Fld := ⟨.hed, 0xc + 0x40 * i, 24, 8⟩
def F.HED_THR_DAMP.DAMP_A (i : Nat) : Fld := ⟨.hed, 0x10 + 0x40 * i, 0, 16⟩
def F.HED_THR_DAMP.DAMP_B (i : Nat) : Fld := ⟨.hed, 0x10 + 0x40 * i, 16, 16⟩
def F.HED_THR_REL.REL_A (i : Nat) : Fld := ⟨.hed, 0x14 + 0x40 * i, 0, 16⟩
def F.HED_THR_REL.REL_B (i : Nat) : Fld := ⟨.hed, 0x14 + 0x40 * i, 16, 16⟩
def F.HED_BAND_A.LO (i : Nat) : Fld := ⟨.hed, 0x18 + 0x40 * i, 0, 16⟩
def F.HED_BAND_A.HI (i : Nat) : Fld := ⟨.hed, 0x18 + 0x40 * i, 16, 16⟩
def F.HED_BAND_B.LO (i : Nat) : Fld := ⟨.hed, 0x1c + 0x40 * i, 0, 16⟩
def F.HED_BAND_B.HI (i : Nat) : Fld := ⟨.hed, 0x1c + 0x40 * i, 16, 16⟩
def F.HED_OPEN.OPEN_CODE (i : Nat) : Fld := ⟨.hed, 0x20 + 0x40 * i, 0, 16⟩
def F.HED_STATE.PATTERN (i : Nat) : Fld := ⟨.hed, 0x24 + 0x40 * i, 0, 3⟩
def F.HED_STATE.ENTRY_B (i : Nat) : Fld := ⟨.hed, 0x24 + 0x40 * i, 3, 1⟩
def F.HED_STATE.SYS_A (i : Nat) : Fld := ⟨.hed, 0x24 + 0x40 * i, 4, 2⟩
def F.HED_STATE.SYS_B (i : Nat) : Fld := ⟨.hed, 0x24 + 0x40 * i, 6, 2⟩
def F.HED_STATE.GAMBIT_OPEN (i : Nat) : Fld := ⟨.hed, 0x24 + 0x40 * i, 8, 1⟩
def F.HED_STATE.CONFIRMED (i : Nat) : Fld := ⟨.hed, 0x24 + 0x40 * i, 9, 1⟩
def F.HED_STATE.SINGLE (i : Nat) : Fld := ⟨.hed, 0x24 + 0x40 * i, 10, 1⟩
def F.HED_STATE.GAMBIT_ID (i : Nat) : Fld := ⟨.hed, 0x24 + 0x40 * i, 16, 8⟩
def F.HED_STATE.QUEUE (i : Nat) : Fld := ⟨.hed, 0x24 + 0x40 * i, 24, 7⟩
def F.HED_FAULT.FLAGS (i : Nat) : Fld := ⟨.hed, 0x28 + 0x40 * i, 0, 10⟩
def F.HED_FAULT.SET_COUNT (i : Nat) : Fld := ⟨.hed, 0x28 + 0x40 * i, 24, 8⟩
def F.HED_LAST.SPEED (i : Nat) : Fld := ⟨.hed, 0x2c + 0x40 * i, 0, 16⟩
def F.HED_LAST.DIR (i : Nat) : Fld := ⟨.hed, 0x2c + 0x40 * i, 16, 1⟩
def F.HED_LAST.FAST (i : Nat) : Fld := ⟨.hed, 0x2c + 0x40 * i, 17, 1⟩
def F.HED_LAST.SLOW (i : Nat) : Fld := ⟨.hed, 0x2c + 0x40 * i, 18, 1⟩
def F.HED_LAST.SINGLE (i : Nat) : Fld := ⟨.hed, 0x2c + 0x40 * i, 19, 1⟩
def F.HED_LAST_T.DAMP_US (i : Nat) : Fld := ⟨.hed, 0x30 + 0x40 * i, 0, 24⟩
def F.HED_LAST_T.GAMBIT_ID (i : Nat) : Fld := ⟨.hed, 0x30 + 0x40 * i, 24, 8⟩
def F.HED_CNT_AB.COUNT (i : Nat) : Fld := ⟨.hed, 0x34 + 0x40 * i, 0, 32⟩
def F.HED_CNT_BA.COUNT (i : Nat) : Fld := ⟨.hed, 0x38 + 0x40 * i, 0, 32⟩
def F.HED_STAT_CNT.WRAP_AB (i : Nat) : Fld := ⟨.hed, 0x3c + 0x40 * i, 0, 1⟩
def F.HED_STAT_CNT.WRAP_BA (i : Nat) : Fld := ⟨.hed, 0x3c + 0x40 * i, 1, 1⟩
def F.HED_STAT_CNT.CANCELS (i : Nat) : Fld := ⟨.hed, 0x3c + 0x40 * i, 8, 8⟩
def F.HED_STAT_CNT.PATTERNS (i : Nat) : Fld := ⟨.hed, 0x3c + 0x40 * i, 16, 8⟩
def F.HED_STAT_CNT.SET_COUNT (i : Nat) : Fld := ⟨.hed, 0x3c + 0x40 * i, 24, 8⟩

def O.SEC_RESTORE_CFG : Nat := 0x0
def O.SEC_SNAP_STAT : Nat := 0x4
def O.SEC_CLEAR_MAP_LO : Nat := 0x8
def O.SEC_CLEAR_MAP_HI : Nat := 0xc
def O.SEC_DIST_MAP_LO : Nat := 0x10
def O.SEC_DIST_MAP_HI : Nat := 0x14
def O.SEC_OFFER_MAP_LO : Nat := 0x18
def O.SEC_OFFER_MAP_HI : Nat := 0x1c
def O.SEC_CFG : Nat := 0x1000
def O.SEC_BND_LO : Nat := 0x1004
def O.SEC_BND_HI : Nat := 0x1008
def O.SEC_RESET : Nat := 0x100c
def O.SEC_NOTRAIN : Nat := 0x1010
def O.SEC_STATE : Nat := 0x1014
def O.SEC_CAUSE : Nat := 0x1018
def O.SEC_OFFER : Nat := 0x101c
def O.SEC_LAST_RESET : Nat := 0x1020
def O.SEC_RESET_REF : Nat := 0x1024
def O.SEC_AXLES_IN : Nat := 0x1028
def O.SEC_STAT_CNT : Nat := 0x102c

def regDefsSEC0 : List RegDef := [
  ⟨O.SEC_RESTORE_CFG, 0x100000, 1, 0x4, 1, none, [
    fd 0 16 .rwl 0x258 0xc0]⟩,
  ⟨O.SEC_SNAP_STAT, 0x100000, 1, 0x4, 1, none, [
    fd 0 1 .ro 0 0xc0, fd 1 1 .ro 0 0xc0, fd 16 16 .ro 0 0xc0]⟩,
  ⟨O.SEC_CLEAR_MAP_LO, 0x100000, 1, 0x4, 1, none, [
    fd 0 32 .ro 0 0xc0]⟩,
  ⟨O.SEC_CLEAR_MAP_HI, 0x100000, 1, 0x4, 1, none, [
    fd 0 32 .ro 0 0xc0]⟩,
  ⟨O.SEC_DIST_MAP_LO, 0x100000, 1, 0x4, 1, none, [
    fd 0 32 .ro 0 0xc0]⟩,
  ⟨O.SEC_DIST_MAP_HI, 0x100000, 1, 0x4, 1, none, [
    fd 0 32 .ro 0 0xc0]⟩,
  ⟨O.SEC_OFFER_MAP_LO, 0x100000, 1, 0x4, 1, none, [
    fd 0 32 .ro 0 0xc0]⟩,
  ⟨O.SEC_OFFER_MAP_HI, 0x100000, 1, 0x4, 1, none, [
    fd 0 32 .ro 0 0xc0]⟩,
  ⟨O.SEC_CFG, 0x40, 64, 0x4, 1, none, [
    fd 0 1 .rwl 0 0xc0, fd 1 1 .rwl 0 0xc0, fd 4 10 .rwl 0x64 0xc0 false (.range 0 1000),
    fd 16 12 .rwl 0x3ff 0xc0 false (.range 1 4095)]⟩,
  ⟨O.SEC_BND_LO, 0x40, 64, 0x4, 1, none, [
    fd 0 6 .rwl 0 0xc0 false .none 4 8, fd 6 1 .rwl 0 0xc0 false .none 4 8,
    fd 7 1 .rwl 0 0xc0 false .none 4 8]⟩,
  ⟨O.SEC_BND_HI, 0x40, 64, 0x4, 1, none, [
    fd 0 6 .rwl 0 0xc0 false .none 4 8, fd 6 1 .rwl 0 0xc0 false .none 4 8,
    fd 7 1 .rwl 0 0xc0 false .none 4 8]⟩,
  ⟨O.SEC_RESET, 0x40, 64, 0x4, 1, none, [
    fd 0 1 .rwl 1 0xc0, fd 1 1 .rwl 0 0xc0, fd 2 1 .rwl 0 0xc0, fd 4 1 .rwl 0 0xc0, fd 5 1 .rwl 0 0xc0,
    fd 6 1 .rwl 0 0xc0, fd 8 4 .rwl 0 0xc0, fd 12 2 .rwl 1 0xc0 false (.range 1 3), fd 16 16 .rwl 0 0xc0]⟩]

def regDefsSEC1 : List RegDef := [
  ⟨O.SEC_NOTRAIN, 0x40, 64, 0x4, 1, none, [
    fd 0 12 .rwl 0x3c 0xc0, fd 16 4 .rwl 0 0xc0, fd 20 1 .rwl 0 0xc0]⟩,
  ⟨O.SEC_STATE, 0x40, 64, 0x4, 1, none, [
    fd 0 3 .ro 2 0xc0, fd 3 1 .ro 0 0xc0, fd 4 1 .ro 0 0xc0, fd 5 1 .ro 0 0xc0, fd 6 1 .ro 0 0xc0,
    fd 8 4 .ro 0 0xc0, fd 16 13 .ro 0 0xc0]⟩,
  ⟨O.SEC_CAUSE, 0x40, 64, 0x4, 1, some 24, [
    fd 0 9 .w1c 1 0xc0, fd 24 8 .ro 0 0xc0]⟩,
  ⟨O.SEC_OFFER, 0x40, 64, 0x4, 1, none, [
    fd 0 13 .ro 0 0xc0, fd 13 3 .ro 0 0xc0]⟩,
  ⟨O.SEC_LAST_RESET, 0x40, 64, 0x4, 1, none, [
    fd 0 2 .ro 0 0xc0, fd 2 2 .ro 0 0xc0, fd 4 1 .ro 0 0xc0, fd 8 8 .ro 0 0xc0]⟩,
  ⟨O.SEC_RESET_REF, 0x40, 64, 0x4, 1, none, [
    fd 0 32 .ro 0 0xc0]⟩,
  ⟨O.SEC_AXLES_IN, 0x40, 64, 0x4, 1, none, [
    fd 0 32 .ro 0 0xc0]⟩,
  ⟨O.SEC_STAT_CNT, 0x40, 64, 0x4, 1, none, [
    fd 0 16 .ro 0 0xc0, fd 16 16 .ro 0 0xc0]⟩]

/-- The registers of block SEC, in offset order. -/
def regDefsSEC : List RegDef := regDefsSEC0 ++ regDefsSEC1

def F.SEC_RESTORE_CFG.RESTORE_OUTAGE_S : Fld := ⟨.sec, 0x0, 0, 16⟩
def F.SEC_SNAP_STAT.SNAP_OFFERED : Fld := ⟨.sec, 0x4, 0, 1⟩
def F.SEC_SNAP_STAT.SNAP_CAUSE_S : Fld := ⟨.sec, 0x4, 1, 1⟩
def F.SEC_SNAP_STAT.OUTAGE_S : Fld := ⟨.sec, 0x4, 16, 16⟩
def F.SEC_CLEAR_MAP_LO.V : Fld := ⟨.sec, 0x8, 0, 32⟩
def F.SEC_CLEAR_MAP_HI.V : Fld := ⟨.sec, 0xc, 0, 32⟩
def F.SEC_DIST_MAP_LO.V : Fld := ⟨.sec, 0x10, 0, 32⟩
def F.SEC_DIST_MAP_HI.V : Fld := ⟨.sec, 0x14, 0, 32⟩
def F.SEC_OFFER_MAP_LO.V : Fld := ⟨.sec, 0x18, 0, 32⟩
def F.SEC_OFFER_MAP_HI.V : Fld := ⟨.sec, 0x1c, 0, 32⟩
def F.SEC_CFG.ENABLE (i : Nat) : Fld := ⟨.sec, 0x1000 + 0x40 * i, 0, 1⟩
def F.SEC_CFG.CR_AS_CLEAR (i : Nat) : Fld := ⟨.sec, 0x1000 + 0x40 * i, 1, 1⟩
def F.SEC_CFG.CONFIRM (i : Nat) : Fld := ⟨.sec, 0x1000 + 0x40 * i, 4, 10⟩
def F.SEC_CFG.MAX_COUNT (i : Nat) : Fld := ⟨.sec, 0x1000 + 0x40 * i, 16, 12⟩
def F.SEC_BND_LO.SLOT (i m : Nat) : Fld := ⟨.sec, 0x1004 + 0x40 * i, 0 + 8 * m, 6⟩
def F.SEC_BND_LO.SIGN (i m : Nat) : Fld := ⟨.sec, 0x1004 + 0x40 * i, 6 + 8 * m, 1⟩
def F.SEC_BND_LO.VALID (i m : Nat) : Fld := ⟨.sec, 0x1004 + 0x40 * i, 7 + 8 * m, 1⟩
def F.SEC_BND_HI.SLOT (i m : Nat) : Fld := ⟨.sec, 0x1008 + 0x40 * i, 0 + 8 * m, 6⟩
def F.SEC_BND_HI.SIGN (i m : Nat) : Fld := ⟨.sec, 0x1008 + 0x40 * i, 6 + 8 * m, 1⟩
def F.SEC_BND_HI.VALID (i m : Nat) : Fld := ⟨.sec, 0x1008 + 0x40 * i, 7 + 8 * m, 1⟩
def F.SEC_RESET.SWEEP_EN (i : Nat) : Fld := ⟨.sec, 0x100c + 0x40 * i, 0, 1⟩
def F.SEC_RESET.DIRECT_EN (i : Nat) : Fld := ⟨.sec, 0x100c + 0x40 * i, 1, 1⟩
def F.SEC_RESET.RESTORE_EN (i : Nat) : Fld := ⟨.sec, 0x100c + 0x40 * i, 2, 1⟩
def F.SEC_RESET.AUTH_PANEL (i : Nat) : Fld := ⟨.sec, 0x100c + 0x40 * i, 4, 1⟩
def F.SEC_RESET.AUTH_FW (i : Nat) : Fld := ⟨.sec, 0x100c + 0x40 * i, 5, 1⟩
def F.SEC_RESET.AUTH_PERMIT (i : Nat) : Fld := ⟨.sec, 0x100c + 0x40 * i, 6, 1⟩
def F.SEC_RESET.PANEL_FB (i : Nat) : Fld := ⟨.sec, 0x100c + 0x40 * i, 8, 4⟩
def F.SEC_RESET.PANEL_PROC (i : Nat) : Fld := ⟨.sec, 0x100c + 0x40 * i, 12, 2⟩
def F.SEC_RESET.SWEEP_TIMEOUT_S (i : Nat) : Fld := ⟨.sec, 0x100c + 0x40 * i, 16, 16⟩
def F.SEC_NOTRAIN.NOTRAIN_S (i : Nat) : Fld := ⟨.sec, 0x1010 + 0x40 * i, 0, 12⟩
def F.SEC_NOTRAIN.NOTRAIN_FB (i : Nat) : Fld := ⟨.sec, 0x1010 + 0x40 * i, 16, 4⟩
def F.SEC_NOTRAIN.NOTRAIN_FB_EN (i : Nat) : Fld := ⟨.sec, 0x1010 + 0x40 * i, 20, 1⟩
def F.SEC_STATE.STATE (i : Nat) : Fld := ⟨.sec, 0x1014 + 0x40 * i, 0, 3⟩
def F.SEC_STATE.ENTERED (i : Nat) : Fld := ⟨.sec, 0x1014 + 0x40 * i, 3, 1⟩
def F.SEC_STATE.OFFERED (i : Nat) : Fld := ⟨.sec, 0x1014 + 0x40 * i, 4, 1⟩
def F.SEC_STATE.IN_SCOPE (i : Nat) : Fld := ⟨.sec, 0x1014 + 0x40 * i, 5, 1⟩
def F.SEC_STATE.TIMING (i : Nat) : Fld := ⟨.sec, 0x1014 + 0x40 * i, 6, 1⟩
def F.SEC_STATE.PROV (i : Nat) : Fld := ⟨.sec, 0x1014 + 0x40 * i, 8, 4⟩
def F.SEC_STATE.COUNT (i : Nat) : Fld := ⟨.sec, 0x1014 + 0x40 * i, 16, 13⟩
def F.SEC_CAUSE.CAUSES (i : Nat) : Fld := ⟨.sec, 0x1018 + 0x40 * i, 0, 9⟩
def F.SEC_CAUSE.SET_COUNT (i : Nat) : Fld := ⟨.sec, 0x1018 + 0x40 * i, 24, 8⟩
def F.SEC_OFFER.RET_COUNT (i : Nat) : Fld := ⟨.sec, 0x101c + 0x40 * i, 0, 13⟩
def F.SEC_OFFER.RET_STATE (i : Nat) : Fld := ⟨.sec, 0x101c + 0x40 * i, 13, 3⟩
def F.SEC_LAST_RESET.PROC (i : Nat) : Fld := ⟨.sec, 0x1020 + 0x40 * i, 0, 2⟩
def F.SEC_LAST_RESET.SOURCE (i : Nat) : Fld := ⟨.sec, 0x1020 + 0x40 * i, 2, 2⟩
def F.SEC_LAST_RESET.REFUSED (i : Nat) : Fld := ⟨.sec, 0x1020 + 0x40 * i, 4, 1⟩
def F.SEC_LAST_RESET.DETAIL (i : Nat) : Fld := ⟨.sec, 0x1020 + 0x40 * i, 8, 8⟩
def F.SEC_RESET_REF.REFERENCE (i : Nat) : Fld := ⟨.sec, 0x1024 + 0x40 * i, 0, 32⟩
def F.SEC_AXLES_IN.AXLES_IN (i : Nat) : Fld := ⟨.sec, 0x1028 + 0x40 * i, 0, 32⟩
def F.SEC_STAT_CNT.RESETS (i : Nat) : Fld := ⟨.sec, 0x102c + 0x40 * i, 0, 16⟩
def F.SEC_STAT_CNT.REFUSALS (i : Nat) : Fld := ⟨.sec, 0x102c + 0x40 * i, 16, 16⟩

def O.WIN_CFG : Nat := 0x0
def O.WIN_THR : Nat := 0x4
def O.WIN_BLANK : Nat := 0x8
def O.WIN_STAT : Nat := 0xc
def O.WIN_FLAG : Nat := 0x10
def O.WIN_CAP : Nat := 0x14
def O.WIN_TRIP_MAP : Nat := 0x1000
def O.WIN_ST_CFG : Nat := 0x1080
def O.WIN_ST_FLAG : Nat := 0x1084
def O.WIN_ST_CNT : Nat := 0x1088
def O.WIN_DAC_TOL : Nat := 0x108c
def O.WIN_ST_FAILMAP : Nat := 0x1090
def O.WIN_DAC_FAILMAP : Nat := 0x10a0
def O.WIN_DAC_LAST : Nat := 0x10b0
def O.WIN_ST_LAST : Nat := 0x10b4
def O.WIN_TRIP_STAT : Nat := 0x10b8
def O.WIN_TRIP_FLAG : Nat := 0x10bc

def regDefsWIN0 : List RegDef := [
  ⟨O.WIN_CFG, 0x20, 128, 0x4, 1, none, [
    fd 0 1 .rwl 0 0x80 true, fd 1 2 .rwl 0 0x80 true, fd 3 1 .rwl 0 0x80 true,
    fd 4 2 .rwl 0 0x80 true (.over 2 0), fd 6 2 .rwl 0 0x80 true (.over 2 0), fd 8 1 .rwl 0 0x80 true,
    fd 9 1 .rwl 0 0x80 true, fd 10 1 .rwl 0 0x80 true, fd 11 1 .rwl 1 0x80 true, fd 12 1 .rwl 0 0x80 true,
    fd 13 1 .rwl 1 0x80 true]⟩,
  ⟨O.WIN_THR, 0x20, 128, 0x4, 1, none, [
    fd 0 10 .rwl 0x3ff 0x80 true, fd 16 10 .rwl 0 0x80 true]⟩,
  ⟨O.WIN_BLANK, 0x20, 128, 0x4, 1, none, [
    fd 0 8 .rwl 0 0x80 true, fd 8 8 .rwl 0 0x80 true, fd 16 6 .rwl 0 0x80 true, fd 22 1 .rwl 0 0x80 true]⟩,
  ⟨O.WIN_STAT, 0x20, 128, 0x4, 1, none, [
    fd 0 1 .ro 0 0x0, fd 1 1 .ro 0 0x0, fd 2 1 .ro 0 0x0, fd 3 1 .ro 0 0x0, fd 4 1 .ro 0 0x0,
    fd 6 10 .ro 0 0x0, fd 16 1 .ro 0 0x0, fd 17 1 .ro 0 0x0, fd 24 8 .ro 0 0x80 true]⟩,
  ⟨O.WIN_FLAG, 0x20, 128, 0x4, 1, some 24, [
    fd 0 1 .w1c 0 0x80 true, fd 1 1 .w1c 0 0x80 true, fd 2 1 .w1c 0 0x80 true, fd 3 1 .w1c 0 0x80 true,
    fd 4 1 .w1c 0 0x80 true, fd 5 1 .w1c 0 0x80 true, fd 24 8 .ro 0 0x80 true]⟩,
  ⟨O.WIN_CAP, 0x20, 128, 0x4, 1, none, [
    fd 0 7 .ro 0 0x80 true, fd 7 25 .ro 0 0x80 true]⟩,
  ⟨O.WIN_TRIP_MAP, 0x4, 32, 0x4, 1, none, [
    fd 0 4 .rwl 0 0xc0 false .none 4 8, fd 4 1 .rwl 0 0xc0 false .none 4 8,
    fd 5 1 .rwl 0 0xc0 false .none 4 8]⟩,
  ⟨O.WIN_ST_CFG, 0x100000, 1, 0x4, 1, none, [
    fd 0 1 .rwl 1 0xc0, fd 1 1 .rwl 0 0xc0, fd 2 1 .rwl 1 0xc0,
    fd 16 14 .rwl 0x3e8 0xc0 false (.range 100 10000)]⟩,
  ⟨O.WIN_ST_FLAG, 0x100000, 1, 0x4, 1, some 24, [
    fd 0 1 .w1c 0 0xc0, fd 1 1 .w1c 0 0xc0, fd 2 1 .w1c 0 0xc0, fd 24 8 .ro 0 0xc0]⟩,
  ⟨O.WIN_ST_CNT, 0x100000, 1, 0x4, 1, none, [
    fd 0 16 .ro 0 0xc0, fd 16 16 .ro 0 0xc0]⟩,
  ⟨O.WIN_DAC_TOL, 0x100000, 1, 0x4, 1, none, [
    fd 0 6 .rwl 4 0xc0 false (.range 1 32)]⟩,
  ⟨O.WIN_ST_FAILMAP, 0x4, 4, 0x4, 1, none, [
    fd 0 32 .ro 0 0xc0]⟩]

def regDefsWIN1 : List RegDef := [
  ⟨O.WIN_DAC_FAILMAP, 0x4, 4, 0x4, 1, none, [
    fd 0 32 .ro 0 0xc0]⟩,
  ⟨O.WIN_DAC_LAST, 0x100000, 1, 0x4, 1, none, [
    fd 0 7 .ro 0 0xc0, fd 7 1 .ro 0 0xc0, fd 16 10 .ro 0 0xc0]⟩,
  ⟨O.WIN_ST_LAST, 0x100000, 1, 0x4, 1, none, [
    fd 0 7 .ro 0 0xc0, fd 8 3 .ro 0 0xc0, fd 11 1 .ro 0 0xc0]⟩,
  ⟨O.WIN_TRIP_STAT, 0x100000, 1, 0x4, 1, none, [
    fd 0 16 .ro 0 0x0]⟩,
  ⟨O.WIN_TRIP_FLAG, 0x100000, 1, 0x4, 1, some 24, [
    fd 0 16 .w1c 0 0xc0, fd 24 8 .ro 0 0xc0]⟩]

/-- The registers of block WIN, in offset order. -/
def regDefsWIN : List RegDef := regDefsWIN0 ++ regDefsWIN1

def F.WIN_CFG.ENABLE (i : Nat) : Fld := ⟨.win, 0x0 + 0x20 * i, 0, 1⟩
def F.WIN_CFG.HYST (i : Nat) : Fld := ⟨.win, 0x0 + 0x20 * i, 1, 2⟩
def F.WIN_CFG.LATCH_MODE (i : Nat) : Fld := ⟨.win, 0x0 + 0x20 * i, 3, 1⟩
def F.WIN_CFG.QUAL_HI (i : Nat) : Fld := ⟨.win, 0x0 + 0x20 * i, 4, 2⟩
def F.WIN_CFG.QUAL_LO (i : Nat) : Fld := ⟨.win, 0x0 + 0x20 * i, 6, 2⟩
def F.WIN_CFG.EVT_EN (i : Nat) : Fld := ⟨.win, 0x0 + 0x20 * i, 8, 1⟩
def F.WIN_CFG.CAP_HI (i : Nat) : Fld := ⟨.win, 0x0 + 0x20 * i, 9, 1⟩
def F.WIN_CFG.CAP_LO (i : Nat) : Fld := ⟨.win, 0x0 + 0x20 * i, 10, 1⟩
def F.WIN_CFG.CAP_ACT (i : Nat) : Fld := ⟨.win, 0x0 + 0x20 * i, 11, 1⟩
def F.WIN_CFG.CAP_INACT (i : Nat) : Fld := ⟨.win, 0x0 + 0x20 * i, 12, 1⟩
def F.WIN_CFG.ST_EN (i : Nat) : Fld := ⟨.win, 0x0 + 0x20 * i, 13, 1⟩
def F.WIN_THR.UPPER (i : Nat) : Fld := ⟨.win, 0x4 + 0x20 * i, 0, 10⟩
def F.WIN_THR.LOWER (i : Nat) : Fld := ⟨.win, 0x4 + 0x20 * i, 16, 10⟩
def F.WIN_BLANK.LEAD (i : Nat) : Fld := ⟨.win, 0x8 + 0x20 * i, 0, 8⟩
def F.WIN_BLANK.TRAIL (i : Nat) : Fld := ⟨.win, 0x8 + 0x20 * i, 8, 8⟩
def F.WIN_BLANK.PG_SEL (i : Nat) : Fld := ⟨.win, 0x8 + 0x20 * i, 16, 6⟩
def F.WIN_BLANK.LINK_EN (i : Nat) : Fld := ⟨.win, 0x8 + 0x20 * i, 22, 1⟩
def F.WIN_STAT.HI (i : Nat) : Fld := ⟨.win, 0xc + 0x20 * i, 0, 1⟩
def F.WIN_STAT.LO (i : Nat) : Fld := ⟨.win, 0xc + 0x20 * i, 1, 1⟩
def F.WIN_STAT.BLANKED (i : Nat) : Fld := ⟨.win, 0xc + 0x20 * i, 2, 1⟩
def F.WIN_STAT.FAULTED (i : Nat) : Fld := ⟨.win, 0xc + 0x20 * i, 3, 1⟩
def F.WIN_STAT.SETTLING (i : Nat) : Fld := ⟨.win, 0xc + 0x20 * i, 4, 1⟩
def F.WIN_STAT.VERDICT (i : Nat) : Fld := ⟨.win, 0xc + 0x20 * i, 6, 10⟩
def F.WIN_STAT.CAP_ACT_LAST (i : Nat) : Fld := ⟨.win, 0xc + 0x20 * i, 16, 1⟩
def F.WIN_STAT.CAP_HI_LAST (i : Nat) : Fld := ⟨.win, 0xc + 0x20 * i, 17, 1⟩
def F.WIN_STAT.SUPPRESSED (i : Nat) : Fld := ⟨.win, 0xc + 0x20 * i, 24, 8⟩
def F.WIN_FLAG.LATCH_HI (i : Nat) : Fld := ⟨.win, 0x10 + 0x20 * i, 0, 1⟩
def F.WIN_FLAG.LATCH_LO (i : Nat) : Fld := ⟨.win, 0x10 + 0x20 * i, 1, 1⟩
def F.WIN_FLAG.TRIP (i : Nat) : Fld := ⟨.win, 0x10 + 0x20 * i, 2, 1⟩
def F.WIN_FLAG.ST_FAIL (i : Nat) : Fld := ⟨.win, 0x10 + 0x20 * i, 3, 1⟩
def F.WIN_FLAG.DAC_FAIL (i : Nat) : Fld := ⟨.win, 0x10 + 0x20 * i, 4, 1⟩
def F.WIN_FLAG.CONFIG (i : Nat) : Fld := ⟨.win, 0x10 + 0x20 * i, 5, 1⟩
def F.WIN_FLAG.SET_COUNT (i : Nat) : Fld := ⟨.win, 0x10 + 0x20 * i, 24, 8⟩
def F.WIN_CAP.FRAC (i : Nat) : Fld := ⟨.win, 0x14 + 0x20 * i, 0, 7⟩
def F.WIN_CAP.ST (i : Nat) : Fld := ⟨.win, 0x14 + 0x20 * i, 7, 25⟩
def F.WIN_TRIP_MAP.GROUP (i m : Nat) : Fld := ⟨.win, 0x1000 + 0x4 * i, 0 + 8 * m, 4⟩
def F.WIN_TRIP_MAP.TRIP_HI (i m : Nat) : Fld := ⟨.win, 0x1000 + 0x4 * i, 4 + 8 * m, 1⟩
def F.WIN_TRIP_MAP.TRIP_LO (i m : Nat) : Fld := ⟨.win, 0x1000 + 0x4 * i, 5 + 8 * m, 1⟩
def F.WIN_ST_CFG.TEST_EN : Fld := ⟨.win, 0x1080, 0, 1⟩
def F.WIN_ST_CFG.INSERT_EN : Fld := ⟨.win, 0x1080, 1, 1⟩
def F.WIN_ST_CFG.READBACK_EN : Fld := ⟨.win, 0x1080, 2, 1⟩
def F.WIN_ST_CFG.PERIOD_MS : Fld := ⟨.win, 0x1080, 16, 14⟩
def F.WIN_ST_FLAG.MISSED : Fld := ⟨.win, 0x1084, 0, 1⟩
def F.WIN_ST_FLAG.FAIL : Fld := ⟨.win, 0x1084, 1, 1⟩
def F.WIN_ST_FLAG.DAC_FAIL : Fld := ⟨.win, 0x1084, 2, 1⟩
def F.WIN_ST_FLAG.SET_COUNT : Fld := ⟨.win, 0x1084, 24, 8⟩
def F.WIN_ST_CNT.TESTS : Fld := ⟨.win, 0x1088, 0, 16⟩
def F.WIN_ST_CNT.FAILS : Fld := ⟨.win, 0x1088, 16, 16⟩
def F.WIN_DAC_TOL.DAC_TOL : Fld := ⟨.win, 0x108c, 0, 6⟩
def F.WIN_ST_FAILMAP.FAILED (i : Nat) : Fld := ⟨.win, 0x1090 + 0x4 * i, 0, 32⟩
def F.WIN_DAC_FAILMAP.FAILED (i : Nat) : Fld := ⟨.win, 0x10a0 + 0x4 * i, 0, 32⟩
def F.WIN_DAC_LAST.MONITOR : Fld := ⟨.win, 0x10b0, 0, 7⟩
def F.WIN_DAC_LAST.UPPER : Fld := ⟨.win, 0x10b0, 7, 1⟩
def F.WIN_DAC_LAST.CODE : Fld := ⟨.win, 0x10b0, 16, 10⟩
def F.WIN_ST_LAST.MONITOR : Fld := ⟨.win, 0x10b4, 0, 7⟩
def F.WIN_ST_LAST.STEP : Fld := ⟨.win, 0x10b4, 8, 3⟩
def F.WIN_ST_LAST.PASS : Fld := ⟨.win, 0x10b4, 11, 1⟩
def F.WIN_TRIP_STAT.LINE : Fld := ⟨.win, 0x10b8, 0, 16⟩
def F.WIN_TRIP_FLAG.SEEN : Fld := ⟨.win, 0x10bc, 0, 16⟩
def F.WIN_TRIP_FLAG.SET_COUNT : Fld := ⟨.win, 0x10bc, 24, 8⟩

def O.PGN_CFG : Nat := 0x0
def O.PGN_PERIOD : Nat := 0x4
def O.PGN_ON : Nat := 0x8
def O.PGN_PHASE : Nat := 0xc
def O.PGN_DEAD : Nat := 0x10
def O.PGN_MINP : Nat := 0x14
def O.PGN_STAT : Nat := 0x18
def O.PGN_FLAG : Nat := 0x1c
def O.PGN_CNT_SHORT : Nat := 0x20
def O.PGN_CNT_STRETCH : Nat := 0x24
def O.PGN_TRIP_CNT : Nat := 0x28
def O.PGN_TRIP_T : Nat := 0x2c
def O.PGN_SSO_CFG : Nat := 0x1000
def O.PGN_SSO_LOOP : Nat := 0x1004
def O.PGN_SSO_FREQ : Nat := 0x1008
def O.PGN_SSO_STAT : Nat := 0x100c

def regDefsPGN0 : List RegDef := [
  ⟨O.PGN_CFG, 0x40, 64, 0x4, 1, none, [
    fd 0 1 .rwl 0 0xc0, fd 1 1 .rwl 0 0xc0, fd 2 1 .rwl 1 0xc0, fd 4 1 .rwl 0 0xc0, fd 8 4 .rwl 0 0xc0,
    fd 12 1 .rwl 0 0xc0, fd 13 3 .rwl 0 0xc0, fd 16 1 .rwl 0 0xc0, fd 20 4 .rwl 0 0xc0,
    fdI 3 1 .rwl (fun i => if i < 48 then 0 else 1) 0xc0]⟩,
  ⟨O.PGN_PERIOD, 0x40, 64, 0x4, 1, none, [
    fd 0 24 .rwl 0x2710 0xc0 false (.range 1 16777215)]⟩,
  ⟨O.PGN_ON, 0x40, 64, 0x4, 1, none, [
    fd 0 24 .ro 0 0xc0]⟩,
  ⟨O.PGN_PHASE, 0x40, 64, 0x4, 1, none, [
    fd 0 24 .rwl 0 0xc0]⟩,
  ⟨O.PGN_DEAD, 0x40, 64, 0x4, 1, none, [
    fd 0 11 .rwl 0 0xc0, fd 16 11 .rwl 0 0xc0]⟩,
  ⟨O.PGN_MINP, 0x40, 64, 0x4, 1, none, [
    fd 0 12 .rwl 2 0xc0 false (.range 2 4095), fd 16 10 .rwl 0xa 0xc0 false (.range 1 1000)]⟩,
  ⟨O.PGN_STAT, 0x40, 64, 0x4, 1, none, [
    fd 0 2 .ro 0 0x0, fd 2 1 .ro 0 0x0, fd 3 1 .ro 0 0x0, fd 4 1 .ro 0 0x0, fd 5 1 .ro 0 0x0,
    fd 6 1 .ro 0 0x0]⟩,
  ⟨O.PGN_FLAG, 0x40, 64, 0x4, 1, some 24, [
    fd 0 1 .w1c 0 0xc0, fd 1 1 .w1c 0 0xc0, fd 2 1 .w1c 0 0xc0, fd 3 1 .w1c 0 0xc0, fd 24 8 .ro 0 0xc0]⟩,
  ⟨O.PGN_CNT_SHORT, 0x40, 64, 0x4, 1, none, [
    fd 0 16 .ro 0 0xc0, fd 16 16 .ro 0 0xc0]⟩,
  ⟨O.PGN_CNT_STRETCH, 0x40, 64, 0x4, 1, none, [
    fd 0 16 .ro 0 0xc0, fd 16 16 .ro 0 0xc0]⟩,
  ⟨O.PGN_TRIP_CNT, 0x40, 64, 0x4, 1, none, [
    fd 0 16 .ro 0 0xc0, fd 16 8 .ro 0 0xc0, fd 24 8 .ro 0 0xc0]⟩,
  ⟨O.PGN_TRIP_T, 0x40, 64, 0x4, 1, none, [
    fd 0 32 .ro 0 0xc0]⟩]

def regDefsPGN1 : List RegDef := [
  ⟨O.PGN_SSO_CFG, 0x10, 16, 0x4, 1, none, [
    fd 0 2 .rwl 0 0xc0, fd 4 6 .rwl 0 0xc0, fd 12 4 .rwl 4 0xc0 false (.range 1 15),
    fd 16 8 .rwl 0x32 0xc0 false (.range 1 255)]⟩,
  ⟨O.PGN_SSO_LOOP, 0x10, 16, 0x4, 1, none, [
    fd 0 10 .rwl 0x200 0xc0 false (.range 1 1023), fd 12 6 .rwl 0x28 0xc0 false (.range 1 63)]⟩,
  ⟨O.PGN_SSO_FREQ, 0x10, 16, 0x4, 1, none, [
    fd 0 16 .rwl 0x4e2 0xc0 false (.range 12 50000), fd 16 16 .rwl 0x271 0xc0 false (.range 12 50000)]⟩,
  ⟨O.PGN_SSO_STAT, 0x10, 16, 0x4, 1, some 24, [
    fd 0 2 .ro 3 0x0, fd 2 1 .ro 0 0x0, fd 3 1 .ro 0 0x0, fd 4 4 .ro 0 0x0, fd 8 1 .w1c 0 0xc0,
    fd 24 8 .ro 0 0xc0]⟩]

/-- The registers of block PGN, in offset order. -/
def regDefsPGN : List RegDef := regDefsPGN0 ++ regDefsPGN1

def F.PGN_CFG.ENABLE (i : Nat) : Fld := ⟨.pgn, 0x0 + 0x40 * i, 0, 1⟩
def F.PGN_CFG.ON_SEL (i : Nat) : Fld := ⟨.pgn, 0x0 + 0x40 * i, 1, 1⟩
def F.PGN_CFG.COMP_EN (i : Nat) : Fld := ⟨.pgn, 0x0 + 0x40 * i, 2, 1⟩
def F.PGN_CFG.TRIP_EN (i : Nat) : Fld := ⟨.pgn, 0x0 + 0x40 * i, 4, 1⟩
def F.PGN_CFG.TRIP_GRP (i : Nat) : Fld := ⟨.pgn, 0x0 + 0x40 * i, 8, 4⟩
def F.PGN_CFG.VEN_GATE (i : Nat) : Fld := ⟨.pgn, 0x0 + 0x40 * i, 12, 1⟩
def F.PGN_CFG.VEN_SEL (i : Nat) : Fld := ⟨.pgn, 0x0 + 0x40 * i, 13, 3⟩
def F.PGN_CFG.SYNC_EN (i : Nat) : Fld := ⟨.pgn, 0x0 + 0x40 * i, 16, 1⟩
def F.PGN_CFG.SYNC_WM (i : Nat) : Fld := ⟨.pgn, 0x0 + 0x40 * i, 20, 4⟩
def F.PGN_CFG.POLICY (i : Nat) : Fld := ⟨.pgn, 0x0 + 0x40 * i, 3, 1⟩
def F.PGN_PERIOD.PERIOD (i : Nat) : Fld := ⟨.pgn, 0x4 + 0x40 * i, 0, 24⟩
def F.PGN_ON.T (i : Nat) : Fld := ⟨.pgn, 0x8 + 0x40 * i, 0, 24⟩
def F.PGN_PHASE.PHASE (i : Nat) : Fld := ⟨.pgn, 0xc + 0x40 * i, 0, 24⟩
def F.PGN_DEAD.DT_ON (i : Nat) : Fld := ⟨.pgn, 0x10 + 0x40 * i, 0, 11⟩
def F.PGN_DEAD.DT_OFF (i : Nat) : Fld := ⟨.pgn, 0x10 + 0x40 * i, 16, 11⟩
def F.PGN_MINP.MIN_PULSE (i : Nat) : Fld := ⟨.pgn, 0x14 + 0x40 * i, 0, 12⟩
def F.PGN_MINP.TRIP_QUIET (i : Nat) : Fld := ⟨.pgn, 0x14 + 0x40 * i, 16, 10⟩
def F.PGN_STAT.STATE (i : Nat) : Fld := ⟨.pgn, 0x18 + 0x40 * i, 0, 2⟩
def F.PGN_STAT.ON_GATE (i : Nat) : Fld := ⟨.pgn, 0x18 + 0x40 * i, 2, 1⟩
def F.PGN_STAT.COMP_GATE (i : Nat) : Fld := ⟨.pgn, 0x18 + 0x40 * i, 3, 1⟩
def F.PGN_STAT.TRIP_LINE (i : Nat) : Fld := ⟨.pgn, 0x18 + 0x40 * i, 4, 1⟩
def F.PGN_STAT.QUIET (i : Nat) : Fld := ⟨.pgn, 0x18 + 0x40 * i, 5, 1⟩
def F.PGN_STAT.CLEAR_PENDING (i : Nat) : Fld := ⟨.pgn, 0x18 + 0x40 * i, 6, 1⟩
def F.PGN_FLAG.TRIP (i : Nat) : Fld := ⟨.pgn, 0x1c + 0x40 * i, 0, 1⟩
def F.PGN_FLAG.CLEAR_REFUSED (i : Nat) : Fld := ⟨.pgn, 0x1c + 0x40 * i, 1, 1⟩
def F.PGN_FLAG.SHORT (i : Nat) : Fld := ⟨.pgn, 0x1c + 0x40 * i, 2, 1⟩
def F.PGN_FLAG.CONFIG (i : Nat) : Fld := ⟨.pgn, 0x1c + 0x40 * i, 3, 1⟩
def F.PGN_FLAG.SET_COUNT (i : Nat) : Fld := ⟨.pgn, 0x1c + 0x40 * i, 24, 8⟩
def F.PGN_CNT_SHORT.SHORT_DROP (i : Nat) : Fld := ⟨.pgn, 0x20 + 0x40 * i, 0, 16⟩
def F.PGN_CNT_SHORT.OFF_SKIP (i : Nat) : Fld := ⟨.pgn, 0x20 + 0x40 * i, 16, 16⟩
def F.PGN_CNT_STRETCH.STRETCHED (i : Nat) : Fld := ⟨.pgn, 0x24 + 0x40 * i, 0, 16⟩
def F.PGN_CNT_STRETCH.OFF_STRETCHED (i : Nat) : Fld := ⟨.pgn, 0x24 + 0x40 * i, 16, 16⟩
def F.PGN_TRIP_CNT.TRIPS (i : Nat) : Fld := ⟨.pgn, 0x28 + 0x40 * i, 0, 16⟩
def F.PGN_TRIP_CNT.CLEARS (i : Nat) : Fld := ⟨.pgn, 0x28 + 0x40 * i, 16, 8⟩
def F.PGN_TRIP_CNT.REFUSALS (i : Nat) : Fld := ⟨.pgn, 0x28 + 0x40 * i, 24, 8⟩
def F.PGN_TRIP_T.STAMP (i : Nat) : Fld := ⟨.pgn, 0x2c + 0x40 * i, 0, 32⟩
def F.PGN_SSO_CFG.MODE (i : Nat) : Fld := ⟨.pgn, 0x1000 + 0x10 * i, 0, 2⟩
def F.PGN_SSO_CFG.SECTION (i : Nat) : Fld := ⟨.pgn, 0x1000 + 0x10 * i, 4, 6⟩
def F.PGN_SSO_CFG.FB_PERIODS (i : Nat) : Fld := ⟨.pgn, 0x1000 + 0x10 * i, 12, 4⟩
def F.PGN_SSO_CFG.SETTLE (i : Nat) : Fld := ⟨.pgn, 0x1000 + 0x10 * i, 16, 8⟩
def F.PGN_SSO_LOOP.FS_CODE (i : Nat) : Fld := ⟨.pgn, 0x1004 + 0x10 * i, 0, 10⟩
def F.PGN_SSO_LOOP.TOL (i : Nat) : Fld := ⟨.pgn, 0x1004 + 0x10 * i, 12, 6⟩
def F.PGN_SSO_FREQ.F_CLEAR_HZ (i : Nat) : Fld := ⟨.pgn, 0x1008 + 0x10 * i, 0, 16⟩
def F.PGN_SSO_FREQ.F_OCC_HZ (i : Nat) : Fld := ⟨.pgn, 0x1008 + 0x10 * i, 16, 16⟩
def F.PGN_SSO_STAT.LEVEL (i : Nat) : Fld := ⟨.pgn, 0x100c + 0x10 * i, 0, 2⟩
def F.PGN_SSO_STAT.FORCED (i : Nat) : Fld := ⟨.pgn, 0x100c + 0x10 * i, 2, 1⟩
def F.PGN_SSO_STAT.SETTLING (i : Nat) : Fld := ⟨.pgn, 0x100c + 0x10 * i, 3, 1⟩
def F.PGN_SSO_STAT.MISMATCH (i : Nat) : Fld := ⟨.pgn, 0x100c + 0x10 * i, 4, 4⟩
def F.PGN_SSO_STAT.FEEDBACK (i : Nat) : Fld := ⟨.pgn, 0x100c + 0x10 * i, 8, 1⟩
def F.PGN_SSO_STAT.SET_COUNT (i : Nat) : Fld := ⟨.pgn, 0x100c + 0x10 * i, 24, 8⟩

def O.LMP_CFG : Nat := 0x0
def O.LMP_THR : Nat := 0x4
def O.LMP_SUP : Nat := 0x8
def O.LMP_STAT : Nat := 0xc
def O.LMP_FLAG : Nat := 0x10
def O.LMP_CNT : Nat := 0x14
def O.LMP_SIG_CFG : Nat := 0x1000
def O.LMP_SIG_GOV_LO : Nat := 0x1004
def O.LMP_SIG_GOV_HI : Nat := 0x1008
def O.LMP_SIG_STAT : Nat := 0x100c
def O.LMP_SIG_ASP : Nat := 0x1010
def O.LMP_RULE : Nat := 0x2000
def O.LMP_RULE_STAT : Nat := 0x2004

def regDefsLMP0 : List RegDef := [
  ⟨O.LMP_CFG, 0x20, 48, 0x4, 1, none, [
    fd 0 1 .rwl 0 0xc0, fd 1 2 .rwl 0 0xc0, fd 3 4 .rwl 0 0xc0, fd 7 3 .rwl 0 0xc0 false (.over 5 5),
    fd 10 1 .rwl 0 0xc0, fd 11 1 .rwl 0 0xc0, fd 12 1 .rwl 1 0xc0, fd 16 8 .rwl 0xa 0xc0 false (.range 1 255),
    fd 24 8 .rwl 0xa 0xc0 false (.range 2 255)]⟩,
  ⟨O.LMP_THR, 0x20, 48, 0x4, 1, none, [
    fd 0 10 .rwl 0 0xc0, fd 16 10 .rwl 0 0xc0]⟩,
  ⟨O.LMP_SUP, 0x20, 48, 0x4, 1, none, [
    fd 0 4 .rwl 2 0xc0 false (.range 1 8), fd 4 4 .rwl 2 0xc0 false (.range 1 15),
    fd 8 8 .rwl 0x10 0xc0 false (.range 1 255), fd 16 8 .rwl 0 0xc0 false (.range 0 250)]⟩,
  ⟨O.LMP_STAT, 0x20, 48, 0x4, 1, none, [
    fd 0 2 .ro 0 0x0, fd 2 1 .ro 0 0x0, fd 3 1 .ro 0 0x0, fd 4 3 .ro 0 0x0, fd 7 1 .ro 0 0x0,
    fd 8 4 .ro 0 0x0, fd 12 4 .ro 0 0x0, fd 16 8 .ro 0 0x0, fd 24 6 .ro 0 0x0]⟩,
  ⟨O.LMP_FLAG, 0x20, 48, 0x4, 1, some 24, [
    fd 0 1 .w1c 0 0xc0, fd 1 1 .w1c 0 0xc0, fd 2 1 .w1c 0 0xc0, fd 3 1 .w1c 0 0xc0, fd 4 1 .w1c 0 0xc0,
    fd 5 1 .w1c 0 0xc0, fd 6 1 .w1c 0 0xc0, fd 7 1 .w1c 0 0xc0, fd 24 8 .ro 0 0xc0]⟩,
  ⟨O.LMP_CNT, 0x20, 48, 0x4, 1, none, [
    fd 0 16 .ro 0 0xc0, fd 16 8 .ro 0 0xc0, fd 24 2 .ro 0 0xe0]⟩,
  ⟨O.LMP_SIG_CFG, 0x80, 16, 0x4, 1, none, [
    fd 0 1 .rwl 0 0xc0, fd 1 2 .rwl 0 0xc0 false (.over 2 2), fd 4 4 .rwl 0 0xc0, fd 8 4 .rwl 0 0xc0,
    fd 12 7 .rwl 0x3c 0xc0 false (.range 40 120)]⟩,
  ⟨O.LMP_SIG_GOV_LO, 0x80, 16, 0x4, 1, none, [
    fd 0 32 .rwl 0 0xc0]⟩,
  ⟨O.LMP_SIG_GOV_HI, 0x80, 16, 0x4, 1, none, [
    fd 0 32 .rwl 0 0xc0]⟩,
  ⟨O.LMP_SIG_STAT, 0x80, 16, 0x4, 1, none, [
    fd 0 4 .ro 0 0x0, fd 4 4 .ro 0 0x0, fd 8 4 .ro 2 0x0, fd 12 1 .ro 1 0x0, fd 13 1 .ro 0 0x0,
    fd 14 1 .ro 0 0x0, fd 15 1 .ro 0 0x0, fd 16 16 .ro 0 0x0]⟩,
  ⟨O.LMP_SIG_ASP, 0x80, 16, 0x4, 16, none, [
    fd 0 6 .rwl 0 0xc0, fd 6 6 .rwl 0 0xc0, fd 12 10 .rwl 0 0xc0 false (.range 0 1000),
    fd 22 10 .rwl 0 0xc0 false (.range 0 1000)]⟩,
  ⟨O.LMP_RULE, 0x8, 64, 0x4, 1, none, [
    fd 0 1 .rwl 0 0xc0, fd 1 4 .rwl 0 0xc0, fd 5 3 .rwl 0 0xc0, fd 8 1 .rwl 0 0xc0, fd 9 4 .rwl 0 0xc0,
    fd 13 2 .rwl 0 0xc0]⟩]

def regDefsLMP1 : List RegDef := [
  ⟨O.LMP_RULE_STAT, 0x8, 64, 0x4, 1, none, [
    fd 0 1 .ro 0 0x0, fd 8 8 .ro 0 0xc0]⟩]

/-- The registers of block LMP, in offset order. -/
def regDefsLMP : List RegDef := regDefsLMP0 ++ regDefsLMP1

def F.LMP_CFG.ENABLE (i : Nat) : Fld := ⟨.lmp, 0x0 + 0x20 * i, 0, 1⟩
def F.LMP_CFG.MODE (i : Nat) : Fld := ⟨.lmp, 0x0 + 0x20 * i, 1, 2⟩
def F.LMP_CFG.SIGNAL (i : Nat) : Fld := ⟨.lmp, 0x0 + 0x20 * i, 3, 4⟩
def F.LMP_CFG.POS (i : Nat) : Fld := ⟨.lmp, 0x0 + 0x20 * i, 7, 3⟩
def F.LMP_CFG.STANDBY (i : Nat) : Fld := ⟨.lmp, 0x0 + 0x20 * i, 10, 1⟩
def F.LMP_CFG.STRINGS2 (i : Nat) : Fld := ⟨.lmp, 0x0 + 0x20 * i, 11, 1⟩
def F.LMP_CFG.PROVE_EN (i : Nat) : Fld := ⟨.lmp, 0x0 + 0x20 * i, 12, 1⟩
def F.LMP_CFG.PROVE_PERIOD (i : Nat) : Fld := ⟨.lmp, 0x0 + 0x20 * i, 16, 8⟩
def F.LMP_CFG.PROVE_US (i : Nat) : Fld := ⟨.lmp, 0x0 + 0x20 * i, 24, 8⟩
def F.LMP_THR.DARK_CODE (i : Nat) : Fld := ⟨.lmp, 0x4 + 0x20 * i, 0, 10⟩
def F.LMP_THR.STRING_CODE (i : Nat) : Fld := ⟨.lmp, 0x4 + 0x20 * i, 16, 10⟩
def F.LMP_SUP.DARK_CONFIRM (i : Nat) : Fld := ⟨.lmp, 0x8 + 0x20 * i, 0, 4⟩
def F.LMP_SUP.GHOST_CONFIRM (i : Nat) : Fld := ⟨.lmp, 0x8 + 0x20 * i, 4, 4⟩
def F.LMP_SUP.STRING_CONFIRM (i : Nat) : Fld := ⟨.lmp, 0x8 + 0x20 * i, 8, 8⟩
def F.LMP_SUP.WARM (i : Nat) : Fld := ⟨.lmp, 0x8 + 0x20 * i, 16, 8⟩
def F.LMP_STAT.STATE (i : Nat) : Fld := ⟨.lmp, 0xc + 0x20 * i, 0, 2⟩
def F.LMP_STAT.DRIVING (i : Nat) : Fld := ⟨.lmp, 0xc + 0x20 * i, 2, 1⟩
def F.LMP_STAT.LOST (i : Nat) : Fld := ⟨.lmp, 0xc + 0x20 * i, 3, 1⟩
def F.LMP_STAT.CLASS (i : Nat) : Fld := ⟨.lmp, 0xc + 0x20 * i, 4, 3⟩
def F.LMP_STAT.DARK_THR (i : Nat) : Fld := ⟨.lmp, 0xc + 0x20 * i, 7, 1⟩
def F.LMP_STAT.DARK_CNT (i : Nat) : Fld := ⟨.lmp, 0xc + 0x20 * i, 8, 4⟩
def F.LMP_STAT.GHOST_CNT (i : Nat) : Fld := ⟨.lmp, 0xc + 0x20 * i, 12, 4⟩
def F.LMP_STAT.HALF_CNT (i : Nat) : Fld := ⟨.lmp, 0xc + 0x20 * i, 16, 8⟩
def F.LMP_STAT.CROSS_WITH (i : Nat) : Fld := ⟨.lmp, 0xc + 0x20 * i, 24, 6⟩
def F.LMP_FLAG.DARK (i : Nat) : Fld := ⟨.lmp, 0x10 + 0x20 * i, 0, 1⟩
def F.LMP_FLAG.GHOST (i : Nat) : Fld := ⟨.lmp, 0x10 + 0x20 * i, 1, 1⟩
def F.LMP_FLAG.SHORT_SUPPLY (i : Nat) : Fld := ⟨.lmp, 0x10 + 0x20 * i, 2, 1⟩
def F.LMP_FLAG.OVERCURRENT (i : Nat) : Fld := ⟨.lmp, 0x10 + 0x20 * i, 3, 1⟩
def F.LMP_FLAG.CROSS (i : Nat) : Fld := ⟨.lmp, 0x10 + 0x20 * i, 4, 1⟩
def F.LMP_FLAG.STRING (i : Nat) : Fld := ⟨.lmp, 0x10 + 0x20 * i, 5, 1⟩
def F.LMP_FLAG.CONFIG (i : Nat) : Fld := ⟨.lmp, 0x10 + 0x20 * i, 6, 1⟩
def F.LMP_FLAG.REARM_REFUSED (i : Nat) : Fld := ⟨.lmp, 0x10 + 0x20 * i, 7, 1⟩
def F.LMP_FLAG.SET_COUNT (i : Nat) : Fld := ⟨.lmp, 0x10 + 0x20 * i, 24, 8⟩
def F.LMP_CNT.PROVES (i : Nat) : Fld := ⟨.lmp, 0x14 + 0x20 * i, 0, 16⟩
def F.LMP_CNT.CHANGEOVERS (i : Nat) : Fld := ⟨.lmp, 0x14 + 0x20 * i, 16, 8⟩
def F.LMP_CNT.REARMS_HOUR (i : Nat) : Fld := ⟨.lmp, 0x14 + 0x20 * i, 24, 2⟩
def F.LMP_SIG_CFG.ENABLE (i : Nat) : Fld := ⟨.lmp, 0x1000 + 0x80 * i, 0, 1⟩
def F.LMP_SIG_CFG.REQ_SRC (i : Nat) : Fld := ⟨.lmp, 0x1000 + 0x80 * i, 1, 2⟩
def F.LMP_SIG_CFG.TOP_ASPECT (i : Nat) : Fld := ⟨.lmp, 0x1000 + 0x80 * i, 4, 4⟩
def F.LMP_SIG_CFG.CAP_ASPECT (i : Nat) : Fld := ⟨.lmp, 0x1000 + 0x80 * i, 8, 4⟩
def F.LMP_SIG_CFG.FLASH_FPM (i : Nat) : Fld := ⟨.lmp, 0x1000 + 0x80 * i, 12, 7⟩
def F.LMP_SIG_GOV_LO.GOVERN (i : Nat) : Fld := ⟨.lmp, 0x1004 + 0x80 * i, 0, 32⟩
def F.LMP_SIG_GOV_HI.GOVERN (i : Nat) : Fld := ⟨.lmp, 0x1008 + 0x80 * i, 0, 32⟩
def F.LMP_SIG_STAT.SHOWN (i : Nat) : Fld := ⟨.lmp, 0x100c + 0x80 * i, 0, 4⟩
def F.LMP_SIG_STAT.REQUESTED (i : Nat) : Fld := ⟨.lmp, 0x100c + 0x80 * i, 4, 4⟩
def F.LMP_SIG_STAT.REASON (i : Nat) : Fld := ⟨.lmp, 0x100c + 0x80 * i, 8, 4⟩
def F.LMP_SIG_STAT.DARK (i : Nat) : Fld := ⟨.lmp, 0x100c + 0x80 * i, 12, 1⟩
def F.LMP_SIG_STAT.NIGHT (i : Nat) : Fld := ⟨.lmp, 0x100c + 0x80 * i, 13, 1⟩
def F.LMP_SIG_STAT.CAPPED (i : Nat) : Fld := ⟨.lmp, 0x100c + 0x80 * i, 14, 1⟩
def F.LMP_SIG_STAT.FLASH_ON (i : Nat) : Fld := ⟨.lmp, 0x100c + 0x80 * i, 15, 1⟩
def F.LMP_SIG_STAT.UNUSABLE (i : Nat) : Fld := ⟨.lmp, 0x100c + 0x80 * i, 16, 16⟩
def F.LMP_SIG_ASP.LIT (i j : Nat) : Fld := ⟨.lmp, 0x1010 + 0x80 * i + 0x4 * j, 0, 6⟩
def F.LMP_SIG_ASP.FLASH (i j : Nat) : Fld := ⟨.lmp, 0x1010 + 0x80 * i + 0x4 * j, 6, 6⟩
def F.LMP_SIG_ASP.DAY (i j : Nat) : Fld := ⟨.lmp, 0x1010 + 0x80 * i + 0x4 * j, 12, 10⟩
def F.LMP_SIG_ASP.NIGHT (i j : Nat) : Fld := ⟨.lmp, 0x1010 + 0x80 * i + 0x4 * j, 22, 10⟩
def F.LMP_RULE.ENABLE (i : Nat) : Fld := ⟨.lmp, 0x2000 + 0x8 * i, 0, 1⟩
def F.LMP_RULE.SRC_SIG (i : Nat) : Fld := ⟨.lmp, 0x2000 + 0x8 * i, 1, 4⟩
def F.LMP_RULE.SRC_POS (i : Nat) : Fld := ⟨.lmp, 0x2000 + 0x8 * i, 5, 3⟩
def F.LMP_RULE.REMOTE (i : Nat) : Fld := ⟨.lmp, 0x2000 + 0x8 * i, 8, 1⟩
def F.LMP_RULE.TGT_SIG (i : Nat) : Fld := ⟨.lmp, 0x2000 + 0x8 * i, 9, 4⟩
def F.LMP_RULE.PORT (i : Nat) : Fld := ⟨.lmp, 0x2000 + 0x8 * i, 13, 2⟩
def F.LMP_RULE_STAT.ACTIVE (i : Nat) : Fld := ⟨.lmp, 0x2004 + 0x8 * i, 0, 1⟩
def F.LMP_RULE_STAT.ACTIVATIONS (i : Nat) : Fld := ⟨.lmp, 0x2004 + 0x8 * i, 8, 8⟩

def O.SAF_SI_CFG : Nat := 0x0
def O.SAF_SI_STAT : Nat := 0x4
def O.SAF_TP_CFG : Nat := 0x100
def O.SAF_TP_STAT : Nat := 0x104
def O.SAF_SO_CFG : Nat := 0x200
def O.SAF_SO_STAT : Nat := 0x204
def O.SAF_SO_FLAG : Nat := 0x208
def O.SAF_SO_CNT : Nat := 0x20c
def O.SAF_FB_CFG : Nat := 0x400
def O.SAF_FB_IN : Nat := 0x404
def O.SAF_FB_TIME : Nat := 0x408
def O.SAF_FB_LIM : Nat := 0x40c
def O.SAF_FB_ACT : Nat := 0x410
def O.SAF_FB_SEC_LO : Nat := 0x414
def O.SAF_FB_SEC_HI : Nat := 0x418
def O.SAF_FB_STAT : Nat := 0x41c

def regDefsSAF0 : List RegDef := [
  ⟨O.SAF_SI_CFG, 0x8, 32, 0x4, 1, none, [
    fd 0 1 .rwl 0 0xc0, fd 1 1 .rwl 0 0xc0, fd 4 9 .rwl 0x1e 0xc0 false (.range 5 500),
    fd 16 4 .rwl 0 0xc0 false (.over 8 0)]⟩,
  ⟨O.SAF_SI_STAT, 0x8, 32, 0x4, 1, some 24, [
    fd 0 1 .ro 0 0x0, fd 1 1 .ro 0 0x0, fd 2 1 .ro 0 0x0, fd 8 1 .w1c 0 0xc0, fd 9 1 .w1c 0 0xc0,
    fd 16 8 .ro 0 0xc0, fd 24 8 .ro 0 0xc0]⟩,
  ⟨O.SAF_TP_CFG, 0x8, 8, 0x4, 1, none, [
    fd 0 1 .rwl 0 0xc0, fd 1 10 .rwl 0x12c 0xc0 false (.range 100 1000),
    fd 16 10 .rwl 0x28 0xc0 false (.range 10 1000), fd 26 6 .rwl 0xa 0xc0 false (.range 0 50)]⟩,
  ⟨O.SAF_TP_STAT, 0x8, 8, 0x4, 1, some 24, [
    fd 0 1 .ro 0 0x0, fd 1 1 .ro 0 0x0, fd 8 1 .w1c 0 0xc0, fd 24 8 .ro 0 0xc0]⟩,
  ⟨O.SAF_SO_CFG, 0x10, 8, 0x4, 1, none, [
    fd 0 1 .rwl 0 0xc0, fd 1 1 .rwl 0 0xc0, fd 2 3 .rwl 0 0xc0, fd 8 8 .rwl 0x14 0xc0 false (.range 1 255),
    fd 16 8 .rwl 0x14 0xc0 false (.range 1 255)]⟩,
  ⟨O.SAF_SO_STAT, 0x10, 8, 0x4, 1, none, [
    fd 0 1 .ro 0 0x0, fd 1 1 .ro 0 0x0, fd 2 1 .ro 0 0x0, fd 3 1 .ro 0 0x0, fd 16 16 .ro 0 0x0]⟩,
  ⟨O.SAF_SO_FLAG, 0x10, 8, 0x4, 1, some 24, [
    fd 0 1 .w1c 0 0xc0, fd 1 1 .w1c 0 0xc0, fd 2 1 .w1c 0 0xc0, fd 24 8 .ro 0 0xc0]⟩,
  ⟨O.SAF_SO_CNT, 0x10, 8, 0x4, 1, none, [
    fd 0 16 .ro 0 0xc0, fd 16 16 .ro 0 0xc0]⟩,
  ⟨O.SAF_FB_CFG, 0x20, 16, 0x4, 1, none, [
    fd 0 1 .rwl 0 0xc0, fd 1 3 .rwl 0 0xc0, fd 4 1 .rwl 1 0xc0, fd 5 1 .rwl 1 0xc0, fd 6 1 .rwl 0 0xc0,
    fd 7 1 .rwl 1 0xc0, fd 8 1 .rwl 1 0xc0, fd 9 1 .rwl 0 0xc0, fd 10 5 .rwl 0 0xc0, fd 16 1 .rwl 0 0xc0,
    fd 17 1 .rwl 0 0xc0, fd 18 1 .rwl 0 0xc0, fd 19 1 .rwl 0 0xc0]⟩,
  ⟨O.SAF_FB_IN, 0x20, 16, 0x4, 1, none, [
    fd 0 6 .rwl 0 0xc0, fd 8 6 .rwl 0 0xc0, fd 16 5 .rwl 0 0xc0, fd 24 5 .rwl 0 0xc0]⟩,
  ⟨O.SAF_FB_TIME, 0x20, 16, 0x4, 1, none, [
    fd 0 10 .rwl 0x64 0xc0 false (.range 10 1000), fd 10 10 .rwl 0x64 0xc0 false (.range 50 500),
    fd 20 10 .rwl 0x3c 0xc0 false (.range 1 1000)]⟩,
  ⟨O.SAF_FB_LIM, 0x20, 16, 0x4, 1, none, [
    fd 0 12 .rwl 0xfa 0xc0 false (.range 5 4000), fd 16 8 .rwl 0xa 0xc0 false (.range 1 255),
    fd 24 8 .rwl 0x3c 0xc0 false (.range 1 255)]⟩]

def regDefsSAF1 : List RegDef := [
  ⟨O.SAF_FB_ACT, 0x20, 16, 0x4, 1, none, [
    fd 0 8 .rwl 0 0xc0, fd 8 16 .rwl 0 0xc0]⟩,
  ⟨O.SAF_FB_SEC_LO, 0x20, 16, 0x4, 1, none, [
    fd 0 32 .rwl 0 0xc0]⟩,
  ⟨O.SAF_FB_SEC_HI, 0x20, 16, 0x4, 1, none, [
    fd 0 32 .rwl 0 0xc0]⟩,
  ⟨O.SAF_FB_STAT, 0x20, 16, 0x4, 1, some 24, [
    fd 0 3 .ro 0 0x0, fd 3 1 .ro 0 0x0, fd 4 8 .ro 0 0x0, fd 12 1 .w1c 0 0xc0, fd 13 1 .w1c 0 0xc0,
    fd 14 1 .w1c 0 0xc0, fd 15 1 .w1c 0 0xc0, fd 16 1 .w1c 0 0xc0, fd 17 1 .w1c 0 0xc0, fd 24 8 .ro 0 0xc0]⟩]

/-- The registers of block SAF, in offset order. -/
def regDefsSAF : List RegDef := regDefsSAF0 ++ regDefsSAF1

def F.SAF_SI_CFG.ENABLE (i : Nat) : Fld := ⟨.saf, 0x0 + 0x8 * i, 0, 1⟩
def F.SAF_SI_CFG.TYPE (i : Nat) : Fld := ⟨.saf, 0x0 + 0x8 * i, 1, 1⟩
def F.SAF_SI_CFG.FILTER (i : Nat) : Fld := ⟨.saf, 0x0 + 0x8 * i, 4, 9⟩
def F.SAF_SI_CFG.TP_SRC (i : Nat) : Fld := ⟨.saf, 0x0 + 0x8 * i, 16, 4⟩
def F.SAF_SI_STAT.RAW (i : Nat) : Fld := ⟨.saf, 0x4 + 0x8 * i, 0, 1⟩
def F.SAF_SI_STAT.LEVEL (i : Nat) : Fld := ⟨.saf, 0x4 + 0x8 * i, 1, 1⟩
def F.SAF_SI_STAT.IN_WINDOW (i : Nat) : Fld := ⟨.saf, 0x4 + 0x8 * i, 2, 1⟩
def F.SAF_SI_STAT.TESTPULSE (i : Nat) : Fld := ⟨.saf, 0x4 + 0x8 * i, 8, 1⟩
def F.SAF_SI_STAT.CROSS (i : Nat) : Fld := ⟨.saf, 0x4 + 0x8 * i, 9, 1⟩
def F.SAF_SI_STAT.MISSED (i : Nat) : Fld := ⟨.saf, 0x4 + 0x8 * i, 16, 8⟩
def F.SAF_SI_STAT.SET_COUNT (i : Nat) : Fld := ⟨.saf, 0x4 + 0x8 * i, 24, 8⟩
def F.SAF_TP_CFG.ENABLE (i : Nat) : Fld := ⟨.saf, 0x100 + 0x8 * i, 0, 1⟩
def F.SAF_TP_CFG.WIDTH_US (i : Nat) : Fld := ⟨.saf, 0x100 + 0x8 * i, 1, 10⟩
def F.SAF_TP_CFG.PERIOD_MS (i : Nat) : Fld := ⟨.saf, 0x100 + 0x8 * i, 16, 10⟩
def F.SAF_TP_CFG.ECHO_US (i : Nat) : Fld := ⟨.saf, 0x100 + 0x8 * i, 26, 6⟩
def F.SAF_TP_STAT.PIN (i : Nat) : Fld := ⟨.saf, 0x104 + 0x8 * i, 0, 1⟩
def F.SAF_TP_STAT.FAULT (i : Nat) : Fld := ⟨.saf, 0x104 + 0x8 * i, 1, 1⟩
def F.SAF_TP_STAT.FAULT_SEEN (i : Nat) : Fld := ⟨.saf, 0x104 + 0x8 * i, 8, 1⟩
def F.SAF_TP_STAT.SET_COUNT (i : Nat) : Fld := ⟨.saf, 0x104 + 0x8 * i, 24, 8⟩
def F.SAF_SO_CFG.ENABLE (i : Nat) : Fld := ⟨.saf, 0x200 + 0x10 * i, 0, 1⟩
def F.SAF_SO_CFG.VEN_GATE (i : Nat) : Fld := ⟨.saf, 0x200 + 0x10 * i, 1, 1⟩
def F.SAF_SO_CFG.VEN_SEL (i : Nat) : Fld := ⟨.saf, 0x200 + 0x10 * i, 2, 3⟩
def F.SAF_SO_CFG.FB_ON_MS (i : Nat) : Fld := ⟨.saf, 0x200 + 0x10 * i, 8, 8⟩
def F.SAF_SO_CFG.FB_OFF_MS (i : Nat) : Fld := ⟨.saf, 0x200 + 0x10 * i, 16, 8⟩
def F.SAF_SO_STAT.CMD (i : Nat) : Fld := ⟨.saf, 0x204 + 0x10 * i, 0, 1⟩
def F.SAF_SO_STAT.DRV (i : Nat) : Fld := ⟨.saf, 0x204 + 0x10 * i, 1, 1⟩
def F.SAF_SO_STAT.FB (i : Nat) : Fld := ⟨.saf, 0x204 + 0x10 * i, 2, 1⟩
def F.SAF_SO_STAT.FORCED (i : Nat) : Fld := ⟨.saf, 0x204 + 0x10 * i, 3, 1⟩
def F.SAF_SO_STAT.BLOCKERS (i : Nat) : Fld := ⟨.saf, 0x204 + 0x10 * i, 16, 16⟩
def F.SAF_SO_FLAG.FEEDBACK (i : Nat) : Fld := ⟨.saf, 0x208 + 0x10 * i, 0, 1⟩
def F.SAF_SO_FLAG.STUCK_OFF (i : Nat) : Fld := ⟨.saf, 0x208 + 0x10 * i, 1, 1⟩
def F.SAF_SO_FLAG.CONFIG (i : Nat) : Fld := ⟨.saf, 0x208 + 0x10 * i, 2, 1⟩
def F.SAF_SO_FLAG.SET_COUNT (i : Nat) : Fld := ⟨.saf, 0x208 + 0x10 * i, 24, 8⟩
def F.SAF_SO_CNT.SWITCH_ONS (i : Nat) : Fld := ⟨.saf, 0x20c + 0x10 * i, 0, 16⟩
def F.SAF_SO_CNT.FAULTS (i : Nat) : Fld := ⟨.saf, 0x20c + 0x10 * i, 16, 16⟩
def F.SAF_FB_CFG.ENABLE (i : Nat) : Fld := ⟨.saf, 0x400 + 0x20 * i, 0, 1⟩
def F.SAF_FB_CFG.TYPE (i : Nat) : Fld := ⟨.saf, 0x400 + 0x20 * i, 1, 3⟩
def F.SAF_FB_CFG.RESTART_MAN (i : Nat) : Fld := ⟨.saf, 0x400 + 0x20 * i, 4, 1⟩
def F.SAF_FB_CFG.START_MAN (i : Nat) : Fld := ⟨.saf, 0x400 + 0x20 * i, 5, 1⟩
def F.SAF_FB_CFG.START_CYCLE (i : Nat) : Fld := ⟨.saf, 0x400 + 0x20 * i, 6, 1⟩
def F.SAF_FB_CFG.EVT (i : Nat) : Fld := ⟨.saf, 0x400 + 0x20 * i, 7, 1⟩
def F.SAF_FB_CFG.RST_FW (i : Nat) : Fld := ⟨.saf, 0x400 + 0x20 * i, 8, 1⟩
def F.SAF_FB_CFG.RST_SI (i : Nat) : Fld := ⟨.saf, 0x400 + 0x20 * i, 9, 1⟩
def F.SAF_FB_CFG.RESET_SI (i : Nat) : Fld := ⟨.saf, 0x400 + 0x20 * i, 10, 5⟩
def F.SAF_FB_CFG.GAMBIT_USE (i : Nat) : Fld := ⟨.saf, 0x400 + 0x20 * i, 16, 1⟩
def F.SAF_FB_CFG.FORBID_DIR (i : Nat) : Fld := ⟨.saf, 0x400 + 0x20 * i, 17, 1⟩
def F.SAF_FB_CFG.SEC_MODE (i : Nat) : Fld := ⟨.saf, 0x400 + 0x20 * i, 18, 1⟩
def F.SAF_FB_CFG.OSSD_CHECK (i : Nat) : Fld := ⟨.saf, 0x400 + 0x20 * i, 19, 1⟩
def F.SAF_FB_IN.IN_A (i : Nat) : Fld := ⟨.saf, 0x404 + 0x20 * i, 0, 5⟩
def F.SAF_FB_IN.IN_B (i : Nat) : Fld := ⟨.saf, 0x404 + 0x20 * i, 8, 5⟩
def F.SAF_FB_IN.IN_C (i : Nat) : Fld := ⟨.saf, 0x404 + 0x20 * i, 16, 5⟩
def F.SAF_FB_IN.IN_D (i : Nat) : Fld := ⟨.saf, 0x404 + 0x20 * i, 24, 5⟩
def F.SAF_FB_IN.HEAD (i : Nat) : Fld := ⟨.saf, 0x404 + 0x20 * i, 0, 6⟩
def F.SAF_FB_IN.SECTION (i : Nat) : Fld := ⟨.saf, 0x404 + 0x20 * i, 8, 6⟩
def F.SAF_FB_TIME.DISC_MS (i : Nat) : Fld := ⟨.saf, 0x408 + 0x20 * i, 0, 10⟩
def F.SAF_FB_TIME.PANEL_HOLD (i : Nat) : Fld := ⟨.saf, 0x408 + 0x20 * i, 10, 10⟩
def F.SAF_FB_TIME.STUCK_S (i : Nat) : Fld := ⟨.saf, 0x408 + 0x20 * i, 20, 10⟩
def F.SAF_FB_LIM.LIMIT (i : Nat) : Fld := ⟨.saf, 0x40c + 0x20 * i, 0, 12⟩
def F.SAF_FB_LIM.HOLD_S (i : Nat) : Fld := ⟨.saf, 0x40c + 0x20 * i, 16, 8⟩
def F.SAF_FB_LIM.OSSD_CHECK_S (i : Nat) : Fld := ⟨.saf, 0x40c + 0x20 * i, 24, 8⟩
def F.SAF_FB_ACT.SO (i : Nat) : Fld := ⟨.saf, 0x410 + 0x20 * i, 0, 8⟩
def F.SAF_FB_ACT.SIG (i : Nat) : Fld := ⟨.saf, 0x410 + 0x20 * i, 8, 16⟩
def F.SAF_FB_SEC_LO.SEC (i : Nat) : Fld := ⟨.saf, 0x414 + 0x20 * i, 0, 32⟩
def F.SAF_FB_SEC_HI.SEC (i : Nat) : Fld := ⟨.saf, 0x418 + 0x20 * i, 0, 32⟩
def F.SAF_FB_STAT.STATE (i : Nat) : Fld := ⟨.saf, 0x41c + 0x20 * i, 0, 3⟩
def F.SAF_FB_STAT.CAUSE (i : Nat) : Fld := ⟨.saf, 0x41c + 0x20 * i, 3, 1⟩
def F.SAF_FB_STAT.BEYOND (i : Nat) : Fld := ⟨.saf, 0x41c + 0x20 * i, 4, 8⟩
def F.SAF_FB_STAT.DISCREPANCY (i : Nat) : Fld := ⟨.saf, 0x41c + 0x20 * i, 12, 1⟩
def F.SAF_FB_STAT.OSSD_NOPULSE (i : Nat) : Fld := ⟨.saf, 0x41c + 0x20 * i, 13, 1⟩
def F.SAF_FB_STAT.BUTTON_STUCK (i : Nat) : Fld := ⟨.saf, 0x41c + 0x20 * i, 14, 1⟩
def F.SAF_FB_STAT.RESET_STUCK (i : Nat) : Fld := ⟨.saf, 0x41c + 0x20 * i, 15, 1⟩
def F.SAF_FB_STAT.RESET_REFUSED (i : Nat) : Fld := ⟨.saf, 0x41c + 0x20 * i, 16, 1⟩
def F.SAF_FB_STAT.CONFIG (i : Nat) : Fld := ⟨.saf, 0x41c + 0x20 * i, 17, 1⟩
def F.SAF_FB_STAT.SET_COUNT (i : Nat) : Fld := ⟨.saf, 0x41c + 0x20 * i, 24, 8⟩

def O.SER_CFG : Nat := 0x0
def O.SER_RATE : Nat := 0x4
def O.SER_RXCFG : Nat := 0x8
def O.SER_AB_CFG : Nat := 0xc
def O.SER_CARD_CFG : Nat := 0x10
def O.SER_SYNC_CFG : Nat := 0x14
def O.SER_CTRL : Nat := 0x18
def O.SER_STAT : Nat := 0x1c
def O.SER_FLAG : Nat := 0x20
def O.SER_IRQ_EN : Nat := 0x24
def O.SER_AB_LAST : Nat := 0x28
def O.SER_RX_CNT_LO : Nat := 0x2c
def O.SER_RX_CNT_HI : Nat := 0x30
def O.SER_TX_CNT_LO : Nat := 0x34
def O.SER_TX_CNT_HI : Nat := 0x38
def O.SER_ERR_CNT : Nat := 0x3c
def O.SER_ERR_CNT2 : Nat := 0x40
def O.SER_LOST_CNT : Nat := 0x44
def O.SER_CARD_CNT : Nat := 0x48
def O.SER_AB_CNT : Nat := 0x4c
def O.SER_LAST_RX : Nat := 0x50

def regDefsSER0 : List RegDef := [
  ⟨O.SER_CFG, 0x80, 8, 0x4, 1, none, [
    fd 0 1 .rw 0 0x80 true, fd 1 2 .rw 0 0x80 true, fd 3 4 .rw 8 0x80 true (.range 5 9),
    fd 7 3 .rw 0 0x80 true (.over 4 0), fd 10 2 .rw 0 0x80 true (.over 2 2), fd 12 1 .rw 0 0x80 true,
    fd 13 1 .rw 0 0x80 true, fd 14 1 .rw 0 0x80 true, fd 15 1 .rw 0 0x80 true]⟩,
  ⟨O.SER_RATE, 0x80, 8, 0x4, 1, none, [
    fd 0 25 .rw 0xd904 0x80 true (.range 512 21333333)]⟩,
  ⟨O.SER_RXCFG, 0x80, 8, 0x4, 1, none, [
    fd 0 8 .rw 4 0x80 true (.range 1 255), fd 8 8 .rw 0 0x80 true (.range 0 254), fd 16 3 .rw 3 0x80 true,
    fd 19 1 .rw 0 0x80 true]⟩,
  ⟨O.SER_AB_CFG, 0x80, 8, 0x4, 1, none, [
    fd 0 1 .rw 0 0x80 true, fd 1 1 .rw 0 0x80 true, fd 4 9 .rw 0x55 0x80 true,
    fd 16 4 .rw 3 0x80 true (.range 1 15), fd 24 8 .rw 0x14 0x80 true (.range 1 255)]⟩,
  ⟨O.SER_CARD_CFG, 0x80, 8, 0x4, 1, none, [
    fd 0 7 .rw 0x1c 0x80 true (.range 10 100), fd 7 1 .rw 0 0x80 true,
    fd 8 11 .rw 0x174 0x80 true (.range 1 2047), fd 19 6 .rw 1 0x80 true (.range 1 63)]⟩,
  ⟨O.SER_SYNC_CFG, 0x80, 8, 0x4, 1, none, [
    fd 0 16 .rw 0x64 0x80 true (.even 4 65534)]⟩,
  ⟨O.SER_CTRL, 0x80, 8, 0x4, 1, none, [
    fd 0 1 .wo 0 0x0, fd 1 1 .wo 0 0x0, fd 2 1 .wo 0 0x0]⟩,
  ⟨O.SER_STAT, 0x80, 8, 0x4, 1, none, [
    fd 0 1 .ro 0 0x0, fd 1 2 .ro 0 0x0, fd 3 1 .ro 0 0x0, fd 4 1 .ro 0 0x0, fd 5 1 .ro 0 0x0,
    fd 6 1 .ro 0 0x0, fd 7 1 .ro 0 0x0, fd 8 7 .ro 0 0x0]⟩,
  ⟨O.SER_FLAG, 0x80, 8, 0x4, 1, some 24, [
    fd 0 1 .w1c 0 0x0 true, fd 1 1 .w1c 0 0x0 true, fd 2 1 .w1c 0 0x0 true, fd 3 1 .w1c 0 0x0 true,
    fd 4 1 .w1c 0 0x0 true, fd 5 1 .w1c 0 0x0 true, fd 6 1 .w1c 0 0x0 true, fd 7 1 .w1c 0 0x0 true,
    fd 8 1 .w1c 0 0x0 true, fd 9 1 .w1c 0 0x0 true, fd 10 1 .w1c 0 0x0 true, fd 11 1 .w1c 0 0x0 true,
    fd 12 1 .w1c 0 0x0 true, fd 13 1 .w1c 0 0x0 true, fd 24 8 .ro 0 0x0 true]⟩,
  ⟨O.SER_IRQ_EN, 0x80, 8, 0x4, 1, none, [
    fd 0 14 .rw 0 0x80 true]⟩,
  ⟨O.SER_AB_LAST, 0x80, 8, 0x4, 1, none, [
    fd 0 25 .ro 0 0x0 true]⟩,
  ⟨O.SER_RX_CNT_LO, 0x80, 8, 0x4, 1, none, [
    fd 0 32 .ro 0 0x0 true]⟩]

def regDefsSER1 : List RegDef := [
  ⟨O.SER_RX_CNT_HI, 0x80, 8, 0x4, 1, none, [
    fd 0 32 .ro 0 0x0 true]⟩,
  ⟨O.SER_TX_CNT_LO, 0x80, 8, 0x4, 1, none, [
    fd 0 32 .ro 0 0x0 true]⟩,
  ⟨O.SER_TX_CNT_HI, 0x80, 8, 0x4, 1, none, [
    fd 0 32 .ro 0 0x0 true]⟩,
  ⟨O.SER_ERR_CNT, 0x80, 8, 0x4, 1, none, [
    fd 0 16 .ro 0 0x0 true, fd 16 16 .ro 0 0x0 true]⟩,
  ⟨O.SER_ERR_CNT2, 0x80, 8, 0x4, 1, none, [
    fd 0 16 .ro 0 0x0 true, fd 16 16 .ro 0 0x0 true]⟩,
  ⟨O.SER_LOST_CNT, 0x80, 8, 0x4, 1, none, [
    fd 0 32 .ro 0 0x0 true]⟩,
  ⟨O.SER_CARD_CNT, 0x80, 8, 0x4, 1, none, [
    fd 0 8 .ro 0 0x0 true, fd 8 8 .ro 0 0x0 true, fd 16 16 .ro 0 0x0 true]⟩,
  ⟨O.SER_AB_CNT, 0x80, 8, 0x4, 1, none, [
    fd 0 16 .ro 0 0x0 true, fd 16 16 .ro 0 0x0 true]⟩,
  ⟨O.SER_LAST_RX, 0x80, 8, 0x4, 1, none, [
    fd 0 16 .ro 0 0x0]⟩]

/-- The registers of block SER, in offset order. -/
def regDefsSER : List RegDef := regDefsSER0 ++ regDefsSER1

def F.SER_CFG.ENABLE (i : Nat) : Fld := ⟨.ser, 0x0 + 0x80 * i, 0, 1⟩
def F.SER_CFG.MODE (i : Nat) : Fld := ⟨.ser, 0x0 + 0x80 * i, 1, 2⟩
def F.SER_CFG.DATA_BITS (i : Nat) : Fld := ⟨.ser, 0x0 + 0x80 * i, 3, 4⟩
def F.SER_CFG.PARITY (i : Nat) : Fld := ⟨.ser, 0x0 + 0x80 * i, 7, 3⟩
def F.SER_CFG.STOP (i : Nat) : Fld := ⟨.ser, 0x0 + 0x80 * i, 10, 2⟩
def F.SER_CFG.MSB_FIRST (i : Nat) : Fld := ⟨.ser, 0x0 + 0x80 * i, 12, 1⟩
def F.SER_CFG.INVERT (i : Nat) : Fld := ⟨.ser, 0x0 + 0x80 * i, 13, 1⟩
def F.SER_CFG.CPOL (i : Nat) : Fld := ⟨.ser, 0x0 + 0x80 * i, 14, 1⟩
def F.SER_CFG.SAMPLE_LATE (i : Nat) : Fld := ⟨.ser, 0x0 + 0x80 * i, 15, 1⟩
def F.SER_RATE.BIT_DIV (i : Nat) : Fld := ⟨.ser, 0x4 + 0x80 * i, 0, 25⟩
def F.SER_RXCFG.RX_TIMEOUT (i : Nat) : Fld := ⟨.ser, 0x8 + 0x80 * i, 0, 8⟩
def F.SER_RXCFG.TX_GUARD (i : Nat) : Fld := ⟨.ser, 0x8 + 0x80 * i, 8, 8⟩
def F.SER_RXCFG.TX_RETRIES (i : Nat) : Fld := ⟨.ser, 0x8 + 0x80 * i, 16, 3⟩
def F.SER_RXCFG.ERR_SIG (i : Nat) : Fld := ⟨.ser, 0x8 + 0x80 * i, 19, 1⟩
def F.SER_AB_CFG.AB_EN (i : Nat) : Fld := ⟨.ser, 0xc + 0x80 * i, 0, 1⟩
def F.SER_AB_CFG.AB_SRC (i : Nat) : Fld := ⟨.ser, 0xc + 0x80 * i, 1, 1⟩
def F.SER_AB_CFG.AB_CHAR (i : Nat) : Fld := ⟨.ser, 0xc + 0x80 * i, 4, 9⟩
def F.SER_AB_CFG.AB_TRIES (i : Nat) : Fld := ⟨.ser, 0xc + 0x80 * i, 16, 4⟩
def F.SER_AB_CFG.AB_QUIET_MS (i : Nat) : Fld := ⟨.ser, 0xc + 0x80 * i, 24, 8⟩
def F.SER_CARD_CFG.CLK_DIV (i : Nat) : Fld := ⟨.ser, 0x10 + 0x80 * i, 0, 7⟩
def F.SER_CARD_CFG.DET_POL (i : Nat) : Fld := ⟨.ser, 0x10 + 0x80 * i, 7, 1⟩
def F.SER_CARD_CFG.ETU_F (i : Nat) : Fld := ⟨.ser, 0x10 + 0x80 * i, 8, 11⟩
def F.SER_CARD_CFG.ETU_D (i : Nat) : Fld := ⟨.ser, 0x10 + 0x80 * i, 19, 6⟩
def F.SER_SYNC_CFG.SYNC_DIV (i : Nat) : Fld := ⟨.ser, 0x14 + 0x80 * i, 0, 16⟩
def F.SER_CTRL.AB_ARM (i : Nat) : Fld := ⟨.ser, 0x18 + 0x80 * i, 0, 1⟩
def F.SER_CTRL.CARD_ARM (i : Nat) : Fld := ⟨.ser, 0x18 + 0x80 * i, 1, 1⟩
def F.SER_CTRL.CARD_STOP (i : Nat) : Fld := ⟨.ser, 0x18 + 0x80 * i, 2, 1⟩
def F.SER_STAT.LINE (i : Nat) : Fld := ⟨.ser, 0x1c + 0x80 * i, 0, 1⟩
def F.SER_STAT.AB_STATE (i : Nat) : Fld := ⟨.ser, 0x1c + 0x80 * i, 1, 2⟩
def F.SER_STAT.CARD_PRESENT (i : Nat) : Fld := ⟨.ser, 0x1c + 0x80 * i, 3, 1⟩
def F.SER_STAT.CARD_ACTIVE (i : Nat) : Fld := ⟨.ser, 0x1c + 0x80 * i, 4, 1⟩
def F.SER_STAT.INVERSE (i : Nat) : Fld := ⟨.ser, 0x1c + 0x80 * i, 5, 1⟩
def F.SER_STAT.TX_BUSY (i : Nat) : Fld := ⟨.ser, 0x1c + 0x80 * i, 6, 1⟩
def F.SER_STAT.RX_IDLE (i : Nat) : Fld := ⟨.ser, 0x1c + 0x80 * i, 7, 1⟩
def F.SER_STAT.FIFO (i : Nat) : Fld := ⟨.ser, 0x1c + 0x80 * i, 8, 7⟩
def F.SER_FLAG.PARITY (i : Nat) : Fld := ⟨.ser, 0x20 + 0x80 * i, 0, 1⟩
def F.SER_FLAG.FRAME (i : Nat) : Fld := ⟨.ser, 0x20 + 0x80 * i, 1, 1⟩
def F.SER_FLAG.BREAK (i : Nat) : Fld := ⟨.ser, 0x20 + 0x80 * i, 2, 1⟩
def F.SER_FLAG.LOST (i : Nat) : Fld := ⟨.ser, 0x20 + 0x80 * i, 3, 1⟩
def F.SER_FLAG.AB_OK (i : Nat) : Fld := ⟨.ser, 0x20 + 0x80 * i, 4, 1⟩
def F.SER_FLAG.AB_FAIL (i : Nat) : Fld := ⟨.ser, 0x20 + 0x80 * i, 5, 1⟩
def F.SER_FLAG.AB_GIVEUP (i : Nat) : Fld := ⟨.ser, 0x20 + 0x80 * i, 6, 1⟩
def F.SER_FLAG.CARD_IN (i : Nat) : Fld := ⟨.ser, 0x20 + 0x80 * i, 7, 1⟩
def F.SER_FLAG.CARD_OUT (i : Nat) : Fld := ⟨.ser, 0x20 + 0x80 * i, 8, 1⟩
def F.SER_FLAG.TS_FAULT (i : Nat) : Fld := ⟨.ser, 0x20 + 0x80 * i, 9, 1⟩
def F.SER_FLAG.CARD_TXERR (i : Nat) : Fld := ⟨.ser, 0x20 + 0x80 * i, 10, 1⟩
def F.SER_FLAG.CONFIG (i : Nat) : Fld := ⟨.ser, 0x20 + 0x80 * i, 11, 1⟩
def F.SER_FLAG.ARM_REFUSED (i : Nat) : Fld := ⟨.ser, 0x20 + 0x80 * i, 12, 1⟩
def F.SER_FLAG.IDLE (i : Nat) : Fld := ⟨.ser, 0x20 + 0x80 * i, 13, 1⟩
def F.SER_FLAG.SET_COUNT (i : Nat) : Fld := ⟨.ser, 0x20 + 0x80 * i, 24, 8⟩
def F.SER_IRQ_EN.MASK (i : Nat) : Fld := ⟨.ser, 0x24 + 0x80 * i, 0, 14⟩
def F.SER_AB_LAST.BIT_DIV (i : Nat) : Fld := ⟨.ser, 0x28 + 0x80 * i, 0, 25⟩
def F.SER_RX_CNT_LO.V (i : Nat) : Fld := ⟨.ser, 0x2c + 0x80 * i, 0, 32⟩
def F.SER_RX_CNT_HI.V (i : Nat) : Fld := ⟨.ser, 0x30 + 0x80 * i, 0, 32⟩
def F.SER_TX_CNT_LO.V (i : Nat) : Fld := ⟨.ser, 0x34 + 0x80 * i, 0, 32⟩
def F.SER_TX_CNT_HI.V (i : Nat) : Fld := ⟨.ser, 0x38 + 0x80 * i, 0, 32⟩
def F.SER_ERR_CNT.PARITY_ERRS (i : Nat) : Fld := ⟨.ser, 0x3c + 0x80 * i, 0, 16⟩
def F.SER_ERR_CNT.FRAME_ERRS (i : Nat) : Fld := ⟨.ser, 0x3c + 0x80 * i, 16, 16⟩
def F.SER_ERR_CNT2.BREAKS (i : Nat) : Fld := ⟨.ser, 0x40 + 0x80 * i, 0, 16⟩
def F.SER_ERR_CNT2.GLITCHES (i : Nat) : Fld := ⟨.ser, 0x40 + 0x80 * i, 16, 16⟩
def F.SER_LOST_CNT.LOST (i : Nat) : Fld := ⟨.ser, 0x44 + 0x80 * i, 0, 32⟩
def F.SER_CARD_CNT.INSERTS (i : Nat) : Fld := ⟨.ser, 0x48 + 0x80 * i, 0, 8⟩
def F.SER_CARD_CNT.REMOVALS (i : Nat) : Fld := ⟨.ser, 0x48 + 0x80 * i, 8, 8⟩
def F.SER_CARD_CNT.REPEATS (i : Nat) : Fld := ⟨.ser, 0x48 + 0x80 * i, 16, 16⟩
def F.SER_AB_CNT.PASSES (i : Nat) : Fld := ⟨.ser, 0x4c + 0x80 * i, 0, 16⟩
def F.SER_AB_CNT.FAILS (i : Nat) : Fld := ⟨.ser, 0x4c + 0x80 * i, 16, 16⟩
def F.SER_LAST_RX.WORD (i : Nat) : Fld := ⟨.ser, 0x50 + 0x80 * i, 0, 16⟩

def O.NET_CFG : Nat := 0x0
def O.NET_OWN_MAC_LO : Nat := 0x4
def O.NET_OWN_MAC_HI : Nat := 0x8
def O.NET_PARTNER_MAC_LO : Nat := 0xc
def O.NET_PARTNER_MAC_HI : Nat := 0x10
def O.NET_VLAN : Nat := 0x14
def O.NET_LINK_CFG : Nat := 0x18
def O.NET_CTRL : Nat := 0x1c
def O.NET_STAT : Nat := 0x20
def O.NET_FLAG : Nat := 0x24
def O.NET_LINK_CNT : Nat := 0x28
def O.NET_RX_FRAMES_LO : Nat := 0x30
def O.NET_RX_FRAMES_HI : Nat := 0x34
def O.NET_TX_FRAMES_LO : Nat := 0x38
def O.NET_TX_FRAMES_HI : Nat := 0x3c
def O.NET_RX_ERR : Nat := 0x40
def O.NET_RX_DROP : Nat := 0x44
def O.NET_RX_DROP2 : Nat := 0x48
def O.NET_TX_DROP : Nat := 0x4c
def O.NET_FEC_CORR_LO : Nat := 0x50
def O.NET_FEC_CORR_HI : Nat := 0x54
def O.NET_FEC_UNCORR : Nat := 0x58
def O.NET_PTP_RATE : Nat := 0x80
def O.NET_PTP_SEC_LO : Nat := 0x84
def O.NET_PTP_SEC_HI : Nat := 0x88
def O.NET_PTP_NS : Nat := 0x8c
def O.NET_PTP_STEP_SEC_LO : Nat := 0x90
def O.NET_PTP_STEP_SEC_HI : Nat := 0x94
def O.NET_PTP_STEP_NS : Nat := 0x98
def O.NET_PTP_CTRL : Nat := 0x9c
def O.NET_TS_CORR : Nat := 0xa0
def O.NET_PTP_STAT : Nat := 0xa4

def regDefsNET0 : List RegDef := [
  ⟨O.NET_CFG, 0x1000, 4, 0x4, 1, none, [
    fd 0 1 .rwl 0 0x80 true, fd 1 3 .rwl 0 0x80 true, fd 4 2 .rwl 3 0x80 true, fd 6 1 .rwl 1 0x80 true,
    fd 7 2 .rwl 0 0x80 true (.over 2 2), fd 9 1 .rwl 0 0x80 true, fd 10 1 .rwl 0 0x80 true,
    fd 11 1 .rwl 0 0x80 true, fd 12 1 .rwl 1 0x80 true, fd 13 1 .rwl 0 0x80 true, fd 14 1 .rwl 0 0x80 true]⟩,
  ⟨O.NET_OWN_MAC_LO, 0x1000, 4, 0x4, 1, none, [
    fd 0 32 .rwl 0 0x80 true]⟩,
  ⟨O.NET_OWN_MAC_HI, 0x1000, 4, 0x4, 1, none, [
    fd 0 16 .rwl 0 0x80 true]⟩,
  ⟨O.NET_PARTNER_MAC_LO, 0x1000, 4, 0x4, 1, none, [
    fd 0 32 .rwl 0 0x80 true]⟩,
  ⟨O.NET_PARTNER_MAC_HI, 0x1000, 4, 0x4, 1, none, [
    fd 0 16 .rwl 0 0x80 true]⟩,
  ⟨O.NET_VLAN, 0x1000, 4, 0x4, 1, none, [
    fd 0 12 .rwl 0 0x80 true, fd 12 3 .rwl 0 0x80 true]⟩,
  ⟨O.NET_LINK_CFG, 0x1000, 4, 0x4, 1, none, [
    fd 0 10 .rwl 0xa 0x80 true (.range 1 1000), fd 16 4 .rwl 5 0x80 true (.range 1 15),
    fd 24 8 .rwl 0x3c 0x80 true (.range 1 255)]⟩,
  ⟨O.NET_CTRL, 0x1000, 4, 0x4, 1, none, [
    fd 0 1 .wo 0 0x0]⟩,
  ⟨O.NET_STAT, 0x1000, 4, 0x4, 1, none, [
    fd 0 1 .ro 0 0x0, fd 1 3 .ro 0 0x0, fd 4 1 .ro 0 0x0, fd 5 1 .ro 0 0x0, fd 6 1 .ro 0 0x0,
    fd 7 1 .ro 0 0x0, fd 8 1 .ro 0 0x0]⟩,
  ⟨O.NET_FLAG, 0x1000, 4, 0x4, 1, some 24, [
    fd 0 1 .w1c 0 0x0 true, fd 1 1 .w1c 0 0x0 true, fd 2 1 .w1c 0 0x0 true, fd 3 1 .w1c 0 0x0 true,
    fd 4 1 .w1c 0 0x0 true, fd 24 8 .ro 0 0x0 true]⟩,
  ⟨O.NET_LINK_CNT, 0x1000, 4, 0x4, 1, none, [
    fd 0 16 .ro 0 0x0 true, fd 16 8 .ro 0 0x0 true]⟩,
  ⟨O.NET_RX_FRAMES_LO, 0x1000, 4, 0x4, 1, none, [
    fd 0 32 .ro 0 0x0 true]⟩]

def regDefsNET1 : List RegDef := [
  ⟨O.NET_RX_FRAMES_HI, 0x1000, 4, 0x4, 1, none, [
    fd 0 32 .ro 0 0x0 true]⟩,
  ⟨O.NET_TX_FRAMES_LO, 0x1000, 4, 0x4, 1, none, [
    fd 0 32 .ro 0 0x0 true]⟩,
  ⟨O.NET_TX_FRAMES_HI, 0x1000, 4, 0x4, 1, none, [
    fd 0 32 .ro 0 0x0 true]⟩,
  ⟨O.NET_RX_ERR, 0x1000, 4, 0x4, 1, none, [
    fd 0 16 .ro 0 0x0 true, fd 16 16 .ro 0 0x0 true]⟩,
  ⟨O.NET_RX_DROP, 0x1000, 4, 0x4, 1, none, [
    fd 0 16 .ro 0 0x0 true, fd 16 16 .ro 0 0x0 true]⟩,
  ⟨O.NET_RX_DROP2, 0x1000, 4, 0x4, 1, none, [
    fd 0 16 .ro 0 0x0 true, fd 16 16 .ro 0 0x0 true]⟩,
  ⟨O.NET_TX_DROP, 0x1000, 4, 0x4, 1, none, [
    fd 0 16 .ro 0 0x0 true, fd 16 16 .ro 0 0x0 true]⟩,
  ⟨O.NET_FEC_CORR_LO, 0x1000, 4, 0x4, 1, none, [
    fd 0 32 .ro 0 0x0 true]⟩,
  ⟨O.NET_FEC_CORR_HI, 0x1000, 4, 0x4, 1, none, [
    fd 0 32 .ro 0 0x0 true]⟩,
  ⟨O.NET_FEC_UNCORR, 0x1000, 4, 0x4, 1, none, [
    fd 0 32 .ro 0 0x0 true]⟩,
  ⟨O.NET_PTP_RATE, 0x1000, 4, 0x4, 1, none, [
    fd 0 32 .rw 0 0x0 true (.srange (-1000000000) 1000000000)]⟩,
  ⟨O.NET_PTP_SEC_LO, 0x1000, 4, 0x4, 1, none, [
    fd 0 32 .ro 0 0x0]⟩]

def regDefsNET2 : List RegDef := [
  ⟨O.NET_PTP_SEC_HI, 0x1000, 4, 0x4, 1, none, [
    fd 0 16 .ro 0 0x0]⟩,
  ⟨O.NET_PTP_NS, 0x1000, 4, 0x4, 1, none, [
    fd 0 30 .ro 0 0x0]⟩,
  ⟨O.NET_PTP_STEP_SEC_LO, 0x1000, 4, 0x4, 1, none, [
    fd 0 32 .rw 0 0x0 true]⟩,
  ⟨O.NET_PTP_STEP_SEC_HI, 0x1000, 4, 0x4, 1, none, [
    fd 0 16 .rw 0 0x0 true]⟩,
  ⟨O.NET_PTP_STEP_NS, 0x1000, 4, 0x4, 1, none, [
    fd 0 32 .rw 0 0x0 true (.srange (-999999999) 999999999)]⟩,
  ⟨O.NET_PTP_CTRL, 0x1000, 4, 0x4, 1, none, [
    fd 0 1 .wo 0 0x0, fd 1 1 .wo 0 0x0]⟩,
  ⟨O.NET_TS_CORR, 0x1000, 4, 0x4, 1, none, [
    fd 0 16 .rw 0 0x80 true, fd 16 16 .rw 0 0x80 true]⟩,
  ⟨O.NET_PTP_STAT, 0x1000, 4, 0x4, 1, none, [
    fd 0 16 .ro 0 0x0 true, fd 16 1 .ro 0 0x0 true]⟩]

/-- The registers of block NET, in offset order. -/
def regDefsNET : List RegDef := regDefsNET0 ++ regDefsNET1 ++ regDefsNET2

def F.NET_CFG.ENABLE (i : Nat) : Fld := ⟨.net, 0x0 + 0x1000 * i, 0, 1⟩
def F.NET_CFG.LINE_MODE (i : Nat) : Fld := ⟨.net, 0x0 + 0x1000 * i, 1, 3⟩
def F.NET_CFG.ROLE (i : Nat) : Fld := ⟨.net, 0x0 + 0x1000 * i, 4, 2⟩
def F.NET_CFG.FEC_MODE (i : Nat) : Fld := ⟨.net, 0x0 + 0x1000 * i, 6, 1⟩
def F.NET_CFG.MEDIUM (i : Nat) : Fld := ⟨.net, 0x0 + 0x1000 * i, 7, 2⟩
def F.NET_CFG.TAG_MODE (i : Nat) : Fld := ⟨.net, 0x0 + 0x1000 * i, 9, 1⟩
def F.NET_CFG.LOCK_EN (i : Nat) : Fld := ⟨.net, 0x0 + 0x1000 * i, 10, 1⟩
def F.NET_CFG.BCAST_EN (i : Nat) : Fld := ⟨.net, 0x0 + 0x1000 * i, 11, 1⟩
def F.NET_CFG.PTP_MC_EN (i : Nat) : Fld := ⟨.net, 0x0 + 0x1000 * i, 12, 1⟩
def F.NET_CFG.ONE_STEP_EN (i : Nat) : Fld := ⟨.net, 0x0 + 0x1000 * i, 13, 1⟩
def F.NET_CFG.RX_OTHER (i : Nat) : Fld := ⟨.net, 0x0 + 0x1000 * i, 14, 1⟩
def F.NET_OWN_MAC_LO.V (i : Nat) : Fld := ⟨.net, 0x4 + 0x1000 * i, 0, 32⟩
def F.NET_OWN_MAC_HI.V (i : Nat) : Fld := ⟨.net, 0x8 + 0x1000 * i, 0, 16⟩
def F.NET_PARTNER_MAC_LO.V (i : Nat) : Fld := ⟨.net, 0xc + 0x1000 * i, 0, 32⟩
def F.NET_PARTNER_MAC_HI.V (i : Nat) : Fld := ⟨.net, 0x10 + 0x1000 * i, 0, 16⟩
def F.NET_VLAN.VID (i : Nat) : Fld := ⟨.net, 0x14 + 0x1000 * i, 0, 12⟩
def F.NET_VLAN.PCP (i : Nat) : Fld := ⟨.net, 0x14 + 0x1000 * i, 12, 3⟩
def F.NET_LINK_CFG.LINK_UP_MS (i : Nat) : Fld := ⟨.net, 0x18 + 0x1000 * i, 0, 10⟩
def F.NET_LINK_CFG.FLAP_MAX (i : Nat) : Fld := ⟨.net, 0x18 + 0x1000 * i, 16, 4⟩
def F.NET_LINK_CFG.FLAP_WINDOW_S (i : Nat) : Fld := ⟨.net, 0x18 + 0x1000 * i, 24, 8⟩
def F.NET_CTRL.RELEASE (i : Nat) : Fld := ⟨.net, 0x1c + 0x1000 * i, 0, 1⟩
def F.NET_STAT.LINK_UP (i : Nat) : Fld := ⟨.net, 0x20 + 0x1000 * i, 0, 1⟩
def F.NET_STAT.STATE (i : Nat) : Fld := ⟨.net, 0x20 + 0x1000 * i, 1, 3⟩
def F.NET_STAT.BLOCK_LOCK (i : Nat) : Fld := ⟨.net, 0x20 + 0x1000 * i, 4, 1⟩
def F.NET_STAT.FEC_ALIGNED (i : Nat) : Fld := ⟨.net, 0x20 + 0x1000 * i, 5, 1⟩
def F.NET_STAT.HI_BER (i : Nat) : Fld := ⟨.net, 0x20 + 0x1000 * i, 6, 1⟩
def F.NET_STAT.RX_LF (i : Nat) : Fld := ⟨.net, 0x20 + 0x1000 * i, 7, 1⟩
def F.NET_STAT.RX_RF (i : Nat) : Fld := ⟨.net, 0x20 + 0x1000 * i, 8, 1⟩
def F.NET_FLAG.DOWN (i : Nat) : Fld := ⟨.net, 0x24 + 0x1000 * i, 0, 1⟩
def F.NET_FLAG.UP (i : Nat) : Fld := ⟨.net, 0x24 + 0x1000 * i, 1, 1⟩
def F.NET_FLAG.HELD (i : Nat) : Fld := ⟨.net, 0x24 + 0x1000 * i, 2, 1⟩
def F.NET_FLAG.CONFIG (i : Nat) : Fld := ⟨.net, 0x24 + 0x1000 * i, 3, 1⟩
def F.NET_FLAG.SYNC_LOST (i : Nat) : Fld := ⟨.net, 0x24 + 0x1000 * i, 4, 1⟩
def F.NET_FLAG.SET_COUNT (i : Nat) : Fld := ⟨.net, 0x24 + 0x1000 * i, 24, 8⟩
def F.NET_LINK_CNT.DOWNS (i : Nat) : Fld := ⟨.net, 0x28 + 0x1000 * i, 0, 16⟩
def F.NET_LINK_CNT.HOLDS (i : Nat) : Fld := ⟨.net, 0x28 + 0x1000 * i, 16, 8⟩
def F.NET_RX_FRAMES_LO.V (i : Nat) : Fld := ⟨.net, 0x30 + 0x1000 * i, 0, 32⟩
def F.NET_RX_FRAMES_HI.V (i : Nat) : Fld := ⟨.net, 0x34 + 0x1000 * i, 0, 32⟩
def F.NET_TX_FRAMES_LO.V (i : Nat) : Fld := ⟨.net, 0x38 + 0x1000 * i, 0, 32⟩
def F.NET_TX_FRAMES_HI.V (i : Nat) : Fld := ⟨.net, 0x3c + 0x1000 * i, 0, 32⟩
def F.NET_RX_ERR.FCS (i : Nat) : Fld := ⟨.net, 0x40 + 0x1000 * i, 0, 16⟩
def F.NET_RX_ERR.LENGTH (i : Nat) : Fld := ⟨.net, 0x40 + 0x1000 * i, 16, 16⟩
def F.NET_RX_DROP.ADDRESS (i : Nat) : Fld := ⟨.net, 0x44 + 0x1000 * i, 0, 16⟩
def F.NET_RX_DROP.TAG (i : Nat) : Fld := ⟨.net, 0x44 + 0x1000 * i, 16, 16⟩
def F.NET_RX_DROP2.SOURCE (i : Nat) : Fld := ⟨.net, 0x48 + 0x1000 * i, 0, 16⟩
def F.NET_RX_DROP2.NO_RING (i : Nat) : Fld := ⟨.net, 0x48 + 0x1000 * i, 16, 16⟩
def F.NET_TX_DROP.LINK_DROP (i : Nat) : Fld := ⟨.net, 0x4c + 0x1000 * i, 0, 16⟩
def F.NET_TX_DROP.REFUSED (i : Nat) : Fld := ⟨.net, 0x4c + 0x1000 * i, 16, 16⟩
def F.NET_FEC_CORR_LO.V (i : Nat) : Fld := ⟨.net, 0x50 + 0x1000 * i, 0, 32⟩
def F.NET_FEC_CORR_HI.V (i : Nat) : Fld := ⟨.net, 0x54 + 0x1000 * i, 0, 32⟩
def F.NET_FEC_UNCORR.UNCORRECTABLE (i : Nat) : Fld := ⟨.net, 0x58 + 0x1000 * i, 0, 32⟩
def F.NET_PTP_RATE.RATE_ADJ (i : Nat) : Fld := ⟨.net, 0x80 + 0x1000 * i, 0, 32⟩
def F.NET_PTP_SEC_LO.V (i : Nat) : Fld := ⟨.net, 0x84 + 0x1000 * i, 0, 32⟩
def F.NET_PTP_SEC_HI.V (i : Nat) : Fld := ⟨.net, 0x88 + 0x1000 * i, 0, 16⟩
def F.NET_PTP_NS.NS (i : Nat) : Fld := ⟨.net, 0x8c + 0x1000 * i, 0, 30⟩
def F.NET_PTP_STEP_SEC_LO.V (i : Nat) : Fld := ⟨.net, 0x90 + 0x1000 * i, 0, 32⟩
def F.NET_PTP_STEP_SEC_HI.V (i : Nat) : Fld := ⟨.net, 0x94 + 0x1000 * i, 0, 16⟩
def F.NET_PTP_STEP_NS.STEP_NS (i : Nat) : Fld := ⟨.net, 0x98 + 0x1000 * i, 0, 32⟩
def F.NET_PTP_CTRL.SET (i : Nat) : Fld := ⟨.net, 0x9c + 0x1000 * i, 0, 1⟩
def F.NET_PTP_CTRL.STEP (i : Nat) : Fld := ⟨.net, 0x9c + 0x1000 * i, 1, 1⟩
def F.NET_TS_CORR.TX_CORR (i : Nat) : Fld := ⟨.net, 0xa0 + 0x1000 * i, 0, 16⟩
def F.NET_TS_CORR.RX_CORR (i : Nat) : Fld := ⟨.net, 0xa0 + 0x1000 * i, 16, 16⟩
def F.NET_PTP_STAT.STEPS (i : Nat) : Fld := ⟨.net, 0xa4 + 0x1000 * i, 0, 16⟩
def F.NET_PTP_STAT.SYNC_LOST (i : Nat) : Fld := ⟨.net, 0xa4 + 0x1000 * i, 16, 1⟩

def O.KVT_ETYPE : Nat := 0x0
def O.KVT_PCFG : Nat := 0x100
def O.KVT_TIME : Nat := 0x104
def O.KVT_TIME2 : Nat := 0x108
def O.KVT_PUB_HEAD : Nat := 0x10c
def O.KVT_PUB_SEC_LO : Nat := 0x110
def O.KVT_PUB_SEC_HI : Nat := 0x114
def O.KVT_PUB_SIG : Nat := 0x118
def O.KVT_STAT : Nat := 0x11c
def O.KVT_SID : Nat := 0x120
def O.KVT_PEER_SID : Nat := 0x124
def O.KVT_SEQ_TX : Nat := 0x128
def O.KVT_SEQ_E : Nat := 0x12c
def O.KVT_TXMSG_LO : Nat := 0x130
def O.KVT_TXMSG_HI : Nat := 0x134
def O.KVT_RXMSG_LO : Nat := 0x138
def O.KVT_RXMSG_HI : Nat := 0x13c
def O.KVT_ERR : Nat := 0x140
def O.KVT_ERR2 : Nat := 0x144
def O.KVT_ERR3 : Nat := 0x148
def O.KVT_SESS_CNT : Nat := 0x14c
def O.KVT_KEY : Nat := 0x150
def O.KVT_KEY_CTRL : Nat := 0x160
def O.KVT_LAST_LOSS : Nat := 0x164
def O.KVT_DREF_LO : Nat := 0x168
def O.KVT_DREF_HI : Nat := 0x16c

def regDefsKVT0 : List RegDef := [
  ⟨O.KVT_ETYPE, 0x100000, 1, 0x4, 1, none, [
    fd 0 16 .rwl 0x88b5 0xc0]⟩,
  ⟨O.KVT_PCFG, 0x100, 4, 0x4, 1, none, [
    fd 0 1 .rwl 0 0xc0, fd 1 1 .rwl 0 0xc0, fd 2 1 .rwl 0 0xc0, fd 3 1 .rwl 0 0xc0,
    fd 4 10 .rwl 0xa 0xc0 false (.range 1 1000), fd 16 15 .rwl 0 0xc0]⟩,
  ⟨O.KVT_TIME, 0x100, 4, 0x4, 1, none, [
    fd 0 7 .rwl 2 0xc0 false (.range 1 100), fd 8 4 .rwl 3 0xc0 false (.range 1 15),
    fd 16 7 .rwl 0xa 0xc0 false (.range 1 100)]⟩,
  ⟨O.KVT_TIME2, 0x100, 4, 0x4, 1, none, [
    fd 0 10 .rwl 0x1e 0xc0 false (.range 3 1000), fd 10 10 .rwl 0x32 0xc0 false (.range 1 1000),
    fd 20 10 .rwl 0x64 0xc0 false (.range 10 1000)]⟩,
  ⟨O.KVT_PUB_HEAD, 0x100, 4, 0x4, 1, none, [
    fd 0 32 .rwl 0 0xc0]⟩,
  ⟨O.KVT_PUB_SEC_LO, 0x100, 4, 0x4, 1, none, [
    fd 0 32 .rwl 0 0xc0]⟩,
  ⟨O.KVT_PUB_SEC_HI, 0x100, 4, 0x4, 1, none, [
    fd 0 32 .rwl 0 0xc0]⟩,
  ⟨O.KVT_PUB_SIG, 0x100, 4, 0x4, 1, none, [
    fd 0 16 .rwl 0 0xc0, fd 16 8 .rwl 0x10 0xc0 false (.range 1 255)]⟩,
  ⟨O.KVT_STAT, 0x100, 4, 0x4, 1, none, [
    fd 0 2 .ro 0 0x0, fd 2 7 .ro 0 0x0, fd 9 9 .ro 0 0x0, fd 18 6 .ro 0 0x0]⟩,
  ⟨O.KVT_SID, 0x100, 4, 0x4, 1, none, [
    fd 16 16 .ro 0 0x0, fd 0 16 .ro 0 0xe0]⟩,
  ⟨O.KVT_PEER_SID, 0x100, 4, 0x4, 1, none, [
    fd 0 32 .ro 0 0xc0]⟩,
  ⟨O.KVT_SEQ_TX, 0x100, 4, 0x4, 1, none, [
    fd 0 32 .ro 0 0xc0]⟩]

def regDefsKVT1 : List RegDef := [
  ⟨O.KVT_SEQ_E, 0x100, 4, 0x4, 1, none, [
    fd 0 32 .ro 0 0xc0]⟩,
  ⟨O.KVT_TXMSG_LO, 0x100, 4, 0x4, 1, none, [
    fd 0 32 .ro 0 0xc0]⟩,
  ⟨O.KVT_TXMSG_HI, 0x100, 4, 0x4, 1, none, [
    fd 0 32 .ro 0 0xc0]⟩,
  ⟨O.KVT_RXMSG_LO, 0x100, 4, 0x4, 1, none, [
    fd 0 32 .ro 0 0xc0]⟩,
  ⟨O.KVT_RXMSG_HI, 0x100, 4, 0x4, 1, none, [
    fd 0 32 .ro 0 0xc0]⟩,
  ⟨O.KVT_ERR, 0x100, 4, 0x4, 1, none, [
    fd 0 16 .ro 0 0xc0, fd 16 16 .ro 0 0xc0]⟩,
  ⟨O.KVT_ERR2, 0x100, 4, 0x4, 1, none, [
    fd 0 8 .ro 0 0xc0, fd 8 8 .ro 0 0xc0, fd 16 8 .ro 0 0xc0, fd 24 8 .ro 0 0xc0]⟩,
  ⟨O.KVT_ERR3, 0x100, 4, 0x4, 1, none, [
    fd 0 8 .ro 0 0xc0, fd 8 8 .ro 0 0xc0, fd 16 8 .ro 0 0xc0, fd 24 8 .ro 0 0xc0]⟩,
  ⟨O.KVT_SESS_CNT, 0x100, 4, 0x4, 1, none, [
    fd 0 16 .ro 0 0xc0, fd 16 16 .ro 0 0xc0]⟩,
  ⟨O.KVT_KEY, 0x100, 4, 0x4, 4, none, [
    fd 0 32 .wo 0 0x0]⟩,
  ⟨O.KVT_KEY_CTRL, 0x100, 4, 0x4, 1, none, [
    fd 0 1 .wo 0 0x0, fd 8 1 .ro 0 0xc0]⟩,
  ⟨O.KVT_LAST_LOSS, 0x100, 4, 0x4, 1, none, [
    fd 0 3 .ro 0 0xc0, fd 8 8 .ro 0 0xc0]⟩]

def regDefsKVT2 : List RegDef := [
  ⟨O.KVT_DREF_LO, 0x100, 4, 0x4, 1, none, [
    fd 0 32 .ro 0 0x0]⟩,
  ⟨O.KVT_DREF_HI, 0x100, 4, 0x4, 1, none, [
    fd 0 16 .ro 0 0x0]⟩]

/-- The registers of block KVT, in offset order. -/
def regDefsKVT : List RegDef := regDefsKVT0 ++ regDefsKVT1 ++ regDefsKVT2

def F.KVT_ETYPE.KVT_ETYPE : Fld := ⟨.kvt, 0x0, 0, 16⟩
def F.KVT_PCFG.ENABLE (i : Nat) : Fld := ⟨.kvt, 0x100 + 0x100 * i, 0, 1⟩
def F.KVT_PCFG.AUTH_EN (i : Nat) : Fld := ⟨.kvt, 0x100 + 0x100 * i, 1, 1⟩
def F.KVT_PCFG.END (i : Nat) : Fld := ⟨.kvt, 0x100 + 0x100 * i, 2, 1⟩
def F.KVT_PCFG.PUB_SAFE (i : Nat) : Fld := ⟨.kvt, 0x100 + 0x100 * i, 3, 1⟩
def F.KVT_PCFG.REOPEN (i : Nat) : Fld := ⟨.kvt, 0x100 + 0x100 * i, 4, 10⟩
def F.KVT_PCFG.LINK_ID (i : Nat) : Fld := ⟨.kvt, 0x100 + 0x100 * i, 16, 15⟩
def F.KVT_TIME.RTO_MS (i : Nat) : Fld := ⟨.kvt, 0x104 + 0x100 * i, 0, 7⟩
def F.KVT_TIME.RETRIES (i : Nat) : Fld := ⟨.kvt, 0x104 + 0x100 * i, 8, 4⟩
def F.KVT_TIME.HB_MS (i : Nat) : Fld := ⟨.kvt, 0x104 + 0x100 * i, 16, 7⟩
def F.KVT_TIME2.TIMEOUT_MS (i : Nat) : Fld := ⟨.kvt, 0x108 + 0x100 * i, 0, 10⟩
def F.KVT_TIME2.MAX_AGE_MS (i : Nat) : Fld := ⟨.kvt, 0x108 + 0x100 * i, 10, 10⟩
def F.KVT_TIME2.ACK_DELAY_US (i : Nat) : Fld := ⟨.kvt, 0x108 + 0x100 * i, 20, 10⟩
def F.KVT_PUB_HEAD.HEADS (i : Nat) : Fld := ⟨.kvt, 0x10c + 0x100 * i, 0, 32⟩
def F.KVT_PUB_SEC_LO.SECTIONS (i : Nat) : Fld := ⟨.kvt, 0x110 + 0x100 * i, 0, 32⟩
def F.KVT_PUB_SEC_HI.SECTIONS (i : Nat) : Fld := ⟨.kvt, 0x114 + 0x100 * i, 0, 32⟩
def F.KVT_PUB_SIG.SIGNALS (i : Nat) : Fld := ⟨.kvt, 0x118 + 0x100 * i, 0, 16⟩
def F.KVT_PUB_SIG.INTEG_MAX (i : Nat) : Fld := ⟨.kvt, 0x118 + 0x100 * i, 16, 8⟩
def F.KVT_STAT.STATE (i : Nat) : Fld := ⟨.kvt, 0x11c + 0x100 * i, 0, 2⟩
def F.KVT_STAT.UNACKED (i : Nat) : Fld := ⟨.kvt, 0x11c + 0x100 * i, 2, 7⟩
def F.KVT_STAT.QUEUED (i : Nat) : Fld := ⟨.kvt, 0x11c + 0x100 * i, 9, 9⟩
def F.KVT_STAT.HELD (i : Nat) : Fld := ⟨.kvt, 0x11c + 0x100 * i, 18, 6⟩
def F.KVT_SID.HEAD (i : Nat) : Fld := ⟨.kvt, 0x120 + 0x100 * i, 16, 16⟩
def F.KVT_SID.EPOCH (i : Nat) : Fld := ⟨.kvt, 0x120 + 0x100 * i, 0, 16⟩
def F.KVT_PEER_SID.PEER_SID (i : Nat) : Fld := ⟨.kvt, 0x124 + 0x100 * i, 0, 32⟩
def F.KVT_SEQ_TX.SEQ (i : Nat) : Fld := ⟨.kvt, 0x128 + 0x100 * i, 0, 32⟩
def F.KVT_SEQ_E.SEQ (i : Nat) : Fld := ⟨.kvt, 0x12c + 0x100 * i, 0, 32⟩
def F.KVT_TXMSG_LO.V (i : Nat) : Fld := ⟨.kvt, 0x130 + 0x100 * i, 0, 32⟩
def F.KVT_TXMSG_HI.V (i : Nat) : Fld := ⟨.kvt, 0x134 + 0x100 * i, 0, 32⟩
def F.KVT_RXMSG_LO.V (i : Nat) : Fld := ⟨.kvt, 0x138 + 0x100 * i, 0, 32⟩
def F.KVT_RXMSG_HI.V (i : Nat) : Fld := ⟨.kvt, 0x13c + 0x100 * i, 0, 32⟩
def F.KVT_ERR.CRC_ERR (i : Nat) : Fld := ⟨.kvt, 0x140 + 0x100 * i, 0, 16⟩
def F.KVT_ERR.TAG_ERR (i : Nat) : Fld := ⟨.kvt, 0x140 + 0x100 * i, 16, 16⟩
def F.KVT_ERR2.FORM_ERR (i : Nat) : Fld := ⟨.kvt, 0x144 + 0x100 * i, 0, 8⟩
def F.KVT_ERR2.WRONG_SID (i : Nat) : Fld := ⟨.kvt, 0x144 + 0x100 * i, 8, 8⟩
def F.KVT_ERR2.AGED (i : Nat) : Fld := ⟨.kvt, 0x144 + 0x100 * i, 16, 8⟩
def F.KVT_ERR2.OUT_OF_WINDOW (i : Nat) : Fld := ⟨.kvt, 0x144 + 0x100 * i, 24, 8⟩
def F.KVT_ERR3.STALE (i : Nat) : Fld := ⟨.kvt, 0x148 + 0x100 * i, 0, 8⟩
def F.KVT_ERR3.DUP_RX (i : Nat) : Fld := ⟨.kvt, 0x148 + 0x100 * i, 8, 8⟩
def F.KVT_ERR3.ROLE_REJ (i : Nat) : Fld := ⟨.kvt, 0x148 + 0x100 * i, 16, 8⟩
def F.KVT_ERR3.UNUSED (i : Nat) : Fld := ⟨.kvt, 0x148 + 0x100 * i, 24, 8⟩
def F.KVT_SESS_CNT.OPENS (i : Nat) : Fld := ⟨.kvt, 0x14c + 0x100 * i, 0, 16⟩
def F.KVT_SESS_CNT.LOSSES (i : Nat) : Fld := ⟨.kvt, 0x14c + 0x100 * i, 16, 16⟩
def F.KVT_KEY.KEY (i j : Nat) : Fld := ⟨.kvt, 0x150 + 0x100 * i + 0x4 * j, 0, 32⟩
def F.KVT_KEY_CTRL.COMMIT (i : Nat) : Fld := ⟨.kvt, 0x160 + 0x100 * i, 0, 1⟩
def F.KVT_KEY_CTRL.KEY_VALID (i : Nat) : Fld := ⟨.kvt, 0x160 + 0x100 * i, 8, 1⟩
def F.KVT_LAST_LOSS.REASON (i : Nat) : Fld := ⟨.kvt, 0x164 + 0x100 * i, 0, 3⟩
def F.KVT_LAST_LOSS.RETX (i : Nat) : Fld := ⟨.kvt, 0x164 + 0x100 * i, 8, 8⟩
def F.KVT_DREF_LO.V (i : Nat) : Fld := ⟨.kvt, 0x168 + 0x100 * i, 0, 32⟩
def F.KVT_DREF_HI.V (i : Nat) : Fld := ⟨.kvt, 0x16c + 0x100 * i, 0, 16⟩

def O.TWN_CFG : Nat := 0x0
def O.TWN_CMP : Nat := 0x4
def O.TWN_TIME : Nat := 0x8
def O.TWN_PAIR_ID : Nat := 0xc
def O.TWN_VEN : Nat := 0x10
def O.TWN_STAT : Nat := 0x20
def O.TWN_FLAG : Nat := 0x24
def O.TWN_THETA : Nat := 0x28
def O.TWN_PARTNER_SEAL : Nat := 0x2c
def O.TWN_PARTNER_STAT : Nat := 0x30
def O.TWN_CASTLE_B_LO : Nat := 0x34
def O.TWN_CASTLE_B_HI : Nat := 0x38
def O.TWN_CNT_LINK : Nat := 0x3c
def O.TWN_CNT_CMP : Nat := 0x40
def O.TWN_CNT_HASH : Nat := 0x44
def O.TWN_CW_LO : Nat := 0x48
def O.TWN_CW_HI : Nat := 0x4c

def regDefsTWN0 : List RegDef := [
  ⟨O.TWN_CFG, 0x100000, 1, 0x4, 1, none, [
    fd 0 1 .rwl 0 0xc0, fd 1 1 .rwl 0 0xc0, fd 2 1 .rwl 0 0xc0, fd 3 1 .rwl 1 0xc0, fd 4 2 .rwl 0 0xc0,
    fd 16 16 .rwl 0x7d0 0xc0 false (.range 100 60000)]⟩,
  ⟨O.TWN_CMP, 0x100000, 1, 0x4, 1, none, [
    fd 0 8 .rwl 0x40 0xc0 false (.range 1 255), fd 8 8 .rwl 0x14 0xc0 false (.range 10 200),
    fd 16 4 .rwl 3 0xc0 false (.range 1 15)]⟩,
  ⟨O.TWN_TIME, 0x100000, 1, 0x4, 1, none, [
    fd 0 10 .rwl 0x64 0xc0 false (.range 20 1000), fd 10 10 .rwl 0xc8 0xc0 false (.range 50 1000),
    fd 20 8 .rwl 5 0xc0 false (.range 2 255), fd 28 4 .rwl 4 0xc0 false (.range 1 15)]⟩,
  ⟨O.TWN_PAIR_ID, 0x100000, 1, 0x4, 1, none, [
    fd 0 32 .rwl 0 0xc0]⟩,
  ⟨O.TWN_VEN, 0x100000, 1, 0x4, 1, none, [
    fd 0 8 .rwl 0 0xc0]⟩,
  ⟨O.TWN_STAT, 0x100000, 1, 0x4, 1, none, [
    fd 0 3 .ro 0 0x0, fd 3 1 .ro 0 0x0, fd 4 1 .ro 0 0x0, fd 5 1 .ro 0 0x0, fd 6 1 .ro 0 0x0,
    fd 8 8 .ro 0 0x0, fd 16 4 .ro 0 0xc0, fd 24 4 .ro 0 0x0]⟩,
  ⟨O.TWN_FLAG, 0x100000, 1, 0x4, 1, some 24, [
    fd 0 1 .w1c 0 0xc0, fd 1 1 .w1c 0 0xc0, fd 2 1 .w1c 0 0xc0, fd 3 1 .w1c 0 0xc0, fd 4 1 .w1c 0 0xc0,
    fd 5 1 .w1c 0 0xc0, fd 6 1 .w1c 0 0xc0, fd 7 1 .w1c 0 0xc0, fd 8 1 .w1c 0 0xc0, fd 9 1 .w1c 0 0xc0,
    fd 10 1 .w1c 0 0xc0, fd 11 1 .w1c 0 0xc0, fd 12 1 .w1c 0 0xc0, fd 24 8 .ro 0 0xc0]⟩,
  ⟨O.TWN_THETA, 0x100000, 1, 0x4, 1, none, [
    fd 0 16 .ro 0 0x0]⟩,
  ⟨O.TWN_PARTNER_SEAL, 0x100000, 1, 0x4, 1, none, [
    fd 0 32 .ro 0 0xc0]⟩,
  ⟨O.TWN_PARTNER_STAT, 0x100000, 1, 0x4, 1, none, [
    fd 0 24 .ro 0 0x0]⟩,
  ⟨O.TWN_CASTLE_B_LO, 0x100000, 1, 0x4, 1, none, [
    fd 0 32 .ro 0 0xc0]⟩,
  ⟨O.TWN_CASTLE_B_HI, 0x100000, 1, 0x4, 1, none, [
    fd 0 16 .ro 0 0xc0]⟩]

def regDefsTWN1 : List RegDef := [
  ⟨O.TWN_CNT_LINK, 0x100000, 1, 0x4, 1, none, [
    fd 0 16 .ro 0 0xc0, fd 16 16 .ro 0 0xc0]⟩,
  ⟨O.TWN_CNT_CMP, 0x100000, 1, 0x4, 1, none, [
    fd 0 16 .ro 0 0xc0, fd 16 16 .ro 0 0xc0]⟩,
  ⟨O.TWN_CNT_HASH, 0x100000, 1, 0x4, 1, none, [
    fd 0 16 .ro 0 0xc0, fd 16 8 .ro 0 0xc0, fd 24 8 .ro 0 0xc0]⟩,
  ⟨O.TWN_CW_LO, 0x100000, 1, 0x4, 1, none, [
    fd 0 32 .ro 0 0xc0]⟩,
  ⟨O.TWN_CW_HI, 0x100000, 1, 0x4, 1, none, [
    fd 0 32 .ro 0 0xc0]⟩]

/-- The registers of block TWN, in offset order. -/
def regDefsTWN : List RegDef := regDefsTWN0 ++ regDefsTWN1

def F.TWN_CFG.ENABLE : Fld := ⟨.twn, 0x0, 0, 1⟩
def F.TWN_CFG.WIRING : Fld := ⟨.twn, 0x0, 1, 1⟩
def F.TWN_CFG.LEAD_PREF : Fld := ⟨.twn, 0x0, 2, 1⟩
def F.TWN_CFG.AUTO_CASTLE : Fld := ⟨.twn, 0x0, 3, 1⟩
def F.TWN_CFG.PORT : Fld := ⟨.twn, 0x0, 4, 2⟩
def F.TWN_CFG.LOCK_WAIT_MS : Fld := ⟨.twn, 0x0, 16, 16⟩
def F.TWN_CMP.TOL : Fld := ⟨.twn, 0x4, 0, 8⟩
def F.TWN_CMP.SLACK_US : Fld := ⟨.twn, 0x4, 8, 8⟩
def F.TWN_CMP.DIGEST_CONFIRM : Fld := ⟨.twn, 0x4, 16, 4⟩
def F.TWN_TIME.SILENCE_US : Fld := ⟨.twn, 0x8, 0, 10⟩
def F.TWN_TIME.PROMOTE_US : Fld := ⟨.twn, 0x8, 10, 10⟩
def F.TWN_TIME.CASTLE_LEAD : Fld := ⟨.twn, 0x8, 20, 8⟩
def F.TWN_TIME.LINK_ERR_MAX : Fld := ⟨.twn, 0x8, 28, 4⟩
def F.TWN_PAIR_ID.PAIR_ID : Fld := ⟨.twn, 0xc, 0, 32⟩
def F.TWN_VEN.VEN_EN : Fld := ⟨.twn, 0x10, 0, 8⟩
def F.TWN_STAT.STATE : Fld := ⟨.twn, 0x20, 0, 3⟩
def F.TWN_STAT.ROLE : Fld := ⟨.twn, 0x20, 3, 1⟩
def F.TWN_STAT.LOCKED : Fld := ⟨.twn, 0x20, 4, 1⟩
def F.TWN_STAT.RUNNING : Fld := ⟨.twn, 0x20, 5, 1⟩
def F.TWN_STAT.CASTLING : Fld := ⟨.twn, 0x20, 6, 1⟩
def F.TWN_STAT.VEN_OUT : Fld := ⟨.twn, 0x20, 8, 8⟩
def F.TWN_STAT.REFUSAL : Fld := ⟨.twn, 0x20, 16, 4⟩
def F.TWN_STAT.HASH_UNEQUAL : Fld := ⟨.twn, 0x20, 24, 4⟩
def F.TWN_FLAG.PAIRED : Fld := ⟨.twn, 0x24, 0, 1⟩
def F.TWN_FLAG.LOST : Fld := ⟨.twn, 0x24, 1, 1⟩
def F.TWN_FLAG.REFUSED : Fld := ⟨.twn, 0x24, 2, 1⟩
def F.TWN_FLAG.SAMPLE_MISMATCH : Fld := ⟨.twn, 0x24, 3, 1⟩
def F.TWN_FLAG.DECISION_MISMATCH : Fld := ⟨.twn, 0x24, 4, 1⟩
def F.TWN_FLAG.DISAGREE : Fld := ⟨.twn, 0x24, 5, 1⟩
def F.TWN_FLAG.LINK_ERROR : Fld := ⟨.twn, 0x24, 6, 1⟩
def F.TWN_FLAG.TICK_SLIP : Fld := ⟨.twn, 0x24, 7, 1⟩
def F.TWN_FLAG.CASTLED : Fld := ⟨.twn, 0x24, 8, 1⟩
def F.TWN_FLAG.CASTLE_ABORTED : Fld := ⟨.twn, 0x24, 9, 1⟩
def F.TWN_FLAG.ISOLATED : Fld := ⟨.twn, 0x24, 10, 1⟩
def F.TWN_FLAG.PROMOTED : Fld := ⟨.twn, 0x24, 11, 1⟩
def F.TWN_FLAG.CONFIG : Fld := ⟨.twn, 0x24, 12, 1⟩
def F.TWN_FLAG.SET_COUNT : Fld := ⟨.twn, 0x24, 24, 8⟩
def F.TWN_THETA.THETA : Fld := ⟨.twn, 0x28, 0, 16⟩
def F.TWN_PARTNER_SEAL.SEAL : Fld := ⟨.twn, 0x2c, 0, 32⟩
def F.TWN_PARTNER_STAT.MARK : Fld := ⟨.twn, 0x30, 0, 24⟩
def F.TWN_CASTLE_B_LO.V : Fld := ⟨.twn, 0x34, 0, 32⟩
def F.TWN_CASTLE_B_HI.V : Fld := ⟨.twn, 0x38, 0, 16⟩
def F.TWN_CNT_LINK.UNCORRECTABLE : Fld := ⟨.twn, 0x3c, 0, 16⟩
def F.TWN_CNT_LINK.LOST_CW : Fld := ⟨.twn, 0x3c, 16, 16⟩
def F.TWN_CNT_CMP.DIGEST_MISMATCH : Fld := ⟨.twn, 0x40, 0, 16⟩
def F.TWN_CNT_CMP.DECISION_MISMATCH : Fld := ⟨.twn, 0x40, 16, 16⟩
def F.TWN_CNT_HASH.UNEQUAL : Fld := ⟨.twn, 0x44, 0, 16⟩
def F.TWN_CNT_HASH.CASTLINGS : Fld := ⟨.twn, 0x44, 16, 8⟩
def F.TWN_CNT_HASH.PROMOTIONS : Fld := ⟨.twn, 0x44, 24, 8⟩
def F.TWN_CW_LO.V : Fld := ⟨.twn, 0x48, 0, 32⟩
def F.TWN_CW_HI.V : Fld := ⟨.twn, 0x4c, 0, 32⟩

def O.EVT_CFG : Nat := 0x0
def O.EVT_START : Nat := 0x4
def O.EVT_CNT_LO : Nat := 0x8
def O.EVT_CNT_HI : Nat := 0xc
def O.EVT_DROP : Nat := 0x10
def O.EVT_FLAG : Nat := 0x14
def O.EVT_WORLD_DROP : Nat := 0x18
def O.EVT_ROUTE : Nat := 0x20

def regDefsEVT0 : List RegDef := [
  ⟨O.EVT_CFG, 0x100000, 1, 0x4, 1, none, [
    fd 0 6 .rwl 0 0xc0, fd 6 1 .rwl 0 0xc0]⟩,
  ⟨O.EVT_START, 0x100000, 1, 0x4, 1, none, [
    fd 0 7 .ro 0 0x0]⟩,
  ⟨O.EVT_CNT_LO, 0x100000, 1, 0x4, 1, none, [
    fd 0 32 .ro 0 0xc0]⟩,
  ⟨O.EVT_CNT_HI, 0x100000, 1, 0x4, 1, none, [
    fd 0 32 .ro 0 0xc0]⟩,
  ⟨O.EVT_DROP, 0x100000, 1, 0x4, 1, none, [
    fd 0 16 .ro 0 0xc0, fd 16 16 .ro 0 0xc0]⟩,
  ⟨O.EVT_FLAG, 0x100000, 1, 0x4, 1, some 24, [
    fd 0 1 .w1c 0 0xc0, fd 1 1 .w1c 0 0xc0, fd 2 1 .w1c 0 0xc0, fd 24 8 .ro 0 0xc0]⟩,
  ⟨O.EVT_WORLD_DROP, 0x100000, 1, 0x4, 1, none, [
    fd 0 16 .ro 0 0xc0]⟩,
  ⟨O.EVT_ROUTE, 0x4, 20, 0x4, 1, none, [
    fd 0 6 .rwl 0 0xc0, fd 6 1 .rwl 0 0xc0, fd 8 6 .rwl 0x3f 0xc0]⟩]

/-- The registers of block EVT, in offset order. -/
def regDefsEVT : List RegDef := regDefsEVT0

def F.EVT_CFG.SEC_RING : Fld := ⟨.evt, 0x0, 0, 6⟩
def F.EVT_CFG.SEC_EN : Fld := ⟨.evt, 0x0, 6, 1⟩
def F.EVT_START.START_QUEUE : Fld := ⟨.evt, 0x4, 0, 7⟩
def F.EVT_CNT_LO.V : Fld := ⟨.evt, 0x8, 0, 32⟩
def F.EVT_CNT_HI.V : Fld := ⟨.evt, 0xc, 0, 32⟩
def F.EVT_DROP.NO_RING : Fld := ⟨.evt, 0x10, 0, 16⟩
def F.EVT_DROP.START : Fld := ⟨.evt, 0x10, 16, 16⟩
def F.EVT_FLAG.NO_RING : Fld := ⟨.evt, 0x14, 0, 1⟩
def F.EVT_FLAG.START_LOST : Fld := ⟨.evt, 0x14, 1, 1⟩
def F.EVT_FLAG.WORLD : Fld := ⟨.evt, 0x14, 2, 1⟩
def F.EVT_FLAG.SET_COUNT : Fld := ⟨.evt, 0x14, 24, 8⟩
def F.EVT_WORLD_DROP.V : Fld := ⟨.evt, 0x18, 0, 16⟩
def F.EVT_ROUTE.RING (i : Nat) : Fld := ⟨.evt, 0x20 + 0x4 * i, 0, 6⟩
def F.EVT_ROUTE.EN (i : Nat) : Fld := ⟨.evt, 0x20 + 0x4 * i, 6, 1⟩
def F.EVT_ROUTE.CLASS_MASK (i : Nat) : Fld := ⟨.evt, 0x20 + 0x4 * i, 8, 6⟩

/-- The registers of a block. -/
def regDefs : Blk → List RegDef
  | .flt => regDefsFLT
  | .isl => regDefsISL
  | .pwr => regDefsPWR
  | .bot => regDefsBOT
  | .wld => regDefsWLD
  | .hst => regDefsHST
  | .haz => regDefsHAZ
  | .hed => regDefsHED
  | .sec => regDefsSEC
  | .win => regDefsWIN
  | .pgn => regDefsPGN
  | .lmp => regDefsLMP
  | .saf => regDefsSAF
  | .ser => regDefsSER
  | .net => regDefsNET
  | .kvt => regDefsKVT
  | .twn => regDefsTWN
  | .evt => regDefsEVT

end Sys2Proof.Machine
end

