-- ==== Sys2Proof/Machine/Catalogue.lean ====
section
/-! DEFINITION. Machine/Catalogue.lean: codes and classes of the event catalogue (Table EVT-4) and the SOURCE numbers of
objects (Tables EVT-1 and EVT-2). -/

namespace Sys2Proof.Machine

/-- Event code and class F0 to F5 of a row of Table EVT-4 (R508). -/
def evRow : Ev → Nat × Nat
  | .endgameEnter => (0x0101, 0)
  | .endgameExpired => (0x0102, 0)
  | .endgameRefused => (0x0103, 0)
  | .endgameEnded => (0x0104, 0)
  | .egSpeedExceeded => (0x0105, 1)
  | .fltGroupReleased => (0x0106, 0)
  | .clkWindowVital => (0x0201, 4)
  | .clkWindowIsland => (0x0202, 0)
  | .clkWindowCore => (0x0203, 0)
  | .islandHeld => (0x0204, 0)
  | .d2dLinkLost => (0x0205, 4)
  | .timeMap => (0x0206, 0)
  | .vfieldRange => (0x0301, 4)
  | .vsensLow => (0x0302, 1)
  | .vbatLow => (0x0303, 0)
  | .pwrHoldEnter => (0x0304, 0)
  | .pwrHoldExit => (0x0305, 0)
  | .retCorrupt => (0x0306, 0)
  | .bootImageRefused => (0x0401, 0)
  | .bootFail => (0x0402, 5)
  | .sealReadFault => (0x0403, 0)
  | .sealScanFault => (0x0404, 4)
  | .sealMismatch => (0x0405, 4)
  | .sealChanged => (0x0406, 5)
  | .sealChangedOffline => (0x0407, 0)
  | .imageCopyCorrupt => (0x0408, 5)
  | .otpProgFail => (0x0409, 0)
  | .wldViolation => (0x0501, 0)
  | .wldAssignRefused => (0x0502, 0)
  | .eccCorrected => (0x0503, 0)
  | .eccUncorrectable => (0x0504, 0)
  | .svLockstep => (0x0505, 0)
  | .hstLinkLost => (0x0601, 0)
  | .hstLinkUp => (0x0602, 0)
  | .hstRingError => (0x0603, 0)
  | .hstEvtOverflow => (0x0604, 0)
  | .blankOverlong => (0x0701, 1)
  | .bankClamp => (0x0702, 0)
  | .hazSelftestFail => (0x0703, 1)
  | .auxOpen => (0x0704, 0)
  | .auxRefFault => (0x0705, 0)
  | .senOpen => (0x0801, 2)
  | .senSupplyShort => (0x0802, 2)
  | .senOutOfBand => (0x0803, 2)
  | .senOvr => (0x0804, 2)
  | .headSysStuck => (0x0805, 1)
  | .headPattern => (0x0806, 1)
  | .headSingleDirection => (0x0807, 1)
  | .headRecordOverrun => (0x0808, 1)
  | .remoteHeadLost => (0x0809, 1)
  | .headConfig => (0x080a, 1)
  | .headRecovered => (0x080b, 0)
  | .headEvent => (0x0810, 0)
  | .gambit => (0x0811, 0)
  | .gambitConfirm => (0x0812, 0)
  | .gambitCancel => (0x0813, 0)
  | .headState => (0x0814, 0)
  | .secState => (0x0901, 0)
  | .secCountNegative => (0x0902, 1)
  | .secCountLimit => (0x0903, 1)
  | .secSweepTimeout => (0x0904, 1)
  | .secConfig => (0x0905, 1)
  | .secResetDone => (0x0906, 0)
  | .secResetRefused => (0x0907, 0)
  | .winLatch => (0x0a01, 0)
  | .winTrip => (0x0a02, 0)
  | .winSelftestFail => (0x0a03, 1)
  | .winSelftestMissed => (0x0a04, 0)
  | .winDacFail => (0x0a05, 1)
  | .winConfig => (0x0a06, 1)
  | .pgTrip => (0x0b01, 0)
  | .pgClearRefused => (0x0b02, 0)
  | .pgConfig => (0x0b03, 1)
  | .ssoFeedback => (0x0b04, 1)
  | .lampDark => (0x0c01, 1)
  | .lampGhost => (0x0c02, 1)
  | .lampShortSupply => (0x0c03, 1)
  | .lampOvercurrent => (0x0c04, 1)
  | .lampCross => (0x0c05, 1)
  | .lampString => (0x0c06, 2)
  | .lmpConfig => (0x0c07, 1)
  | .sigConfig => (0x0c08, 1)
  | .lmpDutyUnreachable => (0x0c09, 0)
  | .sigDark => (0x0c10, 0)
  | .lampChangeover => (0x0c11, 0)
  | .lampRearmed => (0x0c12, 0)
  | .lampRearmRefused => (0x0c13, 0)
  | .aspectRefused => (0x0c14, 0)
  | .lampStatus => (0x0c15, 0)
  | .siTestpulse => (0x0d01, 1)
  | .siCross => (0x0d02, 1)
  | .tpFault => (0x0d03, 1)
  | .fbDiscrepancy => (0x0d04, 1)
  | .fbOssdNopulse => (0x0d05, 1)
  | .fbConfig => (0x0d06, 1)
  | .soFeedback => (0x0d07, 3)
  | .soStuckOff => (0x0d08, 1)
  | .soConfig => (0x0d09, 1)
  | .fbButtonStuck => (0x0d10, 0)
  | .fbResetStuck => (0x0d11, 0)
  | .fbResetRefused => (0x0d12, 0)
  | .fbDemand => (0x0d13, 0)
  | .fbState => (0x0d14, 0)
  | .serConfig => (0x0e01, 0)
  | .serAutobaudFail => (0x0e02, 0)
  | .serCardInserted => (0x0e03, 0)
  | .serCardRemoved => (0x0e04, 0)
  | .serTsFault => (0x0e05, 0)
  | .serCardTxerr => (0x0e06, 0)
  | .netLinkUp => (0x0f01, 0)
  | .netLinkDown => (0x0f02, 0)
  | .netLinkHeld => (0x0f03, 0)
  | .netConfig => (0x0f04, 0)
  | .ptpStep => (0x0f05, 0)
  | .kvtSessionOpen => (0x1001, 0)
  | .kvtSessionLost => (0x1002, 0)
  | .kvtIntegrity => (0x1003, 0)
  | .kvtAged => (0x1004, 0)
  | .kvtConfig => (0x1005, 0)
  | .twinPaired => (0x1101, 0)
  | .twinLost => (0x1102, 2)
  | .twinPairRefused => (0x1103, 0)
  | .twinSampleMismatch => (0x1104, 1)
  | .twinDecisionMismatch => (0x1105, 1)
  | .twinDisagree => (0x1106, 3)
  | .twinLinkError => (0x1107, 0)
  | .twinTickSlip => (0x1108, 0)
  | .twinCastled => (0x1109, 0)
  | .twinCastleAborted => (0x110a, 0)
  | .twinIsolated => (0x110b, 3)
  | .twinPromoted => (0x110c, 0)
  | .twinConfig => (0x110d, 0)
  | .twinLostSeries => (0x110e, 3)
/-- Event code of Table EVT-4. -/
def evCode (e : Ev) : Nat := (evRow e).1

/-- Reaction class F0 to F5 of Table EVT-4. -/
def evClass (e : Ev) : Nat := (evRow e).2

/-- Block codes of Table WLD-2. -/
def blkCode : Blk → Nat
  | .flt => 1 | .isl => 2 | .pwr => 3 | .bot => 4 | .wld => 5 | .hst => 6 | .haz => 7 | .hed => 8 | .sec => 9
  | .win => 10 | .pgn => 11 | .lmp => 12 | .saf => 13 | .ser => 14 | .net => 15 | .kvt => 16 | .twn => 17 | .evt => 18

end Sys2Proof.Machine

namespace Sys2Proof

/-- Bytes 2 and 3 of a record: [15:10] block code, [9:0] instance (Table EVT-1). -/
def Src.enc (s : Src) : Nat := s.code * 1024 + s.inst % 1024

def Src.chan (n : Nat) : Src := ⟨7, n⟩
def Src.aux (a : Nat) : Src := ⟨7, 64 + a⟩
def Src.bank (b : Nat) : Src := ⟨7, 128 + b⟩
def Src.head (h : Nat) : Src := ⟨8, h⟩
def Src.sec (i : Nat) : Src := ⟨9, i⟩
def Src.wm (m : Nat) : Src := ⟨10, m⟩
def Src.pg (k : Nat) : Src := ⟨11, k⟩
def Src.lamp (k : Nat) : Src := ⟨12, k⟩
def Src.sig (s : Nat) : Src := ⟨12, 64 + s⟩
def Src.rule (r : Nat) : Src := ⟨12, 128 + r⟩
def Src.si (n : Nat) : Src := ⟨13, n⟩
def Src.tp (t : Nat) : Src := ⟨13, 32 + t⟩
def Src.so (o : Nat) : Src := ⟨13, 40 + o⟩
def Src.fb (f : Nat) : Src := ⟨13, 48 + f⟩
def Src.slot (k : Nat) : Src := ⟨1, k⟩
def Src.group (g : Nat) : Src := ⟨1, 16 + g⟩
def Src.clock (i : Nat) : Src := ⟨2, i⟩
def Src.pwr (b : Nat) : Src := ⟨3, b⟩
def Src.bot : Src := ⟨4, 0⟩
def Src.wld : Src := ⟨5, 0⟩
def Src.ring (n : Nat) : Src := ⟨6, n⟩
def Src.link : Src := ⟨6, 64⟩
def Src.uart (n : Nat) : Src := ⟨14, n⟩
def Src.port (n : Nat) : Src := ⟨15, n⟩
def Src.kvt (n : Nat) : Src := ⟨16, n⟩
def Src.twn : Src := ⟨17, 0⟩
def Src.sv (p : Nat) : Src := ⟨0x13, p⟩
def Src.ap (n : Nat) : Src := ⟨0x14, n⟩

end Sys2Proof
end

