-- ==== Sys2Proof/Machine/State.lean ====
section
/-! DEFINITION. Machine/State.lean: the state of the evaluator as plain data: the register file (every register field of
chapters 02 to 19 lives there), the engines' working state beside it, memory, and the queue of waiting commands. -/

namespace Sys2Proof.Machine

/-- The register file: one table per block, keyed by the register's offset; a register that is not listed holds the
Reset value of its register table. -/
structure Regs where
  flt : Tab Word := []
  isl : Tab Word := []
  pwr : Tab Word := []
  bot : Tab Word := []
  wld : Tab Word := []
  hst : Tab Word := []
  haz : Tab Word := []
  hed : Tab Word := []
  sec : Tab Word := []
  win : Tab Word := []
  pgn : Tab Word := []
  lmp : Tab Word := []
  saf : Tab Word := []
  ser : Tab Word := []
  net : Tab Word := []
  kvt : Tab Word := []
  twn : Tab Word := []
  evt : Tab Word := []
deriving DecidableEq, Repr

/-- A STRM, SER_RX or SER_TX buffer in progress, or an RXP or TXP frame buffer: the position of its descriptor, the
buffer's address and length, its FLAGS, the bytes used so far, the stamp of its first record, the count of records lost
before it, and whether it was flushed. -/
structure BufSt where
  addr : Nat
  len : Nat
  irq : Bool
  used : Nat
  first : Stamp
  gap : Nat
deriving DecidableEq, Repr

/-- The engine state of one ring beside its registers (chapter 07): the position of the last accepted doorbell value,
the event and write-back sequence numbers, the consumptions the last write-back does not cover, the consumptions not yet
signalled, the records dropped since the last overflow record, the buffer in progress and the records lost before the
next buffer, the stamps of the last poll of its doorbell word (R168) and of the last command it completed (R174, R182). -/
structure RingSt where
  hs : Nat := 0
  evSeq : BitVec 16 := 0
  wbSeq : BitVec 16 := 0
  wbDue : Bool := false
  wbSince : Stamp := 0
  unsig : Nat := 0
  unsigSince : Stamp := 0
  irqDue : Bool := false
  lost : Nat := 0
  lostFirst : Stamp := 0
  lostLast : Stamp := 0
  buf : Option BufSt := none
  gap : Nat := 0
  pollAt : Option Stamp := none
  ranAt : Option Stamp := none
deriving DecidableEq, Repr

/-- The supply condition beside PWR_STATE: off with GLOW lost, in standby, held in reset with GLOW alive, or running. -/
inductive PMode where
  | off | standby | held | on
deriving DecidableEq, Repr

/-- Power state beside the PWR registers (chapter 04): the supply condition, GLOW having run from VBAT since the rails were lost,
the latched balls BOOT_SEL, RST_N low, the start of the current HOLD, S and N waiting for HOLD to end (R99), the microseconds the watchdog has
counted (R93), the remainder below one RTC cycle, the BOOT wake in progress, the sample time last sent to GLOW (R92), the letters that fell
together with a G whose boot waits for RST_N (R97), a HOLD whose islands stop when the S in progress has completed (R99). -/
structure PowerSt where
  mode : PMode := .off
  fell : Bool := false
  sel : Nat := 0
  rst : Bool := false
  since : Stamp := 0
  waitS : Bool := false
  waitN : Bool := false
  wdtUs : Nat := 0
  rtcRem : Nat := 0
  wakeOn : Bool := false
  sent : Nat := 0
  letters : Nat := 0
  holdDue : Bool := false
deriving DecidableEq, Repr

/-- Boot state beside the BOT registers (chapter 05): a boot in progress, the sources left to try, its start, what the chain of the
seal block delivers to the scans of the next S, the code of the last valid seal read of this boot or re-application, the invalid
reads in a row and when the latest was made, when the latest periodic scan was made and how many repeats of it are left (R120), whether the scan of Step 3 has ended, whether the boot ring has consumed a BOOT_IMAGE, whether SEAL_CHANGED occurred in HOLD (R126), whether Step 5 has ended and the engines are due
to start, whether they have started, the index of the restart's phase-jitter sample E among the free values (R450), the highest class of the
F4 and F5 reactions that a reset has not left since (R21, R51), whether the engines are due after an S (R99), whether Step 6 has ended, though a
twin may hold the engines still (R501, R515). -/
structure BootSt where
  running : Bool := false
  sources : List Nat := []
  since : Stamp := 0
  chain : List (BitVec 64) := []
  valid : Option Word := none
  invalid : Nat := 0
  scanAt : Stamp := 0
  periodAt : Stamp := 0
  repeats : Nat := 0
  scanned : Bool := false
  taken : Bool := false
  inHold : Bool := false
  startDue : Bool := false
  started : Bool := false
  eIx : Nat := 0
  worst : Nat := 0
  byS : Bool := false
  step6 : Bool := false
deriving DecidableEq, Repr

/-- Clock monitors (chapter 03): the clocks whose monitors judge (bit i of Table ISL-3 order), and per island of
ISL_ISLAND_HELD the stamps of its clock resets in the last 60 s; the stamp of a mapping pair that a PTP step has made due (R62), every
core held in reset (R70), per island the stamp of its latest I plus 1, 0 for none (R64), and of a mapping pair captured in the present tick
the five words before it and whether its TIME_MAP is due (R65). -/
structure ClockSt where
  judging : Nat := 0
  resets : Tab (List Stamp) := []
  mapDue : Option Stamp := none
  coresHeld : Bool := false
  islandAt : Tab Nat := []
  mapPair : Option (List Nat × Bool) := none
deriving DecidableEq, Repr

/-- Worlds, memory and cores (chapter 06): the regions being zeroed with the tag that follows, the AP cores running, mtimecmp
per core (SV_0, SV_1, AP_0 to AP_3; the largest value where none is listed), the cores whose timer interrupt is pending, the pending
sources of the two interrupt controllers, those claimed and not completed, those of them that have asked again since (R148), the masked and the pending MSI-X vectors, the stamp of the last ECC_CORRECTED event, the corrections since, the
entries of the violation log not read since they were written, the priority, enable and threshold words of the interrupt controllers
(secure ones at even keys). -/
structure WorldSt where
  zeroing : Tab Nat := []
  apRunning : Nat := 0
  mtimecmp : Tab Nat := []
  timerPend : Nat := 0
  plicS : BitVec 128 := 0
  plicN : BitVec 128 := 0
  serveS : BitVec 128 := 0
  serveN : BitVec 128 := 0
  againS : BitVec 128 := 0
  againN : BitVec 128 := 0
  msixMask : BitVec 64 := 0xFFFFFFFFFFFFFFFF#64
  msixPend : BitVec 64 := 0
  eccAt : Option Stamp := none
  eccSince : Nat := 0
  vlogUnread : Nat := 0
  plicReg : Tab Word := []
deriving DecidableEq, Repr

/-- The timers of a KVT port that an arriving frame of the same tick can prevent (R469): RTO_MS and TIMEOUT_MS. -/
inductive KvtTimer where
  | rto | timeout
deriving DecidableEq, Repr

/-- One port's KVT session beside the KVT registers (chapter 17): whether the epoch was set since the restart, the held,
unacknowledged and queued frames, the time D_REF was last set, the last valid frame from the partner, the last sequenced
frame and the last SYN sent, a delivery not yet acknowledged, SUB of the last ACK, the loss, the stamps of frames that failed
checks 2 or 3, and check 5, in the last second, the last KVT_INTEGRITY and KVT_AGED events, the staged, committed and running keys, and timers that expire with the present tick (R469). -/
structure KvtSt where
  epochSet : Bool := false
  held : List KvtFrame := []
  unacked : List KvtSent := []
  queue : List KvtMsg := []
  drefAt : Stamp := 0
  lastValid : Stamp := 0
  lastSeq : Stamp := 0
  synAt : Stamp := 0
  ackDue : Option Stamp := none
  ackSub : Nat := 0
  lostAt : Stamp := 0
  integ : List Stamp := []
  aged : List Stamp := []
  integEv : Option Stamp := none
  agedEv : Option Stamp := none
  retx : Nat := 0
  staged : List Word := [0, 0, 0, 0]
  committed : Option (List Word) := none
  key : Option (List Word) := none
  expires : List KvtTimer := []
deriving DecidableEq, Repr

/-- One section beside its registers (chapter 10): the start of the clear-confirm timer, the stamp of PREPARED, the causes
of Table SEC-2 that were present at the last evaluation, the causes RESTART, SWEEP_TIMEOUT and EG_SPEED shown until the
next accepted reset (R263), and a cause that has occurred since the last evaluation and makes the section DISTURBED there (R12). -/
structure SecSt where
  start : Option Stamp := none
  prepared : Stamp := 0
  present : Nat := 0
  moment : Nat := 0
  fall : Bool := false
deriving DecidableEq, Repr

/-- One sensor system of a local head (chapter 09): its settled state (0 IDLE, 1 DAMPED, 2 not settled), the run in
progress (beyond damp, first record), the latest damp and release edges, the stamp it became DAMPED, its side of the
thresholds at the last unblanked record (0 between, 1 damp, 2 release, 3 before the first), the blank in progress, the last pair of records
whose sides differed across a blank, and the starts of the conditions of Table HED-7 and of R250. -/
structure SysSt where
  st : Nat := 2
  run : Option (Bool × Stamp) := none
  dampEdge : Stamp := 0
  relEdge : Stamp := 0
  dampedAt : Stamp := 0
  side : Nat := 3
  blank : Option (Stamp × Stamp) := none
  cross : Option (Stamp × Stamp) := none
  openAt : Option Stamp := none
  bandAt : Option Stamp := none
  ovrAt : Option Stamp := none
  cleanAt : Option Stamp := none
deriving DecidableEq, Repr

/-- One head slot beside its registers (chapter 09): the two systems, the damp edges of the wheel in the pattern, the open
gambit's direction and stamp, direction and last release edge of the previous wheel, the stamp since which the head is IDLE
in service, the stamp since which every cause has gone and both systems have been clean, the stamp of the latest HEAD_EVENT,
the stamp whose records fill the queue, the train of HEAD_SINGLE, a record that waits for the other channel's record of its stamp
(R247), a gambit window that has ended at a stamp whose records are still to come (R246), and the stamp of the latest records. -/
structure HeadSt where
  a : SysSt := {}
  b : SysSt := {}
  eEdge : Stamp := 0
  fEdge : Stamp := 0
  gDir : Nat := 0
  gAt : Stamp := 0
  lastWheel : Option (Nat × Stamp) := none
  idleAt : Option Stamp := none
  cleanAt : Option Stamp := none
  wheelAt : Option Stamp := none
  queueAt : Stamp := 0
  train : Option Nat := none
  early : Option (Stamp × ChanRec) := none
  winOver : Bool := false
  seen : Option Stamp := none
deriving DecidableEq, Repr

/-- One sensor channel beside its registers (chapter 08): records still to blank after a switch closure, the OVR tag and the
in-range records since, the latest unblanked code and tag, whether MIN and MAX hold a code, the boundary of the last twin move, a move
that is still to come with its boundary and mode (R214), the stamp of the opening of the switch, the age of the latest carrier crossing in units of 1.5625 ns, the self-test passes
still required, the input beyond the clamp level with its onset and the end of its disturbance, the STRM rings it streams to. -/
structure ChanSt where
  settle : Nat := 0
  ovr : Bool := false
  run : Nat := 0
  code : Int := 0
  codeOvr : Bool := false
  seen : Bool := false
  moved : Option Stamp := none
  moveAt : Option (Stamp × Nat) := none
  openedAt : Option Stamp := none
  cross : Option Nat := none
  need : Nat := 0
  beyond : Bool := false
  clampFrom : Option Stamp := none
  clampTo : Stamp := 0
  streams : List Nat := []
deriving DecidableEq, Repr

/-- One auxiliary channel: its last 8 reference measurements in nanovolts, newest first, the references completed, whether
the latest was beyond compliance, the STRM rings it streams to. -/
structure AuxSt where
  refs : List Int := []
  refOver : Bool := false
  streams : List Nat := []
deriving DecidableEq, Repr

/-- One bank's blanking: the end of the command blank, the generator blanks open, the end of the trailing blank of a trip edge, the start of the blank in progress, the end
of the last one, and since when all sources of a held bank are inactive. -/
structure BankSt where
  cmdEnd : Option Stamp := none
  pg : Nat := 0
  tail : Option (Stamp × Nat) := none
  since : Option Stamp := none
  lastEnd : Option Stamp := none
  quiet : Option Stamp := none
deriving DecidableEq, Repr

/-- A record on its way to a ring of buffers: ring, stamp, bytes. -/
structure StrmItem where
  ring : Nat
  stamp : Stamp
  data : List Byte
deriving DecidableEq, Repr

/-- A verdict on its way to NIMBUS (R286, R287): the first part, bits 0 to 3 and 8, formed at the end of the ON phase, or the
whole of Table WIN-2, formed at the boundary; the stamps at which the period began and at which the phase ended, what the lamp
engine asked of the period (1 lit, 2 proving, 4 unlit, 8 DARK_CODE in force), and whether the safe-state line overlapped it. -/
structure Verdict where
  whole : Bool
  bits : Nat
  start : Stamp
  end_ : Stamp
  tag : Nat
  safe : Bool
deriving DecidableEq, Repr

/-- One window monitor beside its registers (chapter 11): the scheduled blanks open, the end of the settling blank, of a timed
blank (trip edge or inserted test) and of the hold of the trip contribution that goes with it, the stamp at which the blank in
progress began and whether it lasts at least 1.1 µs; the start of the segment being judged, what the period has shown before the present
MIST cycle and in it (Table WIN-2, with gaps in place of ALL; R297); whether a first complete period is awaited, and
whether the ON part of the period has been formed; the verdicts formed; the trip contribution; per comparator (HI, LO) since when its
qualified output is active, the last captured edge, the last WIN_LATCH, the readings of its converter and by how many codes the latest of
them differed from the programmed one (R295); the last WIN_TRIP; the due stamp of the last test served, a due test of an earlier PERIOD_MS,
the end of the test in progress and the thresholds that wait for it (R298), the passes in a row, the STRM rings it streams to. -/
structure MonSt where
  cnt : Nat := 0
  settle : Option (Stamp × Nat) := none
  timed : Option (Stamp × Nat) := none
  hold : Bool := false
  blankAt : Option Stamp := none
  blankLong : Bool := false
  seg : Stamp × Nat := (0, 0)
  acc : Nat := 0
  late : Nat := 0
  first : Bool := true
  onDone : Bool := false
  due : List Verdict := []
  contrib : Bool := false
  actHi : Option (Stamp × Nat) := none
  actLo : Option (Stamp × Nat) := none
  capHi : Option (Stamp × Nat) := none
  capLo : Option (Stamp × Nat) := none
  evHi : Option (Stamp × Nat) := none
  evLo : Option (Stamp × Nat) := none
  evTrip : Option (Stamp × Nat) := none
  served : Option Stamp := none
  owed : Option Stamp := none
  testEnd : Option (Stamp × Nat) := none
  thrDue : Option (Nat × Nat) := none
  offUp : Int := 0
  offLo : Int := 0
  passes : Nat := 0
  badUp : Nat := 0
  badLo : Nat := 0
  goodUp : Nat := 0
  goodLo : Nat := 0
  streams : List Nat := []
deriving DecidableEq, Repr

/-- An instant of a generator's schedule (R308, R283, Table HAZ-5): an edge of a gate output, the beginning or the end of the
blank of a monitor or of a bank around an edge. -/
inductive Slot where
  | compFall | onRise | onFall | compRise
  | monBegin (m : Nat) | monEnd (m : Nat) | bankBegin (b : Nat) | bankEnd (b : Nat)
deriving DecidableEq, Repr

/-- One pulse generator beside its registers (chapter 12): GEN_CYCLES at the boundary of the period in progress and that
period's length, whether it has taken a boundary, the instants still to come (offset from the boundary in cycles), the offsets of the
period's scheduled edges and of those of the next one with the same on-time, the words PGN_CFG and PGN_MINP in force (R328), an edge of
its sync monitor that makes a boundary (R310), the latest
requested T and what the lamp engine asks of the next period, the same of the period in progress, the stamp at which that period
began with the nanoseconds into it, the proving periods still to come, the stamps at which the latest run of proving periods began and ended, whether the
on-time runs on into the next period, the hold of its pins that lasts until its next boundary after an exchange of roles (R490), the drive of the two gates by the schedule, whether the safe-state line has overlapped the period, and the stamp of the last PG_TRIP. -/
structure GenSt where
  at_ : Nat := 0
  period : Nat := 0
  started : Bool := false
  sched : List (Nat × Slot) := []
  edges : List Nat := []
  next : List Nat := []
  cfg : Nat := 0
  minp : Nat := 0
  sync : Option (Stamp × Nat) := none
  req : Nat := 0
  reqTag : Nat := 0
  tag : Nat := 0
  since : Stamp := 0
  sinceNs : Nat := 0
  prove : Nat := 0
  pulse : Option (Stamp × Option Stamp) := none
  keepOn : Bool := false
  hand : Option Bool := none
  on_ : Bool := false
  comp : Bool := false
  safe : Bool := false
  evAt : Option (Stamp × Nat) := none
deriving DecidableEq, Repr

/-- One status output: the end of SETTLE, agreeing verdicts at the forced level (R318 to R321), its words CFG, LOOP and FREQ in force
(R328). -/
structure SsoSt where
  settleTo : Stamp := 0
  agree : Nat := 0
  cfg : Nat := 0
  loop : Nat := 0
  freq : Nat := 0
deriving DecidableEq, Repr

/-- One lamp beside its registers (chapter 13): the re-arms after LAMP_SHORT_SUPPLY of the last 3,600 s, the stamp of the latest
LAMP_SHORT_SUPPLY, the FULL periods in a row with HALF_CNT 0. -/
structure LampSt where
  rearms : List Stamp := []
  shortAt : Option Stamp := none
  good : Nat := 0
deriving DecidableEq, Repr

/-- One safety input beside its registers (chapter 14): raw level of the latest sample with that sample's stamp and the level
before it, the raw level of the latest sample outside the windows of its own source and the start of its unbroken run, the stamp
at which the filtered level rose, the start of the raw low run and the end of the latest low run shorter than FILTER (R376), missed
pulses in a row and pulses in a row neither missed nor crossed. -/
structure SiSt where
  raw : Bool := false
  at_ : Stamp := 0
  prev : Bool := false
  base : Bool := false
  run : Stamp := 0
  rise : Option Stamp := none
  lowAt : Option Stamp := none
  pulseAt : Option Stamp := none
  missed : Nat := 0
  good : Nat := 0
deriving DecidableEq, Repr

/-- One test-pulse source: its pulse and its window are open, the inputs that read high in the last sample before the window, the
inputs that have read low in it, correct pulses in a row. -/
structure TpSt where
  pulse : Bool := false
  window : Bool := false
  before : Nat := 0
  low : Nat := 0
  good : Nat := 0
deriving DecidableEq, Repr

/-- One hand of a two-hand panel: when it was pressed, since when it is pressed alone, whether that has been reported. -/
structure HandSt where
  press : Option Stamp := none
  alone : Option Stamp := none
  told : Bool := false
deriving DecidableEq, Repr

/-- One safety function beside its registers (chapter 14): the starts of the discrepancy combination of its inputs or hands, whether
FB_DISCREPANCY holds it until the inputs have shown the demand combination together (Table SAF-2, detail 5) and whether they have,
the end of HOLD_S, whether a gate has been open since the start, the hands, both released since the last actuation, the stamp of
the actuation in progress, its authorisation issued, BLOCKED, the head having served,
BEYOND frozen, the stamp at which it started, a reset pulse that rose in a state it may reset, a
reset input reported stuck, the stamp of an authorisation that the sections have not judged. -/
structure FbSt where
  disc0 : Option Stamp := none
  disc1 : Option Stamp := none
  dflag : Bool := false
  shown : Bool := false
  hold : Option Stamp := none
  opened : Bool := false
  hand0 : HandSt := {}
  hand1 : HandSt := {}
  armed : Bool := false
  act : Option Stamp := none
  issued : Bool := false
  blocked : Bool := false
  served : Bool := false
  frozen : Bool := false
  elig : Bool := false
  stuck : Bool := false
  auth : Option Stamp := none
  begun : Option Stamp := none
deriving DecidableEq, Repr

/-- A receive word in a port's FIFO: the word of Table SER-2, its stamp, the words lost before it. -/
structure SerWord where
  word : Nat
  stamp : Stamp
  gap : Nat
deriving DecidableEq, Repr

/-- One serial port beside its registers (chapter 15): the FIFO, the words lost since the last stored one, LOST_BEFORE and AFTER_IDLE
waiting, the centre of the latest first stop bit, failed measurements in a row, waiting for quiet, the stamp of the latest arming, the TS
check armed, repetitions of the character, the end of the latest character sent, the level a synchronous TXD was left at, and that a card
was removed and none has been armed since (R417). -/
structure SerSt where
  fifo : List SerWord := []
  lost : Nat := 0
  mark : Bool := false
  idle : Bool := false
  lastStop : Stamp := 0
  fails : Nat := 0
  quiet : Bool := false
  armAt : Stamp := 0
  ts : Bool := false
  tries : Nat := 0
  sentAt : Stamp := 0
  last : Bool := false
  gone : Bool := false
deriving DecidableEq, Repr

/-- One network port beside its registers (chapter 16): the fraction of a nanosecond of its PTP clock in units of 2^-16 ns with the
remainder below it, the stamps of its latest downs, since when its link can have been good, and the latest step of its clock with the CIRRUS
cycle of that tick and the time it replaced (R440). -/
structure NetSt where
  frac : Nat := 0
  rem : Nat := 0
  downs : List Stamp := []
  trainAt : Stamp := 0
  stepped : Option (Stamp × Nat × Nat) := none
deriving DecidableEq, Repr

/-- The twin engine beside the TWN registers (chapter 18): the counter of the latest codeword, the good and bad ones in a row, the
stamp of the latest that decoded with the marker, the stamps of the codewords lost in the last second, the last TWIN_LINK_ERROR and
the stamp up to which no record is judged (R486); the partner's latest mark, the own latest m in ps, the marks in a row within 25 ns
and beyond 50 ns, the trims still to come, the cycles added to GEN_CYCLES (R482); the hold of the engines, its start, whether S began
it, the count loaded, the reasons reported, the agreed start; the castling planned and the stamp of its command; F4 seen; the loss that a Mirror watches and its case, the latest
excited record of a shared channel; the records to match; own and partner's sample records not yet compared, disagreements and
agreements in a row per channel; the partner's latest HASH block and its mask before that, the own latest hash; per recent stamp the decision records numbered (R12). -/
structure TwinSt where
  ctr : Option Nat := none
  goodRun : Nat := 0
  badRun : Nat := 0
  lastCw : Stamp := 0
  lost : List Stamp := []
  errAt : Option Stamp := none
  noJudge : Option Stamp := none
  mark : Option Mark := none
  m : Option Int := none
  locks : Nat := 0
  slips : Nat := 0
  trims : Int := 0
  genAdj : Int := 0
  held : Bool := false
  heldAt : Stamp := 0
  afterS : Bool := false
  loaded : Bool := false
  told : Nat := 0
  startAt : Option Stamp := none
  plan : Option CastlePlan := none
  planAt : Stamp := 0
  f4 : Bool := false
  watch : Option Stamp := none
  lostWhy : Nat := 0
  excitedAt : Option Stamp := none
  mine : List TwinRec := []
  theirs : List TwinRec := []
  own : List (Stamp × List (Nat × Word)) := []
  digests : List (Stamp × Nat × List Word) := []
  dis : Tab Nat := []
  agr : Tab Nat := []
  hash : Option (Stamp × Nat × Nat) := none
  mask : Nat := 0
  mine64 : Option (Stamp × Nat) := none
  seqs : Tab Nat := []
deriving DecidableEq, Repr


/-- What the latest command put out: the event records raised, interrupts signalled, the data and answer of a bus access
(the model's own; the environment reads it). -/
structure Out where
  events : List EvRec := []
  irqs : List Irq := []
  data : Option Word := none
  answer : Answer := .ok
  serTx : List (Nat × List Bool) := []
  serNak : List Nat := []
  frames : List (Nat × List Byte) := []
  blocks : List (List Byte) := []
deriving DecidableEq, Repr

/-- Everything of the evaluator but the addressed memories and the command queue: the part, sample time with the nanoseconds (`fine`) into its
tick, the registers and the latched halves of counter pairs (R150); the causes present, the expiries of the Endgame slots and whether GLOW's
copy of them is due (R49); event records on their way to the rings (`evq`), those that wait for the engines' start (`startq`, R515), outage-log
entries (`logq`), head records for the safety functions (`headq`), decisions to be numbered (`decq`, R12) and the stamp that the decisions
of this command carry when it is not its own (`decAt`, R11), records for rings of buffers (`strmq`), APP messages received (`appq`), KVT
frames that wait at a port (`kvtTx`), sessions lost (`kvtLost`), trips for the lamps (`tripq`); the sample records of a stamp for the twin
(`recs`, `recsAt`); the MSI-X table; per object the engines' working state; the levels at the pins: BLANK (`pins`), the monitors' inputs in
sixteenths of a millivolt (`winIn`), the safety inputs in millivolts (`siMv`), the feedback of safe outputs with its stamp (`soFb`); since when a
trip group's line is released, the converter read next, the forcings of signals and the signals that changed, the stamp of each safe output's
latest command, the safety state last published, since when the twin's lane is locked; and the model's own counter of free values and
`out`. -/
structure Dev where
  part : Part := .dx8856
  now : Stamp := 0
  regs : Regs := {}
  shadow : Tab Word := []
  causes : List Cause := []
  egExpiry : Tab Stamp := []
  egDirty : Bool := false
  evq : List EvRec := []
  startq : List EvRec := []
  clocks : ClockSt := {}
  power : PowerSt := {}
  boot : BootSt := {}
  worlds : WorldSt := {}
  rings : Tab RingSt := []
  vectors : Tab Nat := []
  freeCtr : Nat := 0
  logq : List (List Byte) := []
  kvt : Tab KvtSt := []
  kvtLost : List Nat := []
  kvtTx : Tab (List KvtFrame) := []
  secs : Tab SecSt := []
  heads : Tab HeadSt := []
  decq : List Decision := []
  fine : Nat := 0
  chans : Tab ChanSt := []
  auxs : Tab AuxSt := []
  banks : Tab BankSt := []
  pins : Nat := 0
  strmq : List StrmItem := []
  recs : List (Nat × Word) := []
  recsAt : Stamp := 0
  mons : Tab MonSt := []
  winIn : Tab Nat := []
  gens : Tab GenSt := []
  ssos : Tab SsoSt := []
  lineOff : Tab Stamp := []
  dacNext : Nat := 0
  tripq : List (Nat × List Nat) := []
  lamps : Tab LampSt := []
  forced : List (Nat × Nat × Nat) := []
  sigDirty : Nat := 0
  decAt : Option Stamp := none
  headq : List (Nat × HeadRec) := []
  sis : Tab SiSt := []
  tps : Tab TpSt := []
  fbs : Tab FbSt := []
  soAt : Tab Stamp := []
  soFb : Tab (Bool × Stamp) := []
  siMv : Tab Int := []
  safeSent : List Byte := []
  sers : Tab SerSt := []
  nets : Tab NetSt := []
  laneLock : Option Stamp := none
  appq : List (Nat × List Byte) := []
  twin : TwinSt := {}
  out : Out := {}
deriving DecidableEq, Repr

/-- The addressed memories: device memory (SRAM, SV TCMs, retention RAM) by device address, host memory by host bus
address, OTP by word. Each is a list of bytes (or words) in the canonical form of `Mem.wf`. -/
structure Store where
  mem : List Host.Cell := []
  host : List Host.Cell := []
  otp : Tab Word := []
deriving DecidableEq, Repr

/-- The machine: the device, its memories, and the commands that wait, first in first out. -/
structure State where
  pending : List Instr := []
  dev : Dev := {}
  store : Store := {}
deriving DecidableEq, Repr

/-- Why a step may stop with a fault. The model raises none: every command of the table has an effect. -/
inductive Fault where
  /-- Raised by nobody: safe. -/
  | none
deriving DecidableEq, Repr

/-- Why a step may be refused. -/
inductive Refusal where
  /-- Raised by an arm of exec whose command has no meaning yet: safe, it stops where the block goes on. -/
  | notModelled (mnemonic : String)
deriving DecidableEq, Repr

/-- The machine after event G with its power-on reset not yet released: every register at its Reset value, every
engine at rest, memory with nothing listed, no command waiting. -/
def State.reset : State := {}

end Sys2Proof.Machine
end

