-- ==== Sys2Proof/Machine/Ops.lean ====
section
/-! DEFINITION. Machine/Ops.lean: the named operations over tables, memory, registers, events and faults. -/

namespace Sys2Proof.Machine

/-! ### Tables and memory -/

/-- What index `n` of a table reads as; `d` is what an unlisted index reads as. -/
def tabGet {α : Type} (d : α) : Tab α → Nat → α
  | [], _ => d
  | (k, v) :: r, n => if k = n then v else tabGet d r n

/-- A table without entries for index `n`. -/
def tabDel {α : Type} (t : Tab α) (n : Nat) : Tab α := t.filter (fun e => e.1 ≠ n)

/-- A table with entry (n, x) put in its place. -/
def tabIns {α : Type} : Tab α → Nat → α → Tab α
  | [], n, x => [(n, x)]
  | (k, v) :: r, n, x =>
    if k = n then (n, x) :: r else if n < k then (n, x) :: (k, v) :: r else (k, v) :: tabIns r n x

/-- Write `x` at index `n`, keeping the canonical form: the value an unlisted index reads as removes the entry. -/
def tabPut {α : Type} [DecidableEq α] (d : α) (t : Tab α) (n : Nat) (x : α) : Tab α :=
  if x = d then tabDel t n else tabIns t n x

/-- Apply `f` to the value at index `n`. -/
def tabMod {α : Type} [DecidableEq α] (d : α) (t : Tab α) (n : Nat) (f : α → α) : Tab α :=
  tabPut d t n (f (tabGet d t n))

/-- Indices strictly rising. -/
def tabSorted {α : Type} : Tab α → Bool
  | [] => true
  | [_] => true
  | (a, _) :: (b, y) :: r => a < b && tabSorted ((b, y) :: r)

/-- The canonical form of a table: indices strictly rising, no entry equal to what an unlisted index reads as. -/
def tabWf {α : Type} [DecidableEq α] (d : α) (t : Tab α) : Bool := tabSorted t && t.all (fun e => e.2 ≠ d)

/-- Memory not listed reads as 0 (assumption log 4). -/
def memByte (m : List Host.Cell) (a : Nat) : Byte := tabGet 0 m a

/-- The canonical form of a memory. -/
def Mem.wf (m : List Host.Cell) : Bool := tabWf (0 : Byte) m

/-- `n` bytes from address `a`. -/
def memRead (m : List Host.Cell) (a n : Nat) : List Byte := (List.range n).map (fun i => memByte m (a + i))

/-- Write bytes from address `a` upward. -/
def memWrite (m : List Host.Cell) (a : Nat) : List Byte → List Host.Cell
  | [] => m
  | b :: r => memWrite (tabPut 0 m a b) (a + 1) r

/-- Memory with `n` bytes from address `a` zeroed. -/
def memZero (m : List Host.Cell) (a n : Nat) : List Host.Cell := m.filter (fun c => c.1 < a || a + n ≤ c.1)

/-! ### The register file -/

/-- The table of a block. -/
def Regs.tab (r : Regs) : Blk → Tab Word
  | .flt => r.flt | .isl => r.isl | .pwr => r.pwr | .bot => r.bot | .wld => r.wld | .hst => r.hst | .haz => r.haz
  | .hed => r.hed | .sec => r.sec | .win => r.win | .pgn => r.pgn | .lmp => r.lmp | .saf => r.saf | .ser => r.ser
  | .net => r.net | .kvt => r.kvt | .twn => r.twn | .evt => r.evt

/-- The register file with the table of one block replaced. -/
def Regs.setTab (r : Regs) (t : Tab Word) : Blk → Regs
  | .flt => { r with flt := t } | .isl => { r with isl := t } | .pwr => { r with pwr := t }
  | .bot => { r with bot := t } | .wld => { r with wld := t } | .hst => { r with hst := t }
  | .haz => { r with haz := t } | .hed => { r with hed := t } | .sec => { r with sec := t }
  | .win => { r with win := t } | .pgn => { r with pgn := t } | .lmp => { r with lmp := t }
  | .saf => { r with saf := t } | .ser => { r with ser := t } | .net => { r with net := t }
  | .kvt => { r with kvt := t } | .twn => { r with twn := t } | .evt => { r with evt := t }

/-- Instance (i, j) of a register definition at an offset, if the offset is one of its. -/
def RegDef.at? (r : RegDef) (off : Nat) : Option (Nat × Nat) :=
  if off < r.base then none
  else
    let x := off - r.base
    let i := x / r.s1
    let y := x % r.s1
    let j := y / r.s2
    if i < r.n1 && j < r.n2 && y % r.s2 = 0 then some (i, j) else none

/-- The register at an offset of a block, with its instance. -/
def findReg (off : Nat) : List RegDef → Option (RegDef × Nat × Nat)
  | [] => none
  | r :: l => match r.at? off with
    | some (i, j) => some (r, i, j)
    | none => findReg off l

/-- The mask of one field element. -/
def maskBits (lo w : Nat) : Nat := (2 ^ w - 1) * 2 ^ lo

/-- The Reset value of one field of instance number `i`. -/
def FieldDef.resetBits (f : FieldDef) (i : Nat) : Nat :=
  (List.range f.n).foldl (fun a m => a ||| (f.reset i % 2 ^ f.w) * 2 ^ (f.lo + m * f.step)) 0

/-- All bits of one field. -/
def FieldDef.mask (f : FieldDef) : Nat := (List.range f.n).foldl (fun a m => a ||| maskBits (f.lo + m * f.step) f.w) 0

/-- The Reset value of a register instance. -/
def RegDef.resetWord (r : RegDef) (i : Nat) : Nat := r.fields.foldl (fun a f => a ||| f.resetBits i) 0

/-- What an unlisted register reads as: the Reset value of its table; HST_ID.DEVICE_ID names the part. -/
def resetAt (p : Part) (b : Blk) (off : Nat) : Word :=
  match findReg off (regDefs b) with
  | none => 0
  | some (r, i, j) =>
    if b = .hst ∧ off = O.HST_ID ∧ p = .dx8828 then 0x1D9B8828#32 else BitVec.ofNat 32 (r.resetWord (i * r.n2 + j))

/-- The stored word of a register. -/
def Dev.reg (d : Dev) (b : Blk) (off : Nat) : Word := tabGet (resetAt d.part b off) (d.regs.tab b) off

/-- Store a word in a register. -/
def Dev.setReg (d : Dev) (b : Blk) (off : Nat) (v : Word) : Dev :=
  { d with regs := d.regs.setTab (tabPut (resetAt d.part b off) (d.regs.tab b) off v) b }

/-- The value of a field. -/
def Dev.fld (d : Dev) (f : Fld) : Nat := ((d.reg f.blk f.off).extractLsb' f.lo f.w).toNat

/-- The bits of a field in its register. -/
def Fld.bits (f : Fld) (v : Nat) : Word := (BitVec.ofNat f.w v).setWidth 32 <<< f.lo

/-- A word with one field replaced. -/
def Fld.splice (f : Fld) (r : Word) (v : Nat) : Word := (r &&& ~~~ f.bits (2 ^ f.w - 1)) ||| f.bits v

/-- Set a field; a value that is too wide loses its high bits. -/
def Dev.setFld (d : Dev) (f : Fld) (v : Nat) : Dev := d.setReg f.blk f.off (f.splice (d.reg f.blk f.off) v)

/-- The value of a field in a word. -/
def Fld.of (f : Fld) (w : Nat) : Nat := w / 2 ^ f.lo % 2 ^ f.w

/-- A one-bit field that reads 1. -/
def Dev.on (d : Dev) (f : Fld) : Bool := d.fld f = 1

/-- Set a one-bit field. -/
def Dev.setBit (d : Dev) (f : Fld) (b : Bool) : Dev := d.setFld f b.toNat

/-- A field read as a signed number. -/
def Dev.sfld (d : Dev) (f : Fld) : Int := sgn f.w (d.fld f)

/-- Set a field to a signed number. -/
def Dev.setSFld (d : Dev) (f : Fld) (v : Int) : Dev := d.setFld f (unsgn f.w v)

/-- A field that counts up and stops at its maximum. -/
def Dev.inc (d : Dev) (f : Fld) (n : Nat := 1) : Dev := d.setFld f (min (d.fld f + n) (2 ^ f.w - 1))

/-- A field that counts up and wraps. -/
def Dev.incWrap (d : Dev) (f : Fld) (n : Nat := 1) : Dev := d.setFld f ((d.fld f + n) % 2 ^ f.w)

/-- Bit `i` of a field. -/
def Dev.bitOf (d : Dev) (f : Fld) (i : Nat) : Bool := (d.fld f).testBit i

/-- Set bit `i` of a mask. -/
def setMask (m i : Nat) (b : Bool) : Nat := if b then m ||| 2 ^ i else m - (m &&& 2 ^ i)

/-- Set bit `i` of a field. -/
def Dev.setBitOf (d : Dev) (f : Fld) (i : Nat) (b : Bool) : Dev := d.setFld f (setMask (d.fld f) i b)

/-- A 64-bit counter held in a pair of words counts up and wraps. -/
def Dev.incPair (d : Dev) (lo hi : Fld) (n : Nat := 1) : Dev :=
  let v := d.fld lo + d.fld hi * 2 ^ 32 + n
  (d.setFld lo (v % 2 ^ 32)).setFld hi (v / 2 ^ 32)

/-- The first multiple of `n` ticks at or after a stamp; past the last multiple before the wrap it is 0 (R539). -/
def ceilStamp (n : Nat) (t : Stamp) : Stamp :=
  let m := (t.toNat + n - 1) / n * n
  if 2 ^ 48 ≤ m then 0 else BitVec.ofNat 48 m

/-- Apply a function for each index below `n`, in rising order. -/
def forN (n : Nat) (f : Nat → Dev → Dev) (d : Dev) : Dev := (List.range n).foldl (fun d i => f i d) d

/-- Apply a function for each value of a list, in order. -/
def forL {α : Type} (l : List α) (f : α → Dev → Dev) (d : Dev) : Dev := l.foldl (fun d i => f i d) d

/-- The indices below `n` whose bit of a mask is set. -/
def bitsOf (n mask : Nat) : List Nat := (List.range n).filter (fun i => mask.testBit i)

/-! ### Events and faults -/

/-- An interrupt source of Table WLD-9 asks the controller of the world that owns it (R148): it becomes pending, but while it is claimed and
not completed its gateway keeps the request (assumption log 166). -/
def Dev.pend (d : Dev) (source : Nat) (nonSecure : Bool := false) : Dev :=
  let b : BitVec 128 := 1#128 <<< source
  let w := d.worlds
  if nonSecure then
    { d with
      worlds := if w.serveN.getLsbD source then { w with againN := w.againN ||| b } else { w with plicN := w.plicN ||| b }
      out := { d.out with irqs := d.out.irqs ++ [.nonSecure source] } }
  else
    { d with
      worlds := if w.serveS.getLsbD source then { w with againS := w.againS ||| b } else { w with plicS := w.plicS ||| b }
      out := { d.out with irqs := d.out.irqs ++ [.secure source] } }

/-- Raise a record with the stamp `at`: it waits for routing, COUNT of EVT and the class counter of FLT count it. -/
def Dev.raiseAt (d : Dev) (st : Stamp) (ev : Ev) (src : Src) (cls : Nat) (pay : List Byte) : Dev :=
  let d := d.inc (F.FLT_CLASS_CNT.COUNT cls)
  let d := d.incPair F.EVT_CNT_LO.V F.EVT_CNT_HI.V
  let d := if cls = 0 then d else d.pend 67
  let r : EvRec := ⟨ev, src, st, padTo 20 0 pay⟩
  { d with evq := d.evq ++ [r], out := { d.out with events := d.out.events ++ [r] } }

/-- Raise a record stamped now. -/
def Dev.raise (d : Dev) (ev : Ev) (src : Src) (pay : List Byte) : Dev := d.raiseAt d.now ev src (evClass ev) pay

/-- Payload format F of Table EVT-3: applied class, groups under F3, related object, DETAIL. -/
def payF (d : Dev) (cls related : Nat) (detail : List Byte) : List Byte :=
  [BitVec.ofNat 8 cls, BitVec.ofNat 8 (d.fld F.FLT_STATE.F3_GROUPS)] ++ leBytes 2 related ++ detail

/-- Payload format R of Table EVT-3: request, refusal detail, origin, reference. -/
def payR (request detail origin : Nat) (ref : Nat) : List Byte :=
  [BitVec.ofNat 8 request, BitVec.ofNat 8 detail, BitVec.ofNat 8 origin, 0] ++ leBytes 4 ref

/-- Raise an F0 record in format F. -/
def Dev.note (d : Dev) (ev : Ev) (src : Src) (related : Nat := 0) (detail : List Byte := []) : Dev :=
  d.raise ev src (payF d 0 related detail)

/-- The fault is present on the object (R510). -/
def Dev.has (d : Dev) (ev : Ev) (src : Src) (sub : Nat := 0) : Bool :=
  d.causes.any (fun c => c.ev = ev && c.src = src && c.sub = sub)

/-- The causes that remain once one has gone. -/
def Dev.clear (d : Dev) (ev : Ev) (src : Src) (sub : Nat := 0) : Dev :=
  { d with causes := d.causes.filter (fun c => !(c.ev = ev && c.src = src && c.sub = sub)) }

/-- Keep a cause. -/
def Dev.keep (d : Dev) (c : Cause) : Dev := { d with causes := d.causes ++ [c] }

/-- The highest reaction class applied on an object: the most restrictive reaction of its causes (R23). -/
def Dev.worst (d : Dev) (src : Src) : Nat :=
  (d.causes.filter (fun c => c.src = src)).foldl (fun a c => max a c.cls) 0

/-- Vital outputs are forced to their device safe values: F4, F5, boot not ended (Table FLT-2, R21), or the orderly shutdown has run
(Table PWR-4). -/
def Dev.safeLine (d : Dev) : Bool := d.fld F.FLT_STATE.DEV_STATE ≠ 1 || d.fld F.PWR_STATE.STATE = 3

/-- The engines evaluate: they have started, no F5 holds (R21, R26), and no orderly shutdown has frozen them (Table PWR-4). -/
def Dev.evaluating (d : Dev) : Bool := d.boot.started && d.fld F.FLT_STATE.DEV_STATE ≠ 5 && d.fld F.PWR_STATE.STATE ≠ 3

/-- Group g is under F3. -/
def Dev.underF3 (d : Dev) (g : Nat) : Bool := d.bitOf F.FLT_STATE.F3_GROUPS g

end Sys2Proof.Machine
end

