-- ==== Sys2Proof/Machine/Faults.lean ====
section
/-! DEFINITION. Machine/Faults.lean: raising a fault and its reaction class, the device safe state, function groups under F3,
Endgame slots and locks (chapter 02), and the outage-log entries they cause (chapter 04). -/

namespace Sys2Proof.Machine

/-! ### Outage log -/

/-- Sample time as last sent to GLOW (R92): HAZE sends it every 1 ms, and GLOW keeps the last over a loss of the rest. -/
def Dev.sentTime (d : Dev) : Nat := if d.power.mode = .on then d.now.toNat / 1000 * 1000 else d.power.sent

/-- Bytes 0 to 27 of an outage-log entry (Table PWR-7), still open (R92). -/
def outlogEntry (d : Dev) (kind mask : Nat) : List Byte :=
  leBytes 2 kind ++ leBytes 2 (d.fld F.FLT_FIRST_CAUSE.CODE) ++ leBytes 4 (d.fld F.PWR_RTC_SEC.SEC)
    ++ leBytes 2 (d.fld F.PWR_RTC_SUB.SUB) ++ leBytes 6 d.sentTime
    ++ leBytes 4 (if kind = 1 then 0xFFFFFFFE else 0xFFFFFFFF) ++ leBytes 2 0
    ++ leBytes 2 (d.fld F.PWR_BOOT_CNT.COUNT) ++ leBytes 4 mask

/-- An outage-log entry of a kind of Table PWR-7 is due (R92). -/
def Dev.logOutage (d : Dev) (kind : Nat) (mask : Nat := 0) : Dev := { d with logq := d.logq ++ [outlogEntry d kind mask] }

/-! ### Function groups -/

/-- The function group of an object (R31): sections, signals, lamps by their signal, status outputs by their section,
functions and safe outputs. -/
def groupOf (d : Dev) (s : Src) : Option Nat :=
  let sig (i : Nat) := d.fld (F.FLT_FG_SIG.GROUP (i / 8) (i % 8))
  let sec (i : Nat) := d.fld (F.FLT_FG_SEC.GROUP (i / 8) (i % 8))
  if s.code = 9 then some (sec s.inst)
  else if s.code = 12 then
    if s.inst < 48 then some (sig (d.fld (F.LMP_CFG.SIGNAL s.inst))) else if s.inst < 80 then some (sig (s.inst - 64)) else none
  else if s.code = 13 then
    if 48 ≤ s.inst then some (d.fld (F.FLT_FG_FB.GROUP ((s.inst - 48) / 8) ((s.inst - 48) % 8)))
    else if 40 ≤ s.inst then some (d.fld (F.FLT_FG_SO.GROUP (s.inst - 40)))
    else none
  else if s.code = 11 ∧ 48 ≤ s.inst then some (sec (d.fld (F.PGN_SSO_CFG.SECTION (s.inst - 48))))
  else none

/-- The groups an F3 fault acts on: the object's group, or all eight (R32). -/
def groupsFor (d : Dev) (s : Src) : Nat := match groupOf d s with
  | some g => 2 ^ g
  | none => 0xFF

/-! ### The device safe state -/

/-- An F4 or F5 reaction (R25, R26, R51): the first cause since the last P, B, X, W or Y is recorded and logged, and the
device state moves to SAFE or HALT; during STARTUP it waits for the end of boot. -/
def Dev.safeState (d : Dev) (cls : Nat) (ev : Ev) (src : Src) : Dev :=
  let d :=
    if d.fld F.FLT_FIRST_CAUSE.CODE = 0 then
      let d := d.setFld F.FLT_FIRST_CAUSE.CODE (evCode ev)
      let d := d.setFld F.FLT_FIRST_CAUSE.SOURCE src.enc
      let d := d.setFld F.FLT_FIRST_TIME_LO.TIME_LO (d.now.toNat % 2 ^ 32)
      let d := d.setFld F.FLT_FIRST_TIME_HI.TIME_HI (d.now.toNat / 2 ^ 32)
      d.logOutage (if cls = 5 then 9 else 8)
    else d
  let d := { d with boot := { d.boot with worst := max d.boot.worst cls } }
  let s := d.fld F.FLT_STATE.DEV_STATE
  if s = 0 then d else d.setFld F.FLT_STATE.DEV_STATE (max s cls)

/-- Groups go under F3 (Table FLT-1). -/
def Dev.underGroups (d : Dev) (groups : Nat) : Dev :=
  d.setFld F.FLT_STATE.F3_GROUPS (d.fld F.FLT_STATE.F3_GROUPS ||| groups)

/-! ### Endgame slots and locks -/

/-- Where the lock of a cause and object stands in FLT_EG_LOCK (Table FLT-14). -/
def lockBit (cause obj : Nat) : Nat × Nat :=
  if cause = 1 then (0, obj) else if cause = 2 then (1 + obj / 32, obj % 32) else (2, 31)

/-- The object is locked against Endgame for the cause. -/
def Dev.egLocked (d : Dev) (cause obj : Nat) : Bool := d.bitOf (F.FLT_EG_LOCK.BITS (lockBit cause obj).1) (lockBit cause obj).2

def Dev.egSetLock (d : Dev) (cause obj : Nat) (b : Bool) : Dev :=
  { d.setBitOf (F.FLT_EG_LOCK.BITS (lockBit cause obj).1) (lockBit cause obj).2 b with egDirty := true }

/-- The slot in which the object is in Endgame for the cause. -/
def Dev.egFind (d : Dev) (cause obj : Nat) : Option Nat :=
  (List.range 16).find? (fun k => d.fld (F.FLT_EG_SLOT_A.CAUSE k) = cause && d.fld (F.FLT_EG_SLOT_A.OBJECT k) = obj)

/-- A free slot, the lowest. -/
def Dev.egFree (d : Dev) : Option Nat := (List.range 16).find? (fun k => d.fld (F.FLT_EG_SLOT_A.CAUSE k) = 0)

/-- EG_ACTIVE counts the slots in use. -/
def Dev.egCount (d : Dev) : Dev :=
  d.setFld F.FLT_STATE.EG_ACTIVE ((List.range 16).filter (fun k => d.fld (F.FLT_EG_SLOT_A.CAUSE k) ≠ 0)).length

/-- The SOURCE number of the object of an Endgame. -/
def egObject (cause obj : Nat) : Src := if cause = 1 then .head obj else if cause = 2 then .lamp obj else .twn

/-- The Endgame cause of an F2 event (Table FLT-4). -/
def egCauseOf : Ev → Nat
  | .senOpen => 1 | .senSupplyShort => 1 | .senOutOfBand => 1 | .senOvr => 1
  | .lampString => 2 | .twinLost => 3 | _ => 0

/-- Why an Endgame cannot be entered (R34, R42): 1 disabled, 2 locked, 3 no slot, 0 it can. -/
def Dev.egRefusal (d : Dev) (cause obj : Nat) : Nat :=
  let en := if cause = 1 then d.on F.FLT_EG_ENABLE.HEAD_SINGLE else if cause = 2 then d.on F.FLT_EG_ENABLE.LAMP_STRING
    else d.on F.FLT_EG_ENABLE.TWIN_LOST
  if !en then 1 else if d.egLocked cause obj then 2 else if d.egFree.isNone then 3 else 0

/-- Remaining time of a slot in whole seconds, rounded up (Table FLT-18). -/
def Dev.egRemain (d : Dev) (k : Nat) : Nat :=
  let due : Stamp := tabGet 0 d.egExpiry k
  if due.reached d.now then (due.since d.now + 999999) / 1000000 else 0

/-- A slot's expiry as an RTC second, rounded up (R90). -/
def Dev.egExpirySec (d : Dev) (k : Nat) : Nat :=
  let due : Stamp := tabGet 0 d.egExpiry k
  let us := if due.reached d.now then due.since d.now else 0
  ((d.fld F.PWR_RTC_SEC.SEC * 32768 + d.fld F.PWR_RTC_SUB.SUB) * 1000000 + us * 32768 + (32768000000 - 1)) / 32768000000

/-- REMAIN_S of the slots in use follows sample time. -/
def Dev.egRefresh (d : Dev) : Dev :=
  forL d.egExpiry (fun e d => d.setFld (F.FLT_EG_SLOT_B.REMAIN_S e.1) (d.egRemain e.1)) d

/-- An Endgame starts in a slot at this stamp (R34). -/
def Dev.egEnter (d : Dev) (k cause obj sys : Nat) (st : Stamp := d.now) : Dev :=
  let d := d.setFld (F.FLT_EG_SLOT_A.CAUSE k) cause
  let d := d.setFld (F.FLT_EG_SLOT_A.CAUSE_GONE k) 0
  let d := d.setFld (F.FLT_EG_SLOT_A.SYSTEM k) sys
  let d := d.setFld (F.FLT_EG_SLOT_A.OBJECT k) obj
  let d := d.setFld (F.FLT_EG_SLOT_A.AXLES_USED k) 0
  let due := st.plus (d.fld (F.FLT_EG_TIME.LIMIT_S (cause - 1)) * 1000000)
  let d := { d with egExpiry := tabIns d.egExpiry k due, egDirty := true }
  let d := d.egCount.egRefresh
  d.note .endgameEnter (.slot k) (egObject cause obj).enc [BitVec.ofNat 8 cause]

/-- A slot becomes free. -/
def Dev.egRelease (d : Dev) (k : Nat) : Dev :=
  let d := (d.setReg .flt (F.FLT_EG_SLOT_A.CAUSE k).off 0).setReg .flt (F.FLT_EG_SLOT_B.REMAIN_S k).off 0
  { d with egExpiry := tabDel d.egExpiry k, egDirty := true }.egCount

/-- An Endgame ends by expiry (R37, R38) or by a further fault (R41): the slot is freed, the object locked, and its
causes take their expiry class, F1 on the object or F3 on all groups. `how` is byte 17 of ENDGAME_EXPIRED. An expiry of a
limit on a head, and any whose cause has gone, leaves the mark ENDGAME_EXPIRED on the object until its recovery. -/
def Dev.egExpire (d : Dev) (k how : Nat) : Dev :=
  let cause := d.fld (F.FLT_EG_SLOT_A.CAUSE k)
  let obj := d.fld (F.FLT_EG_SLOT_A.OBJECT k)
  let src := egObject cause obj
  let cls := if cause = 3 then 3 else 1
  let grp := if cause = 3 then 0xFF else 0
  let d := (d.egRelease k).egSetLock cause obj true
  let d := d.note .endgameExpired (.slot k) src.enc [BitVec.ofNat 8 cause, BitVec.ofNat 8 how]
  let d := d.inc (F.FLT_CLASS_CNT.COUNT cls)
  let d := { d with causes := d.causes.map (fun c => if c.src = src ∧ egCauseOf c.ev = cause then { c with cls := cls, groups := grp } else c) }
  let kept := d.causes.any (fun c => c.src = src && egCauseOf c.ev = cause) && (cause ≠ 1 || how = 3)
  let d := if kept || d.has .endgameExpired src then d else d.keep ⟨.endgameExpired, src, 0, cls, 0⟩
  if cause = 3 then d.underGroups 0xFF else d

/-- A further fault of an object in Endgame ends its Endgame (R41). -/
def Dev.egFurther (d : Dev) (cause obj : Nat) : Dev := match d.egFind cause obj with
  | some k => d.egExpire k 3
  | none => d

/-- The slots whose time limit has been reached expire (R37). -/
def Dev.egExpireDue (d : Dev) : Dev :=
  forL d.egExpiry (fun e d => if d.now.reached e.2 then d.egExpire e.1 1 else d) d

/-- The cause of an Endgame has gone; a repair does not end it (R39). -/
def Dev.egGone (d : Dev) (cause obj : Nat) : Dev := match d.egFind cause obj with
  | some k => if d.on (F.FLT_EG_SLOT_A.CAUSE_GONE k) then d else { d.setFld (F.FLT_EG_SLOT_A.CAUSE_GONE k) 1 with egDirty := true }
  | none => d

/-! ### Raising faults -/

/-- Raise a fault of class F0, F1, F3, F4 or F5 on an object, unless its cause is present (R22, R510). -/
def Dev.fault (d : Dev) (ev : Ev) (src : Src) (sub : Nat := 0) (related : Nat := 0) (detail : List Byte := [])
    (st : Stamp := d.now) : Dev :=
  if d.has ev src sub then d
  else
    let cls := evClass ev
    let groups := if cls = 3 then groupsFor d src else 0
    let d := d.keep ⟨ev, src, sub, cls, groups⟩
    let d := if cls = 3 then d.underGroups groups else d
    let d := if cls ≥ 4 then d.safeState cls ev src else d
    d.raiseAt st ev src cls (payF d cls related detail)

/-- Raise a fault of class F2 on an object (R34, R40): Endgame is entered or carried on, or the object takes its expiry
reaction and ENDGAME_REFUSED is raised. `enter = false` is a cause that may not enter Endgame. -/
def Dev.fault2 (d : Dev) (ev : Ev) (obj : Nat) (sub sys related : Nat) (detail : List Byte) (enter : Bool := true)
    (st : Stamp := d.now) : Dev :=
  let cause := egCauseOf ev
  let src := egObject cause obj
  let expCls := if cause = 3 then 3 else 1
  let expGrp := if cause = 3 then 0xFF else 0
  let refuse (d : Dev) : Dev :=
    let d := d.keep ⟨ev, src, sub, expCls, expGrp⟩
    let d := if cause = 3 then d.underGroups 0xFF else d
    d.raiseAt st ev src expCls (payF d expCls related detail)
  let accept (d : Dev) : Dev := (d.keep ⟨ev, src, sub, 2, 0⟩).raiseAt st ev src 2 (payF d 2 related detail)
  if d.has ev src sub then d
  else if !enter then refuse d
  else match d.egFind cause obj with
    | some k => { (accept d).setFld (F.FLT_EG_SLOT_A.CAUSE_GONE k) 0 with egDirty := true }
    | none =>
      let r := d.egRefusal cause obj
      match d.egFree with
      | some k =>
        if r = 0 then (accept d).egEnter k cause obj sys st
        else (refuse d).note .endgameRefused (.slot 0) src.enc [BitVec.ofNat 8 cause, BitVec.ofNat 8 r]
      | none => (refuse d).note .endgameRefused (.slot 0) src.enc [BitVec.ofNat 8 cause, BitVec.ofNat 8 r]

/-- An F1 reaction raised once per occurrence: the cause is not kept. -/
def Dev.strike (d : Dev) (ev : Ev) (src : Src) (related : Nat := 0) (detail : List Byte := []) : Dev :=
  d.raise ev src (payF d (evClass ev) related detail)

end Sys2Proof.Machine
end

