-- ==== Sys2Proof/Machine/Bus.lean ====
section
/-! DEFINITION. Machine/Bus.lean: the world of each master and of each location, the memory map, the violation log, counter-pair
shadows, reads, and how a written word acts on a register's fields (chapter 06; R2, R7, R9, R130 to R143, R150 to R154, R536,
R537). -/

namespace Sys2Proof

/-! ### Instances absent on the DX8828 (R1, R2, R536) -/

/-- The generator is present (Table SCP-1). -/
def Part.hasPg (p : Part) (k : Nat) : Bool := p = .dx8856 || k < 24 || (48 ≤ k && k < 56)
def Part.hasWm (p : Part) (m : Nat) : Bool :=
  p = .dx8856 || m < 24 || (48 ≤ m && m < 72) || (96 ≤ m && m < 104) || (112 ≤ m && m < 120)
def Part.hasChan (p : Part) (c : Nat) : Bool := p = .dx8856 || c < 32
def Part.hasBank (p : Part) (b : Nat) : Bool := p = .dx8856 || b < 4
/-- Local heads HD_0 to HD_31 and remote heads RH_0 to RH_31 are slots 0 to 31 and 32 to 63. -/
def Part.hasHead (p : Part) (h : Nat) : Bool := p = .dx8856 || h < 16 || 32 ≤ h
def Part.hasAux (p : Part) (a : Nat) : Bool := p = .dx8856 || a < 8
def Part.hasLamp (p : Part) (k : Nat) : Bool := p = .dx8856 || k < 24
def Part.hasSso (p : Part) (n : Nat) : Bool := p = .dx8856 || n < 8
def Part.hasSi (p : Part) (n : Nat) : Bool := p = .dx8856 || n < 16
def Part.hasTp (p : Part) (n : Nat) : Bool := p = .dx8856 || n < 4
def Part.hasSo (p : Part) (n : Nat) : Bool := p = .dx8856 || n < 4
def Part.hasVen (p : Part) (n : Nat) : Bool := p = .dx8856 || n < 4
def Part.hasPort (p : Part) (n : Nat) : Bool := p = .dx8856 || n < 2

/-- The doorbell mirror page that BAR2 maps; the model gives it an address of its own, which only inbound accesses use (R161; assumption
log 168). -/
def mirrorPage : Nat := 0x12000000

/-- An inbound access to the mirror page. -/
def Access.onMirror (acc : Access) (a : Nat) : Bool := acc.master.val = 6 && mirrorPage ≤ a && a < mirrorPage + 0x1000

/-- Some BAR maps the address, if the access is an inbound one (Table HST-1): BAR0, BAR4, or BAR2's page. -/
def Access.mapped (acc : Access) (a : Nat) : Bool :=
  acc.master.val ≠ 6 || (0x10000000 ≤ a && a < 0x12000000) || (0x08000000 ≤ a && a < 0x08800000) || acc.onMirror a

/-- The bytes of an access all lie within one word (R537). -/
def Access.oneWord (acc : Access) (a : Nat) : Bool := acc.be.toNat * 2 ^ (a % 4) < 16

/-- The enabled bytes of the word that holds address `a`. -/
def Access.enables (acc : Access) (a : Nat) : Nat := acc.be.toNat * 2 ^ (a % 4) % 16

/-- The SOURCE of a violation is the master (R142); an engine's block code stands in `ring`. -/
def Access.src (a : Access) : Src :=
  if a.master.val < 2 then .sv a.master.val
  else if a.master.val < 6 then .ap (a.master.val - 2)
  else if a.master.val = 6 then .ring 64
  else if a.master.val = 7 then .ring a.ring.val
  else ⟨a.ring.val, 0⟩

end Sys2Proof

namespace Sys2Proof.Machine

/-! ### Worlds -/

/-- The world in force of a World Assignment Table entry is the non-secure one. -/
def Dev.nsEntry (d : Dev) (e : Nat) : Bool := d.on (F.WLD_WAT.APPLIED_NS e)

/-- Ring n is a secure ring. -/
def Dev.ringSecure (d : Dev) (n : Nat) : Bool := !d.nsEntry (64 + n)

/-- The master acts in the secure world (Table WLD-1). -/
def Dev.masterSecure (d : Dev) (a : Access) : Bool :=
  if a.master.val < 2 then true
  else if a.master.val < 6 then !d.nsEntry (52 + (a.master.val - 2))
  else if a.master.val = 6 then d.on F.WLD_STATUS.TRUSTED_HOST
  else if a.master.val = 7 then d.ringSecure a.ring.val
  else true

/-- The World Assignment Table entry that owns a register, for the registers of Table WLD-2 that are assigned by entry. -/
def watEntry (d : Dev) (b : Blk) (off : Nat) : Option Nat := match b with
  | .hst => if off < 0x100 then none else some (64 + (off - 0x100) / 0x20)
  | .haz => if off < 0x1000 then some (off / 0x20) else if off < 0x2000 then some ((off - 0x1000) / 0x40 / 8)
      else some (8 + (off - 0x2000) / 0x40)
  | .win => if off < 0x1000 ∧ 112 ≤ off / 0x20 then some (24 + (off / 0x20 - 112)) else none
  | .ser => if off / 0x80 < 7 then some (40 + off / 0x80) else none
  | .net => if d.fld (F.NET_CFG.ROLE (off / 0x1000)) = 3 then some (48 + off / 0x1000) else none
  | _ => none

/-- The register's instance is owned by the non-secure world (R132, R134). -/
def Dev.regNonSecure (d : Dev) (b : Blk) (off : Nat) : Bool := match watEntry d b off with
  | some e => d.nsEntry e
  | none => false

/-- NS_OBSERVE is in force for the register's instance (R135). -/
def Dev.observed (d : Dev) (b : Blk) (off : Nat) : Bool := match watEntry d b off with
  | some e => d.on (F.WLD_WAT.NS_OBSERVE e)
  | none => d.bitOf F.WLD_OBSERVE.NS_OBSERVE (blkCode b - 1)

/-- The register at an offset serves only absent instances (R536). -/
def absentReg (p : Part) (b : Blk) (off : Nat) : Bool := match b with
  | .isl => O.ISL_CLK_MEAS ≤ off && !p.hasPort ((off - O.ISL_CLK_MEAS) / 4 - 9)
  | .wld =>
    let e := (off - O.WLD_WAT) / 4
    O.WLD_WAT ≤ off && off < O.WLD_WAT + 0x200 &&
      ((e < 8 && !p.hasBank e) || (8 ≤ e && e < 24 && !p.hasAux (e - 8)) || (24 ≤ e && e < 40 && !p.hasWm (112 + (e - 24)))
        || (48 ≤ e && e < 52 && !p.hasPort (e - 48)))
  | .haz => if off < 0x1000 then !p.hasBank (off / 0x20) else if off < 0x2000 then !p.hasChan ((off - 0x1000) / 0x40)
      else !p.hasAux ((off - 0x2000) / 0x40)
  | .hed => !p.hasHead (off / 0x40)
  | .win => (off < 0x1000 && !p.hasWm (off / 0x20))
      || (O.WIN_TRIP_MAP ≤ off && off < O.WIN_TRIP_MAP + 0x80 && !p.hasWm (4 * ((off - O.WIN_TRIP_MAP) / 4)))
  | .pgn => (off < 0x1000 && !p.hasPg (off / 0x40)) || (0x1000 ≤ off && !p.hasSso ((off - 0x1000) / 0x10))
  | .lmp => off < 0x1000 && !p.hasLamp (off / 0x20)
  | .saf => (off < 0x100 && !p.hasSi (off / 8)) || (0x100 ≤ off && off < 0x200 && !p.hasTp ((off - 0x100) / 8))
      || (0x200 ≤ off && off < 0x400 && !p.hasSo ((off - 0x200) / 0x10))
  | .net => !p.hasPort (off / 0x1000)
  | .kvt => 0x100 ≤ off && !p.hasPort ((off - 0x100) / 0x100)
  | _ => false

/-! ### The memory map (Table WLD-5) -/

/-- The regions tags of Table WLD-4; regions 126 and 127 are always SECURE (R136). -/
def Dev.regionTag (d : Dev) (k : Nat) : Nat := if 126 ≤ k then 0 else d.fld (F.WLD_REGION_TAG.TAG (k / 16) (k % 16))

/-- The enabled window of lowest index that maps a device address (R138). -/
def Dev.windowOf (d : Dev) (a : Nat) : Option Nat :=
  (List.range 16).find? (fun w =>
    let base := 0x20000000 + d.fld (F.WLD_HWIN_DEV.DEV_BASE w) * 4096
    d.on (F.WLD_HWIN_CTRL.ENABLE w) && base ≤ a && a < base + 2 ^ d.fld (F.WLD_HWIN_CTRL.SIZE w))

/-- The host address a window maps a device address onto (R138). -/
def Dev.hostAddr (d : Dev) (w a : Nat) : Nat :=
  d.fld (F.WLD_HWIN_HOST_HI.HOST_HI w) * 2 ^ 32 + d.fld (F.WLD_HWIN_HOST_LO.HOST_LO w) * 4096
    + (a - (0x20000000 + d.fld (F.WLD_HWIN_DEV.DEV_BASE w) * 4096))

/-- What stands at a device address. -/
inductive Place where
  | rom | timer (off : Nat) | tcm (pair : Nat) | sram (region : Nat) | plic (secure : Bool) (off : Nat)
  | reg (b : Blk) (off : Nat) | retention | window (w : Nat) | unmapped
deriving DecidableEq, Repr

/-- The block whose megabyte holds an address (Table WLD-2). -/
def blkAt (mb : Nat) : Option Blk := match mb with
  | 0x100 => some .pwr | 0x101 => some .isl | 0x102 => some .bot | 0x103 => some .wld | 0x104 => some .hst
  | 0x105 => some .haz | 0x106 => some .hed | 0x107 => some .sec | 0x108 => some .win | 0x109 => some .pgn
  | 0x10A => some .lmp | 0x10B => some .saf | 0x10C => some .ser | 0x10D => some .net | 0x10E => some .kvt
  | 0x10F => some .twn | 0x110 => some .evt | 0x111 => some .flt | _ => none

/-- The address of a block's base (Table WLD-2). -/
def blkBase : Blk → Nat
  | .pwr => 0x10000000 | .isl => 0x10100000 | .bot => 0x10200000 | .wld => 0x10300000 | .hst => 0x10400000
  | .haz => 0x10500000 | .hed => 0x10600000 | .sec => 0x10700000 | .win => 0x10800000 | .pgn => 0x10900000
  | .lmp => 0x10A00000 | .saf => 0x10B00000 | .ser => 0x10C00000 | .net => 0x10D00000 | .kvt => 0x10E00000
  | .twn => 0x10F00000 | .evt => 0x11000000 | .flt => 0x11100000

/-- The place of a device address (Table WLD-5, Table PWR-6). The reserved entries of the World Assignment Table hold no
register (R140; assumption log 11). -/
def Dev.place (d : Dev) (a : Nat) : Place :=
  if a < 0x10000 then .rom
  else if 0x02000000 ≤ a ∧ a < 0x0200C000 then .timer (a - 0x02000000)
  else if 0x04000000 ≤ a ∧ a < 0x04040000 then .tcm ((a - 0x04000000) / 0x20000)
  else if 0x08000000 ≤ a ∧ a < 0x08800000 then .sram ((a - 0x08000000) / 0x10000)
  else if 0x0C000000 ≤ a ∧ a < 0x0C400000 then .plic true (a - 0x0C000000)
  else if 0x0C400000 ≤ a ∧ a < 0x0C800000 then .plic false (a - 0x0C400000)
  else if 0x10080000 ≤ a ∧ a < 0x10081000 then .retention
  else if 0x20000000 ≤ a ∧ a < 0x30000000 then (match d.windowOf a with | some w => .window w | none => .unmapped)
  else match blkAt (a / 0x100000) with
    | none => .unmapped
    | some b =>
      let off := a % 0x100000 / 4 * 4
      let e := (off - O.WLD_WAT) / 4
      if b = .wld ∧ O.WLD_WAT ≤ off ∧ off < O.WLD_WAT + 0x200 ∧ (e = 47 ∨ (56 ≤ e ∧ e < 64)) then .unmapped
      else match findReg off (regDefs b) with
        | some _ => .reg b off
        | none => .unmapped

/-- The bits of a word in enabled bytes. -/
def byteMask (en : Nat) : Word :=
  (if en.testBit 0 then 0xFF#32 else 0) ||| (if en.testBit 1 then 0xFF00#32 else 0) ||| (if en.testBit 2 then 0xFF0000#32 else 0)
    ||| (if en.testBit 3 then 0xFF000000#32 else 0)

/-- Why an access is a violation: the kind of Table WLD-6, or none (R131, R135, R136, R140, R537). A write of UART_7's registers is none
(R414). The kinds of the boot ROM, the TCMs, retention RAM, the secure interrupt controller and the core timer are the model's (assumption log
161). -/
def Dev.violation (d : Dev) (acc : Access) (a : Nat) (write : Bool) : Option Nat :=
  let ns := !d.masterSecure acc
  let tag (t : Nat) : Option Nat := if !ns then none else if t = 0 then some 1 else if t = 2 && write then some 2 else none
  match d.place a with
  | .unmapped => some 3
  | .reg b off =>
    if !acc.oneWord a then some 3
    else if absentReg d.part b off || (write && b = .ser && off / 0x80 = 7) then none
    else if ns && !d.regNonSecure b off && !(d.observed b off && !write) then some 0
    else none
  | .sram k => tag (d.regionTag k)
  | .window w => tag (d.fld (F.WLD_HWIN_CTRL.TAG w))
  | .tcm _ => if ns then some 1 else none
  | .rom => if ns then some 1 else none
  | .retention => if ns then some 0 else none
  | .plic sec _ => if sec && ns then some 0 else none
  | .timer off =>
    let core := (off - 0x4000) / 8
    if ns && 0x4000 ≤ off && off < 0x4030 && (core < 2 || !d.nsEntry (52 + (core - 2))) then some 0 else none

/-- Record a violation (R142): a repeat of the newest entry within 1,000 µs counts in it; anything else makes a new entry
and raises WLD_VIOLATION. -/
def Dev.logViolation (d : Dev) (acc : Access) (a : Nat) (write : Bool) (kind : Nat) : Dev :=
  let ring := if acc.master.val = 7 then acc.ring.val else 0
  let info := acc.master.val + ring * 16 + write.toNat * 1024 + kind * 2048
  let next := d.fld F.WLD_VIOL_CNT.NEXT
  let newest := (next + 15) % 16
  let st : Stamp := BitVec.ofNat 48 (d.fld (F.WLD_VLOG_TIME_LO.V newest) + d.fld (F.WLD_VLOG_TIME_HI.V newest) * 2 ^ 32)
  let same := d.fld F.WLD_VIOL_CNT.ENTRIES ≠ 0 ∧ d.fld (F.WLD_VLOG_ADDR.ADDR newest) = a
    ∧ (d.reg .wld (F.WLD_VLOG_INFO.KIND newest).off).toNat % 65536 = info ∧ d.now.since st ≤ 1000
  if same then d.inc (F.WLD_VLOG_INFO.REPEAT newest)
  else
    let wrapped := d.worlds.vlogUnread.testBit next
    let d := d.setFld (F.WLD_VLOG_ADDR.ADDR next) a
    let d := d.setReg .wld (F.WLD_VLOG_INFO.KIND next).off (BitVec.ofNat 32 info)
    let d := d.setFld (F.WLD_VLOG_TIME_LO.V next) (d.now.toNat % 2 ^ 32)
    let d := d.setFld (F.WLD_VLOG_TIME_HI.V next) (d.now.toNat / 2 ^ 32)
    let d := d.setFld F.WLD_VIOL_CNT.NEXT ((next + 1) % 16)
    let d := d.inc F.WLD_VIOL_CNT.ENTRIES
    let d := d.setFld F.WLD_VIOL_FLAG.VIOLATION 1
    let d := if wrapped then d.setFld F.WLD_VIOL_FLAG.WRAPPED 1 else d
    let d := { d with worlds := { d.worlds with vlogUnread := setMask d.worlds.vlogUnread next true } }
    let d := d.pend 65
    d.note .wldViolation acc.src info (leBytes 4 a)

/-! ### Regions being zeroed (R137) -/

/-- The zeroing of a region ends and its new tag applies (R137). -/
def Dev.regionZeroed (d : Dev) (r : Nat) : Dev :=
  let new := tabGet 0 d.worlds.zeroing r
  if new = 0 then d
  else { d.setFld (F.WLD_REGION_TAG.TAG (r / 16) (r % 16)) new with worlds := { d.worlds with zeroing := tabDel d.worlds.zeroing r } }

/-- An access to a region being zeroed stalls until the zeroing has ended (R137): it sees the state after it. -/
def Dev.stalled (d : Dev) (a : Nat) : Dev :=
  if 0x08000000 ≤ a ∧ a < 0x08800000 then d.regionZeroed ((a - 0x08000000) / 0x10000) else d

/-! ### Registers that follow the machine -/

/-- Milliseconds the watchdog has counted (R93): it counts in RUN and HOLD. -/
def Dev.wdtMs (d : Dev) : Nat := d.power.wdtUs / 1000

/-- The register file with the fields that follow time brought up to now: the copy of sample time, which the model lets lag by nothing
(assumption log 157), the watchdog's remaining time, the time in HOLD, the remaining times of Endgame slots. -/
def Dev.view (d : Dev) : Dev :=
  let d := d.setFld F.ISL_ST_LO.ST_LO (d.now.toNat % 2 ^ 32)
  let d := d.setFld F.ISL_ST_HI.ST_HI (d.now.toNat / 2 ^ 32)
  let d := d.setFld F.PWR_WDT_STAT.REMAIN_MS (d.fld F.PWR_WDT_CFG.TIMEOUT_MS - d.wdtMs)
  let d := if d.fld F.PWR_STATE.STATE = 2 then d.setFld F.PWR_STATE.HOLD_MS (min 255 (d.now.since d.power.since / 1000)) else d
  d.egRefresh

/-! ### Counter pairs (R150) -/

/-- The words that reading a low word latches (R150): chapters 02 to 19 name the pairs, the mapping words of ISL and the
seconds words that NET_PTP_NS latches. -/
def pairOf (b : Blk) (off : Nat) : List Nat := match b with
  | .flt => if off = O.FLT_FIRST_TIME_LO then [O.FLT_FIRST_TIME_HI] else []
  | .isl => if off = O.ISL_ST_LO then [O.ISL_ST_HI]
      else if off = O.ISL_MAP_ST_LO then [O.ISL_MAP_ST_HI, O.ISL_MAP_SEC_LO, O.ISL_MAP_SEC_HI, O.ISL_MAP_NS, O.ISL_MAP_EPOCH] else []
  | .pwr => if off = O.PWR_RTC_SUB then [O.PWR_RTC_SEC] else []
  | .evt => if off = O.EVT_CNT_LO then [O.EVT_CNT_HI] else []
  | .haz =>
    if 0x1000 ≤ off ∧ off < 0x2000 ∧ off % 0x40 = O.HAZ_CH_REC_LO % 0x40 then [off + 4]
    else if 0x2000 ≤ off ∧ (off % 0x40 = O.HAZ_AUX_CNT_LO % 0x40 ∨ off % 0x40 = O.HAZ_AUX_TIME_LO % 0x40) then [off + 4] else []
  | .ser => if off % 0x80 = O.SER_RX_CNT_LO ∨ off % 0x80 = O.SER_TX_CNT_LO then [off + 4] else []
  | .net =>
    let o := off % 0x1000
    if o = O.NET_RX_FRAMES_LO ∨ o = O.NET_TX_FRAMES_LO ∨ o = O.NET_FEC_CORR_LO then [off + 4]
    else if o = O.NET_PTP_NS then [off - 8, off - 4] else []
  | .kvt =>
    let o := 0x100 + off % 0x100
    if 0x100 ≤ off ∧ (o = O.KVT_TXMSG_LO ∨ o = O.KVT_RXMSG_LO) then [off + 4] else []
  | .twn => if off = O.TWN_CW_LO ∨ off = O.TWN_CASTLE_B_LO then [off + 4] else []
  | _ => []

/-- The low words whose reading latches the register at an offset. -/
def pairLows (b : Blk) (off : Nat) : List Nat :=
  (List.range 8).filterMap (fun k => if 4 * k ≤ off + 8 ∧ off ∈ pairOf b (off + 8 - 4 * k) then some (off + 8 - 4 * k) else none)

/-- Where the shadow of a high word is kept: per word and per world. -/
def shadowKey (b : Blk) (off : Nat) (secure : Bool) : Nat := (blkBase b + off) * 2 + secure.toNat

/-- The value a read of a present register returns before byte enables: RO and W1C fields only for an observed
non-secure read, RWS fields 0 for the non-secure world, WO fields 0 (R9, R135). -/
def RegDef.readMask (r : RegDef) (secure observedOnly : Bool) : Nat :=
  r.fields.foldl (fun a f =>
    let shown := match f.acc with
      | .wo => false
      | .ro => true
      | .w1c => true
      | .rws => secure
      | _ => !observedOnly
    if shown then a ||| f.mask else a) 0

/-- Fields that are wired and not stored: UART_7's mode and bit order (R414, Table BOT-7), the links of the fixed monitors (Table
WIN-1). -/
def Dev.wired (d : Dev) (b : Blk) (off : Nat) : Dev :=
  if b = .ser ∧ off = O.SER_CFG + 0x380 then (d.setFld (F.SER_CFG.MODE 7) 3).setFld (F.SER_CFG.MSB_FIRST 7) 1
  else if b = .win ∧ off < 112 * 0x20 ∧ off % 0x20 = O.WIN_BLANK then
    (d.setFld (F.WIN_BLANK.PG_SEL (off / 0x20)) (off / 0x20 % 48 + (if 96 ≤ off / 0x20 then 48 else 0))).setFld (F.WIN_BLANK.LINK_EN (off / 0x20)) 1
  else d

/-- Fields of a register that are reserved in some of its instances (R7): CH_A and CH_B of a remote head's slot and all of its offsets
0x04 to 0x20, PORT and PARTNER_HEAD of a local one (R224, chapter 09, Registers); FLT_EG_LOCK[2] bits 30 to 16 (Table FLT-14). -/
def reservedBits (b : Blk) (off : Nat) : Nat := match b with
  | .hed =>
    if off / 0x40 < 32 then (if off % 0x40 = 0 then 0x7F000000 else 0)
    else if off % 0x40 = 0 then 0x3F3F00 else if off % 0x40 ≤ 0x20 then 0xFFFFFFFF else 0
  | .flt => if off = O.FLT_EG_LOCK + 8 then 0x7FFF0000 else 0
  | _ => 0

/-- Fields of a present register that serve only absent instances (R536): they read 0 and ignore writes. The locks are those of HD_16 to HD_31
and of LMP_24 to LMP_47. -/
def absentBits (p : Part) (b : Blk) (off : Nat) : Nat := match b with
  | .flt =>
    if p = .dx8856 then 0
    else if off = O.FLT_FG_SO then 0xFFFF0000
    else if off = O.FLT_EG_LOCK then 0xFFFF0000
    else if off = O.FLT_EG_LOCK + 4 then 0xFF000000
    else if off = O.FLT_EG_LOCK + 8 then 0xFFFF else 0
  | .pwr => if p = .dx8828 ∧ (off = O.PWR_RAIL_STAT ∨ off = O.PWR_RAIL_FLAG) then 0x1E000 else 0
  | .isl =>
    if p = .dx8856 then 0
    else if off = O.ISL_CLK_OK ∨ off = O.ISL_CLK_FLAG then 0x1800
    else if off = O.ISL_ISLAND_RESET ∨ off = O.ISL_ISLAND_HELD then 0x30 else 0
  | .twn => if p = .dx8828 ∧ off = O.TWN_VEN then 0xF0 else 0
  | .saf => if p = .dx8828 ∧ O.SAF_FB_ACT ≤ off ∧ (off - O.SAF_FB_ACT) % 0x20 = 0 then 0xF0 else 0
  | .kvt => if p = .dx8828 ∧ O.KVT_PUB_HEAD ≤ off ∧ (off - O.KVT_PUB_HEAD) % 0x100 = 0 then 0xFFFF0000 else 0
  | _ => 0

/-- The bits of a register that read 0 and that no write reaches. -/
def deadBits (p : Part) (b : Blk) (off : Nat) : Nat := reservedBits b off ||| absentBits p b off

/-- Read a register on the bus: the value, and the device with a pair latched (R150) and log entries marked read: an
entry of the violation log counts as read once its INFO word is (assumption log 163). -/
def Dev.readReg (d : Dev) (acc : Access) (b : Blk) (off en : Nat) : Word × Dev :=
  let sec := d.masterSecure acc
  match findReg off (regDefs b) with
  | none => (0, d)
  | some (r, i, _) =>
    if absentReg d.part b off then (0, d)
    else
      let v := d.view.wired b off
      let highs := if en.testBit 0 ∨ en.testBit 1 ∨ en.testBit 2 ∨ en.testBit 3 then pairOf b off else []
      let raw := if pairLows b off ≠ [] then tabGet 0 d.shadow (shadowKey b off sec) else v.reg b off
      let d := { d with shadow := highs.foldl (fun s h => tabPut 0 s (shadowKey b h sec) (v.reg b h)) d.shadow }
      let d := if b = .wld ∧ r.base = O.WLD_VLOG_INFO then
        { d with worlds := { d.worlds with vlogUnread := setMask d.worlds.vlogUnread i false } } else d
      let mask := BitVec.ofNat 32 (r.readMask sec (!sec && !d.regNonSecure b off)) &&& ~~~ BitVec.ofNat 32 (deadBits d.part b off)
      (raw &&& mask &&& byteMask en, d)

/-! ### How a written word acts on the fields of a register (R9, R537) -/

/-- The value a field stores for a written value. -/
def Fix.store (x : Fix) (w v : Nat) : Nat := match x with
  | .none => v
  | .range lo hi => if v < lo then lo else if hi < v then hi else v
  | .over m s => if m < v then s else v
  | .srange lo hi => unsgn w (clampI lo hi (sgn w v))
  | .even lo hi => (if v < lo then lo else if hi < v then hi else v) / 2 * 2
  | .set m => v ||| m

/-- One field element under a write: `old` and `val` are words, `en` the enabled bits, `locked` the seal's lock,
`hwSet` the bits that hardware sets in the same cycle (R153, R154). -/
def FieldDef.write (f : FieldDef) (m : Nat) (old val en hwSet : Nat) (secure locked : Bool) : Nat :=
  let lo := f.lo + m * f.step
  let cut (x : Nat) : Nat := x / 2 ^ lo % 2 ^ f.w
  let o := cut old
  let merged := (cut val &&& cut en) ||| (o - (o &&& cut en))
  let touched := cut en ≠ 0
  match f.acc with
  | .ro => o
  | .wo => 0
  | .rw => if touched then f.fix.store f.w merged else o
  | .rwl => if touched && !locked then f.fix.store f.w merged else o
  | .rws => if touched && secure then f.fix.store f.w merged else o
  | .w1c =>
    let clr := cut val &&& cut en
    (o - (o &&& clr)) ||| cut hwSet
  | .w1s => o ||| (cut val &&& cut en)

/-- The word a register holds after a write: each field by its access code; a W1C clear that meets a hardware set leaves the
bit set and increments SET_COUNT for each such bit (R153). -/
def RegDef.writeWord (r : RegDef) (old val en hwSet : Nat) (secure locked : Bool) : Word :=
  let w := r.fields.foldl (fun a f => (List.range f.n).foldl (fun a m =>
    a ||| (f.write m old val en hwSet secure locked % 2 ^ f.w) * 2 ^ (f.lo + m * f.step)) a) 0
  let w1c := r.fields.foldl (fun a f => if f.acc = .w1c then a ||| f.mask else a) 0
  let met := (bitsOf 32 (val &&& en &&& hwSet &&& w1c)).length
  match r.setCnt with
  | some lo =>
    let c := w / 2 ^ lo % 256
    BitVec.ofNat 32 (w - c * 2 ^ lo + min 255 (c + met) * 2 ^ lo)
  | none => BitVec.ofNat 32 w

/-- The bits of the WO fields a write acts on, bytes that are not enabled taken as 0 (R537). -/
def RegDef.woBits (r : RegDef) (val en : Nat) : Nat :=
  r.fields.foldl (fun a f => if f.acc = .wo ∧ f.mask &&& en ≠ 0 then a ||| (val &&& en &&& f.mask) else a) 0

end Sys2Proof.Machine
end

