-- ==== Sys2Proof/Machine/Crc.lean ====
section
/-! DEFINITION. Machine/Crc.lean: CRC-32C (Castagnoli, Table SCP-3) and the 64-bit CRC of the twin's state hash (chapter 18). -/

namespace Sys2Proof.Machine

/-- One bit of a reflected CRC with polynomial `p`. -/
def crcBit (p c : Nat) : Nat := if c % 2 = 1 then (c / 2) ^^^ p else c / 2

/-- One byte of a reflected CRC. -/
def crcByte (p c : Nat) (b : Byte) : Nat :=
  crcBit p (crcBit p (crcBit p (crcBit p (crcBit p (crcBit p (crcBit p (crcBit p (c ^^^ b.toNat))))))))

/-- CRC-32C of bytes: polynomial 0x1EDC_6F41 (reflected 0x82F6_3B78), initial value and final XOR all ones. -/
def crc32c (l : List Byte) : Nat := l.foldl (crcByte 0x82F63B78) 0xFFFFFFFF ^^^ 0xFFFFFFFF

/-- One bit of the unreflected 64-bit CRC with polynomial 0x42F0_E1EB_A9EA_3693. -/
def crc64Bit (c : Nat) : Nat := if c < 2 ^ 63 then 2 * c else (2 * (c - 2 ^ 63)) ^^^ 0x42F0E1EBA9EA3693

/-- One byte of it. -/
def crc64Byte (c : Nat) (b : Byte) : Nat := (List.range 8).foldl (fun c _ => crc64Bit c) (c ^^^ (b.toNat * 2 ^ 56))

/-- The CRC-64 of R485: initial value and final XOR all ones. -/
def crc64 (l : List Byte) : Nat := l.foldl crc64Byte (2 ^ 64 - 1) ^^^ (2 ^ 64 - 1)

end Sys2Proof.Machine
end

