-- ==== Sys2Proof/Machine/Rings.lean ====
section
/-! DEFINITION. Machine/Rings.lean: ring indices, doorbells, write-back blocks, interrupts, consumption, command completion,
event slots and the routing of records (chapters 07 and 19). -/

namespace Sys2Proof

/-- Byte `k` of a descriptor, 8 ≤ k < 24. -/
def Cmd.byte (c : Cmd) (k : Nat) : Nat := (c.param.extractLsb' (8 * (k - 8)) 8).toNat
def Cmd.half (c : Cmd) (k : Nat) : Nat := (c.param.extractLsb' (8 * (k - 8)) 16).toNat
def Cmd.word (c : Cmd) (k : Nat) : Nat := (c.param.extractLsb' (8 * (k - 8)) 32).toNat

/-- The bytes of PARAM outside a list of used ones are 0, FLAGS has only IRQ and byte 3 is 0: otherwise BAD_PARAM (Table HST-11). -/
def Cmd.reservedOk (c : Cmd) (used : List Nat) : Bool :=
  c.flags.toNat < 2 && (List.range 16).all (fun k => (k + 8) ∈ used || c.byte (k + 8) = 0)

/-- The 32 bytes of a record with its sequence number (Table EVT-1). -/
def EvRec.bytes (r : EvRec) (seq : Nat) : List Byte :=
  leBytes 2 (Machine.evCode r.ev) ++ leBytes 2 r.src.enc ++ leBytes 6 r.stamp.toNat ++ leBytes 2 seq ++ padTo 20 0 r.pay

end Sys2Proof

namespace Sys2Proof.Machine

/-! ### A state's device -/

/-- Replace the device of a state by a function of it. -/
def State.map (f : Dev → Dev) (s : State) : State := { s with dev := f s.dev }

/-- The engine state of a ring. -/
def Dev.ring (d : Dev) (n : Nat) : RingSt := tabGet {} d.rings n

def Dev.setRing (d : Dev) (n : Nat) (r : RingSt) : Dev := { d with rings := tabPut {} d.rings n r }

def Dev.modRing (d : Dev) (n : Nat) (f : RingSt → RingSt) : Dev := d.setRing n (f (d.ring n))

/-! ### Indices (R163, R164) -/

/-- SIZE of a ring. -/
def Dev.ringSize (d : Dev) (n : Nat) : Nat := 2 ^ d.fld (F.HST_RING_CFG.LOG2SIZE n)

/-- The position of D. A DIDX of SIZE or more that software has set counts modulo SIZE (assumption log 164). -/
def Dev.ringPos (d : Dev) (n : Nat) : Nat := d.fld (F.HST_RING_IDX.DGEN n) * d.ringSize n + d.fld (F.HST_RING_IDX.DIDX n) % d.ringSize n

/-- The distance from position `a` to position `b` of a ring of `size` entries (R163). -/
def ringDist (size a b : Nat) : Nat := (b + 256 * size - a % (256 * size)) % (256 * size)

/-- The entries available to the evaluator, from D up to H (R164). -/
def Dev.ringAvail (d : Dev) (n : Nat) : Nat := ringDist (d.ringSize n) (d.ringPos n) (d.ring n).hs

/-- The ring consumes entries: enabled and RUNNING. -/
def Dev.ringRuns (d : Dev) (n : Nat) : Bool := d.on (F.HST_RING_CTRL.ENABLE n) && d.fld (F.HST_RING_CTRL.STATE n) = 1

/-- Advance D by one. -/
def Dev.ringAdvance (d : Dev) (n : Nat) : Dev :=
  let size := d.ringSize n
  let p := (d.ringPos n + 1) % (256 * size)
  (d.setFld (F.HST_RING_IDX.DIDX n) (p % size)).setFld (F.HST_RING_IDX.DGEN n) (p / size)

/-- The device address of the descriptor at D. -/
def Dev.ringDesc (d : Dev) (n : Nat) : Nat :=
  d.fld (F.HST_RING_BASE.BASE n) * 64 + d.fld (F.HST_RING_IDX.DIDX n) % d.ringSize n * 32

/-! ### Doorbells (R166) -/

/-- Judge an observed doorbell value against Hs and D. -/
def Dev.doorbell (d : Dev) (n : Nat) (v : Word) : Dev :=
  let size := d.ringSize n
  let idx := v.toNat % 65536
  let pos := v.toNat / 65536 % 256 * size + idx
  let behind := ringDist size pos (d.ring n).hs
  if v.toNat / 2 ^ 24 ≠ n ∨ size ≤ idx then d.inc (F.HST_RING_CNT.DB_BAD n)
  else if 1 ≤ behind ∧ behind ≤ size then d
  else if ringDist size (d.ringPos n) pos ≤ size then d.modRing n (fun r => { r with hs := pos })
  else d.inc (F.HST_RING_CNT.DB_BAD n)

/-- A write of `len` bytes at an SRAM address reaches the rings that snoop their doorbell word there (R168). -/
def Dev.snoop (d : Dev) (mem : List Host.Cell) (a len : Nat) : Dev :=
  forN 64 (fun n d =>
    let db := d.fld (F.HST_RING_DB.DB_ADDR n) * 4
    if d.ringRuns n && d.fld (F.HST_RING_CFG.DISC n) = 0 && a < db + 4 && db < a / 4 * 4 + len then
      d.doorbell n (BitVec.ofNat 32 (ofLe (memRead mem db 4)))
    else d) d

/-! ### Memory as DMA and engines reach it -/

/-- Write bytes at a device address: SRAM, where rings may snoop, or host memory through a window while the link is up. -/
def State.dmaWrite (s : State) (a : Nat) (l : List Byte) : State := match s.dev.place a with
  | .sram _ =>
    let mem := memWrite s.store.mem a l
    { s with dev := s.dev.snoop mem a l.length, store := { s.store with mem := mem } }
  | .window w =>
    if s.dev.on F.HST_STATUS.LINK_UP then { s with store := { s.store with host := memWrite s.store.host (s.dev.hostAddr w a) l } }
    else s
  | _ => s

/-- Read bytes at a device address. -/
def State.dmaRead (s : State) (a n : Nat) : List Byte := match s.dev.place a with
  | .sram _ => memRead s.store.mem a n
  | .window w => memRead s.store.host (s.dev.hostAddr w a) n
  | _ => List.replicate n 0

/-- The access of a ring's DMA (Table WLD-1). -/
def ringAccess (n : Nat) : Access := ⟨7, Fin.ofNat 64 n, 15⟩

/-- Why a ring access meets no memory: 4 no enabled window maps it (R181), 2 the link is down (R187). -/
def Dev.ringBar (d : Dev) (a : Nat) : Option Nat := match d.place a with
  | .sram _ => none
  | .window _ => if d.on F.HST_STATUS.LINK_UP then none else some 2
  | _ => some 4

/-- An access of a ring that violates worlds or meets nothing is logged (R131, R140). -/
def State.ringMiss (n a : Nat) (write : Bool) (s : State) : State := match s.dev.violation (ringAccess n) a write with
  | some k => s.map (fun d => d.logViolation (ringAccess n) a write k)
  | none => s

/-- A ring writes memory within one page; a write that violates worlds is dropped and logged (R131, R140), one to a region being zeroed
stalls (R137). -/
def State.ringPut (n a : Nat) (l : List Byte) (s : State) : State :=
  let s := s.map (fun d => d.stalled a)
  if (s.dev.violation (ringAccess n) a true).isSome then s.ringMiss n a true else s.dmaWrite a l

/-- A ring reads memory within one page; a read that violates worlds gives zeros and is logged. -/
def State.ringGet (n a k : Nat) (s : State) : List Byte × State :=
  let s := s.map (fun d => d.stalled a)
  if (s.dev.violation (ringAccess n) a false).isSome then (List.replicate k 0, s.ringMiss n a false) else (s.dmaRead a k, s)

/-- The pieces of `len` bytes from address `a` that lie each within one page of 4 KB: address and length. No piece crosses a region or a
window. -/
def pages (a len : Nat) : Nat → List (Nat × Nat)
  | 0 => []
  | fuel + 1 =>
    let k := min len (0x1000 - a % 0x1000)
    if len = 0 then [] else (a, k) :: pages (a + k) (len - k) fuel

/-- A ring writes memory. -/
def State.ringWrite (n a : Nat) (l : List Byte) (s : State) : State :=
  (pages a l.length (l.length / 0x1000 + 2)).foldl (fun s x => s.ringPut n x.1 ((l.drop (x.1 - a)).take x.2)) s

/-- A ring reads memory. -/
def State.ringRead (n a k : Nat) (s : State) : List Byte × State :=
  (pages a k (k / 0x1000 + 2)).foldl (fun r x =>
    let (l, s) := r.2.ringGet n x.1 x.2
    (r.1 ++ l, s)) ([], s)

/-! ### Write-back blocks (Table HST-4, R167) -/

/-- The 16 bytes of the write-back block of a ring. -/
def wbBlock (d : Dev) (n : Nat) : List Byte :=
  leBytes 2 (d.fld (F.HST_RING_IDX.DIDX n)) ++ leBytes 1 (d.fld (F.HST_RING_IDX.DGEN n)) ++ leBytes 1 n
    ++ leBytes 2 (d.fld (F.HST_RING_CTRL.STATE n) + d.fld (F.HST_RING_CTRL.ERR n) * 16)
    ++ leBytes 2 (d.fld (F.HST_RING_CNT.DROP n)) ++ leBytes 6 d.now.toNat ++ leBytes 2 (d.ring n).wbSeq.toNat

/-- Write the write-back block of a ring: it covers every consumption so far. -/
def State.writeBack (n : Nat) (s : State) : State :=
  let s := s.ringWrite n (s.dev.fld (F.HST_RING_WB.WB_ADDR n) * 16) (wbBlock s.dev n)
  s.map (fun d => d.modRing n (fun r => { r with wbSeq := r.wbSeq + 1, wbDue := false }))

/-- A ring changes its STATE and ERR; every change of STATE writes a write-back block (R167). -/
def State.ringState (n st err : Nat) (s : State) : State :=
  let s := s.map (fun d => (d.setFld (F.HST_RING_CTRL.STATE n) st).setFld (F.HST_RING_CTRL.ERR n) err)
  s.writeBack n

/-- A ring enters ERROR (R181, R187): HST_RING_ERROR, whose DETAIL is ERR. The buffer in progress is not completed (R188). -/
def State.ringFail (n err : Nat) (s : State) : State :=
  (s.ringState n 3 err).map (fun d => (d.modRing n (fun r => { r with buf := none })).note .hstRingError (.ring n) 0 (leBytes 1 err))

/-- A ring's access at `a` has met no memory: it is logged if nothing stands there (R140, R156), and the ring enters ERROR (R181). -/
def State.ringLost (n a : Nat) (write : Bool) (err : Nat) (s : State) : State := (s.ringMiss n a write).ringFail n err

/-- One entry is consumed: D advances, a write-back covering it is due, the interrupt conditions of R175 count it. -/
def Dev.consume (d : Dev) (n : Nat) (irq : Bool) : Dev :=
  let d := d.ringAdvance n
  d.modRing n (fun r => { r with
    wbSince := if r.wbDue then r.wbSince else d.now
    wbDue := true
    unsigSince := if r.unsig = 0 then d.now else r.unsigSince
    unsig := r.unsig + 1
    irqDue := r.irqDue || irq })

/-- A condition of R175 is met. -/
def Dev.irqCondition (d : Dev) (n : Nat) : Bool :=
  let r := d.ring n
  0 < r.unsig && (d.fld (F.HST_RING_IRQ.COAL_CNT n) ≤ r.unsig || d.fld (F.HST_RING_IRQ.COAL_US n) ≤ d.now.since r.unsigSince || r.irqDue)

/-- Send an MSI-X vector, or set its pending bit while it is masked (R175). -/
def Dev.msix (d : Dev) (v : Nat) : Dev :=
  if !d.on F.HST_STATUS.MSIX_EN then d
  else if d.worlds.msixMask.getLsbD v then { d with worlds := { d.worlds with msixPend := d.worlds.msixPend ||| (1#64 <<< v) } }
  else { d with out := { d.out with irqs := d.out.irqs ++ [.msix v] } }

/-- Signal a ring by its TARGET (R175). -/
def Dev.ringSignal (d : Dev) (n : Nat) : Dev :=
  let t := d.fld (F.HST_RING_CFG.TARGET n)
  let d := if t.testBit 0 then d.pend (n + 1) (!d.ringSecure n) else d
  let d := if t.testBit 1 then d.msix (d.fld (F.HST_RING_IRQ.VECTOR n)) else d
  d.modRing n (fun r => { r with unsig := 0, irqDue := false })

/-! ### CMD rings -/

/-- Commands of one stamp are taken in rising order of their rings, so that an engine applies that of the lower index first (R174;
assumption log 169): no ring of a higher index has completed one at this stamp. -/
def Dev.cmdTurn (d : Dev) (n : Nat) : Bool := d.rings.all (fun e => e.1 ≤ n || e.2.ranAt ≠ some d.now)

/-- A CMD ring is ready to consume a descriptor. -/
def Dev.cmdReady (d : Dev) (n : Nat) : Bool :=
  d.ringRuns n && d.fld (F.HST_RING_CFG.TYPE n) = 0 && 0 < d.ringAvail n && d.cmdTurn n

/-- Complete the command descriptor at D (Table HST-6): RESULT, DONE and DONE_TIME; the entry is then consumed. -/
def State.complete (c : Cmd) (code detail : Nat) (s : State) : State :=
  let a := s.dev.ringDesc c.ring.val
  let s := s.ringWrite c.ring.val (a + 24) (leBytes 1 code ++ leBytes 1 detail ++ leBytes 1 1)
  let s := s.ringWrite c.ring.val (a + 28) (leBytes 4 s.dev.now.toNat)
  s.map (fun d => (d.consume c.ring.val (c.flags.getLsbD 0)).modRing c.ring.val (fun r => { r with ranAt := some d.now }))

/-- The outcome of a command: its completion code of Table HST-11 and detail. -/
structure Done where
  code : Nat
  detail : Nat := 0
deriving DecidableEq, Repr

def Done.ok : Done := ⟨0, 0⟩
def Done.badParam : Done := ⟨2, 0⟩
def Done.world : Done := ⟨3, 0⟩
def Done.absent : Done := ⟨4, 0⟩
def Done.refused (detail : Nat) : Done := ⟨5, detail⟩

/-- A secure ring that may carry S opcodes (R176). -/
def Dev.secureCmds (d : Dev) (n : Nat) : Bool := d.ringSecure n && d.on (F.HST_RING_CFG.SECURE_CMDS n)

/-! ### EVT rings (R183) -/

/-- Write a record into the slot at D and consume it. -/
def State.evtSlot (n : Nat) (r : EvRec) (s : State) : State :=
  let s := s.ringWrite n (s.dev.ringDesc n) (r.bytes (s.dev.ring n).evSeq.toNat)
  s.map (fun d => (d.modRing n (fun q => { q with evSeq := q.evSeq + 1 })).consume n false)

/-- The HST_EVT_OVERFLOW record of a ring that dropped records (R183). -/
def overflowRec (d : Dev) (n : Nat) : EvRec :=
  let q := d.ring n
  ⟨.hstEvtOverflow, .ring n, d.now, padTo 20 0 (leBytes 2 (min q.lost 65535) ++ leBytes 6 q.lostFirst.toNat ++ leBytes 6 q.lostLast.toNat)⟩

/-- When a slot has become free on a ring that dropped records, the overflow record is written first (R183, R513). -/
def State.flushOverflow (n : Nat) (s : State) : State :=
  if 0 < (s.dev.ring n).lost ∧ 0 < s.dev.ringAvail n then
    let r := overflowRec s.dev n
    let s := s.evtSlot n r
    s.map (fun d =>
      let d := (d.inc (F.FLT_CLASS_CNT.COUNT 0)).incPair F.EVT_CNT_LO.V F.EVT_CNT_HI.V
      { d.modRing n (fun q => { q with lost := 0 }) with out := { d.out with events := d.out.events ++ [r] } })
  else s

/-- A record that finds no slot is dropped and counted (R183). -/
def Dev.evtDrop (d : Dev) (n : Nat) (r : EvRec) : Dev :=
  let d := d.inc (F.HST_RING_CNT.DROP n)
  d.modRing n (fun q => { q with lost := q.lost + 1, lostFirst := if q.lost = 0 then r.stamp else q.lostFirst, lostLast := r.stamp })

/-- Write a record to an EVT ring (R183). A ring in ERROR or HALTED_LINK has no slot it may write. -/
def State.evtPut (n : Nat) (r : EvRec) (s : State) : State :=
  if s.dev.ringRuns n ∧ 0 < s.dev.ringAvail n then
    match s.dev.ringBar (s.dev.ringDesc n) with
    | none =>
      let s := s.flushOverflow n
      if 0 < s.dev.ringAvail n then s.evtSlot n r else s.map (fun d => d.evtDrop n r)
    | some e => (s.ringLost n (s.dev.ringDesc n) true e).map (fun d => d.evtDrop n r)
  else s.map (fun d => d.evtDrop n r)

/-! ### Routing (R511 to R515) -/

/-- The World Assignment Table entry of a record's source instance, for instances assigned by entry. -/
def srcEntry (d : Dev) (s : Src) : Option Nat :=
  if s.code = 7 then some (if s.inst < 64 then s.inst / 8 else if s.inst < 80 then 8 + (s.inst - 64) else s.inst - 128)
  else if s.code = 10 ∧ 112 ≤ s.inst then some (24 + (s.inst - 112))
  else if s.code = 14 ∧ s.inst < 7 then some (40 + s.inst)
  else if s.code = 15 ∧ d.fld (F.NET_CFG.ROLE s.inst) = 3 then some (48 + s.inst)
  else if s.code = 6 ∧ s.inst < 64 then some (64 + s.inst)
  else if s.code = 0x14 then some (52 + s.inst)
  else none

/-- A copy of the record may go to a non-secure ring (R512). -/
def Dev.mayLeave (d : Dev) (r : EvRec) : Bool :=
  evCode r.ev / 256 ≠ 5 &&
    (match srcEntry d r.src with
      | some e => d.nsEntry e || d.on (F.WLD_WAT.NS_OBSERVE e)
      | none => 1 ≤ r.src.code && r.src.code ≤ 18 && d.bitOf F.WLD_OBSERVE.NS_OBSERVE (r.src.code - 1))

/-- An enabled EVT ring. -/
def Dev.evtRing (d : Dev) (n : Nat) : Bool := d.on (F.HST_RING_CTRL.ENABLE n) && d.fld (F.HST_RING_CFG.TYPE n) = 1

/-- A copy with no ring to go to (R512). -/
def Dev.noRing (d : Dev) : Dev := (d.inc F.EVT_DROP.NO_RING).setFld F.EVT_FLAG.NO_RING 1

/-- Route one record (R511, R512). -/
def State.route (r : EvRec) (s : State) : State :=
  let s :=
    if s.dev.on F.EVT_CFG.SEC_EN then
      let n := s.dev.fld F.EVT_CFG.SEC_RING
      if s.dev.evtRing n ∧ s.dev.ringSecure n then s.evtPut n r else s.map Dev.noRing
    else s
  let k := r.src.code - 1
  if s.dev.on (F.EVT_ROUTE.EN k) ∧ s.dev.bitOf (F.EVT_ROUTE.CLASS_MASK k) (evClass r.ev) then
    let n := s.dev.fld (F.EVT_ROUTE.RING k)
    if !s.dev.ringSecure n ∧ !s.dev.mayLeave r then
      s.map (fun d => (d.inc F.EVT_WORLD_DROP.V).setFld F.EVT_FLAG.WORLD 1)
    else if s.dev.evtRing n then s.evtPut n r
    else s.map Dev.noRing
  else s

/-- A record raised before routing applies waits in the start queue, up to 64 (R515). -/
def Dev.hold (d : Dev) (r : EvRec) : Dev :=
  if d.startq.length < 64 then
    let d := { d with startq := d.startq ++ [r] }
    d.setFld F.EVT_START.START_QUEUE d.startq.length
  else (d.inc F.EVT_DROP.START).setFld F.EVT_FLAG.START_LOST 1

/-- Deliver the records raised, in order. -/
def State.deliver (s : State) : State :=
  let q := s.dev.evq
  let s := s.map (fun d => { d with evq := [] })
  if s.dev.boot.started || s.dev.boot.step6 then q.foldl (fun s r => s.route r) s
  else q.foldl (fun s r => s.map (fun d => d.hold r)) s

/-- Step 6 has ended: the records held since reset are routed in order (R515). -/
def State.flushStart (s : State) : State :=
  let q := s.dev.startq
  let s := s.map (fun d => { d with startq := [], boot := { d.boot with step6 := true } }.setFld F.EVT_START.START_QUEUE 0)
  q.foldl (fun s r => s.route r) s

/-! ### Retention RAM -/

/-- The base of retention RAM (Table PWR-6). -/
def retBase : Nat := 0x10080000

/-- Write retention RAM. -/
def State.retWrite (off : Nat) (l : List Byte) (s : State) : State :=
  { s with store := { s.store with mem := memWrite s.store.mem (retBase + off) l } }

/-- Read retention RAM. -/
def State.retRead (s : State) (off n : Nat) : List Byte := memRead s.store.mem (retBase + off) n

/-- Write one outage-log entry (R92): a ring of 16 that overwrites its oldest. -/
def State.outlogPut (e : List Byte) (s : State) : State :=
  let k := s.dev.fld F.PWR_OUTLOG_IDX.NEXT
  let s := s.retWrite (0x200 + 32 * k) (e ++ leBytes 4 (crc32c e))
  s.map (fun d => (d.setFld F.PWR_OUTLOG_IDX.NEXT ((k + 1) % 16)).inc F.PWR_OUTLOG_IDX.TOTAL)

/-- The Endgame region of retention RAM (Table PWR-6, R90): per slot cause, object, axles used, expiry in RTC seconds and
flags; the locks; the CRC. The layout inside the 16 bytes of a slot and the rounding up of the expiry are the model's
(assumption log 12). -/
def egRegion (d : Dev) : List Byte :=
  let slot (k : Nat) : List Byte :=
    leBytes 1 (d.fld (F.FLT_EG_SLOT_A.CAUSE k)) ++ leBytes 1 (d.fld (F.FLT_EG_SLOT_A.OBJECT k))
      ++ leBytes 2 (d.fld (F.FLT_EG_SLOT_A.AXLES_USED k))
      ++ leBytes 4 (if d.fld (F.FLT_EG_SLOT_A.CAUSE k) = 0 then 0 else d.egExpirySec k)
      ++ leBytes 1 (d.fld (F.FLT_EG_SLOT_A.CAUSE_GONE k) + 2 * d.fld (F.FLT_EG_SLOT_A.SYSTEM k)) ++ leBytes 7 0
  let body := (List.range 16).flatMap slot ++ (List.range 3).flatMap (fun w => leBytes 4 (d.fld (F.FLT_EG_LOCK.BITS w)))
  body ++ leBytes 4 (crc32c body)

/-- GLOW keeps up: outage-log entries that are due are written, a changed Endgame slot or lock is stored (R90, R92). -/
def State.glow (s : State) : State :=
  let q := s.dev.logq
  let s := q.foldl (fun s e => s.outlogPut e) (s.map (fun d => { d with logq := [] }))
  if s.dev.egDirty then (s.retWrite 0xA0 (egRegion s.dev)).map (fun d => { d with egDirty := false }) else s

end Sys2Proof.Machine
end

