-- ==== Sys2Proof/Machine/KvtSend.lean ====
section
/-! DEFINITION. Machine/KvtSend.lean: the sending half of Krytgo Vital Transport: session identifiers, sequenced frames, the
send window, acknowledgements, and the loss of a session (chapter 17). -/

namespace Sys2Proof.Machine

def Dev.kv (d : Dev) (p : Nat) : KvtSt := tabGet {} d.kvt p

/-- Replace a port's session state; STAT shows its counts (Table KVT-10). -/
def Dev.setKv (d : Dev) (p : Nat) (k : KvtSt) : Dev :=
  let d := { d with kvt := tabPut {} d.kvt p k }
  let d := d.setFld (F.KVT_STAT.UNACKED p) k.unacked.length
  let d := d.setFld (F.KVT_STAT.QUEUED p) k.queue.length
  d.setFld (F.KVT_STAT.HELD p) k.held.length

def Dev.modKv (d : Dev) (p : Nat) (f : KvtSt → KvtSt) : Dev := d.setKv p (f (d.kv p))

/-- The session is OPEN. -/
def Dev.kvtOpen (d : Dev) (p : Nat) : Bool := d.fld (F.KVT_STAT.STATE p) = 2

/-- The port's own SID (R450): END, LINK_ID, SESSION_EPOCH. -/
def Dev.ownSid (d : Dev) (p : Nat) : Nat :=
  d.fld (F.KVT_PCFG.END p) * 2 ^ 31 + d.fld (F.KVT_PCFG.LINK_ID p) * 2 ^ 16 + d.fld (F.KVT_SID.EPOCH p)

/-- ACK_SEQ of a frame: E - 1 (R455). -/
def Dev.kvtAckSeq (d : Dev) (p : Nat) : Nat := (d.fld (F.KVT_SEQ_E.SEQ p) + 2 ^ 32 - 1) % 2 ^ 32

/-- A frame is given to the port, where it waits for its turn (R431); a port whose link is down drops it (R442); in F5 nothing is
sent (R26). -/
def Dev.kvtEmit (d : Dev) (p : Nat) (f : KvtFrame) : Dev :=
  if d.fld F.FLT_STATE.DEV_STATE = 5 then d
  else if !d.on (F.NET_STAT.LINK_UP p) then d.inc (F.NET_TX_DROP.LINK_DROP p)
  else { d with kvtTx := tabPut [] d.kvtTx p (tabGet [] d.kvtTx p ++ [f]) }

/-- HEARTBEAT payload (Table KVT-5). -/
def heartbeatPayload (d : Dev) (p : Nat) : List Byte :=
  let hold : Bool := d.fld F.PWR_STATE.STATE = 2
  leBytes 1 (d.fld F.FLT_STATE.DEV_STATE) ++ leBytes 1 (d.fld F.BOT_STATUS.COMMISSIONING + 2 * hold.toNat) ++ beBytes 2 0
    ++ beBytes 4 (d.fld F.BOT_SEAL_IN_FORCE.CODE) ++ beBytes 4 (d.fld (F.KVT_PEER_SID.PEER_SID p))
    ++ beBytes 4 (d.fld F.PWR_BOOT_CNT.COUNT)

/-- A SYN is sent: a HEARTBEAT with sequence number 0 (R451). -/
def Dev.kvtSyn (d : Dev) (p : Nat) : Dev :=
  let f : KvtFrame := { type := 1, syn := true, sid := d.ownSid p, seq := 0, ack := 0, stamp := d.now.toNat, payload := heartbeatPayload d p }
  (d.kvtEmit p f).modKv p (fun k => { k with synAt := d.now })

/-- A session is lost (R460): frames are discarded, the loss is recorded and raised; its consumers act on it once the
deliveries of the stamp are done (R470). -/
def Dev.kvtLose (d : Dev) (p reason : Nat) : Dev :=
  let k := d.kv p
  let d := d.setFld (F.KVT_STAT.STATE p) 3
  let d := (d.setFld (F.KVT_LAST_LOSS.REASON p) reason).setFld (F.KVT_LAST_LOSS.RETX p) (min 255 k.retx)
  let d := d.inc (F.KVT_SESS_CNT.LOSSES p)
  let d := d.setKv p { k with held := [], unacked := [], queue := [], ackDue := none, lostAt := d.now, retx := 0, integ := [], aged := [] }
  let d := { d with kvtLost := d.kvtLost ++ [p] }
  d.note .kvtSessionLost (.kvt p) 0 (leBytes 4 (d.fld (F.KVT_PEER_SID.PEER_SID p)) ++ [BitVec.ofNat 8 reason])

/-- Send one sequenced frame now (R454, R455). -/
def Dev.kvtFrame (d : Dev) (p type : Nat) (payload : List Byte) : Dev :=
  let seq := d.fld (F.KVT_SEQ_TX.SEQ p)
  let f : KvtFrame := { type := type, sid := d.ownSid p, seq := seq, ack := d.kvtAckSeq p, stamp := d.now.toNat, payload := payload }
  let d := d.kvtEmit p f
  let d := d.setFld (F.KVT_SEQ_TX.SEQ p) ((seq + 1) % 2 ^ 32)
  let d := d.incPair (F.KVT_TXMSG_LO.V p) (F.KVT_TXMSG_HI.V p)
  d.modKv p (fun k => { k with unacked := k.unacked ++ [⟨f, d.now, 1⟩], lastSeq := d.now, ackDue := none, ackSub := 0 })

/-- Send a message on an OPEN session: at once inside the window of 64, else from the queue of 256, else the session is
lost by OVERRUN (R457, R460). On a session that is not OPEN a message is not sent (R467). -/
def Dev.kvtSend (d : Dev) (p type : Nat) (payload : List Byte) : Dev :=
  if !d.kvtOpen p ∨ d.fld F.FLT_STATE.DEV_STATE = 5 then d
  else
    let k := d.kv p
    if k.unacked.length < 64 ∧ k.queue = [] then d.kvtFrame p type payload
    else if k.queue.length < 256 then d.setKv p { k with queue := k.queue ++ [⟨type, payload⟩] }
    else d.kvtLose p 5

/-- Queued messages move into the window while it has room; at most `n` of them. -/
def Dev.kvtDrain (p : Nat) : Nat → Dev → Dev
  | 0, d => d
  | n + 1, d =>
    let k := d.kv p
    match k.queue with
    | [] => d
    | m :: r => if k.unacked.length < 64 then ((d.setKv p { k with queue := r }).kvtFrame p m.type m.payload).kvtDrain p n else d

/-- A HEARTBEAT of the OPEN session (R459). -/
def Dev.kvtHeartbeat (d : Dev) (p : Nat) : Dev := d.kvtSend p 1 (heartbeatPayload d p)

/-- An ACK (R456): SUB counts the ACKs since the latest sequenced frame; past 65,535 a HEARTBEAT is sent instead. -/
def Dev.kvtAck (d : Dev) (p : Nat) (dup : Bool) : Dev :=
  let k := d.kv p
  if 65535 ≤ k.ackSub then (d.modKv p (fun k => { k with ackDue := none })).kvtHeartbeat p
  else
    let last := (d.fld (F.KVT_SEQ_TX.SEQ p) + (2 ^ 32 - 1)) % 2 ^ 32
    let f : KvtFrame := {
      type := 15, dup := dup, sid := d.ownSid p, seq := last, ack := d.kvtAckSeq p, stamp := d.now.toNat,
      sub := k.ackSub + 1, payload := [] }
    (d.kvtEmit p f).modKv p (fun k => { k with ackDue := none, ackSub := k.ackSub + 1 })

/-- The port enters OPENING (R450, R451): a new epoch, the committed key. The phase-jitter sample E is a free value (R450). -/
def Dev.kvtEnter (d : Dev) (p : Nat) : Dev :=
  let k := d.kv p
  let base := if k.epochSet then d.fld (F.KVT_SID.EPOCH p)
    else d.fld F.PWR_BOOT_CNT.COUNT % 256 * 256 + (Config.freeByte d.boot.eIx).toNat
  let d := d.setFld (F.KVT_SID.EPOCH p) ((base + 1) % 65536)
  let d := d.setFld (F.KVT_SID.HEAD p) (d.fld (F.KVT_PCFG.END p) * 2 ^ 15 + d.fld (F.KVT_PCFG.LINK_ID p))
  let d := d.setFld (F.KVT_STAT.STATE p) 1
  let d := d.setFld (F.KVT_PEER_SID.PEER_SID p) 0
  d.setKv p { k with epochSet := true, key := k.committed, held := [], unacked := [], queue := [], ackDue := none, ackSub := 0 }

/-- The port enters OPENING and sends its first SYN (Table KVT-4). -/
def Dev.kvtOpening (d : Dev) (p : Nat) : Dev := (d.kvtEnter p).kvtSyn p

/-- The ports whose session is OPEN and that a publication mask selects. -/
def Dev.kvtPublish (d : Dev) (sel : Nat → Bool) (type : Nat) (payload : List Byte) : Dev :=
  forN 4 (fun p d => if sel p then d.kvtSend p type payload else d) d

end Sys2Proof.Machine
end

