-- ==== Sys2Proof/Machine/Isl.lean ====
section
/-! DEFINITION. Machine/Isl.lean: the PTP clocks of the ports, mapping pairs and PTP steps (R61, R62, R65, R434, R435). -/

namespace Sys2Proof.Machine

def Dev.net (d : Dev) (n : Nat) : NetSt := tabGet {} d.nets n
def Dev.setNet (d : Dev) (n : Nat) (s : NetSt) : Dev := { d with nets := tabPut {} d.nets n s }
def Dev.modNet (d : Dev) (n : Nat) (f : NetSt → NetSt) : Dev := d.setNet n (f (d.net n))

/-- The port is enabled and runs: HOLD stops every port but the twin's (R82, R441), and an island held under R69 stays in reset. -/
def Dev.netRuns (d : Dev) (n : Nat) : Bool :=
  d.on (F.NET_CFG.ENABLE n) && !d.bitOf F.ISL_ISLAND_HELD.HELD (2 + n) && (d.fld F.PWR_STATE.STATE ≠ 2 || d.fld (F.NET_CFG.ROLE n) = 0)

/-! ### PTP clocks -/

/-- The nanoseconds after which a 48-bit seconds count wraps. -/
def ptpWrap : Nat := 2 ^ 48 * 1000000000

/-- A port's PTP time in nanoseconds. -/
def Dev.ptpNs (d : Dev) (n : Nat) : Nat :=
  (d.fld (F.NET_PTP_SEC_LO.V n) + d.fld (F.NET_PTP_SEC_HI.V n) * 2 ^ 32) * 1000000000 + d.fld (F.NET_PTP_NS.NS n)

/-- Load a port's PTP time. -/
def Dev.setPtp (d : Dev) (n v : Nat) : Dev :=
  let v := v % ptpWrap
  let sec := v / 1000000000
  ((d.setFld (F.NET_PTP_SEC_LO.V n) (sec % 2 ^ 32)).setFld (F.NET_PTP_SEC_HI.V n) (sec / 2 ^ 32)).setFld (F.NET_PTP_NS.NS n) (v % 1000000000)

/-- `us` microseconds of nominal time pass for a port's PTP clock (R434): nanoseconds, the 16-bit fraction and the remainder below
it, multiplied by 1 + RATE_ADJ × 10^-12. -/
def Dev.ptpAdvance (d : Dev) (us n : Nat) : Dev :=
  if us = 0 ∨ !d.netRuns n then d
  else
    let s := d.net n
    let rate : Int := 1000000000000 + d.sfld (F.NET_PTP_RATE.RATE_ADJ n)
    let total := us * 65536000 * rate.toNat + s.rem
    let units := s.frac + total / 1000000000000
    (d.setPtp n (d.ptpNs n + units / 65536)).setNet n { s with frac := units % 65536, rem := total % 1000000000000 }

/-- The CIRRUS cycle of a port in this tick (Table NET-1, its length in ps); cycles are counted from the tick's edge (DESIGN CHOICE,
assumption log 173). -/
def Dev.cirrusCycle (d : Dev) (n : Nat) : Nat := d.fine * 1000 / [3879, 1552, 753, 1422, 711].getD (d.fld (F.NET_CFG.LINE_MODE n)) 711

/-- A timestamp of a port (R436): its clock at this moment, `fine` nanoseconds into the tick, with a correction. In the CIRRUS cycle of a
step it carries the clock as it was before (R440). -/
def Dev.ptpStamp (d : Dev) (n : Nat) (corr : Int) : Nat :=
  let ns := match (d.net n).stepped with
    | some (t, k, old) => if t = d.now && k = d.cirrusCycle n then old else d.ptpNs n
    | none => d.ptpNs n
  (((ns + d.fine : Nat) + corr) % (ptpWrap : Int)).toNat

/-- The bytes of seconds and nanoseconds of a PTP time. -/
def ptpBytes (enc : Nat → Nat → List Byte) (v : Nat) : List Byte := enc 6 (v / 1000000000) ++ enc 4 (v % 1000000000)

/-- The words of a mapping pair. -/
def mapWords : List Fld := [F.ISL_MAP_ST_LO.V, F.ISL_MAP_ST_HI.V, F.ISL_MAP_SEC_LO.V, F.ISL_MAP_SEC_HI.V, F.ISL_MAP_NS.NS]

/-- A pair captured earlier in the present tick is discarded: the words before it stand again, and it brings no TIME_MAP (R65). -/
def Dev.mapDiscard (d : Dev) : Dev := match d.clocks.mapPair with
  | some (old, _) =>
    let d := forL (mapWords.zip old) (fun e d => d.setFld e.1 e.2) d
    { d with clocks := { d.clocks with mapPair := none } }
  | none => d

/-- The clock of a port steps (R62, R435): the mapping epoch of the port that ISL_PTP_SRC names increments and a new pair is due at
the next tick, in place of one captured in this tick (R65); PTP_STEP is raised. `counted` is false for the step of size 0 after HOLD. -/
def Dev.ptpStep (d : Dev) (n : Nat) (step : Int) (counted : Bool := true) : Dev :=
  let d := if counted then d.incWrap (F.NET_PTP_STAT.STEPS n) else d
  let d := if d.fld F.ISL_PTP_SRC.PORT = n then
      let d := d.mapDiscard
      { d.incWrap F.ISL_MAP_EPOCH.EPOCH with clocks := { d.clocks with mapDue := some (d.now.plus 1) } }
    else d
  d.raise .ptpStep (.port n) (leBytes 2 0 ++ leBytes 2 (d.fld F.ISL_MAP_EPOCH.EPOCH)
    ++ leBytes 8 (unsgn 64 (clampI (-9223372036854775808) 9223372036854775807 step)))

/-- Move a port's clock to a new time, as a step. -/
def Dev.ptpJump (d : Dev) (n : Nat) (new : Nat) (step : Int) : Dev :=
  ((d.setPtp n new).modNet n (fun s => { s with frac := 0, rem := 0, stepped := some (d.now, d.cirrusCycle n, d.ptpNs n) })).ptpStep n step

/-- A write of SET loads the clock (R435); it clears SYNC_LOST. -/
def Dev.ptpSet (d : Dev) (n : Nat) : Dev :=
  let sec := d.fld (F.NET_PTP_STEP_SEC_LO.V n) + d.fld (F.NET_PTP_STEP_SEC_HI.V n) * 2 ^ 32
  let new : Int := (sec * 1000000000 : Nat) + d.sfld (F.NET_PTP_STEP_NS.STEP_NS n)
  (d.ptpJump n (new % (ptpWrap : Int)).toNat (new - (d.ptpNs n : Nat))).setFld (F.NET_PTP_STAT.SYNC_LOST n) 0

/-- A write of STEP adds a signed offset (R435). -/
def Dev.ptpOffset (d : Dev) (n : Nat) : Dev :=
  let sec := d.fld (F.NET_PTP_STEP_SEC_LO.V n) + d.fld (F.NET_PTP_STEP_SEC_HI.V n) * 2 ^ 32
  let off : Int := sgn 48 sec * 1000000000 + d.sfld (F.NET_PTP_STEP_NS.STEP_NS n)
  d.ptpJump n (((d.ptpNs n : Nat) + off) % (ptpWrap : Int)).toNat off

/-! ### Mapping pairs -/

/-- Capture a mapping pair (R61): at a multiple of 1,000 unless a new pair is due at the next tick (R65), or at the tick a step has
made due (R62); at a multiple of 1,000,000 it is also written as a TIME_MAP record, once the tick has passed without a step (R65). -/
def Dev.mapCapture (d : Dev) : Dev :=
  let due : Bool := match d.clocks.mapDue with | some t => d.now.reached t | none => false
  let waits : Bool := match d.clocks.mapDue with | some t => t.later d.now | none => false
  if !d.on F.ISL_PTP_SRC.ENABLE ∨ !(due || (d.now.toNat % 1000 = 0 && !waits)) then d
  else
    let n := d.fld F.ISL_PTP_SRC.PORT
    let d := { d with clocks := { d.clocks with
      mapDue := if due then none else d.clocks.mapDue
      mapPair := some (mapWords.map d.fld, d.now.toNat % 1000000 = 0) } }
    let d := (d.setFld F.ISL_MAP_ST_LO.V (d.now.toNat % 2 ^ 32)).setFld F.ISL_MAP_ST_HI.V (d.now.toNat / 2 ^ 32)
    let d := (d.setFld F.ISL_MAP_SEC_LO.V (d.fld (F.NET_PTP_SEC_LO.V n))).setFld F.ISL_MAP_SEC_HI.V (d.fld (F.NET_PTP_SEC_HI.V n))
    d.setFld F.ISL_MAP_NS.NS (d.fld (F.NET_PTP_NS.NS n))

/-- The tick ends: a pair captured at a multiple of 1,000,000 is written as a TIME_MAP record. -/
def Dev.mapClose (d : Dev) : Dev := match d.clocks.mapPair with
  | some (_, due) =>
    let n := d.fld F.ISL_PTP_SRC.PORT
    let d := { d with clocks := { d.clocks with mapPair := none } }
    if due then d.raise .timeMap (.clock (9 + n)) (ptpBytes leBytes (d.ptpNs n) ++ leBytes 2 (d.fld F.ISL_MAP_EPOCH.EPOCH)) else d
  | none => d

end Sys2Proof.Machine
end

