-- ==== Sys2Proof/Machine/Sections.lean ====
section
/-! DEFINITION. Machine/Sections.lean: boundaries, counts, section states, clear-confirm, reset procedures and Endgame scope
(chapter 10). -/

namespace Sys2Proof.Machine

/-! ### Publication -/

/-- A decision record for the twin with the stamp of its decision. -/
def Dev.decideAt (d : Dev) (st : Stamp) (code : Nat) (src : Src) (content : List Byte) : Dev :=
  if d.on F.TWN_CFG.ENABLE then { d with decq := d.decq ++ [⟨code, src, st, padTo 16 0 content⟩] } else d

/-- A decision record stamped now. -/
def Dev.decide (d : Dev) (code : Nat) (src : Src) (content : List Byte) : Dev := d.decideAt d.now code src content

/-! ### Configuration views -/

def Dev.sec (d : Dev) (i : Nat) : SecSt := tabGet {} d.secs i
def Dev.modSec (d : Dev) (i : Nat) (f : SecSt → SecSt) : Dev := { d with secs := tabMod {} d.secs i f }

/-- The section is enabled (Table SEC-9). -/
def Dev.secEnabled (d : Dev) (i : Nat) : Bool := d.on (F.SEC_CFG.ENABLE i)

/-- The enabled sections, in index order. -/
def Dev.secList (d : Dev) : List Nat := (List.range 64).filter d.secEnabled

/-- The valid boundaries of a section: head slot and SIGN (R255). -/
def Dev.bounds (d : Dev) (i : Nat) : List (Nat × Nat) :=
  (List.range 8).filterMap (fun m =>
    if m < 4 then
      if d.on (F.SEC_BND_LO.VALID i m) then some (d.fld (F.SEC_BND_LO.SLOT i m), d.fld (F.SEC_BND_LO.SIGN i m)) else none
    else if d.on (F.SEC_BND_HI.VALID i (m - 4)) then
      some (d.fld (F.SEC_BND_HI.SLOT i (m - 4)), d.fld (F.SEC_BND_HI.SIGN i (m - 4))) else none)

/-- The enabled sections that head `h` bounds. -/
def Dev.boundedBy (d : Dev) (h : Nat) : List Nat := d.secList.filter (fun i => (d.bounds i).any (fun b => b.1 = h))

/-- The enabled sections on one side of a head: SIGN 1 is its A side, SIGN 0 its B side (R255). -/
def Dev.sideOf (d : Dev) (h sign : Nat) : List Nat := d.secList.filter (fun i => (d.bounds i).any (fun b => b.1 = h && b.2 = sign))

def Dev.secState (d : Dev) (i : Nat) : Nat := d.fld (F.SEC_STATE.STATE i)

/-- CLEAR or CLEAR_RESTRICTED. -/
def Dev.secFree (d : Dev) (i : Nat) : Bool := d.secState i = 0 || d.secState i = 4

/-- COUNT of a section, signed. -/
def Dev.secCount (d : Dev) (i : Nat) : Int := d.sfld (F.SEC_STATE.COUNT i)

/-- The head slot is in service: enabled, evaluated, and neither STARTING nor OUT_OF_SERVICE. -/
def Dev.headServes (d : Dev) (h : Nat) : Bool := d.on (F.HED_CFG.ENABLE h) && d.fld (F.HED_STATE.PATTERN h) < 6

/-- The head slot is out of service: disabled, held, faulted or lost (R538). -/
def Dev.headOut (d : Dev) (h : Nat) : Bool := !d.on (F.HED_CFG.ENABLE h) || d.fld (F.HED_STATE.PATTERN h) = 7

/-- Ready to clear (R259). -/
def Dev.secReady (d : Dev) (i : Nat) : Bool :=
  d.secCount i = 0 && d.fld (F.SEC_STATE.PROV i) = 0
    && (d.bounds i).all (fun b => d.headServes b.1 && d.fld (F.HED_STATE.PATTERN b.1) = 0)

/-- An active Endgame slot covers the section (Table FLT-4, R274). -/
def Dev.secScope (d : Dev) (i : Nat) : Bool :=
  d.egExpiry.any (fun e =>
    let c := d.fld (F.FLT_EG_SLOT_A.CAUSE e.1)
    let o := d.fld (F.FLT_EG_SLOT_A.OBJECT e.1)
    if c = 1 then (d.bounds i).any (fun b => b.1 = o)
    else if c = 2 then
      let s := d.fld (F.LMP_CFG.SIGNAL o)
      if i < 32 then d.bitOf (F.LMP_SIG_GOV_LO.GOVERN s) i else d.bitOf (F.LMP_SIG_GOV_HI.GOVERN s) (i - 32)
    else c = 3)

/-- A safety function whose action selects the section is not in RUN (R266 detail 9; FB_STAT.STATE 1 is RUN). -/
def Dev.fbHoldsSec (d : Dev) (i : Nat) : Bool :=
  (List.range 16).any (fun f => d.on (F.SAF_FB_CFG.ENABLE f) && d.fld (F.SAF_FB_STAT.STATE f) ≠ 1
    && (if i < 32 then d.bitOf (F.SAF_FB_SEC_LO.SEC f) i else d.bitOf (F.SAF_FB_SEC_HI.SEC f) (i - 32)))

/-- The causes of Table SEC-2 whose conditions hold now: HEAD, NEGATIVE, LIMIT, GROUP, CONFIG, FAULT. -/
def Dev.secCauses (d : Dev) (i : Nat) : Nat :=
  (if (d.bounds i).any (fun b => d.headOut b.1) then 2 else 0)
    + (if d.secCount i < 0 then 4 else 0)
    + (if (d.fld (F.SEC_CFG.MAX_COUNT i) : Int) ≤ d.secCount i then 8 else 0)
    + (if d.underF3 (d.fld (F.FLT_FG_SEC.GROUP (i / 8) (i % 8))) then 16 else 0)
    + (if d.has .secConfig (.sec i) then 64 else 0)
    + (if d.fbHoldsSec i then 256 else 0)

/-! ### State changes (R263) -/

/-- The SECTION_STATE payload (Table KVT-5) with `enc` laying out multi-byte fields; `byte6` is the old state in event records. -/
def secPayload (d : Dev) (enc : Nat → Nat → List Byte) (i state byte6 : Nat) : List Byte :=
  leBytes 1 i ++ leBytes 1 state ++ enc 2 (unsgn 16 (d.secCount i)) ++ enc 2 (d.secCauses i ||| (d.sec i).moment)
    ++ leBytes 1 byte6 ++ leBytes 1 0 ++ enc 6 d.now.toNat ++ enc 2 0

/-- The state a section publishes: DISTURBED in F4 and in commissioning (R26, R123). -/
def Dev.secShown (d : Dev) (i : Nat) : Nat :=
  if 4 ≤ d.fld F.FLT_STATE.DEV_STATE ∨ d.on F.BOT_STATUS.COMMISSIONING then 2 else d.secState i

/-- Publish SECTION_STATE to every partner the image names for the section (R263): at its changes and when a session opens. Entry into F4
itself sends none (assumption log 155). -/
def Dev.secPublish (d : Dev) (i : Nat) : Dev :=
  d.kvtPublish (fun p => if i < 32 then d.bitOf (F.KVT_PUB_SEC_LO.SECTIONS p) i else d.bitOf (F.KVT_PUB_SEC_HI.SECTIONS p) (i - 32)) 6
    (secPayload d beBytes i (d.secShown i) 0)

/-- Bit `i` of a map register pair. -/
def Dev.setMap (d : Dev) (lo hi : Fld) (i : Nat) (b : Bool) : Dev := if i < 32 then d.setBitOf lo i b else d.setBitOf hi (i - 32) b

/-- The CLEAR, DISTURBED and OFFERED maps follow the section. -/
def Dev.secMaps (d : Dev) (i : Nat) : Dev :=
  let d := d.setMap F.SEC_CLEAR_MAP_LO.V F.SEC_CLEAR_MAP_HI.V i (d.secEnabled i && d.secFree i)
  let d := d.setMap F.SEC_DIST_MAP_LO.V F.SEC_DIST_MAP_HI.V i (d.secEnabled i && d.secState i = 2)
  d.setMap F.SEC_OFFER_MAP_LO.V F.SEC_OFFER_MAP_HI.V i (d.on (F.SEC_STATE.OFFERED i))

/-- A section has left state `old`: SEC_STATE is raised and SECTION_STATE published (R263). -/
def Dev.secTell (d : Dev) (i old : Nat) : Dev :=
  let new := d.secState i
  let d := d.raise .secState (.sec i) (secPayload d leBytes i new old)
  (d.decide (evCode .secState) (.sec i) (secPayload d beBytes i new 0)).secPublish i

/-- The section takes a new state: its timer stops, SEC_STATE is raised and SECTION_STATE published. -/
def Dev.secTo (d : Dev) (i new : Nat) : Dev :=
  let old := d.secState i
  if old = new then d
  else
    let d := (d.setFld (F.SEC_STATE.STATE i) new).setFld (F.SEC_STATE.TIMING i) 0
    ((d.modSec i (fun s => { s with start := none })).secMaps i).secTell i old

/-- Causes of Table SEC-2 occur on a section: CAUSES records them, and the section goes DISTURBED when the sections are next
evaluated, at the same stamp and after every head (R12, R260). -/
def Dev.secDisturb (d : Dev) (i causes : Nat) : Dev :=
  let d := d.setFld (F.SEC_CAUSE.CAUSES i) (d.fld (F.SEC_CAUSE.CAUSES i) ||| causes)
  d.modSec i (fun s => { s with
    present := s.present ||| (causes &&& 0x15E), moment := s.moment ||| (causes &&& 0xA1), fall := true })

/-! ### Counts (R256 to R258) -/

/-- OFFERED is cleared (R272). -/
def Dev.secUnoffer (d : Dev) (i : Nat) : Dev := (d.setFld (F.SEC_STATE.OFFERED i) 0).secMaps i

/-- COUNT takes a value: a negative count or a count at MAX_COUNT raises its fault (R258) and clears OFFERED (R272). -/
def Dev.secSetCount (d : Dev) (i : Nat) (c : Int) : Dev :=
  let c := clampI (-4095) 4095 c
  let d := d.setSFld (F.SEC_STATE.COUNT i) c
  let neg : Bool := c < 0
  let lim : Bool := (d.fld (F.SEC_CFG.MAX_COUNT i) : Int) ≤ c
  let d := if neg ∨ lim then d.secUnoffer i else d
  let d := if neg then (if d.has .secCountNegative (.sec i) then d
      else (d.fault .secCountNegative (.sec i) 0 0 (leBytes 2 (unsgn 16 c))).secDisturb i 4)
    else d.clear .secCountNegative (.sec i)
  if lim then (if d.has .secCountLimit (.sec i) then d
      else (d.fault .secCountLimit (.sec i) 0 0 (leBytes 2 (unsgn 16 c))).secDisturb i 8)
    else d.clear .secCountLimit (.sec i)

/-- A prepared section is entered at a wheel that leaves COUNT above 0 (R268); its timer stops. -/
def Dev.secEntered (d : Dev) (i : Nat) : Dev :=
  if d.secState i = 3 ∧ 0 < d.secCount i then
    ((d.setFld (F.SEC_STATE.ENTERED i) 1).modSec i (fun s => { s with start := none })).setFld (F.SEC_STATE.TIMING i) 0
  else d

/-- A wheel passes head `h` in direction `dir` (0 A-to-B): it enters the sections whose SIGN equals the direction and
leaves the others (R255, R256). -/
def Dev.secWheel (d : Dev) (h dir : Nat) : Dev :=
  forL d.secList (fun i d => forL ((d.bounds i).filter (fun b => b.1 = h)) (fun b d =>
    if b.2 = dir then
      ((d.incWrap (F.SEC_AXLES_IN.AXLES_IN i)).secSetCount i (d.secCount i + 1)).secEntered i
    else (d.secSetCount i (d.secCount i - 1)).secEntered i) d) d

/-- A gambit of head `h` in direction `dir` opens: PROV of the sections it enters (R257). -/
def Dev.secGambit (d : Dev) (h dir : Nat) : Dev :=
  forL d.secList (fun i d => forL ((d.bounds i).filter (fun b => b.1 = h && b.2 = dir))
    (fun _ d => d.setFld (F.SEC_STATE.PROV i) (min 8 (d.fld (F.SEC_STATE.PROV i) + 1))) d) d

/-- The gambit of head `h` in direction `dir` ends; a cancel restarts the clear-confirm timer (R257, R261). -/
def Dev.secGambitEnd (d : Dev) (h dir : Nat) (cancel : Bool) : Dev :=
  forL d.secList (fun i d => forL ((d.bounds i).filter (fun b => b.1 = h && b.2 = dir))
    (fun _ d =>
      let p := d.fld (F.SEC_STATE.PROV i)
      let d := d.setFld (F.SEC_STATE.PROV i) (p - 1)
      if cancel && 0 < p then (d.modSec i (fun s => { s with start := none })).setFld (F.SEC_STATE.TIMING i) 0 else d) d) d

/-- The sections a head bounds go DISTURBED with cause HEAD (Table FLT-3); after an Endgame expiry they lose OFFERED
(R272, R275). -/
def Dev.secHeadLost (d : Dev) (h : Nat) (expired : Bool) : Dev :=
  forL (d.boundedBy h) (fun i d =>
    let d := d.secDisturb i 2
    if expired then d.secUnoffer i else d) d

/-! ### Evaluation -/

/-- The section clears: CLEAR, or CLEAR_RESTRICTED in Endgame scope (R274). -/
def Dev.secClear (d : Dev) (i : Nat) : Dev := d.secTo i (if d.on (F.SEC_STATE.IN_SCOPE i) then 4 else 0)

/-- The section counts down to clear: OCCUPIED, or PREPARED with ENTERED set (R261, R268). -/
def Dev.secWaits (d : Dev) (i : Nat) : Bool := d.secState i = 1 || (d.secState i = 3 && d.on (F.SEC_STATE.ENTERED i))

/-- The clear-confirm timer has run for CONFIRM. -/
def Dev.secConfirmed (d : Dev) (i : Nat) : Bool := match (d.sec i).start with
  | some s => d.fld (F.SEC_CFG.CONFIRM i) * 10000 ≤ d.now.since s
  | none => false

/-- Evaluate one enabled section (R260): causes, Endgame scope, readiness and the clear-confirm timer. A timer that is
running completes by CLEAR_CONFIRM_EXPIRY; a CONFIRM of 0 clears at once. -/
def Dev.secEval (d : Dev) (i : Nat) : Dev :=
  let now := d.secCauses i
  let new := now - (now &&& (d.sec i).present)
  let fall := (d.sec i).fall
  let d := d.modSec i (fun s => { s with present := now, fall := false })
  let d := if new = 0 then d else d.setFld (F.SEC_CAUSE.CAUSES i) (d.fld (F.SEC_CAUSE.CAUSES i) ||| new)
  let scope := d.secScope i
  let d := d.setBit (F.SEC_STATE.IN_SCOPE i) scope
  if (fall ∨ now ≠ 0) ∧ d.secState i ≠ 2 then d.secTo i 2
  else if d.secFree i then
    if !d.secReady i then d.secTo i 1
    else if d.secState i = 0 && scope then d.secTo i 4
    else if d.secState i = 4 && !scope then d.secTo i 0
    else d
  else if d.secState i = 1 ∨ d.secState i = 3 then
    if !d.secReady i then (d.modSec i (fun s => { s with start := none })).setFld (F.SEC_STATE.TIMING i) 0
    else
      let d := if (d.sec i).start.isNone then (d.modSec i (fun s => { s with start := some d.now })).setFld (F.SEC_STATE.TIMING i) 1 else d
      if d.secWaits i && d.fld (F.SEC_CFG.CONFIRM i) = 0 then d.secClear i else d
  else d

/-- Evaluate every enabled section, in index order (R12). -/
def Dev.secEvalAll (d : Dev) : Dev := forL d.secList (fun i d => d.secEval i) d

/-- The clear-confirm timer of a section completes (R261). -/
def Dev.secConfirm (d : Dev) (i : Nat) : Dev :=
  if d.secEnabled i && d.secWaits i && d.secReady i && d.secConfirmed i && d.secCauses i = 0 then d.secClear i else d

/-- A section PREPARED without ENTERED for SWEEP_TIMEOUT_S (R270). -/
def Dev.secSweepTimeout (d : Dev) (i : Nat) : Dev :=
  let lim := d.fld (F.SEC_RESET.SWEEP_TIMEOUT_S i)
  if d.secEnabled i && d.secState i = 3 && !d.on (F.SEC_STATE.ENTERED i) && lim ≠ 0 && lim * 1000000 ≤ d.now.since (d.sec i).prepared then
    (d.strike .secSweepTimeout (.sec i) 0 (leBytes 2 (unsgn 16 (d.secCount i)))).secDisturb i 32
  else d

/-! ### Authorisations (R264 to R273) -/

/-- The no-train condition of a direct reset (R269); the function named by NOTRAIN_FB reports no demand in RUN. The head
table is read through `idle` and `wheel`, the stamps since which each head is IDLE in service and of its latest HEAD_EVENT. -/
def Dev.noTrain (d : Dev) (i : Nat) : Bool :=
  let lim := d.fld (F.SEC_NOTRAIN.NOTRAIN_S i) * 1000000
  let heads := (d.bounds i).all (fun b =>
    let h : HeadSt := tabGet {} d.heads b.1
    match h.idleAt with
    | none => false
    | some s => d.headServes b.1 && d.fld (F.HED_STATE.PATTERN b.1) = 0 && lim ≤ d.now.since s
        && (match h.wheelAt with | some w => lim ≤ d.now.since w | none => true))
  let fb := d.fld (F.SEC_NOTRAIN.NOTRAIN_FB i)
  heads && (!d.on (F.SEC_NOTRAIN.NOTRAIN_FB_EN i) || d.fld (F.SAF_FB_STAT.STATE fb) = 1)

/-- The refusal detail of Table SEC-4 for an authorisation, or 0: `auth` says whether the source's AUTH bit is set. -/
def Dev.secRefusal (d : Dev) (i proc : Nat) (auth : Bool) : Nat :=
  let en := if proc = 1 then d.on (F.SEC_RESET.SWEEP_EN i) else if proc = 2 then d.on (F.SEC_RESET.DIRECT_EN i)
    else if proc = 3 then d.on (F.SEC_RESET.RESTORE_EN i) else false
  if !d.secEnabled i || d.has .secConfig (.sec i) || !en then 1
  else if !auth then 2
  else if d.secState i ≠ 2 then 3
  else if 4 ≤ d.fld F.FLT_STATE.DEV_STATE || d.underF3 (d.fld (F.FLT_FG_SEC.GROUP (i / 8) (i % 8))) then 4
  else if (d.bounds i).any (fun b => !d.headServes b.1) || !d.boot.started then 5
  else if (d.bounds i).any (fun b => d.fld (F.HED_STATE.PATTERN b.1) ≠ 0) then 6
  else if proc = 2 && !d.noTrain i then 7
  else if proc = 3 && (!d.on (F.SEC_STATE.OFFERED i) || d.secCount i < 0) then 8
  else if d.fbHoldsSec i then 9
  else 0

/-- The effect of an accepted reset (R267, R269, R273): the causes of a single moment are no longer shown. -/
def Dev.secReset (d : Dev) (i proc : Nat) : Dev :=
  let d := d.secUnoffer i
  let d := d.modSec i (fun s => { s with moment := 0 })
  if proc = 1 then
    let d := (d.secSetCount i 0).setFld (F.SEC_STATE.PROV i) 0
    let d := (d.setFld (F.SEC_STATE.ENTERED i) 0).modSec i (fun s => { s with prepared := d.now })
    d.secTo i 3
  else if proc = 2 then ((d.secSetCount i 0).setFld (F.SEC_STATE.PROV i) 0).secTo i 1
  else d.secTo i 1

/-- Judge an authorisation once, at its stamp (R265): source code of Table SEC-3, its AUTH bit, origin byte of format R and
reference. Answers the refusal detail, 0 if accepted. -/
def Dev.secAuthorise (d : Dev) (i proc source : Nat) (auth : Bool) (origin ref : Nat) : Dev × Nat :=
  let det := d.secRefusal i proc auth
  let d := d.setFld (F.SEC_LAST_RESET.PROC i) proc
  let d := d.setFld (F.SEC_LAST_RESET.SOURCE i) source
  let d := d.setBit (F.SEC_LAST_RESET.REFUSED i) (det ≠ 0)
  let d := d.setFld (F.SEC_LAST_RESET.DETAIL i) det
  let d := if source = 1 then d else d.setFld (F.SEC_RESET_REF.REFERENCE i) ref
  if det = 0 then
    let d := (d.inc (F.SEC_STAT_CNT.RESETS i)).raise .secResetDone (.sec i) (payR proc 0 origin ref)
    (d.secReset i proc, 0)
  else
    ((d.inc (F.SEC_STAT_CNT.REFUSALS i)).raise .secResetRefused (.sec i) (payR proc det origin ref), det)

/-! ### Configuration and restart (R278, R279) -/

/-- The section passes the configuration check of R278. -/
def Dev.secConfigOk (d : Dev) (i : Nat) : Bool :=
  let bs := d.bounds i
  let fbOn (f : Nat) : Bool := d.on (F.SAF_FB_CFG.ENABLE f)
  let panel (f : Nat) : Bool := d.fld (F.SAF_FB_CFG.TYPE f) = 4
  let pf := d.fld (F.SEC_RESET.PANEL_FB i)
  let nf := d.fld (F.SEC_NOTRAIN.NOTRAIN_FB i)
  bs ≠ [] && (bs.map (fun b => b.1)).Nodup && bs.all (fun b => d.on (F.HED_CFG.ENABLE b.1))
    && (!d.on (F.SEC_RESET.AUTH_PANEL i) || (fbOn pf && panel pf))
    && (!d.on (F.SEC_NOTRAIN.NOTRAIN_FB_EN i) || (fbOn nf && !panel nf))

/-- A section starts DISTURBED with cause RESTART, with an offered count or with COUNT 0 (R272, R279). -/
def Dev.secStart (d : Dev) (i : Nat) (offered : Option Int) : Dev :=
  let d := { d with secs := tabPut {} d.secs i { moment := 1 }, causes := d.causes.filter (fun c => c.src ≠ Src.sec i) }
  let d := d.setReg .sec (F.SEC_STATE.STATE i).off 2
  let d := d.setSFld (F.SEC_STATE.COUNT i) (offered.getD 0)
  let d := d.setBit (F.SEC_STATE.OFFERED i) offered.isSome
  let d := d.setFld (F.SEC_CAUSE.CAUSES i) (d.fld (F.SEC_CAUSE.CAUSES i) ||| 1)
  d.secMaps i

/-- Judge the configuration of an enabled section: SEC_CONFIG holds it DISTURBED, a pass leaves the hold (R278, R538). -/
def Dev.secJudge (d : Dev) (i : Nat) : Dev :=
  if !d.secEnabled i then (d.clear .secConfig (.sec i)).secMaps i
  else if d.secConfigOk i then d.clear .secConfig (.sec i)
  else (d.fault .secConfig (.sec i) 0 0 (leBytes 2 (unsgn 16 (d.secCount i)))).secDisturb i 64

/-- Enabling a section, or writing its configuration, restarts it and judges it again (R278, R279). A section that was enabled, `was`, and
leaves another state for DISTURBED with that says so (R263); so does one that the write disables (assumption log 151). -/
def Dev.secRestart (d : Dev) (i : Nat) (was : Bool) : Dev :=
  let old := d.secState i
  let d := if d.secEnabled i then (d.secStart i none).secJudge i
    else ({ d with secs := tabDel d.secs i }.setReg .sec (F.SEC_STATE.STATE i).off 2).secJudge i
  if was && old ≠ 2 then d.secTell i old else d

end Sys2Proof.Machine
end

