-- ==== Sys2Proof/Machine/Heads.lean ====
section
/-! DEFINITION. Machine/Heads.lean: counting heads: system states, patterns, gambits, wheel records, HEAD_SINGLE, remote heads,
faults and recovery (chapter 09). -/

namespace Sys2Proof.Machine

def Dev.head (d : Dev) (h : Nat) : HeadSt := tabGet {} d.heads h
def Dev.setHead (d : Dev) (h : Nat) (s : HeadSt) : Dev := { d with heads := tabPut {} d.heads h s }
def Dev.modHead (d : Dev) (h : Nat) (f : HeadSt → HeadSt) : Dev := d.setHead h (f (d.head h))

/-- The system of a head: 0 A, 1 B. -/
def HeadSt.sys (s : HeadSt) (x : Nat) : SysSt := if x = 0 then s.a else s.b
def HeadSt.setSys (s : HeadSt) (x : Nat) (y : SysSt) : HeadSt := if x = 0 then { s with a := y } else { s with b := y }
def Dev.modSys (d : Dev) (h x : Nat) (f : SysSt → SysSt) : Dev := d.modHead h (fun s => s.setSys x (f (s.sys x)))

/-- The slot is remote (R223). -/
def remote (h : Nat) : Bool := 32 ≤ h

def Dev.headEnabled (d : Dev) (h : Nat) : Bool := d.on (F.HED_CFG.ENABLE h)
/-- The enabled slots, in index order. -/
def Dev.headList (d : Dev) : List Nat := (List.range 64).filter d.headEnabled
def Dev.pattern (d : Dev) (h : Nat) : Nat := d.fld (F.HED_STATE.PATTERN h)

/-- The channel of a system (R224). -/
def Dev.headChan (d : Dev) (h x : Nat) : Nat := if x = 0 then d.fld (F.HED_CFG.CH_A h) else d.fld (F.HED_CFG.CH_B h)

def sysFld (h x : Nat) : Fld := if x = 0 then F.HED_STATE.SYS_A h else F.HED_STATE.SYS_B h
def Dev.damp (d : Dev) (h x : Nat) : Int := if x = 0 then d.sfld (F.HED_THR_DAMP.DAMP_A h) else d.sfld (F.HED_THR_DAMP.DAMP_B h)
def Dev.rel (d : Dev) (h x : Nat) : Int := if x = 0 then d.sfld (F.HED_THR_REL.REL_A h) else d.sfld (F.HED_THR_REL.REL_B h)
def Dev.bandLo (d : Dev) (h x : Nat) : Int := if x = 0 then d.sfld (F.HED_BAND_A.LO h) else d.sfld (F.HED_BAND_B.LO h)
def Dev.bandHi (d : Dev) (h x : Nat) : Int := if x = 0 then d.sfld (F.HED_BAND_A.HI h) else d.sfld (F.HED_BAND_B.HI h)

/-! ### Records (R230 to R234, R247) -/

/-- The head-record payload of Table KVT-5, multi-byte fields laid out by `enc`. A neighbour's record reports the neighbour's stamp (R240). -/
def headPayload (d : Dev) (enc : Nat → Nat → List Byte) (h : Nat) (r : HeadRec) : List Byte :=
  let kind := if r.ev = .headState then 1 else 0
  let flags := r.fast.toNat + 2 * r.slow.toNat + 4 * r.single.toNat + 8 * r.faulted.toNat
  leBytes 1 (h % 32) ++ leBytes 1 (kind + 4 * r.dir + 8 * flags) ++ leBytes 1 r.gid ++ leBytes 1 r.reason
    ++ enc 2 r.speed ++ enc 3 r.damp ++ leBytes 1 0 ++ enc 6 (r.at_.getD d.now).toNat

/-- The KVT type of a head record (Table KVT-3). -/
def headType : Ev → Nat
  | .gambit => 3 | .gambitConfirm => 4 | .gambitCancel => 5 | _ => 2

/-- Publish a head record: event record, decision record, and for a local head the KVT message to every partner that
PUB_HEAD names. -/
def Dev.headOutRec (d : Dev) (h : Nat) (r : HeadRec) : Dev :=
  let d := d.raise r.ev (.head h) (headPayload d leBytes h r)
  let d := { d.decide (evCode r.ev) (.head h) (headPayload d beBytes h r) with headq := d.headq ++ [(h, r)] }
  if remote h then d else d.kvtPublish (fun p => d.bitOf (F.KVT_PUB_HEAD.HEADS p) h) (headType r.ev) (headPayload d beBytes h r)

/-- The queue of a slot empties at each new stamp (assumption log 13). -/
def Dev.headQueue (d : Dev) (h : Nat) : Nat := if (d.head h).queueAt = d.now then d.fld (F.HED_STATE.QUEUE h) else 0

/-- The record takes a place in the slot's queue. -/
def Dev.headEnqueue (d : Dev) (h : Nat) : Dev :=
  (d.setFld (F.HED_STATE.QUEUE h) (min 64 (d.headQueue h + 1))).modHead h (fun s => { s with queueAt := d.now })

/-- The sticky flag of a fault in HED_FAULT, in the row order of Table HED-7. -/
def faultRow : Ev → Nat
  | .senOpen => 0 | .senSupplyShort => 1 | .senOutOfBand => 2 | .senOvr => 3 | .headSysStuck => 4 | .headPattern => 5
  | .headSingleDirection => 6 | .headRecordOverrun => 7 | .remoteHeadLost => 8 | .headConfig => 9 | _ => 10

def Dev.headFlag (d : Dev) (h : Nat) (ev : Ev) : Dev := d.setBitOf (F.HED_FAULT.FLAGS h) (faultRow ev) true

/-- A further fault that leaves a head in Endgame unusable ends its Endgame (R41). -/
def Dev.headEndgameOver (d : Dev) (h : Nat) : Dev := match d.egFind 1 h with
  | some k => if remote h then d else d.egExpire k 3
  | none => d

/-- A record of the slot: it is discarded with HEAD_RECORD_OVERRUN when 64 wait unsent (R19); the head then leaves service when
it is next evaluated (`Dev.headEval`). Answers whether it was published. -/
def Dev.headPub (d : Dev) (h : Nat) (r : HeadRec) : Dev × Bool :=
  if d.headQueue h < 64 then ((d.headEnqueue h).headOutRec h r, true)
  else if d.has .headRecordOverrun (.head h) then (d, false)
  else (((d.headFlag h .headRecordOverrun).fault .headRecordOverrun (.head h) 0 0 [BitVec.ofNat 8 (d.pattern h)]).headEndgameOver h, false)

/-! ### Leaving and returning to service -/

/-- A gambit that is open ends with GAMBIT_CANCEL (Table HED-4), for the sections too where its record is discarded (assumption
log 150). A neighbour's cancel carries the neighbour's stamp. -/
def Dev.headCancel (d : Dev) (h reason : Nat) (sent : Option Stamp := none) : Dev :=
  if d.on (F.HED_STATE.GAMBIT_OPEN h) then
    let s := d.head h
    let d := (d.setFld (F.HED_STATE.GAMBIT_OPEN h) 0).setFld (F.HED_STATE.CONFIRMED h) 0
    let d := d.inc (F.HED_STAT_CNT.CANCELS h)
    (d.headPub h { ev := .gambitCancel, dir := s.gDir, gid := d.fld (F.HED_STATE.GAMBIT_ID h), reason := reason, at_ := sent }).1.secGambitEnd
      h s.gDir true
  else d

/-- A head leaves service: an open gambit is cancelled with FAULT (R249), a STATE record is published (R232), its sections
go DISTURBED (Table FLT-3). A head in STARTING goes out of service without a record. -/
def Dev.headLeave (d : Dev) (h : Nat) (expired : Bool := false) : Dev :=
  if d.pattern h = 7 then d
  else
    let serving := d.headServes h
    let d := d.headCancel h 5
    let d := (d.setFld (F.HED_STATE.PATTERN h) 7).setFld (F.HED_STATE.SINGLE h) 0
    let d := d.modHead h (fun s => { s with idleAt := none, cleanAt := none, train := none })
    let d := if serving then (d.headPub h { ev := .headState, faulted := true }).1 else d
    d.secHeadLost h expired

/-- A head enters or returns to service with pattern IDLE and publishes a STATE record (R232, R250, R251). -/
def Dev.headEnter (d : Dev) (h : Nat) (recovered : Bool) : Dev :=
  let d := d.setFld (F.HED_STATE.PATTERN h) 0
  let d := d.modHead h (fun s => { s with idleAt := some d.now, cleanAt := none })
  let d := { d with causes := d.causes.filter (fun c => !(c.src = Src.head h && c.ev = Ev.endgameExpired)) }
  let d := (d.headPub h { ev := .headState }).1
  if recovered then d.note .headRecovered (.head h) else d

/-- A head fault of class F1 whose cause stays (R248): an open gambit is cancelled first, and the fault follows its record (R247, R249). -/
def Dev.headFault (d : Dev) (h : Nat) (ev : Ev) (sub : Nat := 0) : Dev :=
  if d.has ev (.head h) sub then d
  else
    let d := d.headCancel h 5
    let d := (d.headFlag h ev).fault ev (.head h) sub 0 [BitVec.ofNat 8 (d.pattern h)]
    (d.headEndgameOver h).headLeave h

/-- A head fault that marks a single moment: HEAD_PATTERN, HEAD_SINGLE_DIRECTION (R541). -/
def Dev.headStrike (d : Dev) (h : Nat) (ev : Ev) : Dev :=
  let d := if ev = .headPattern then d.inc (F.HED_STAT_CNT.PATTERNS h) else d
  let d := d.headCancel h 5
  let d := (d.headFlag h ev).strike ev (.head h) 0 [BitVec.ofNat 8 (d.pattern h)]
  (d.headEndgameOver h).headLeave h

/-! ### Gambits (R233 to R235) -/

/-- The next gambit ID, from 1 to 255. -/
def nextGid (g : Nat) : Nat := if 255 ≤ g then 1 else g + 1

/-- Open a gambit in a direction at this stamp. -/
def Dev.gambitOpen (d : Dev) (h dir : Nat) : Dev :=
  let gid := nextGid (d.fld (F.HED_STATE.GAMBIT_ID h))
  let d := d.setFld (F.HED_STATE.GAMBIT_ID h) gid
  match d.headPub h { ev := .gambit, dir := dir, gid := gid } with
  | (d, true) =>
    let d := (d.setFld (F.HED_STATE.GAMBIT_OPEN h) 1).setFld (F.HED_STATE.CONFIRMED h) 0
    (d.modHead h (fun s => { s with gDir := dir, gAt := d.now })).secGambit h dir
  | (d, false) => d

/-- The direction a gambit takes (R233). -/
def Dev.gambitDir (d : Dev) (h : Nat) : Nat :=
  let s := d.head h
  match s.lastWheel with
  | some (dir, fRel) =>
    if d.on (F.HED_CFG.DIR_FOLLOW h) && s.eEdge.since fRel < d.fld (F.HED_GEOM.TRAIN_GAP h) * 100000 then dir
    else d.fld (F.HED_CFG.DIR_DEFAULT h)
  | none => d.fld (F.HED_CFG.DIR_DEFAULT h)

/-- Confirm the open gambit (R230). -/
def Dev.gambitConfirm (d : Dev) (h : Nat) : Dev :=
  if d.on (F.HED_STATE.GAMBIT_OPEN h) then
    match d.headPub h { ev := .gambitConfirm, dir := (d.head h).gDir, gid := d.fld (F.HED_STATE.GAMBIT_ID h) } with
    | (d, true) => d.setFld (F.HED_STATE.CONFIRMED h) 1
    | (d, false) => d
  else d

/-! ### Wheels -/

/-- A speed above FLT_EG_SLS at a boundary head of Endgame scope disturbs the sections the head bounds (R36). -/
def Dev.speedCheck (d : Dev) (h : Nat) (r : HeadRec) : Dev :=
  let scope := (d.boundedBy h).any d.secScope
  let above := r.fast || (!r.slow && 100 * d.fld F.FLT_EG_SLS.SPEED_KMH < r.speed)
  let healthy := remote h || (d.fld (F.HED_STATE.SYS_A h) ≠ 2 && d.fld (F.HED_STATE.SYS_B h) ≠ 2)
  if scope && above && healthy && !r.single then
    forL (d.boundedBy h) (fun i d => d.secDisturb i 128) (d.strike .egSpeedExceeded (.head h) 0 (leBytes 2 r.speed))
  else d

/-- A lifetime wheel counter counts up, modulo 2^32, with its sticky WRAP bit (R239). -/
def Dev.headCount (d : Dev) (h : Nat) (ba : Bool) : Dev :=
  let (cnt, wrap) := if ba then (F.HED_CNT_BA.COUNT h, F.HED_STAT_CNT.WRAP_BA h) else (F.HED_CNT_AB.COUNT h, F.HED_STAT_CNT.WRAP_AB h)
  if d.fld cnt = 2 ^ 32 - 1 then (d.setFld cnt 0).setFld wrap 1 else d.setFld cnt (d.fld cnt + 1)

/-- A wheel record: published, counted by the sections, the lifetime counters and, in HEAD_SINGLE, the Endgame's axle
limit (R37, R231, R239, R256). An open gambit ends with it. -/
def Dev.headWheel (d : Dev) (h : Nat) (r : HeadRec) : Dev :=
  match d.headPub h r with
  | (d, false) => d
  | (d, true) =>
    let gDir := (d.head h).gDir
    let d := if d.on (F.HED_STATE.GAMBIT_OPEN h) then
      ((d.setFld (F.HED_STATE.GAMBIT_OPEN h) 0).setFld (F.HED_STATE.CONFIRMED h) 0).secGambitEnd h gDir false else d
    let d := d.secWheel h r.dir
    let d := d.headCount h (r.dir ≠ 0)
    let d := d.setFld (F.HED_LAST.SPEED h) r.speed
    let d := d.setFld (F.HED_LAST.DIR h) r.dir
    let d := ((d.setBit (F.HED_LAST.FAST h) r.fast).setBit (F.HED_LAST.SLOW h) r.slow).setBit (F.HED_LAST.SINGLE h) r.single
    let d := (d.setFld (F.HED_LAST_T.DAMP_US h) r.damp).setFld (F.HED_LAST_T.GAMBIT_ID h) r.gid
    let d := d.modHead h (fun s => { s with wheelAt := some d.now })
    let d := d.speedCheck h r
    if r.single then
      match d.egFind 1 h with
      | some k =>
        let d := { d.inc (F.FLT_EG_SLOT_A.AXLES_USED k) with egDirty := true }
        if d.fld F.FLT_EG_AXLES.LIMIT_AXLES ≤ d.fld (F.FLT_EG_SLOT_A.AXLES_USED k) then d.egExpire k 2 else d
      | none => d
    else d

/-- Speed in 0.01 km/h from the spacing and the damp-edge interval, with FAST and SLOW, judged on the rounded value (R231). -/
def wheelSpeed (spacing : Nat) (delta : Int) : Nat × Bool × Bool :=
  if delta ≤ 0 then (40000, true, false)
  else
    let n := delta.toNat
    let v := (2 * 360000 * spacing + n) / (2 * n)
    if 40000 < v then (40000, true, false) else if v < 50 then (0, false, true) else (v, false, false)

/-- The HEAD_EVENT of a wheel that left through F: direction E to F. -/
def Dev.patternWheel (d : Dev) (h : Nat) : Dev :=
  let s := d.head h
  let e := d.fld (F.HED_STATE.ENTRY_B h)
  let (v, fast, slow) := wheelSpeed (d.fld (F.HED_GEOM.SPACING_MM h)) (sgn 48 (s.fEdge - s.eEdge).toNat)
  let damp := min 16777215 ((s.sys e).relEdge.since s.eEdge)
  let gid := if d.on (F.HED_STATE.GAMBIT_OPEN h) then d.fld (F.HED_STATE.GAMBIT_ID h) else 0
  let fRel := (s.sys (1 - e)).relEdge
  let d := d.headWheel h { ev := .headEvent, dir := e, fast := fast, slow := slow, gid := gid, speed := v, damp := damp }
  d.modHead h (fun s => { s with lastWheel := some (e, fRel) })

/-! ### Patterns (Table HED-2) -/

/-- The pattern state moves; entering IDLE is remembered for R269. -/
def Dev.patternTo (d : Dev) (h p : Nat) : Dev :=
  (d.setFld (F.HED_STATE.PATTERN h) p).modHead h (fun s => { s with idleAt := if p = 0 then some d.now else none })

/-- System `x` of a head in service has changed to DAMPED or to IDLE: the row of Table HED-2. -/
def Dev.patternStep (d : Dev) (h x : Nat) (damped : Bool) : Dev :=
  let p := d.pattern h
  let e := d.fld (F.HED_STATE.ENTRY_B h)
  let gen := d.on (F.HED_CFG.GAMBIT_EN h)
  let isE : Bool := x = e
  if p = 0 then
    if damped then
      let d := (d.patternTo h 1).setFld (F.HED_STATE.ENTRY_B h) x
      let d := d.modHead h (fun s => { s with eEdge := (s.sys x).dampEdge })
      if gen then d.gambitOpen h (d.gambitDir h) else d
    else d
  else if p = 1 then
    if isE then (if damped then d else (d.patternTo h 0).headCancel h 1)
    else if damped then
      let d := (d.patternTo h 2).modHead h (fun s => { s with fEdge := (s.sys x).dampEdge })
      if d.on (F.HED_STATE.GAMBIT_OPEN h) then
        let d := if (d.head h).gDir = e then d else (d.headCancel h 3).gambitOpen h e
        d.gambitConfirm h
      else d
    else d
  else if p = 2 then
    if damped then d else d.patternTo h (if isE then 3 else 4)
  else if p = 3 then
    if isE then (if damped then d.patternTo h 2 else d)
    else if damped then d
    else (let w := d.patternWheel h
      if w.pattern h = 7 then w else w.patternTo h 0)
  else if p = 4 then
    if isE then (if damped then d else (d.patternTo h 0).headCancel h 2)
    else if damped then d.patternTo h 2 else d
  else d

/-- The direction of a train in HEAD_SINGLE (R244), if it can be fixed. -/
def Dev.singleDir (d : Dev) (h : Nat) : Option Nat :=
  let a := d.sideOf h 1
  let b := d.sideOf h 0
  let busy (l : List Nat) : Bool := l.any (fun i => !d.secFree i)
  if busy a && !busy b then some 0
  else if busy b && !busy a then some 1
  else if !busy a && !busy b && a = [] && b ≠ [] then some 0
  else if !busy a && !busy b && b = [] && a ≠ [] then some 1
  else none

/-- The healthy system `x` of a head in HEAD_SINGLE has changed (R243, R244). While it is DAMPED the pattern reads ENTER
(assumption log 14). -/
def Dev.singleStep (d : Dev) (h x : Nat) (damped : Bool) : Dev :=
  let s := d.head h
  let y := s.sys x
  if damped then
    let same := match s.lastWheel with
      | some (dir, r) => if y.dampEdge.since r < d.fld (F.HED_GEOM.TRAIN_GAP h) * 100000 then some dir else none
      | none => none
    match (match same with | some dir => some dir | none => d.singleDir h) with
    | some dir => (d.patternTo h 1).modHead h (fun s => { s with train := some dir })
    | none => d.headStrike h .headSingleDirection
  else
    match s.train with
    | some dir =>
      let d := d.headWheel h { ev := .headEvent, dir := dir, single := true, damp := min 16777215 (y.relEdge.since y.dampEdge) }
      let d := d.modHead h (fun s => { s with lastWheel := some (dir, y.relEdge), train := none })
      if d.pattern h = 1 then d.patternTo h 0 else d
    | none => if d.pattern h = 1 then d.patternTo h 0 else d

/-! ### Systems (R225 to R228, R248, R541) -/

/-- Side of a system's thresholds: 1 beyond damp, 2 beyond release, 0 neither (R225, R228). -/
def sideAt (damp rel code : Int) (ovr : Bool) : Nat :=
  if ovr then 1
  else if rel < damp then (if damp ≤ code then 1 else if code ≤ rel then 2 else 0)
  else (if code ≤ damp then 1 else if rel ≤ code then 2 else 0)

/-- The system that has failed in HEAD_SINGLE: the slot's SYSTEM while the cause has not gone (R542). -/
def Dev.singleFailed (d : Dev) (h : Nat) : Option Nat := match d.egFind 1 h with
  | some k => if remote h then none else some (d.fld (F.FLT_EG_SLOT_A.SYSTEM k))
  | none => none

/-- A system fault of system `x` is present: its sub number is x. -/
def Dev.sysFaulty (d : Dev) (h x : Nat) : Bool :=
  d.has .senOpen (.head h) x || d.has .senSupplyShort (.head h) x || d.has .senOutOfBand (.head h) x || d.has .senOvr (.head h) x

/-- The slot that holds system `x` in FAULT while its cause is present (R542). -/
def Dev.sysHeld (d : Dev) (h x : Nat) : Bool := match d.egFind 1 h with
  | some k => !remote h && d.fld (F.FLT_EG_SLOT_A.SYSTEM k) = x && !d.on (F.FLT_EG_SLOT_A.CAUSE_GONE k)
  | none => false

/-- SYS_A or SYS_B shows FAULT while a fault of the system is present or its slot holds it, otherwise its state. -/
def Dev.showSys (d : Dev) (h x : Nat) : Dev :=
  let y := (d.head h).sys x
  d.setFld (sysFld h x) (if d.sysFaulty h x || d.sysHeld h x then 2 else if y.st = 1 then 1 else 0)

/-- A system fault is raised (R242, R248). A fault of the system that a running slot names carries the Endgame on (R40); the other
system failing ends it (R41). With no slot, HEAD_SINGLE is entered only from pattern IDLE with the other system healthy; otherwise the
head leaves service, an open gambit first cancelled (R249). -/
def Dev.sysFault (d : Dev) (h x : Nat) (ev : Ev) : Dev :=
  if d.has ev (.head h) x then d
  else
    let other := d.sysFaulty h (1 - x) || d.sysHeld h (1 - x)
    let enters : Bool := match d.singleFailed h with
      | some y => y = x
      | none => d.pattern h = 0 && !other
    let det := leBytes 1 x
    let d := d.headFlag h ev
    let d := d.modSys h x (fun y => { y with st := 2, run := none, cleanAt := none })
    if enters then
      (d.fault2 ev h x x (Src.chan (d.headChan h x)).enc det true).showSys h x
    else
      let d := ((d.headCancel h 5).headEndgameOver h).fault2 ev h x x (Src.chan (d.headChan h x)).enc det false
      (d.showSys h x).headLeave h

/-- A system fault's cause has gone (R541). -/
def Dev.sysClear (d : Dev) (h x : Nat) (ev : Ev) : Dev :=
  if d.has ev (.head h) x then (d.clear ev (.head h) x).modSys h x (fun y => { y with st := 2, run := none, cleanAt := none }) else d

/-- Track a condition that must hold without a break over unblanked records: its start, or none. -/
def trackFrom (now : Stamp) (unbl cond : Bool) (s : Option Stamp) : Option Stamp :=
  if !unbl then s else if cond then (match s with | some t => some t | none => some now) else none

/-- The condition has held for `us` microseconds. -/
def heldFor (now : Stamp) (us : Nat) : Option Stamp → Bool
  | some t => us ≤ now.since t
  | none => false

/-- The fault conditions of Table HED-7 that one record of system `x` decides, and the causes that go with it. -/
def Dev.sysConditions (d : Dev) (h x : Nat) (r : ChanRec) : Dev :=
  let y := (d.head h).sys x
  let unbl := !(r.blanked || r.disturb)
  let side := sideAt (d.damp h x) (d.rel h x) r.code r.ovr
  let low : Bool := r.openCode.natAbs < d.fld (F.HED_OPEN.OPEN_CODE h)
  let inBand : Bool := d.bandLo h x ≤ r.code && r.code ≤ d.bandHi h x
  let y := { y with
    openAt := trackFrom d.now unbl low y.openAt
    ovrAt := if r.ovr then (match y.ovrAt with | some t => some t | none => some d.now) else none
    bandAt := trackFrom d.now unbl (y.st = 0 && !inBand && side ≠ 1) y.bandAt
    cleanAt := trackFrom d.now unbl (y.st = 0 && inBand) y.cleanAt }
  let d := d.modSys h x (fun _ => y)
  let d := if unbl && !low then d.sysClear h x .senOpen else d
  let d := if unbl && !r.limit && d.on (F.HAZ_CH_STAT.SWITCH_ON r.chan) then d.sysClear h x .senSupplyShort else d
  let d := if unbl && inBand then d.sysClear h x .senOutOfBand else d
  let d := if !r.ovr then d.sysClear h x .senOvr else d
  let d := if heldFor d.now 1000 y.openAt then d.sysFault h x .senOpen else d
  let d := if heldFor d.now (d.fld (F.HED_LIMIT.BAND_TIME h) * 10000) y.bandAt then d.sysFault h x .senOutOfBand else d
  if heldFor d.now (d.fld (F.HED_LIMIT.T_OVR h) * 100) y.ovrAt then d.sysFault h x .senOvr else d

/-- The run logic of one record of system `x` (R226, R227). Answers the device and the change: 1 to DAMPED, 0 to IDLE. -/
def Dev.sysRun (d : Dev) (h x : Nat) (r : ChanRec) : Dev × Option Nat :=
  let y := (d.head h).sys x
  if r.blanked || r.disturb then
    (d.modSys h x (fun y => { y with blank := match y.blank with | some (a, _) => some (a, d.now) | none => some (d.now, d.now) }), none)
  else
    let side := sideAt (d.damp h x) (d.rel h x) r.code r.ovr
    let moved : Bool := y.blank.isSome && y.side ≠ 3 && side ≠ y.side
    let cross := match y.blank with
      | some b => if moved then some b else none
      | none => y.cross
    let run0 := if moved then none else y.run
    let faulty := d.sysFaulty h x
    let want (k : Bool) : Bool := (y.st = 2) || (y.st = 0 && k) || (y.st = 1 && !k)
    let k : Bool := side = 1
    let run : Option (Bool × Stamp) :=
      if side ≠ 0 && want k && !faulty then (match run0 with | some (k', t) => if k' = k then some (k, t) else some (k, d.now) | none => some (k, d.now))
      else none
    let done : Bool := match run with
      | some (k, t) => (if k then d.fld (F.HED_TIME.T_ON h) else d.fld (F.HED_TIME.T_OFF h)) * 10 ≤ d.now.since t
      | none => false
    let y := { y with blank := none, side := side, cross := cross, run := if done then none else run }
    match done, run with
    | true, some (true, t) => (d.modSys h x (fun _ => { y with st := 1, dampEdge := t, dampedAt := d.now, cleanAt := none, bandAt := none }), some 1)
    | true, some (false, t) => (d.modSys h x (fun _ => { y with st := 0, relEdge := t }), some 0)
    | _, _ => (d.modSys h x (fun _ => y), none)

/-- Two blanks share a stamp. -/
def blanksMeet (a b : Option (Stamp × Stamp)) : Bool := match a, b with
  | some (s, e), some (s', e') => e'.reached s && e.reached s'
  | _, _ => false

/-- Every cause that holds the head out of service has gone: its own, and those of its banks, channels and supplies. -/
def Dev.headBad (d : Dev) (h : Nat) : Bool :=
  d.causes.any (fun c =>
    (c.src = Src.head h && 1 ≤ c.cls && c.cls ≠ 2 && c.ev ≠ Ev.endgameExpired)
      || (!remote h && (List.range 2).any (fun x =>
        let ch := d.headChan h x
        let mode := d.fld (F.HAZ_CH_STAT.MODE_NOW ch)
        (c.src = Src.bank (ch / 8) && c.ev = Ev.blankOverlong)
          || (c.src = Src.pwr (ch / 8) && c.ev = Ev.vsensLow && (mode = 1 || mode = 2))
          || (c.src = Src.chan ch && c.ev = Ev.hazSelftestFail))))

/-- A head out of service follows the condition of its recovery (R250): every cause has gone, and both systems are IDLE in their idle
bands. -/
def Dev.headMending (d : Dev) (h : Nat) : Dev :=
  let s := d.head h
  let clean := !d.headBad h && s.a.cleanAt.isSome && s.b.cleanAt.isSome && !d.sysFaulty h 0 && !d.sysFaulty h 1
  if d.pattern h ≠ 7 then d
  else if clean && s.cleanAt.isSome then d
  else d.modHead h (fun s => { s with cleanAt := if clean then some d.now else none })

/-- Recovery (R250): both systems IDLE in their idle bands for 1 s since every cause has gone. -/
def Dev.headRecover (d : Dev) (h : Nat) : Dev :=
  let d := d.headMending h
  let s := d.head h
  if d.pattern h = 7 && heldFor d.now 1000000 s.cleanAt && heldFor d.now 1000000 s.a.cleanAt && heldFor d.now 1000000 s.b.cleanAt then
    d.headEnter h true else d

/-- The failed system of a HEAD_SINGLE head, its cause gone, has been clean for 1 s: CAUSE_GONE is set (R542). -/
def Dev.headRepair (d : Dev) (h : Nat) : Dev := match d.singleFailed h with
  | some x =>
    if d.sysHeld h x && !d.sysFaulty h x && heldFor d.now 1000000 ((d.head h).sys x).cleanAt then (d.egGone 1 h).showSys h x else d
  | none => d

/-- The gambit window of ENTER has ended without a confirm: the head is FAULTED (R235, Table HED-2). -/
def Dev.windowOver (d : Dev) (h : Nat) : Dev :=
  if d.pattern h = 1 && d.on (F.HED_STATE.GAMBIT_OPEN h) && !d.on (F.HED_STATE.CONFIRMED h) && !remote h
      && d.fld (F.HED_GEOM.GAMBIT_WIN_MS h) * 1000 ≤ d.now.since (d.head h).gAt then
    (d.headCancel h 4).headStrike h .headPattern
  else d

/-- One stamp's records reach an enabled local head: `ra` and `rb` are the records of its systems that carry this stamp. A gambit
window that ends at the stamp ends after them (R246). -/
def Dev.headSample (d : Dev) (h : Nat) (ra rb : Option ChanRec) : Dev :=
  let start (x : Nat) (r : Option ChanRec) (d : Dev) : Dev × Option Nat := match r with
    | some r => (d.sysRun h x r)
    | none => (d, none)
  let conds (x : Nat) (r : Option ChanRec) (d : Dev) : Dev := match r with
    | some r => d.sysConditions h x r
    | none => d
  let (d, ca) := start 0 ra d
  let (d, cb) := start 1 rb d
  let d := (d.showSys h 0).showSys h 1
  let settled (d : Dev) : Dev := d.modHead h (fun s => { s with a := { s.a with cross := none }, b := { s.b with cross := none } })
  let stuck (x : Nat) (c : Option Nat) (d : Dev) : Dev := if c = some 0 then d.clear .headSysStuck (.head h) x else d
  let d := stuck 1 cb (stuck 0 ca d)
  let s := d.head h
  let p := d.pattern h
  let d :=
    if p = 6 then
      -- a head whose slot has resumed enters service on its healthy system alone (R50, R542)
      let ready (x : Nat) : Bool := d.singleFailed h = some x || ((s.sys x).st = 0 && !d.sysFaulty h x)
      settled (if ready 0 && ready 1 && !d.headBad h && !d.has .endgameExpired (.head h) then d.headEnter h false else d)
    else if p = 7 then settled d
    else match d.singleFailed h with
      | some x =>
        (match (if x = 0 then cb else ca) with
          | some c => settled (d.singleStep h (1 - x) (c = 1))
          | none => settled d)
      | none =>
        if (ca.isSome && cb.isSome) || ((ra.isSome || rb.isSome) && blanksMeet s.a.cross s.b.cross) then
          settled (d.headStrike h .headPattern)
        else
          let d := match ca with | some c => d.patternStep h 0 (c = 1) | none => d
          match cb with | some c => d.patternStep h 1 (c = 1) | none => d
  let d := if s.winOver then d.windowOver h else d
  let d := d.modHead h (fun s => { s with early := none, winOver := false, seen := some d.now })
  let d := conds 1 rb (conds 0 ra d)
  ((d.showSys h 0).showSys h 1 |>.headRepair h).headRecover h

/-- A channel gives a record at this stamp: a sample record at each multiple of 10 µs, in FREQ a word at each multiple of 50 µs
(R196, R197). -/
def Dev.recordDue (d : Dev) (ch : Nat) : Bool :=
  let mode := d.fld (F.HAZ_CH_STAT.MODE_NOW ch)
  ((mode = 1 || mode = 3) && d.now.toNat % 10 = 0) || (mode = 2 && d.now.toNat % 50 = 0)

/-- The records of one stamp reach the heads that use their channels, in index order (R12). A head takes its two records of a
stamp together: the first to come waits for the other, until time goes on (`Dev.headsLate`). -/
def Dev.headSamples (d : Dev) (rs : List ChanRec) : Dev :=
  forL (d.headList.filter (fun h => !remote h)) (fun h d =>
    let kept : List ChanRec := match (d.head h).early with
      | some (t, r) => if t = d.now then [r] else []
      | none => []
    let find (x : Nat) : Option ChanRec := (rs ++ kept).find? (fun r => r.chan = d.headChan h x)
    let wait (x : Nat) (r : ChanRec) : Bool := d.recordDue (d.headChan h x) && (rs.any (fun q => q = r))
    match find 0, find 1 with
    | none, none => d
    | some a, none => if wait 1 a then d.modHead h (fun s => { s with early := some (d.now, a) }) else d.headSample h (some a) none
    | none, some b => if wait 0 b then d.modHead h (fun s => { s with early := some (d.now, b) }) else d.headSample h none (some b)
    | some a, some b => d.headSample h (some a) (some b)) d

/-- Heads with a record that waits for the other system's, or a window that waits for the records of its end. -/
def Dev.headsWait (d : Dev) : List Nat := (d.heads.filter (fun e => e.2.early.isSome || e.2.winOver)).map (fun e => e.1)

/-- Time goes on: what waited for further records of this stamp takes its place at it. -/
def Dev.headsLate (d : Dev) : Dev :=
  forL d.headsWait (fun h d =>
    let s := d.head h
    let d := d.modHead h (fun s => { s with early := none, winOver := false })
    if !d.headEnabled h then d
    else match s.early with
      | some (_, r) => (d.modHead h (fun t => { t with winOver := s.winOver })).headSample h (if r.chan = d.headChan h 0 then some r else none)
          (if r.chan = d.headChan h 0 then none else some r)
      | none => d.windowOver h) d

/-- The gambit window expires in ENTER (R235, Table HED-2). At the very end of the window the records of that stamp come first (R246):
until they have reached the head, the expiry waits for them. -/
def Dev.gambitTimeout (d : Dev) (h : Nat) : Dev :=
  if !d.headEnabled h then d
  else if d.now.since (d.head h).gAt = d.fld (F.HED_GEOM.GAMBIT_WIN_MS h) * 1000 && (d.head h).seen ≠ some d.now then
    d.modHead h (fun s => { s with winOver := true })
  else d.windowOver h

/-- A healthy system DAMPED for T_STUCK (R248); a system that its slot holds in FAULT is none (R542). -/
def Dev.headStuck (d : Dev) (h : Nat) : Dev :=
  let s := d.head h
  let t := d.fld (F.HED_LIMIT.T_STUCK h) * 1000000
  let stuck (x : Nat) : Bool := (s.sys x).st = 1 && t ≤ d.now.since (s.sys x).dampedAt && !d.sysFaulty h x && !d.sysHeld h x
  let b := stuck 1
  if d.headEnabled h && !remote h then
    let d := if stuck 0 then d.headFault h .headSysStuck 0 else d
    if b then d.headFault h .headSysStuck 1 else d
  else d

/-! ### Remote heads (R240, R241) -/

/-- The remote slots bound to a head of a port's partner. -/
def Dev.remoteOf (d : Dev) (port head : Nat) : List Nat :=
  d.headList.filter (fun h => remote h && d.fld (F.HED_CFG.PORT h) = port && d.fld (F.HED_CFG.PARTNER_HEAD h) = head)

/-- A record of a neighbour's head reaches the remote head bound to it. -/
def Dev.remoteRecord (d : Dev) (h : Nat) (r : HeadRec) : Dev :=
  if r.ev = .headState then
    if r.faulted then (if d.headServes h then d.headFault h .remoteHeadLost else d)
    else
      let d := d.clear .remoteHeadLost (.head h)
      if d.pattern h = 7 && !d.headBad h then d.headEnter h false else d
  else if !d.headServes h then d
  else if r.ev = .gambit then
    let d := d.headCancel h 3
    match d.headPub h r with
    | (d, true) =>
      let d := (d.patternTo h 1).setFld (F.HED_STATE.GAMBIT_ID h) r.gid
      let d := (d.setFld (F.HED_STATE.GAMBIT_OPEN h) 1).setFld (F.HED_STATE.CONFIRMED h) 0
      (d.modHead h (fun s => { s with gDir := r.dir, gAt := d.now })).secGambit h r.dir
    | (d, false) => d
  else if r.ev = .gambitConfirm then
    match d.headPub h r with
    | (d, true) => if d.on (F.HED_STATE.GAMBIT_OPEN h) then d.setFld (F.HED_STATE.CONFIRMED h) 1 else d
    | (d, false) => d
  else if r.ev = .gambitCancel then
    if d.on (F.HED_STATE.GAMBIT_OPEN h) then (d.patternTo h 0).headCancel h r.reason r.at_ else d
  else
    let open_ := d.on (F.HED_STATE.GAMBIT_OPEN h)
    let d := d.headWheel h r
    if d.headServes h && open_ then d.patternTo h 0 else d

/-- The session on a port is lost: its remote heads leave service (R241). -/
def Dev.remoteLost (d : Dev) (port : Nat) : Dev :=
  forL (d.headList.filter (fun h => remote h && d.fld (F.HED_CFG.PORT h) = port)) (fun h d =>
    if d.headServes h then d.headFault h .remoteHeadLost else d) d

/-! ### Evaluation, configuration, commands -/

/-- Level rules of an enabled slot: causes of banks, channels and supplies, an Endgame that ended, HEAD_RECORD_OVERRUN going. -/
def Dev.headEval (d : Dev) (h : Nat) : Dev :=
  let d := if d.has .headRecordOverrun (.head h) && d.headQueue h < 64 then d.clear .headRecordOverrun (.head h) else d
  let d := if d.headQueue h = 0 then d.setFld (F.HED_STATE.QUEUE h) 0 else d
  let expired := d.has .endgameExpired (.head h)
  let bad := d.headBad h
  let d := if bad then d.headEndgameOver h else d
  let d := if bad || expired then d.headLeave h expired else d
  let d := if remote h then d else d.headMending h
  d.setBit (F.HED_STATE.SINGLE h) (d.headServes h && (d.singleFailed h).isSome)

/-- Evaluate the enabled slots, in index order. -/
def Dev.headEvalAll (d : Dev) : Dev := forL d.headList (fun h d => d.headEval h) d

/-- The head passes the configuration check of R253. -/
def Dev.headConfigOk (d : Dev) (h : Nat) : Bool :=
  if remote h then
    let r := d.fld (F.NET_CFG.ROLE (d.fld (F.HED_CFG.PORT h)))
    r = 1 || r = 2
  else
    let a := d.headChan h 0
    let b := d.headChan h 1
    let shared (c : Nat) : Bool := d.headList.any (fun g => g ≠ h && !remote g && (d.headChan g 0 = c || d.headChan g 1 = c))
    a ≠ b && d.fld (F.HAZ_CH_CFG.MODE a) ≠ 0 && d.fld (F.HAZ_CH_CFG.MODE b) ≠ 0 && !shared a && !shared b
      && d.damp h 0 ≠ d.rel h 0 && d.damp h 1 ≠ d.rel h 1

/-- The engine state a slot starts with: STARTING for a local head, out of service for a remote one (R251, R252); a disabled slot
stays as it is. Its pattern state, its systems and the causes of Table HED-7 are cleared; the causes of other chapters, the previous
wheel, lifetime counters and gambit IDs are kept (R543). -/
def Dev.headFresh (d : Dev) (h : Nat) : Dev :=
  let gid := d.fld (F.HED_STATE.GAMBIT_ID h)
  let old := d.pattern h
  let s := d.head h
  let d := d.setHead h { lastWheel := s.lastWheel, wheelAt := s.wheelAt, queueAt := s.queueAt }
  let d := { d with causes := d.causes.filter (fun c => !(c.src = Src.head h && (faultRow c.ev < 10 || c.ev = Ev.endgameExpired))) }
  let d := (d.setReg .hed (F.HED_STATE.PATTERN h).off 0).setFld (F.HED_STATE.GAMBIT_ID h) gid
  d.setFld (F.HED_STATE.PATTERN h) (if d.headEnabled h && !remote h then 6 else if d.headEnabled h then 7 else old)

/-- Judge an enabled slot: HEAD_CONFIG holds it out of service, a pass leaves the hold (R253, R538). -/
def Dev.headJudge (d : Dev) (h : Nat) : Dev :=
  if !d.headEnabled h then d.clear .headConfig (.head h)
  else if d.headConfigOk h then
    if d.has .headConfig (.head h) then (d.clear .headConfig (.head h)).headFresh h else d
  else d.headFault h .headConfig

/-- A configuration write to an enabled slot, or the write that disables it (R543): the head leaves service, its states, runs
and causes of Table HED-7 are cleared, and it is judged and restarted. `was` is ENABLE before the write. -/
def Dev.headRestart (d : Dev) (h : Nat) (was : Bool) : Dev :=
  let d := if was then d.headCancel h 5 else d
  let serving : Bool := was && d.pattern h < 6
  let d := if was then d.setFld (F.HED_STATE.PATTERN h) 7 else d
  let d := if serving then (d.headPub h { ev := .headState, faulted := true }).1 else d
  let d := if was then d.secHeadLost h false else d
  let d := (d.headFresh h).headJudge h
  -- every enabled head that names a shared channel is held (R253)
  if remote h then d
  else forL (d.headList.filter (fun g => g ≠ h && !remote g)) (fun g d =>
    if [d.headChan h 0, d.headChan h 1].any (fun c => d.headChan g 0 = c || d.headChan g 1 = c) && d.headEnabled h then d.headFault g .headConfig
    else d) d

/-- New thresholds of a channel's systems apply from the next record: a run in progress restarts there (R229, R543). -/
def Dev.headRethreshold (d : Dev) (h x : Nat) : Dev := d.modSys h x (fun y => { y with run := none })

/-- The enabled local head and system a channel serves. -/
def Dev.sysOfChan (d : Dev) (ch : Nat) : Option (Nat × Nat) :=
  (d.headList.filter (fun h => !remote h)).findSome? (fun h =>
    if d.headChan h 0 = ch then some (h, 0) else if d.headChan h 1 = ch then some (h, 1) else none)

/-- SEN_THRESHOLD's refusal detail (Table HED-1), detail 5 first, or 0. -/
def Dev.thresholdRefusal (d : Dev) (ch : Nat) (damp rel lo hi : Int) : Nat := match d.sysOfChan ch with
  | none => 5
  | some (h, _) =>
    let open_ := d.fld (F.HED_OPEN.OPEN_CODE h)
    if damp = rel then 1
    else if hi < lo then 2
    else if (if rel < damp then !(hi ≤ rel) else !(rel ≤ lo)) then 3
    else if damp.natAbs < open_ || rel.natAbs < open_ then 4
    else 0

/-- The thresholds and idle band of a channel's system take new values. -/
def Dev.setThresholds (d : Dev) (h x : Nat) (damp rel lo hi : Int) : Dev :=
  let d := if x = 0 then
      ((d.setSFld (F.HED_THR_DAMP.DAMP_A h) damp).setSFld (F.HED_THR_REL.REL_A h) rel |>.setSFld (F.HED_BAND_A.LO h) lo).setSFld (F.HED_BAND_A.HI h) hi
    else
      ((d.setSFld (F.HED_THR_DAMP.DAMP_B h) damp).setSFld (F.HED_THR_REL.REL_B h) rel |>.setSFld (F.HED_BAND_B.LO h) lo).setSFld (F.HED_BAND_B.HI h) hi
  d.headRethreshold h x

/-- An accepted ENDGAME_ACK that ends HEAD_SINGLE: the head counts on both systems with pattern IDLE (R540). -/
def Dev.headSingleEnd (d : Dev) (h : Nat) : Dev :=
  let d := { d with causes := d.causes.filter (fun c => !(c.src = Src.head h && c.cls = 2)) }
  let d := (d.setFld (F.HED_STATE.SINGLE h) 0).modHead h (fun s => { s with train := none })
  (if d.headServes h then d.patternTo h 0 else d).showSys h 0 |>.showSys h 1

end Sys2Proof.Machine
end

