-- ==== Sys2Proof/Machine/Haz.lean ====
section
/-! DEFINITION. Machine/Haz.lean: the wheel-sensor front end: sample codes, frequency words, over-range recovery, blanking, the
bank clamp, current limit, self-tests and auxiliary channels (chapter 08). -/

namespace Sys2Proof.Machine

def Dev.chan (d : Dev) (c : Nat) : ChanSt := tabGet {} d.chans c
def Dev.modChan (d : Dev) (c : Nat) (f : ChanSt → ChanSt) : Dev := { d with chans := tabMod {} d.chans c f }
def Dev.bank (d : Dev) (b : Nat) : BankSt := tabGet {} d.banks b
def Dev.modBank (d : Dev) (b : Nat) (f : BankSt → BankSt) : Dev := { d with banks := tabMod {} d.banks b f }
def Dev.auxOf (d : Dev) (a : Nat) : AuxSt := tabGet {} d.auxs a
def Dev.modAux (d : Dev) (a : Nat) (f : AuxSt → AuxSt) : Dev := { d with auxs := tabMod {} d.auxs a f }

/-- Moments finer than a tick: a stamp and the nanoseconds that follow it. -/
def Dev.moment (d : Dev) : Stamp × Nat := (d.now, d.fine)

/-- The moment has been reached. -/
def Dev.past (d : Dev) (x : Stamp × Nat) : Bool := d.now.later x.1 || (d.now = x.1 && x.2 ≤ d.fine)

/-- The moment `n` nanoseconds from now. -/
def Dev.after (d : Dev) (n : Nat) : Stamp × Nat := (d.now.plus ((d.fine + n) / 1000), (d.fine + n) % 1000)

/-- The mode in force (R193). -/
def Dev.modeNow (d : Dev) (c : Nat) : Nat := d.fld (F.HAZ_CH_STAT.MODE_NOW c)

/-! ### Codes -/

/-- The quotient rounded to the nearest integer, ties away from zero (R194); `q` is positive. -/
def roundDiv (n : Int) (q : Nat) : Int := if 0 ≤ n then (2 * n + q) / (2 * q) else -((2 * (-n) + q) / (2 * q))

/-- The code of a mean differential voltage in nanovolts, and whether it is over-range (Table HAZ-2). -/
def sampleCode (nv : Int) : Int × Bool :=
  let r := roundDiv nv 20000
  if 32766 < r then (32767, true) else if r < -32766 then (-32768, true) else (r, false)

/-- The code of `n` periods over `t` units of 1.5625 ns against F_REF (Table HAZ-4). -/
def freqCode (fref n t : Nat) : Int × Bool :=
  let dev : Int := (n * 640000000 : Nat) - (fref * t : Nat)
  if (65532 * t : Nat) < dev then (32767, true) else if dev < -((65532 * t : Nat) : Int) then (-32768, true)
  else (roundDiv dev (2 * t), false)

/-! ### Blanking of banks (R200 to R203) -/

/-- A source of Table HAZ-5 is active on the bank. -/
def Dev.bankSource (d : Dev) (b : Nat) : Bool :=
  let m := d.fld (F.HAZ_BANK_BLANK.PIN_MASK b)
  let pol := d.fld (F.HAZ_BANK_BLANK.PIN_POL b)
  (List.range 4).any (fun p => m.testBit p && d.pins.testBit p = pol.testBit p)
    || (d.on (F.HAZ_BANK_BLANK.PG_EN b) && (0 < (d.bank b).pg || (match (d.bank b).tail with | some x => !d.past x | none => false)))
    || (d.bank b).cmdEnd.isSome

/-- The stamp at or after this moment. -/
def Dev.nowUp (d : Dev) : Stamp := if d.fine = 0 then d.now else d.now + 1

/-- The blank in progress ends. -/
def Dev.bankRelease (d : Dev) (b : Nat) : Dev := match (d.bank b).since with
  | some s =>
    let dur := min 16777215 (d.now.since s)
    let d := d.setFld (F.HAZ_BANK_BLANK_MAX.MAX_US b) (max (d.fld (F.HAZ_BANK_BLANK_MAX.MAX_US b)) dur)
    (d.setFld (F.HAZ_BANK_STAT.BLANKED b) 0).modBank b (fun k => { k with since := none, lastEnd := some d.nowUp })
  | none => d

/-- The bank follows its sources: it is gated, released, or held without gating. -/
def Dev.bankEval (d : Dev) (b : Nat) : Dev :=
  let d := d.setBit (F.HAZ_BANK_STAT.CMD_BLANK b) (d.bank b).cmdEnd.isSome
  let on := d.bankSource b
  if d.on (F.HAZ_BANK_STAT.HELD b) then
    d.modBank b (fun k => { k with quiet := if on then none else match k.quiet with | some t => some t | none => some d.now })
  else if on then
    if (d.bank b).since.isSome then d
    else ((d.setFld (F.HAZ_BANK_STAT.BLANKED b) 1).inc (F.HAZ_BANK_CNT.BLANKS b)).modBank b (fun k => { k with since := some d.now })
  else d.bankRelease b

/-- A BLANK_p pin has held a level for `held` nanoseconds: the glitch filter passes it after 50 ns (R200). -/
def Dev.blankPin (d : Dev) (p : Nat) (level : Bool) (held : Nat) : Dev :=
  if held < 50 then d else forN 8 (fun b d => d.bankEval b) { d with pins := setMask d.pins p level }

/-- The blank of a bank around an edge of its generator begins, or ends (Table HAZ-5). -/
def Dev.bankPg (d : Dev) (b : Nat) (begins : Bool) : Dev :=
  (d.modBank b (fun k => { k with pg := if begins then k.pg + 1 else k.pg - 1 })).bankEval b

/-- A command blank ends when its duration has passed (R202). -/
def Dev.blankCommandEnd (d : Dev) (b : Nat) : Dev := match (d.bank b).cmdEnd with
  | some e => if d.now.reached e then (d.modBank b (fun k => { k with cmdEnd := none })).bankEval b else d
  | none => d

/-- A bank blanked for LIMIT_US without a break is released and held (R203). -/
def Dev.blankOverlong (d : Dev) (b : Nat) : Dev := match (d.bank b).since with
  | some s =>
    if d.fld (F.HAZ_BANK_BLANK_T.LIMIT_US b) ≤ d.now.since s then
      let d := (d.bankRelease b).setFld (F.HAZ_BANK_STAT.HELD b) 1
      let d := (d.setFld (F.HAZ_BANK_FLAG.OVERLONG b) 1).bankEval b
      d.fault .blankOverlong (.bank b)
    else d
  | none => d

/-- The hold ends once every source has been inactive for 1 ms (R203). -/
def Dev.bankHoldEnd (d : Dev) (b : Nat) : Dev :=
  if d.on (F.HAZ_BANK_STAT.HELD b) && heldFor d.now 1000 (d.bank b).quiet then
    let d := (d.setFld (F.HAZ_BANK_STAT.HELD b) 0).modBank b (fun k => { k with quiet := none })
    (d.clear .blankOverlong (.bank b)).bankEval b
  else d

/-- BLANK (R202): BAD_PARAM for a mask of 0 or a duration outside 10 to 10,000 µs. -/
def Dev.blankCommand (d : Dev) (mask dur : Nat) : Dev × Done :=
  let banks := bitsOf 8 mask
  if mask = 0 ∨ dur < 10 ∨ 10000 < dur then (d, .badParam)
  else if banks.any (fun b => !d.part.hasBank b) then (d, .absent)
  else if banks.any (fun b => d.fld (F.HAZ_BANK_BLANK_T.LIMIT_US b) < dur) then (d, .refused 1)
  else if banks.any (fun b => d.on (F.HAZ_BANK_STAT.HELD b)) then (d, .refused 2)
  else
    let e := d.now.plus dur
    (forL banks (fun b d => (d.modBank b (fun k => { k with cmdEnd := match k.cmdEnd with
      | some x => if x.later e then some x else some e
      | none => some e })).bankEval b) d, .ok)

/-! ### Apertures -/

/-- The stamp at which the aperture (or gate, `w` ticks long) that ends at `t` begins; the one that ends at 0 lasts 6 µs (R539). -/
def apertureStart (w : Nat) (t : Stamp) : Stamp := if t = 0 then 0 - 6 else t - BitVec.ofNat 48 w

/-- A blank of the channel's bank overlaps the aperture from `a` to `t` (R201). -/
def Dev.bankOverlaps (d : Dev) (b : Nat) (a t : Stamp) : Bool :=
  (match (d.bank b).since with | some s => t.later s | none => false)
    || (match (d.bank b).lastEnd with | some e => e.later a | none => false)

/-- A clamp of another channel of the bank disturbs the aperture (R206). -/
def Dev.disturbed (d : Dev) (c : Nat) (a t : Stamp) : Bool :=
  (List.range 8).any (fun i =>
    let o := c / 8 * 8 + i
    o ≠ c && (match (d.chan o).clampFrom with
      | some f => t.later f && ((d.chan o).beyond || (d.chan o).clampTo.later a)
      | none => false))

/-- The self-test of a channel in aperture number k: none, the even pass (false) or the odd pass (true) (R211). -/
def Dev.selftestPass (d : Dev) (c k : Nat) : Option Bool :=
  let p := d.fld (F.HAZ_BANK_CFG.PERIOD_MS (c / 8)) * 100
  if d.on (F.HAZ_BANK_CFG.SELFTEST_EN (c / 8)) && d.modeNow c ≠ 0 && k % p = 10 * (c % 8) then some (k / p % 2 = 1) else none

/-- The number of the aperture that ends at a stamp, and of the aperture before it. -/
def apNum (t : Stamp) : Nat := t.toNat / 10
def apPrev (t : Stamp) : Nat := if t = 0 then (2 ^ 48 - 6) / 10 else t.toNat / 10 - 1

/-- The self-test tags the aperture, or the gate, that ends at `t` (R211). -/
def Dev.selftestTags (d : Dev) (c : Nat) (freq : Bool) (t : Stamp) : Bool :=
  if freq then (List.range 5).any (fun i => (d.selftestPass c (apNum t - i)).isSome)
  else (d.selftestPass c (apNum t)).isSome || (d.selftestPass c (apPrev t)).isSome

/-! ### Records (R194 to R199, R201, R204) -/

/-- The 32-bit record of Table HAZ-3. -/
def recordWord (mode slot : Nat) (r : ChanRec) : Word :=
  BitVec.ofNat 32 (unsgn 16 r.code + r.blanked.toNat * 2 ^ 16 + r.ovr.toNat * 2 ^ 17 + r.disturb.toNat * 2 ^ 18 + r.limit.toNat * 2 ^ 19
    + mode * 2 ^ 20 + slot % 256 * 2 ^ 24)

/-- A record goes to every STRM ring its source streams to (R196). -/
def Dev.stream (d : Dev) (rings : List Nat) (data : List Byte) : Dev :=
  { d with strmq := d.strmq ++ rings.map (fun n => ⟨n, d.now, data⟩) }

/-- The tags and counters of one record: `fresh` is what the aperture measured. Answers the record. -/
def Dev.chanRecord (d : Dev) (c : Nat) (freq : Bool) (fresh : Int × Bool) (mean : Int) (limit : Bool) : Dev × ChanRec :=
  let k := d.chan c
  let a := apertureStart (if freq then 50 else 10) d.now
  let blanked := d.bankOverlaps (c / 8) a d.now || 0 < k.settle || d.selftestTags c freq d.now || d.now = 0 || k.moved = some a
  let disturb := d.disturbed c a d.now
  let need := if freq then 3 else 12
  -- over-range and its recovery run (R204)
  let start := !blanked && fresh.2 && !k.ovr
  let run := if blanked then k.run else if fresh.2 then 0 else k.run + 1
  let wide := if blanked then k.ovr else fresh.2 || (k.ovr && run < need)
  let tag := if blanked then k.codeOvr else wide
  let code := if blanked then k.code else fresh.1
  let d := d.modChan c (fun k => { k with
    settle := k.settle - 1, ovr := wide, run := if wide then run else 0, code := code, codeOvr := tag, seen := k.seen || !blanked
    moved := if k.moved = some a then none else k.moved })
  let r : ChanRec := ⟨c, code, if freq then mean else code, tag, blanked, disturb, limit⟩
  -- the mode in force during the aperture: a record that ends at the boundary of a move shows the mode before it
  let mode := if k.moved = some d.now then 4 - d.modeNow c else d.modeNow c
  let w := recordWord mode (d.now.toNat / (if freq then 50 else 10)) r
  let d := d.setReg .haz (F.HAZ_CH_SAMPLE.RECORD c).off w
  let d := (d.setBit (F.HAZ_CH_STAT.OVR c) tag).setBit (F.HAZ_CH_STAT.LIMIT c) limit
  let d := if !blanked && fresh.2 then d.setFld (F.HAZ_CH_FLAG.OVR_SEEN c) 1 else d
  let d := if start then d.inc (F.HAZ_CH_CNT.OVR_EPISODES c) else d
  let d := d.incPair (F.HAZ_CH_REC_LO.V c) (F.HAZ_CH_REC_HI.V c)
  let d := if blanked then d.inc (F.HAZ_CH_BLANKED.BLANKED c)
    else if k.seen then (d.setSFld (F.HAZ_CH_PEAK.MIN c) (min (d.sfld (F.HAZ_CH_PEAK.MIN c)) code)).setSFld (F.HAZ_CH_PEAK.MAX c)
      (max (d.sfld (F.HAZ_CH_PEAK.MAX c)) code)
    else (d.setSFld (F.HAZ_CH_PEAK.MIN c) code).setSFld (F.HAZ_CH_PEAK.MAX c) code
  let d := { d.stream k.streams (leBytes 4 w.toNat) with
    recs := (if d.recsAt = d.now then d.recs else []) ++ [(c, w)], recsAt := d.now }
  (d, r)

/-- One measured aperture: the channel, the mean differential voltage in nanovolts, the switch in current limit. -/
def Dev.chanSample (d : Dev) (c : Nat) (nv : Int) (limit : Bool) : Dev × List ChanRec :=
  if d.modeNow c = 1 ∨ d.modeNow c = 3 then
    let (d, r) := d.chanRecord c false (sampleCode nv) 0 limit
    (d, [r])
  else (d, [])

/-- The length of the gate that ends now in units of 1.5625 ns: 50 µs, or the 6 µs of the one that ends at 0 (R539). -/
def Dev.gateUnits (d : Dev) : Nat := if d.now = 0 then 3840 else 32000

/-- One measured gate: `n` rising crossings between its ends, the last of them `before` units of 1.5625 ns before its end, whether a
further one falls exactly on its end, the mean shunt voltage (R197, R198). A crossing on a gate's end is the next gate's e_first and not
this one's e_last. Without an earlier crossing there is no period to count yet: the rule states no code there, and the code is a free
value (assumption log 15). -/
def Dev.chanWord (d : Dev) (c n before : Nat) (onEnd : Bool) (nv : Int) (limit : Bool) : Dev × List ChanRec :=
  if d.modeNow c = 2 then
    let k := d.chan c
    let gate := d.gateUnits
    let age := match k.cross with | some x => some (x + gate) | none => none
    let lost : Bool := n = 0
    let (np, tp) := match age with | some x => if lost then (0, 0) else (n, x - before) | none => (0, 0)
    let openCode : Bool := !lost && tp = 0
    let free := (Config.freeCode d.freeCtr).toInt
    let fresh : Int × Bool :=
      if lost then (-32768, true) else if openCode then (free, free = 32767 ∨ free = -32768)
      else freqCode (d.fld (F.HAZ_CH_FREF.F_REF_HZ c)) np tp
    let d := if openCode then { d with freeCtr := d.freeCtr + 1 } else d
    let mean := (sampleCode nv).1
    let d := d.modChan c (fun k => { k with cross := if onEnd then some 0 else if lost then age else some before })
    let d := (d.setFld (F.HAZ_CH_FRAW.N c) np).setFld (F.HAZ_CH_FRAW.T c) tp
    let d := (d.setSFld (F.HAZ_CH_MEAN.CODE c) mean).setBit (F.HAZ_CH_STAT.CARRIER_LOST c) lost
    let d := if lost then d.setFld (F.HAZ_CH_FLAG.CARRIER_LOST c) 1 else d
    let (d, r) := d.chanRecord c true fresh mean limit
    (d, [r])
  else (d, [])

/-! ### Switches, moves and configuration (R195, R214, R218, R219) -/

/-- The switch of a channel closes: its first records are tagged (R219). -/
def Dev.switchClose (d : Dev) (c : Nat) : Dev :=
  let d := (d.setFld (F.HAZ_CH_STAT.SWITCH_ON c) 1).setFld (F.HAZ_CH_STAT.OPENED c) 0
  d.modChan c (fun k => { k with settle := if d.modeNow c = 2 then 2 else 5, openedAt := none })

/-- A channel starts in a mode with its stored configuration. -/
def Dev.chanStart (d : Dev) (c mode : Nat) : Dev :=
  let k := d.chan c
  let d := { d with chans := tabPut {} d.chans c { streams := k.streams, beyond := k.beyond, clampFrom := k.clampFrom, clampTo := k.clampTo, seen := k.seen, need := k.need } }
  let d := d.setReg .haz (F.HAZ_CH_STAT.MODE_NOW c).off 0
  let d := (d.setFld (F.HAZ_CH_STAT.MODE_NOW c) mode).setFld (F.HAZ_CH_MEAN.CODE c) 0
  if mode = 1 ∨ mode = 2 then d.switchClose c else d

/-- A shared channel moves between CURRENT and LISTEN at boundary `b` (R214). -/
def Dev.chanMoved (d : Dev) (c mode : Nat) (b : Stamp) : Dev :=
  let d := (d.setFld (F.HAZ_CH_STAT.MODE_NOW c) mode).setFld (F.HAZ_CH_STAT.SWITCH_ON c) (if mode = 1 then 1 else 0)
  (d.setFld (F.HAZ_CH_STAT.OPENED c) 0).modChan c (fun k => { k with moved := some b, moveAt := none, openedAt := none })

/-- The twin engine names a boundary at which a shared channel moves: the change takes effect there (R214). -/
def Dev.chanMove (d : Dev) (c mode : Nat) (b : Stamp) : Dev :=
  if d.on (F.HAZ_CH_CFG.TWIN_SHARED c) && (d.modeNow c = 1 || d.modeNow c = 3) then
    if d.modeNow c = mode then (if (d.chan c).moveAt.isSome then d.modChan c (fun k => { k with moveAt := none }) else d)
    else if d.now.reached b then d.chanMoved c mode b
    else d.modChan c (fun k => { k with moveAt := some (b, mode) })
  else d

/-- Moves whose boundary has been reached take effect. -/
def Dev.movesDue (d : Dev) : Dev :=
  forL d.chans (fun e d => match (d.chan e.1).moveAt with
    | some (b, mode) => if d.now.reached b then d.chanMoved e.1 mode b else d
    | none => d) d

/-- A switch in current limit for 200 µs opens, and the head that uses the channel is faulted (R195). -/
def Dev.limitTrip (d : Dev) (c : Nat) : Dev :=
  if d.on (F.HAZ_CH_STAT.SWITCH_ON c) then
    let d := (d.setFld (F.HAZ_CH_STAT.SWITCH_ON c) 0).setFld (F.HAZ_CH_STAT.OPENED c) 1
    let d := (d.setFld (F.HAZ_CH_STAT.LIMIT c) 0).inc (F.HAZ_CH_CNT.LIMIT_TRIPS c)
    let d := (d.setFld (F.HAZ_CH_FLAG.LIMIT_TRIP c) 1).modChan c (fun k => { k with openedAt := some d.now })
    if d.evaluating then
      match d.sysOfChan c with
      | some (h, x) => d.sysFault h x .senSupplyShort
      | none => d
    else d
  else d

/-- The switch closes again 1 s after it opened (R195). -/
def Dev.switchReclose (d : Dev) (c : Nat) : Dev :=
  if d.on (F.HAZ_CH_STAT.OPENED c) && heldFor d.now 1000000 (d.chan c).openedAt then d.switchClose c else d

/-! ### Clamp (R206, R216) -/

/-- A channel goes beyond ±1.5 V. -/
def Dev.clampStart (d : Dev) (c : Nat) : Dev :=
  let b := c / 8
  if (d.chan c).beyond then d
  else
    let acting := d.on (F.HAZ_BANK_STAT.CLAMP b)
    let d := d.modChan c (fun k => { k with beyond := true, clampFrom := if k.clampFrom.isSome && k.clampTo.later d.now then k.clampFrom else some d.now })
    if acting then d
    else
      let d := ((d.setFld (F.HAZ_BANK_STAT.CLAMP b) 1).setFld (F.HAZ_BANK_FLAG.CLAMP_SEEN b) 1).inc (F.HAZ_BANK_CNT.CLAMPS b)
      d.note .bankClamp (.chan c)

/-- A channel comes back within ±1.5 V: its neighbours' disturbance ends 25 µs later. -/
def Dev.clampEnd (d : Dev) (c : Nat) : Dev :=
  let b := c / 8
  if (d.chan c).beyond then
    let d := d.modChan c (fun k => { k with beyond := false, clampTo := d.now.plus 25 })
    d.setBit (F.HAZ_BANK_STAT.CLAMP b) ((List.range 8).any (fun i => (d.chan (8 * b + i)).beyond))
  else d

/-! ### Self-tests (R211, R212) -/

/-- The expected code and tolerance of a test (Table HAZ-9), doubled so that they are whole. -/
def selftestGood (mode fref : Nat) (odd : Bool) (code : Int) : Bool :=
  if !odd then code.natAbs ≤ 50
  else if mode = 2 then (2 * code - (50000 - (fref : Int))).natAbs ≤ 4
  else (code - 20000).natAbs ≤ 100

/-- A scheduled self-test measured a code. -/
def Dev.selftest (d : Dev) (c : Nat) (code : Int) : Dev := match d.selftestPass c (apNum d.now) with
  | none => d
  | some odd =>
    let d := d.setSFld (if odd then F.HAZ_CH_ST_RESULT.REF_CODE c else F.HAZ_CH_ST_RESULT.ZERO_CODE c) code
    if selftestGood (d.modeNow c) (d.fld (F.HAZ_CH_FREF.F_REF_HZ c)) odd code then
      let d := d.modChan c (fun k => { k with need := setMask k.need odd.toNat false })
      if (d.chan c).need = 0 then d.clear .hazSelftestFail (.chan c) else d
    else
      let d := (d.setFld (F.HAZ_CH_FLAG.SELFTEST_FAIL c) 1).modChan c (fun k => { k with need := 3 })
      d.fault .hazSelftestFail (.chan c) 0 0 ([BitVec.ofNat 8 odd.toNat, 0] ++ leBytes 2 (unsgn 16 code))

/-! ### Auxiliary channels (R207 to R209, R217, R220) -/

def Dev.auxRunning (d : Dev) (a : Nat) : Bool := d.part.hasAux a && d.fld (F.HAZ_AUX_CFG.WIRES a) ≠ 0

/-- The sum of the last 8 reference measurements, in nanovolts. -/
def AuxSt.refSum (x : AuxSt) : Int := x.refs.foldl (· + ·) 0

/-- The reference condition of R209: V_ref below 25 mV, or a source beyond compliance in the slot. -/
def AuxSt.refBad (x : AuxSt) : Bool := x.refOver || (x.refs.length = 8 && x.refSum < 8 * 25000000)

/-- An F0 condition of an auxiliary channel begins or ends: it is raised once while it lasts. -/
def Dev.auxCond (d : Dev) (a : Nat) (ev : Ev) (status flag : Fld) (present : Bool) : Dev :=
  let d := d.setBit status present
  if present then
    if d.has ev (.aux a) then d else (d.setFld flag 1).fault ev (.aux a)
  else d.clear ev (.aux a)

/-- A reference slot ends: the measurement in nanovolts, a source beyond compliance. -/
def Dev.refSlot (d : Dev) (a : Nat) (nv : Int) (beyond : Bool) : Dev :=
  if d.auxRunning a then
    let d := d.modAux a (fun x => { x with refs := (nv :: x.refs).take 8, refOver := beyond })
    let x := d.auxOf a
    let d := if x.refs.length = 8 then d.setFld (F.HAZ_AUX_VREF.VREF_UV a) ((clampI 0 16777215 (x.refSum / 8000)).toNat) else d
    d.auxCond a .auxRefFault (F.HAZ_AUX_STAT.REF_FAULT a) (F.HAZ_AUX_FLAG.REF_FAULT a) x.refBad
  else d

/-- V ÷ V_ref × 2^22, where V = num ÷ den nanovolts and V_ref = sum ÷ 8: the code, and whether it left the code range. -/
def ratioCode (num : Int) (den : Nat) (sum : Int) (free : BitVec 24) : Int × Bool :=
  if sum = 0 then (if num = 0 then (sgn 24 free.toNat, false) else if 0 < num then (8388607, true) else (-8388608, true))
  else
    let r := roundDiv (num * 33554432 * (if sum < 0 then -1 else 1)) (den * sum.natAbs)
    if 8388607 < r then (8388607, true) else if r < -8388608 then (-8388608, true) else (r, false)

/-- A conversion, or a pair of them, is complete: V_even and V_odd in nanovolts, a source beyond compliance (R208, R209). Before the 8th
reference measurement it gives no result (R220). -/
def Dev.auxResult (d : Dev) (a : Nat) (even odd : Int) (beyond : Bool) : Dev :=
  let x := d.auxOf a
  let d := if d.auxRunning a then d.auxCond a .auxOpen (F.HAZ_AUX_STAT.OPEN a) (F.HAZ_AUX_FLAG.OPEN a) beyond else d
  if d.auxRunning a && x.refs.length = 8 then
    let swap := d.on (F.HAZ_AUX_CFG.SWAP a)
    let num := if !swap then 2 * even else if d.fld (F.HAZ_AUX_CFG.WIRES a) = 3 then even - odd else even + odd
    let free := Config.freeRatio d.freeCtr
    let d := if x.refSum = 0 then { d with freeCtr := d.freeCtr + 1 } else d
    let (code, ovr) := ratioCode num 2 x.refSum free
    let d := if ovr then d.setFld (F.HAZ_AUX_FLAG.OVR a) 1 else d
    let d := d.incPair (F.HAZ_AUX_CNT_LO.V a) (F.HAZ_AUX_CNT_HI.V a)
    let seq := d.fld (F.HAZ_AUX_CNT_LO.V a) % 16
    let w := unsgn 24 code + ovr.toNat * 2 ^ 24 + beyond.toNat * 2 ^ 25 + x.refBad.toNat * 2 ^ 26 + swap.toNat * 2 ^ 27 + seq * 2 ^ 28
    let d := d.setReg .haz (F.HAZ_AUX_RESULT.RECORD a).off (BitVec.ofNat 32 w)
    let d := (d.setFld (F.HAZ_AUX_TIME_LO.V a) (d.now.toNat % 2 ^ 32)).setFld (F.HAZ_AUX_TIME_HI.V a) (d.now.toNat / 2 ^ 32)
    let d := d.setSFld (F.HAZ_AUX_HALF_E.V a) (ratioCode even 1 x.refSum free).1
    let d := d.setSFld (F.HAZ_AUX_HALF_O.V a) (if swap then (ratioCode odd 1 x.refSum free).1 else 0)
    (d.setFld (F.HAZ_AUX_STAT.RUNNING a) 1).stream x.streams (leBytes 4 w)
  else d

/-- An auxiliary channel starts again with its stored configuration (R220). -/
def Dev.auxStart (d : Dev) (a : Nat) : Dev :=
  let x := d.auxOf a
  let d := (d.clear .auxOpen (.aux a)).clear .auxRefFault (.aux a)
  { d with auxs := tabPut {} d.auxs a { streams := x.streams } }.setReg .haz (F.HAZ_AUX_STAT.RUNNING a).off 0

/-- Banks follow their sources at every evaluation. -/
def Dev.bankEvalAll (d : Dev) : Dev := forN 8 (fun b d => d.bankEval b) d

end Sys2Proof.Machine
end

