-- ==== Sys2Proof/Machine/Win.lean ====
section
/-! DEFINITION. Machine/Win.lean: window monitors: blanking, qualification, latches, period verdicts, capture, trip contributions,
self-tests, converter readback and faults (chapter 11). -/

namespace Sys2Proof.Machine

def Dev.mon (d : Dev) (m : Nat) : MonSt := tabGet {} d.mons m
def Dev.modMon (d : Dev) (m : Nat) (f : MonSt → MonSt) : Dev := { d with mons := tabMod {} d.mons m f }
def Dev.gen (d : Dev) (k : Nat) : GenSt := tabGet {} d.gens k
def Dev.modGen (d : Dev) (k : Nat) (f : GenSt → GenSt) : Dev := { d with gens := tabMod {} d.gens k f }

/-- Nanoseconds since a moment. -/
def Dev.nsSince (d : Dev) (x : Stamp × Nat) : Nat := d.now.since x.1 * 1000 + d.fine - x.2

/-- What happens at an earlier moment than now. -/
def Dev.atMoment (d : Dev) (x : Stamp × Nat) (f : Dev → Dev) : Dev :=
  { f { d with now := x.1, fine := x.2 } with now := d.now, fine := d.fine }

/-! ### Links and levels -/

def Dev.winOn (d : Dev) (m : Nat) : Bool := d.on (F.WIN_CFG.ENABLE m)

/-- The linked generator of a monitor (Table WIN-1, R302). -/
def Dev.winLink (d : Dev) (m : Nat) : Option Nat :=
  if m < 48 then some m
  else if m < 112 then some (m - 48)
  else if d.on (F.WIN_BLANK.LINK_EN m) && d.part.hasPg (d.fld (F.WIN_BLANK.PG_SEL m)) then some (d.fld (F.WIN_BLANK.PG_SEL m))
  else none

/-- The enabled monitors linked to a generator. -/
def Dev.linkedTo (d : Dev) (k : Nat) : List Nat :=
  ((if k < 48 then [k, k + 48] else [k + 48]) ++ (List.range 16).map (112 + ·)).filter (fun m => d.winOn m && d.winLink m = some k)

/-- H in millivolts (R282). -/
def Dev.hyst (d : Dev) (m : Nat) : Nat := match d.fld (F.WIN_CFG.HYST m) with
  | 0 => 0 | 1 => 5 | 2 => 10 | _ => 20

/-- The faults of R300. -/
def Dev.winFaulted (d : Dev) (m : Nat) : Bool :=
  d.has .winSelftestFail (.wm m) || d.has .winDacFail (.wm m) || d.has .winConfig (.wm m)

/-- The monitor is blanked: a scheduled blank, the settling blank, a trip edge's or an inserted one (R283, R291, R294). -/
def Dev.winBlanked (d : Dev) (m : Nat) : Bool :=
  let s := d.mon m
  0 < s.cnt || s.settle.isSome || (match s.timed with | some x => !d.past x | none => false)

/-- The linked generator is in its ON phase. -/
def Dev.winOnPhase (d : Dev) (m : Nat) : Bool := match d.winLink m with
  | some k => (d.gen k).on_
  | none => false

/-- A qualified output (R284, R303). -/
def Dev.winQual (d : Dev) (m : Nat) (hi : Bool) : Bool :=
  let raw := if hi then d.on (F.WIN_STAT.HI m) else d.on (F.WIN_STAT.LO m)
  let q := d.fld (if hi then F.WIN_CFG.QUAL_HI m else F.WIN_CFG.QUAL_LO m)
  d.winOn m && raw && !d.winBlanked m && (q = 0 || (q = 1 && d.winOnPhase m) || (q = 2 && !d.winOnPhase m))

/-- The trip map of a monitor: its group and the two bits. -/
def Dev.tripMap (d : Dev) (m : Nat) : Nat × Bool × Bool :=
  (d.fld (F.WIN_TRIP_MAP.GROUP (m / 4) (m % 4)), d.on (F.WIN_TRIP_MAP.TRIP_HI (m / 4) (m % 4)), d.on (F.WIN_TRIP_MAP.TRIP_LO (m / 4) (m % 4)))

/-- The monitor's contribution to its group's trip line (R288). An entry with neither bit set maps its monitor to no group. In the
settling blank and in the blank of a trip edge the contribution holds (R291, Table WIN-4; assumption log 16). -/
def Dev.winContrib (d : Dev) (m : Nat) : Bool :=
  let (_, hi, lo) := d.tripMap m
  let s := d.mon m
  let held := s.settle.isSome || (s.hold && (match s.timed with | some x => !d.past x | none => false))
  if !(hi || lo) then false
  else if d.winFaulted m then true
  else if !d.winOn m then false
  else if held then s.contrib
  else (hi && d.winQual m true) || (lo && d.winQual m false)

/-! ### The period's record (R286, R297) -/

/-- What one segment of a phase adds to the record: bits 0 to 3 ANY HI, a sample without HI, ANY LO, a sample without LO of the ON
phase, 4 to 7 of the OFF phase, 8 and 9 a sample of each. -/
def segBits (onPh hi lo sampled : Bool) : Nat :=
  let base := if onPh then 0 else 4
  let b (c : Bool) (k : Nat) : Nat := if c then 2 ^ k else 0
  b hi base ||| b (sampled && !hi) (base + 1) ||| b lo (base + 2) ||| b (sampled && !lo) (base + 3) ||| b sampled (if onPh then 8 else 9)

/-- Close the segment that has run since the last change of the monitor's levels, blank or phase. What lies in the MIST cycle of 10 ns
in progress is kept apart: a boundary in that cycle gives it to the period that begins there (R297). -/
def Dev.winSegment (d : Dev) (m : Nat) : Dev :=
  if !d.winOn m then d
  else
    let s := d.mon m
    let len := d.nsSince s.seg
    let tail := d.fine % 10
    let gap := (10 - s.seg.2 % 10) % 10
    let seen (sampled : Bool) : Nat :=
      if d.winBlanked m then 0 else segBits (d.winOnPhase m) (d.on (F.WIN_STAT.HI m)) (d.on (F.WIN_STAT.LO m)) sampled
    let before := if len ≤ tail then 0 else seen (gap < len - tail)
    let now := if min len tail = 0 then 0 else seen (tail ≤ len)
    d.modMon m (fun s => { s with
      acc := if tail ≤ len then s.acc ||| s.late ||| before else s.acc
      late := if tail ≤ len then now else s.late ||| now
      seg := d.moment })

/-- The verdict of a record, with the readings of a faulted monitor (Table WIN-2, R300). -/
def verdictBits (acc : Nat) (faulted : Bool) : Nat :=
  let t (k : Nat) : Bool := acc.testBit k
  let b (c : Bool) (k : Nat) : Nat := if c then 2 ^ k else 0
  let on := t 8
  let off := t 9
  (if on then b (t 0) 0 ||| b (!t 1) 1 ||| b (t 2) 2 ||| b (!t 3) 3 else 2 ^ 8)
    ||| (if off then b (t 4) 4 ||| b (!t 5) 5 ||| b (t 6) 6 ||| b (!t 7) 7 else 2 ^ 9)
    ||| (if faulted then 2 ^ 0 ||| 2 ^ 3 else 0)

/-! ### Edges of qualified outputs: latches, capture, events -/

/-- At most once per 1 ms. -/
def Dev.rateOk (d : Dev) : Option (Stamp × Nat) → Bool
  | some x => 1000000 ≤ d.nsSince x
  | none => true

/-- Payload format W of Table EVT-3, with the capture stamp of an edge. -/
def payW (x : Stamp × Nat) (hi : Bool) (group : Nat) : List Byte :=
  leBytes 1 hi.toNat ++ leBytes 1 group ++ leBytes 1 (x.2 / 10) ++ leBytes 1 0 ++ leBytes 6 x.1.toNat

/-- A latch sets by an edge stamped `x`; WIN_LATCH when EVT_EN asks for it (R285, R290). -/
def Dev.winLatch (d : Dev) (m : Nat) (hi : Bool) (x : Stamp × Nat) : Dev :=
  let f := if hi then F.WIN_FLAG.LATCH_HI m else F.WIN_FLAG.LATCH_LO m
  if d.on f then d
  else
    let d := d.setFld f 1
    if d.on (F.WIN_CFG.EVT_EN m) then
      if d.rateOk (if hi then (d.mon m).evHi else (d.mon m).evLo) then
        let d := d.modMon m (fun s => if hi then { s with evHi := some d.moment } else { s with evLo := some d.moment })
        d.raise .winLatch (.wm m) (payW x hi (d.tripMap m).1)
      else d.inc (F.WIN_STAT.SUPPRESSED m)
    else d

/-- The capture unit takes an edge of a qualified output (R289). -/
def Dev.winCapture (d : Dev) (m : Nat) (hi active : Bool) : Dev :=
  let sel := d.on (if hi then F.WIN_CFG.CAP_HI m else F.WIN_CFG.CAP_LO m) && d.on (if active then F.WIN_CFG.CAP_ACT m else F.WIN_CFG.CAP_INACT m)
  let last := if hi then (d.mon m).capHi else (d.mon m).capLo
  let near := match last with | some x => d.nsSince x < 20 | none => false
  if !sel || near then d
  else
    let frac := d.fine / 10
    let d := d.modMon m (fun s => if hi then { s with capHi := some d.moment } else { s with capLo := some d.moment })
    let d := (d.setFld (F.WIN_CAP.FRAC m) frac).setFld (F.WIN_CAP.ST m) (d.now.toNat % 2 ^ 25)
    let d := (d.setBit (F.WIN_STAT.CAP_ACT_LAST m) active).setBit (F.WIN_STAT.CAP_HI_LAST m) hi
    d.stream (d.mon m).streams (leBytes 4 (d.now.toNat % 2 ^ 32)
      ++ leBytes 4 (d.now.toNat / 2 ^ 32 + frac * 2 ^ 16 + active.toNat * 2 ^ 23 + hi.toNat * 2 ^ 24 + m * 2 ^ 25))

/-- A qualified output that has been active for 5 ns sets its latch, at that moment (R285). -/
def Dev.winHeld (d : Dev) (m : Nat) (hi : Bool) : Dev :=
  match if hi then (d.mon m).actHi else (d.mon m).actLo with
  | some x =>
    let e : Stamp × Nat := (x.1.plus ((x.2 + 5) / 1000), (x.2 + 5) % 1000)
    if d.past e then d.atMoment e (fun d => d.winLatch m hi x) else d
  | none => d

/-- A qualified HI output of monitor `m` has become active: the generators in SYNC on it take a boundary (R310). -/
def Dev.winSync (d : Dev) (m : Nat) : Dev :=
  forL d.gens (fun e d =>
    if 112 ≤ m && e.2.started && (F.PGN_CFG.SYNC_EN e.1).of e.2.cfg = 1 && (F.PGN_CFG.SYNC_WM e.1).of e.2.cfg = m - 112 then
      d.modGen e.1 (fun g => { g with sync := some d.moment })
    else d) d

/-- One qualified output has followed what the monitor sees: its edges are captured, and the end of an activity of 5 ns or more sets its
latch. -/
def Dev.winEdge (d : Dev) (m : Nat) (hi : Bool) : Dev :=
  let q := d.winQual m hi
  let act := if hi then (d.mon m).actHi else (d.mon m).actLo
  if q = act.isSome then d
  else
    let d := if q then (if hi then d.winSync m else d) else d.winHeld m hi
    let x : Option (Stamp × Nat) := if q then some d.moment else none
    (d.modMon m (fun s => if hi then { s with actHi := x } else { s with actLo := x })).winCapture m hi q

/-- Both qualified outputs follow. -/
def Dev.winTrack (d : Dev) (m : Nat) : Dev := (d.winEdge m true).winEdge m false

/-- Apply a change to what a monitor sees: the segment before it closes, and the qualified outputs follow it. -/
def Dev.winMod (d : Dev) (m : Nat) (f : Dev → Dev) : Dev := if !d.winOn m then f d else (f (d.winSegment m)).winTrack m

/-- The input of a monitor in units of 1/16 mV. -/
def Dev.winLevel (d : Dev) (m : Nat) : Nat := tabGet 0 d.winIn m

/-- The comparators of an enabled monitor against its input, with hysteresis (R281, R282): a code is 25 units, and each comparator
compares against the level its converter produces (R295; assumption log 171). A disabled monitor's comparators are off (R303). -/
def Dev.winLevels (d : Dev) (m : Nat) : Dev :=
  let v : Int := d.winLevel m
  let h : Int := 16 * d.hyst m
  let u : Int := 25 * (d.fld (F.WIN_THR.UPPER m) + (d.mon m).offUp)
  let l : Int := 25 * (d.fld (F.WIN_THR.LOWER m) + (d.mon m).offLo)
  let hi : Bool := if d.on (F.WIN_STAT.HI m) then u - h ≤ v else u < v
  let lo : Bool := if d.on (F.WIN_STAT.LO m) then v ≤ l + h else v < l
  (d.setBit (F.WIN_STAT.HI m) (d.winOn m && hi)).setBit (F.WIN_STAT.LO m) (d.winOn m && lo)

/-- The comparators follow a change of their thresholds or hysteresis. -/
def Dev.winSense (d : Dev) (m : Nat) : Dev := d.winMod m (fun d => d.winLevels m)

/-- The input of a monitor changes (R282). -/
def Dev.winInput (d : Dev) (m v : Nat) : Dev := { d with winIn := tabPut 0 d.winIn m v }.winSense m

/-! ### Blanks -/

/-- A blank that begins now, and whether it lasts at least 1.1 µs (R292). -/
def MonSt.begin (s : MonSt) (fresh : Bool) (now : Stamp) (long : Bool) : MonSt :=
  if fresh then { s with blankAt := some now, blankLong := long } else s

/-- A scheduled blank of the monitor begins, or ends (R283). -/
def Dev.winBlank (d : Dev) (m : Nat) (begins long : Bool) : Dev :=
  d.winMod m (fun d =>
    let fresh := begins && !d.winBlanked m
    d.modMon m (fun s => { s.begin fresh d.now long with cnt := if begins then s.cnt + 1 else s.cnt - 1 }))

/-- A timed blank: the trailing blank of a trip edge, or the blank of an inserted test. -/
def Dev.winTimed (d : Dev) (m ns : Nat) (hold : Bool) : Dev :=
  if ns = 0 then d
  else
    d.winMod m (fun d =>
      let e := d.after ns
      let fresh := !d.winBlanked m
      d.modMon m (fun s => { s.begin fresh d.now (1100 ≤ ns) with
        timed := match s.timed with
          | some x => if d.past x then some e else if x.1.later e.1 || (x.1 = e.1 && e.2 < x.2) then some x else some e
          | none => some e
        hold := hold }))

/-- A timed blank that has run out ends, at its own moment. -/
def Dev.winTimedEnd (d : Dev) (m : Nat) : Dev := match (d.mon m).timed with
  | some x =>
    if d.past x then d.atMoment x (fun d => d.winMod m (fun d => d.modMon m (fun s => { s with timed := none, hold := false }))) else d
  | none => d

/-- The settling blank of 2 µs begins: the trip contribution holds its value (R291). The comparators compare with the thresholds in force. -/
def Dev.winSettle (d : Dev) (m : Nat) : Dev :=
  (d.winMod m (fun d =>
    let fresh := !d.winBlanked m
    (d.modMon m (fun s => { s.begin fresh d.now true with settle := some (d.after 2000) })).winLevels m))
    |>.setFld (F.WIN_STAT.SETTLING m) 1

/-- The settling blank ends 2 µs after it began. -/
def Dev.winSettled (d : Dev) (m : Nat) : Dev := match (d.mon m).settle with
  | some e =>
    if d.past e then (d.winMod m (fun d => d.modMon m (fun s => { s with settle := none }))).setFld (F.WIN_STAT.SETTLING m) 0 else d
  | none => d

/-- Thresholds take effect: an enabled monitor is blanked, whatever the codes were before (R291). -/
def Dev.winTake (d : Dev) (m upper lower : Nat) : Dev :=
  let d := (d.setFld (F.WIN_THR.UPPER m) upper).setFld (F.WIN_THR.LOWER m) lower
  if d.winOn m then d.winSettle m else d

/-- A self-test is running (R293). -/
def Dev.winTesting (d : Dev) (m : Nat) : Bool := match (d.mon m).testEnd with
  | some e => !d.past e
  | none => false

/-- New thresholds for a monitor take effect now, or when the test in progress ends (R298). -/
def Dev.winLoad (d : Dev) (m upper lower : Nat) : Dev :=
  if d.winTesting m then d.modMon m (fun s => { s with thrDue := some (upper, lower) }) else d.winTake m upper lower

/-- The upper and lower codes of a monitor, or those that wait for the end of a test. -/
def Dev.winThr (d : Dev) (m : Nat) : Nat × Nat := match (d.mon m).thrDue with
  | some x => x
  | none => (d.fld (F.WIN_THR.UPPER m), d.fld (F.WIN_THR.LOWER m))

/-- A test that has ended lets the thresholds that waited for it take effect. -/
def Dev.winTested (d : Dev) (m : Nat) : Dev := match (d.mon m).testEnd with
  | some e =>
    if !d.past e then d
    else
      let x := (d.mon m).thrDue
      let d := d.modMon m (fun s => { s with testEnd := none, thrDue := none })
      match x with
      | some (u, l) => d.atMoment e (fun d => d.winTake m u l)
      | none => d
  | none => d

/-- What has come due at a monitor by now: the end of a test, of a timed blank, a latch. -/
def Dev.winDue (d : Dev) (m : Nat) : Dev := (((d.winTested m).winTimedEnd m).winHeld m true).winHeld m false

/-- What has come due at the monitors. -/
def Dev.winDueAll (d : Dev) : Dev := forL d.mons (fun e d => d.winDue e.1) d

/-! ### Period boundaries -/

/-- The ON part of a monitor's verdict is formed once the ON phase of the period has ended (R287); at a boundary, the MIST cycle of the
boundary does not belong to the period (R297). -/
def Dev.winOnPart (d : Dev) (m tag : Nat) (start : Stamp) (safe boundary : Bool) : Dev :=
  let d := d.winSegment m
  let s := d.mon m
  if s.onDone || s.first || d.fld (F.WIN_CFG.LATCH_MODE m) ≠ 1 then d
  else
    let acc := if boundary then s.acc else s.acc ||| s.late
    let v : Verdict := ⟨false, verdictBits acc (d.winFaulted m) &&& 0x10F, start, d.now, tag, safe⟩
    d.modMon m (fun s => { s with onDone := true, due := s.due ++ [v] })

/-- At a boundary of its generator a monitor's period is complete: its verdict is formed, and its latches are cleared and set
again by an output that is still active (R286). -/
def Dev.winPeriod (d : Dev) (m tag : Nat) (start : Stamp) (safe : Bool) : Dev :=
  let d := d.winOnPart m tag start safe true
  let s := d.mon m
  let v : Verdict := ⟨true, verdictBits s.acc (d.winFaulted m), start, d.now, tag, safe⟩
  let per := d.fld (F.WIN_CFG.LATCH_MODE m) = 1
  let d := d.modMon m (fun s => { s with
    acc := s.late, late := 0, first := false, onDone := false, due := if s.first || !per then s.due else s.due ++ [v] })
  if per && !d.winFaulted m then
    ((((d.setFld (F.WIN_FLAG.LATCH_HI m) 0).setFld (F.WIN_FLAG.LATCH_LO m) 0).winHeld m true).winHeld m false)
  else d

/-! ### Faults (R300 to R302) -/

/-- A faulted monitor shows FAULTED and holds both latches set: they set when the fault begins, and a clear leaves them so (R300). -/
def Dev.winShow (d : Dev) (m : Nat) : Dev :=
  let f := d.winFaulted m
  let d := if f && !d.on (F.WIN_STAT.FAULTED m) then (d.winLatch m true d.moment).winLatch m false d.moment else d
  let d := d.setBit (F.WIN_STAT.FAULTED m) f
  let d := if f then (d.setFld (F.WIN_FLAG.LATCH_HI m) 1).setFld (F.WIN_FLAG.LATCH_LO m) 1 else d
  d.setBit (F.WIN_STAT.BLANKED m) (d.winOn m && d.winBlanked m)

/-- A fault of R301 starts the count of the passes and readings that end it, unless the other of the two is present already. -/
def Dev.winRecount (d : Dev) (m : Nat) : Dev :=
  if d.has .winSelftestFail (.wm m) || d.has .winDacFail (.wm m) then d
  else d.modMon m (fun s => { s with passes := 0, goodUp := 0, goodLo := 0 })

/-- Two passing tests and two good readings of each converter end the faults of R301. -/
def Dev.winRecover (d : Dev) (m : Nat) : Dev :=
  let s := d.mon m
  if d.winOn m && 2 ≤ s.passes && 2 ≤ s.goodUp && 2 ≤ s.goodLo then
    (d.clear .winSelftestFail (.wm m)).clear .winDacFail (.wm m) |>.setBitOf (F.WIN_DAC_FAILMAP.FAILED (m / 32)) (m % 32) false
  else d

/-- The monitor passes the configuration check of R302. -/
def Dev.winConfigOk (d : Dev) (m : Nat) : Bool :=
  let needs := d.fld (F.WIN_CFG.LATCH_MODE m) = 1 || d.fld (F.WIN_CFG.QUAL_HI m) ≠ 0 || d.fld (F.WIN_CFG.QUAL_LO m) ≠ 0
    || d.fld (F.WIN_BLANK.LEAD m) ≠ 0 || d.fld (F.WIN_BLANK.TRAIL m) ≠ 0
  d.fld (F.WIN_THR.LOWER m) ≤ d.fld (F.WIN_THR.UPPER m) && ((d.winLink m).isSome || !needs)

/-- Judge an enabled monitor (R302, R538). A disabled one keeps its faults (R301, R303). -/
def Dev.winJudge (d : Dev) (m : Nat) : Dev :=
  if !d.winOn m then d.winShow m
  else if d.winConfigOk m then (d.clear .winConfig (.wm m)).winShow m
  else if d.has .winConfig (.wm m) then d
  else
    let d := ((d.setFld (F.WIN_FLAG.CONFIG m) 1).fault .winConfig (.wm m)).winShow m
    if m < 96 then d.egFurther 2 (m % 48) else d

/-! ### Self-tests (R292 to R294, R298) -/

/-- P in microseconds. -/
def Dev.testPeriod (d : Dev) : Nat := d.fld F.WIN_ST_CFG.PERIOD_MS * 1000

/-- The latest due time of monitor `m` at or before now. -/
def Dev.testDue (d : Dev) (m : Nat) : Option Stamp :=
  let p := d.testPeriod
  let off := m * p / 128
  let n := d.now.toNat
  let back := if off ≤ n % p then n % p - off else n % p + p - off
  if back ≤ n then some (BitVec.ofNat 48 (n - back)) else none

/-- Tests become due for the monitor. -/
def Dev.testOn (d : Dev) (m : Nat) : Bool := d.on F.WIN_ST_CFG.TEST_EN && d.on (F.WIN_CFG.ST_EN m) && d.winOn m

/-- The monitor is due for a test it has not had. -/
def Dev.testWaits (d : Dev) (m : Nat) : Option Stamp :=
  if !d.testOn m then none
  else match (d.mon m).owed with
    | some k => some k
    | none => match d.testDue m with
      | some k => if (d.mon m).served = some k then none else some k
      | none => none

/-- The due test has been had, or missed. -/
def Dev.testServed (d : Dev) (m : Nat) (k : Stamp) : Dev :=
  d.modMon m (fun s => if s.owed.isSome then { s with owed := none } else { s with served := some k })

/-- TEST_EN, ST_EN or PERIOD_MS may have changed: the monitor becomes due at the due times still to come, and a test that was due before
stays due (R292). -/
def Dev.testAgain (d old : Dev) (m : Nat) : Dev :=
  if d.testOn m = old.testOn m ∧ d.testPeriod = old.testPeriod then d
  else d.modMon m (fun s => { s with owed := if d.testOn m then old.testWaits m else none, served := d.testDue m })

/-- Enabling starts the monitor: it is blanked for 2 µs, its first verdict is that of its first complete period (R303), and its
first test is the next one due. Disabling turns its comparators off. A blank that has begun stands (R283). -/
def Dev.winStart (d : Dev) (m : Nat) : Dev :=
  let d := d.winTrack m
  let s := d.mon m
  let kept : MonSt := {
    passes := 0, streams := s.streams, contrib := s.contrib, evHi := s.evHi, evLo := s.evLo, evTrip := s.evTrip, seg := d.moment, cnt := s.cnt,
    timed := s.timed, hold := s.hold, blankAt := s.blankAt, blankLong := s.blankLong, testEnd := s.testEnd, thrDue := s.thrDue,
    offUp := s.offUp, offLo := s.offLo, capHi := s.capHi, capLo := s.capLo }
  let d := { d with mons := tabPut {} d.mons m { kept with served := d.testDue m } }
  let d := (((d.setFld (F.WIN_STAT.HI m) 0).setFld (F.WIN_STAT.LO m) 0).setFld (F.WIN_STAT.SETTLING m) 0).setFld (F.WIN_STAT.VERDICT m) 0
  if d.winOn m then (d.winJudge m).winSettle m else d.winJudge m

/-- A comparator threshold is far enough from a reference to be judged: units of 1/16 mV. -/
def judged (refMv h code : Nat) : Bool := 16 * (25 + h) ≤ ((16 * refMv : Nat) - (25 * code : Nat) : Int).natAbs

/-- The steps of Table WIN-5 against the four pairs of outputs (HI, LO): the first failed step, or 0. -/
def selftestStep (u l h : Nat) (outs : List (Bool × Bool)) : Nat :=
  let good (i : Nat) (o : Bool × Bool) : Bool :=
    let v := if i < 2 then 250 else 1250
    let inv := i % 2 = 1
    let hi : Bool := 25 * u < 16 * v
    let lo : Bool := 16 * v < 25 * l
    (!judged v h u || o.1 = (hi != inv)) && (!judged v h l || o.2 = (lo != inv))
  match (List.range 4).find? (fun i => !good i ((outs[i]?).getD (false, false))) with
  | some i => i + 1
  | none => 0

/-- A test begins, with the thresholds now in force (R293, R298, R300): it runs for 1.1 µs. -/
def Dev.winTest (d : Dev) (m : Nat) (due : Stamp) (outs : List (Bool × Bool)) : Dev :=
  let step := selftestStep (d.fld (F.WIN_THR.UPPER m)) (d.fld (F.WIN_THR.LOWER m)) (d.hyst m) outs
  let d := ((d.testServed m due).modMon m (fun s => { s with testEnd := some (d.after 1100) })).inc F.WIN_ST_CNT.TESTS
  let d := (d.setFld F.WIN_ST_LAST.MONITOR m).setFld F.WIN_ST_LAST.STEP step
  let d := (d.setBit F.WIN_ST_LAST.PASS (step = 0)).setBitOf (F.WIN_ST_FAILMAP.FAILED (m / 32)) (m % 32) (step ≠ 0)
  if step = 0 then (d.modMon m (fun s => { s with passes := s.passes + 1 })).winRecover m |>.winShow m
  else
    let d := ((d.inc F.WIN_ST_CNT.FAILS).setFld F.WIN_ST_FLAG.FAIL 1).setFld (F.WIN_FLAG.ST_FAIL m) 1
    let d := d.winRecount m |>.modMon m (fun s => { s with passes := 0 })
    (d.fault .winSelftestFail (.wm m) 0 0 [BitVec.ofNat 8 step]).winShow m

/-- The offset at which the scheduled blanks of a monitor end, `n` of them being open. -/
def blankRest (m : Nat) : Nat → List (Nat × Slot) → Option Nat
  | _, [] => none
  | n, (o, x) :: r =>
    let n := if x = .monBegin m then n + 1 else if x = .monEnd m then n - 1 else n
    if n = 0 then some o else blankRest m n r

/-- The blank in progress began at or after the due time and lasts at least 1.1 µs (R292). -/
def Dev.blankQualifies (d : Dev) (m : Nat) (due : Stamp) : Bool :=
  d.winBlanked m && (d.mon m).blankLong && (match (d.mon m).blankAt with
    | some b => b.reached due
    | none => false)

/-- WIN_SELFTEST: the outputs of the four steps. -/
def Dev.winSelftest (d : Dev) (m : Nat) (outs : List (Bool × Bool)) : Dev := match d.testWaits m with
  | some k => if d.blankQualifies m k then d.winTest m k outs else d
  | none => d

/-- No blank has come by P ÷ 2 after the due time (R294). -/
def Dev.winMissed (d : Dev) (m : Nat) (outs : List (Bool × Bool)) : Dev := match d.testWaits m with
  | some k =>
    if d.testPeriod / 2 ≤ d.now.since k then
      if d.on F.WIN_ST_CFG.INSERT_EN then (d.winTimed m 1100 false).winTest m k outs
      else
        let d := (d.testServed m k).setFld F.WIN_ST_FLAG.MISSED 1
        d.note .winSelftestMissed (.wm m)
    else d
  | none => d

/-! ### Readback (R295) -/

/-- The next threshold converter in the cycle: converter 2m reads UPPER of monitor m, 2m + 1 its LOWER. -/
def Dev.nextDac (d : Dev) : Option Nat :=
  let order := (List.range 256).map (fun i => (d.dacNext + i) % 256)
  order.find? (fun c => d.winOn (c / 2))

/-- The housekeeping converter reads one threshold converter. -/
def Dev.dacReadback (d : Dev) (code : Nat) : Dev :=
  if !d.on F.WIN_ST_CFG.READBACK_EN then d
  else match d.nextDac with
  | none => d
  | some c =>
    let m := c / 2
    let up : Bool := c % 2 = 0
    let prog := d.fld (if up then F.WIN_THR.UPPER m else F.WIN_THR.LOWER m)
    let bad : Bool := d.fld F.WIN_DAC_TOL.DAC_TOL < ((code : Int) - prog).natAbs
    let d := { d with dacNext := (c + 1) % 256 }
    let d := ((d.setFld F.WIN_DAC_LAST.MONITOR m).setBit F.WIN_DAC_LAST.UPPER up).setFld F.WIN_DAC_LAST.CODE code
    let upd (s : MonSt) : MonSt :=
      if up then { s with badUp := if bad then s.badUp + 1 else 0, goodUp := if bad then 0 else s.goodUp + 1, offUp := (code : Int) - prog }
      else { s with badLo := if bad then s.badLo + 1 else 0, goodLo := if bad then 0 else s.goodLo + 1, offLo := (code : Int) - prog }
    let d := (d.modMon m upd).winSense m
    let s := d.mon m
    if bad && 2 ≤ (if up then s.badUp else s.badLo) then
      let d := (d.setFld F.WIN_ST_FLAG.DAC_FAIL 1).setFld (F.WIN_FLAG.DAC_FAIL m) 1
      let d := d.setBitOf (F.WIN_DAC_FAILMAP.FAILED (m / 32)) (m % 32) true
      ((d.winRecount m).fault .winDacFail (.wm m) 0 0 ([BitVec.ofNat 8 up.toNat, 0] ++ leBytes 2 code)).winShow m
    else (d.winRecover m).winShow m

end Sys2Proof.Machine
end

