-- ==== Sys2Proof/Machine/Pgn.lean ====
section
/-! DEFINITION. Machine/Pgn.lean: pulse generators: period boundaries, scheduled edges, short pulses, vital-enable gating, trip
lines and trips, clears; section status outputs and their readback (chapter 12; R288). -/

namespace Sys2Proof.Machine

def Dev.sso (d : Dev) (n : Nat) : SsoSt := tabGet {} d.ssos n
def Dev.modSso (d : Dev) (n : Nat) (f : SsoSt → SsoSt) : Dev := { d with ssos := tabMod {} d.ssos n f }

def Dev.pgState (d : Dev) (k : Nat) : Nat := d.fld (F.PGN_STAT.STATE k)

/-- The generator is enabled and not held by PG_CONFIG. -/
def Dev.pgOn (d : Dev) (k : Nat) : Bool := d.on (F.PGN_CFG.ENABLE k) && !d.has .pgConfig (.pg k)

def Dev.pgList (d : Dev) : List Nat := (List.range 64).filter (fun k => d.on (F.PGN_CFG.ENABLE k))

/-- VEN_n carries its square wave (R487). -/
def Dev.venOut (d : Dev) : Nat :=
  if !d.safeLine ∧ d.boot.started then d.fld F.TWN_VEN.VEN_EN &&& (if d.part = .dx8856 then 0xFF else 0x0F) else 0

/-- A field of PGN_CFG or PGN_MINP in force: a passing write takes effect at the next boundary (R328), or at once before the first. -/
def Dev.pgCfg (d : Dev) (k : Nat) (f : Fld) : Nat :=
  let g := d.gen k
  if g.started then f.of (if f.off = (F.PGN_MINP.MIN_PULSE k).off then g.minp else g.cfg) else d.fld f

def Dev.pgHas (d : Dev) (k : Nat) (f : Fld) : Bool := d.pgCfg k f = 1

/-- A field of PGN_SSO_CFG, LOOP or FREQ in force. -/
def Dev.ssoCfg (d : Dev) (n : Nat) (f : Fld) : Nat :=
  let s := d.sso n
  if (d.gen (48 + n)).started then
    f.of (if f.off = (F.PGN_SSO_CFG.MODE n).off then s.cfg else if f.off = (F.PGN_SSO_LOOP.TOL n).off then s.loop else s.freq)
  else d.fld f

/-- The values in force become those of the registers. -/
def Dev.pgTakeCfg (d : Dev) (k : Nat) : Dev :=
  let word (f : Fld) : Nat := (d.reg f.blk f.off).toNat
  let d := d.modGen k (fun g => { g with cfg := word (F.PGN_CFG.ENABLE k), minp := word (F.PGN_MINP.MIN_PULSE k) })
  if k < 48 then d
  else
    let n := k - 48
    d.modSso n (fun s => { s with
      cfg := word (F.PGN_SSO_CFG.MODE n), loop := word (F.PGN_SSO_LOOP.TOL n), freq := word (F.PGN_SSO_FREQ.F_CLEAR_HZ n) })

/-- The generator waits for its vital enable (R313). -/
def Dev.gated (d : Dev) (k : Nat) : Bool := d.pgHas k (F.PGN_CFG.VEN_GATE k) && !d.venOut.testBit (d.pgCfg k (F.PGN_CFG.VEN_SEL k))

/-- The object a generator serves (Table PGN-1). -/
def pgServes (k : Nat) : Src := if k < 48 then .lamp k else .pg k

/-! ### Drive and schedule -/

/-- A Mirror in PARALLEL wiring holds its gate outputs, SO_DRV and SSO_DRV low while its engines run (Table TWN-1). -/
def Dev.pinsHeld (d : Dev) : Bool := d.on F.TWN_CFG.ENABLE && d.on F.TWN_CFG.WIRING && d.on F.TWN_STAT.ROLE

/-- Pins and line status of a generator: a low pin through TRIPPED, GATED, OFF, the safe-state line or the Mirror's hold
(R306, R25, R475). -/
def Dev.pgShow (d : Dev) (k : Nat) : Dev :=
  let g := d.gen k
  let run := d.pgState k = 1 && !d.safeLine && !(g.hand.getD d.pinsHeld)
  let en := d.pgHas k (F.PGN_CFG.TRIP_EN k)
  let grp := d.pgCfg k (F.PGN_CFG.TRIP_GRP k)
  let line := en && d.bitOf F.WIN_TRIP_STAT.LINE grp
  let quiet := !line && (match d.lineOff.find? (fun e => e.1 = grp) with
    | some e => d.pgCfg k (F.PGN_MINP.TRIP_QUIET k) ≤ d.now.since e.2
    | none => true)
  let d := (d.setBit (F.PGN_STAT.ON_GATE k) (run && g.on_)).setBit (F.PGN_STAT.COMP_GATE k) (run && g.comp)
  (d.setBit (F.PGN_STAT.TRIP_LINE k) line).setBit (F.PGN_STAT.QUIET k) quiet

/-- The levels of LMP_k_GH and LMP_k_GL (R306): ON_SEL says which of them is the on-gate; the other is the complement gate. -/
def Dev.pinGH (d : Dev) (k : Nat) : Bool := if d.pgHas k (F.PGN_CFG.ON_SEL k) then d.on (F.PGN_STAT.COMP_GATE k) else d.on (F.PGN_STAT.ON_GATE k)
def Dev.pinGL (d : Dev) (k : Nat) : Bool := if d.pgHas k (F.PGN_CFG.ON_SEL k) then d.on (F.PGN_STAT.ON_GATE k) else d.on (F.PGN_STAT.COMP_GATE k)

/-- The level of SSO_n_DRV (R306). -/
def Dev.pinSso (d : Dev) (n : Nat) : Bool := d.on (F.PGN_STAT.ON_GATE (48 + n))

/-- The schedule's drive of the two gates changes; the monitors that follow the generator see the phase change. -/
def Dev.pgDrive (d : Dev) (k : Nat) (on comp : Bool) : Dev :=
  let g := d.gen k
  let set (d : Dev) : Dev := d.modGen k (fun g => { g with on_ := on, comp := comp })
  if g.on_ = on then set d
  else
    let ms := d.linkedTo k
    forL ms (fun m d => d.winTrack m) (set (forL ms (fun m d => d.winSegment m) d))

/-- What the lamp engine asked of the period in progress, with DARK_CODE in force (R339); the MODE of a status output's period. -/
def Dev.monTag (d : Dev) (k : Nat) : Nat :=
  if k < 48 then (d.gen k).tag + (if d.on (F.LMP_STAT.DARK_THR k) then 8 else 0) else d.ssoCfg (k - 48) (F.PGN_SSO_CFG.MODE (k - 48))

/-- Instants at one offset take effect in this order: blanks that begin, edges, blanks that end. -/
def slotRank : Slot → Nat
  | .monBegin _ => 0 | .bankBegin _ => 0 | .monEnd _ => 2 | .bankEnd _ => 2 | _ => 1

/-- Put an instant into a schedule, after those at its offset and rank. -/
def putSlot (x : Nat × Slot) : List (Nat × Slot) → List (Nat × Slot)
  | [] => [x]
  | y :: r => if x.1 < y.1 || (x.1 = y.1 && slotRank x.2 < slotRank y.2) then x :: y :: r else y :: putSlot x r

/-- One instant takes effect; `rest` is the schedule after it, `o` its offset. -/
def Dev.pgSlot (d : Dev) (k o : Nat) (rest : List (Nat × Slot)) : Slot → Dev
  | .compFall => d.pgDrive k (d.gen k).on_ false
  | .onRise => d.pgDrive k true (d.gen k).comp
  | .onFall =>
    let d := d.pgDrive k false (d.gen k).comp
    -- the ON phase of the period has ended unless the gate rises in it again (R287)
    if rest.any (fun x => x.2 = .onRise && x.1 < (d.gen k).period) then d
    else forL (d.linkedTo k) (fun m d => d.winOnPart m (d.monTag k) (d.gen k).since ((d.gen k).safe || d.safeLine) false) d
  | .compRise => d.pgDrive k (d.gen k).on_ true
  | .monBegin m => d.winBlank m true (match blankRest m ((d.mon m).cnt + 1) rest with | some e => 220 ≤ e - o | none => false)
  | .monEnd m => d.winBlank m false false
  | .bankBegin b => d.bankPg b true
  | .bankEnd b => d.bankPg b false

/-- Take the instants of the schedule at offset `o` or before, at most `n` of them. -/
def Dev.pgRun (k o : Nat) : Nat → Dev → Dev
  | 0, d => d
  | n + 1, d => match (d.gen k).sched with
    | [] => d
    | (p, x) :: r => if p ≤ o then ((d.modGen k (fun g => { g with sched := r })).pgSlot k p r x).pgRun k o n else d

/-- A generator reaches a scheduled edge at GEN_CYCLES `cyc` (R308). -/
def Dev.pgEdge (d : Dev) (k cyc : Nat) : Dev :=
  let g := d.gen k
  match g.sched with
  | [] => d
  | (p, _) :: _ =>
    if d.pgOn k && g.started && g.at_ + p = cyc && p < g.period then (d.pgRun k p g.sched.length).pgShow k else d

/-! ### Short pulses (R308, R311, R312) -/

/-- The edges of one period, the actual on-time's run into the next period, and which counter of R311 and R312 counts:
0 none, 1 SHORT_DROP, 2 STRETCHED, 3 OFF_SKIP, 4 OFF_STRETCHED. `kept` is an on-time that runs on from the period before, `low`
both gates low with no edge to come. -/
def periodEdges (period phase t dtOn dtOff minPulse : Nat) (stretch comp kept low : Bool) : List (Nat × Slot) × Bool × Nat :=
  let c (x : Nat × Slot) : List (Nat × Slot) := if comp then [x] else []
  let rise : List (Nat × Slot) := if kept then [] else c (phase, .compFall) ++ [(phase + dtOn, .onRise)]
  let fall (o : Nat) : List (Nat × Slot) := (o, .onFall) :: c (o + dtOff, .compRise)
  let off : List (Nat × Slot) := if kept then fall phase else if low then c (dtOff, .compRise) else []
  if t = 0 then (off, false, 0)
  else if t < dtOn + minPulse then
    if stretch then (rise ++ fall (phase + dtOn + minPulse), false, 2) else (off, false, 1)
  else if period ≤ t then (rise, true, 0)
  else if period - t < dtOff + minPulse then
    if stretch then (rise ++ fall (phase + (period - dtOff - minPulse)), false, 4) else (rise, true, 3)
  else (rise ++ fall (phase + t), false, 0)

/-- The blanks of one monitor or bank in a period, each by its beginning and its end: with the lead and trail in cycles, around its `edges`
and around those edges of later periods, `next` if the on-time stays as it is, whose lead begins in this one. -/
def edgeSpans (period lead trail : Nat) (edges next : List Nat) : List (Nat × Nat) :=
  if lead = 0 ∧ trail = 0 then []
  else
    edges.map (fun x => (x - lead, x + trail))
    ++ (List.range (lead / period + 1)).flatMap (fun j => next.flatMap (fun o =>
      let x := (j + 1) * period + o
      if lead ≤ x ∧ x - lead < period then [(x - lead, x + trail)] else []))

/-- The same as instants of a schedule. -/
def edgeBlanks (period lead trail : Nat) (edges next : List Nat) (b e : Slot) : List (Nat × Slot) :=
  (edgeSpans period lead trail edges next).flatMap (fun x => [(x.1, b), (x.2, e)])

/-- The blanks of the monitors and banks that follow a generator around its scheduled edges (R283, Table HAZ-5). -/
def Dev.pgBlanks (d : Dev) (k period : Nat) (edges next : List Nat) : List (Nat × Slot) :=
  (d.linkedTo k).flatMap (fun m =>
    edgeBlanks period (4 * d.fld (F.WIN_BLANK.LEAD m)) (4 * d.fld (F.WIN_BLANK.TRAIL m)) edges next (.monBegin m) (.monEnd m))
  ++ ((List.range 8).filter (fun b => d.on (F.HAZ_BANK_BLANK.PG_EN b) && d.fld (F.HAZ_BANK_BLANK.PG_SEL b) = k)).flatMap (fun b =>
    edgeBlanks period (200 * d.fld (F.HAZ_BANK_BLANK_T.LEAD_US b)) (200 * d.fld (F.HAZ_BANK_BLANK_T.TRAIL_US b)) edges next
      (.bankBegin b) (.bankEnd b))

/-- The ends of blanks that have begun; every other instant of a schedule is dropped. -/
def Dev.openEnds (d : Dev) : List (Nat × Slot) → List (Nat × Slot) → List (Nat × Slot)
  | _, [] => []
  | kept, x :: r =>
    let n := (kept.filter (fun y => y.2 = x.2)).length
    let stays : Bool := match x.2 with
      | .monEnd m => n < (d.mon m).cnt
      | .bankEnd b => n < (d.bank b).pg
      | _ => false
    if stays then x :: d.openEnds (x :: kept) r else d.openEnds kept r

/-- A schedule without the blanks of a monitor but for the ends of its `n` blanks that have begun. -/
def dropBlanks (m : Nat) : Nat → List (Nat × Slot) → List (Nat × Slot)
  | _, [] => []
  | n, x :: r =>
    if x.2 = .monBegin m then dropBlanks m n r
    else if x.2 = .monEnd m then (if n = 0 then dropBlanks m 0 r else x :: dropBlanks m (n - 1) r)
    else x :: dropBlanks m n r

/-- Cycles of the period in progress that have passed. -/
def Dev.pgElapsed (d : Dev) (k : Nat) : Nat := d.nsSince ((d.gen k).since, (d.gen k).sinceNs) / 5

/-- A monitor that is enabled, or whose LEAD, TRAIL or link changes, within a period has its blanks around the scheduled edges still to come;
a blank that has begun stands (R283). -/
def Dev.monReblank (d : Dev) (m : Nat) : Dev :=
  let d := forL d.gens (fun e d => d.modGen e.1 (fun g => { g with sched := dropBlanks m (d.mon m).cnt g.sched })) d
  match d.winLink m with
  | none => d
  | some k =>
    let g := d.gen k
    let now := d.pgElapsed k
    if !(d.winOn m && g.started) then d
    else
      forL (edgeSpans g.period (4 * d.fld (F.WIN_BLANK.LEAD m)) (4 * d.fld (F.WIN_BLANK.TRAIL m)) g.edges g.next) (fun (b, e) d =>
        if e ≤ now then d
        else
          let d := d.modGen k (fun g => { g with sched := putSlot (e, .monEnd m) (if now < b then putSlot (b, .monBegin m) g.sched else g.sched) })
          if now < b then d else d.winBlank m true (220 ≤ e - now)) d

/-- Both gates go low now and no further edge of the schedule follows. -/
def Dev.pgLow (d : Dev) (k : Nat) : Dev :=
  let d := d.modGen k (fun g => { g with sched := d.openEnds [] g.sched, keepOn := false })
  d.pgDrive k false false

/-! ### Status outputs: levels (R317 to R319) -/

/-- The level of Table PGN-4. A faulted readback monitor holds its output in the F1 state of Table FLT-3, disabled or not (R300, R301). -/
def Dev.ssoLevel (d : Dev) (n : Nat) : Nat :=
  let i := d.ssoCfg n (F.PGN_SSO_CFG.SECTION n)
  let s := d.secState i
  if 4 ≤ d.fld F.FLT_STATE.DEV_STATE ∨ d.on (F.PGN_SSO_STAT.FORCED n) ∨ d.winFaulted (96 + n) then 3
  else if d.underF3 (d.fld (F.FLT_FG_SEC.GROUP (i / 8) (i % 8))) || d.on F.BOT_STATUS.COMMISSIONING || s = 2 then 2
  else if s = 1 ∨ s = 3 then 1
  else if s = 4 then (if d.on (F.SEC_CFG.CR_AS_CLEAR i) then 0 else 1)
  else 0

/-- PERIOD and T of a level (Table PGN-5). A static level of FREQ keeps the period in progress (assumption log 18). -/
def Dev.ssoTiming (d : Dev) (n level : Nat) : Nat × Nat :=
  let p := d.fld (F.PGN_PERIOD.PERIOD (48 + n))
  let hz (f : Nat) : Nat := 200000000 / f
  match d.ssoCfg n (F.PGN_SSO_CFG.MODE n) with
  | 1 => (p, if level = 0 then p * 8 / 10 else if level = 1 then p * 4 / 10 else if level = 2 then p * 2 / 10 else 0)
  | 2 =>
    let pc := hz (d.ssoCfg n (F.PGN_SSO_FREQ.F_CLEAR_HZ n))
    let po := hz (d.ssoCfg n (F.PGN_SSO_FREQ.F_OCC_HZ n))
    if level = 0 then (pc, pc / 2) else if level = 1 then (po, po / 2)
    else (if (d.gen (48 + n)).period = 0 then po else (d.gen (48 + n)).period, 0)
  | 3 => (1000000, if level = 0 then 750000 else if level = 1 then 250000 else 0)
  | _ => (p, 0)

/-- The readback window of a loop level is loaded (R319). -/
def Dev.ssoLoad (d : Dev) (n level : Nat) : Dev :=
  if d.ssoCfg n (F.PGN_SSO_CFG.MODE n) = 1 then
    let ma := if level = 0 then 16 else if level = 1 then 8 else if level = 2 then 4 else 0
    let c := d.ssoCfg n (F.PGN_SSO_LOOP.FS_CODE n) * ma / 16
    let tol := d.ssoCfg n (F.PGN_SSO_LOOP.TOL n)
    d.winLoad (96 + n) (c + tol) (c - tol)
  else d

/-- SETTLE starts. -/
def Dev.ssoSettle (d : Dev) (n : Nat) : Dev :=
  (d.modSso n (fun s => { s with settleTo := d.now.plus (d.ssoCfg n (F.PGN_SSO_CFG.SETTLE n) * 100) })).setFld (F.PGN_SSO_STAT.SETTLING n) 1

/-- A boundary of a status output's generator: an accepted clear ends the forced state, the latest level takes effect. The clear of an
output that is TRIPPED too is left to end that as well (R315). -/
def Dev.ssoBoundary (d : Dev) (n : Nat) : Dev :=
  let k := 48 + n
  let d :=
    if d.on (F.PGN_SSO_STAT.FORCED n) && d.on (F.PGN_STAT.CLEAR_PENDING k) && !d.safeLine then
      let d := (d.setFld (F.PGN_SSO_STAT.FORCED n) 0).setFld (F.PGN_SSO_STAT.MISMATCH n) 0
      if d.pgState k = 2 then d else d.setFld (F.PGN_STAT.CLEAR_PENDING k) 0
    else d
  let level := d.ssoLevel n
  let d := if (d.sso n).settleTo.later d.now then d else d.setFld (F.PGN_SSO_STAT.SETTLING n) 0
  if d.fld (F.PGN_SSO_STAT.LEVEL n) = level then d
  else ((d.setFld (F.PGN_SSO_STAT.LEVEL n) level).ssoLoad n level).ssoSettle n

/-! ### Boundaries (R307, R309, R310, R327) -/

/-- The state of a generator at a boundary: where it may, a clear or the return of its enable lets it run. -/
def Dev.pgResume (d : Dev) (k : Nat) : Dev :=
  let st := d.pgState k
  if d.safeLine then d
  else if st = 2 then
    if d.on (F.PGN_STAT.CLEAR_PENDING k) then (d.setFld (F.PGN_STAT.STATE k) (if d.gated k then 3 else 1)).setFld (F.PGN_STAT.CLEAR_PENDING k) 0 else d
  else if d.gated k then d.setFld (F.PGN_STAT.STATE k) 3
  else d.setFld (F.PGN_STAT.STATE k) 1

/-- The complement gate of a generator is used (R306). -/
def Dev.pgComp (d : Dev) (k : Nat) : Bool := k < 48 && d.pgHas k (F.PGN_CFG.COMP_EN k)

/-- The values of the period that begins: they are fixed now, and its instants are laid out. `rest` is what the period before has left,
`extra` the offsets of edges in it that were not blanked before. -/
def Dev.pgLayout (d : Dev) (k cyc : Nat) (rest : List (Nat × Slot)) (extra : List Nat) : Dev :=
  let g := d.gen k
  let (period, t) := if k < 48 then (d.fld (F.PGN_PERIOD.PERIOD k), min g.req (d.fld (F.PGN_PERIOD.PERIOD k)))
    else d.ssoTiming (k - 48) (d.fld (F.PGN_SSO_STAT.LEVEL (k - 48)))
  let d := d.setFld (F.PGN_ON.T k) t
  let run := d.pgState k = 1
  let comp := d.pgComp k
  let phase := min (d.fld (F.PGN_PHASE.PHASE k)) (period - 1)
  let low := !g.on_ && !g.comp && rest.all (fun x => x.2 ≠ .onFall && x.2 ≠ .compRise)
  let lay (kept low : Bool) : List (Nat × Slot) × Bool × Nat :=
    periodEdges period phase t (d.fld (F.PGN_DEAD.DT_ON k)) (d.fld (F.PGN_DEAD.DT_OFF k)) (d.fld (F.PGN_MINP.MIN_PULSE k))
      (d.on (F.PGN_CFG.POLICY k)) comp kept low
  let (edges, keep, cnt) := lay g.keepOn low
  let next := (lay keep false).1
  let edges := if run then edges else []
  -- a complement still to rise stays low once the next on-edge has come
  let rest := rest.filter (fun x => x.2 ≠ .compRise || (comp && !edges.any (fun e => e.2 = .compFall && e.1 ≤ x.1)))
  let at_ (l : List (Nat × Slot)) : List Nat := l.map (fun x => x.1)
  let around := at_ edges ++ extra
  let ahead := if run then at_ next else []
  let sched := (edges ++ (if run then d.pgBlanks k period around ahead else [])).foldl (fun s x => putSlot x s) rest
  let prove : Bool := g.reqTag.testBit 1
  -- a period dropped under R311 is a commanded off to lamp supervision
  let tag := if run && cnt = 1 then 4 else g.reqTag
  let d := d.modGen k (fun g => { g with
    at_ := cyc, period := period, started := true, sched := sched, edges := around, next := ahead, keepOn := run && keep, tag := tag
    since := d.now, sinceNs := d.fine, safe := d.safeLine, prove := if prove then g.prove - 1 else g.prove
    pulse := if tag.testBit 1 then (if g.tag.testBit 1 then g.pulse else some (d.now, none))
      else (match g.pulse with | some (a, none) => some (a, some d.now) | p => p) })
  if !run ∨ cnt = 0 then d
  else
    let d := d.setFld (F.PGN_FLAG.SHORT k) 1
    if cnt = 1 then d.inc (F.PGN_CNT_SHORT.SHORT_DROP k) else if cnt = 2 then d.inc (F.PGN_CNT_STRETCH.STRETCHED k)
    else if cnt = 3 then d.inc (F.PGN_CNT_SHORT.OFF_SKIP k) else d.inc (F.PGN_CNT_STRETCH.OFF_STRETCHED k)

/-- What an early boundary leaves of the schedule (R310): the blanks that have begun, and the rise of the complement after a fall that has
happened. -/
def Dev.earlyRest (d : Dev) (k : Nat) (rest : List (Nat × Slot)) : List (Nat × Slot) :=
  let fell := if (d.gen k).on_ then [] else (rest.takeWhile (fun x => x.2 ≠ .onRise)).filter (fun x => x.2 = .compRise)
  fell.foldl (fun s x => putSlot x s) (d.openEnds [] rest)

/-- The on-time of the period in progress has begun and runs: the on-gate is high, or in its turn-on dead time. -/
def GenSt.inOn (g : GenSt) : Bool := g.on_ || (match g.sched.find? (fun x => x.2 = .compFall || x.2 = .onRise) with
  | some x => x.2 = .onRise && !g.comp
  | none => false)

/-- A generator takes a boundary at GEN_CYCLES `cyc`; `early` when an edge of its sync monitor ends the period before its end: an on-time
cut short ends there, with DT_OFF from there (R310). -/
def Dev.pgTake (d : Dev) (k cyc : Nat) (early : Bool) : Dev :=
  let span := cyc - (d.gen k).at_
  let d := if (d.gen k).started then d.pgRun k (span - 1) (d.gen k).sched.length else d
  let g := d.gen k
  let rest := g.sched.map (fun x => (x.1 - span, x.2))
  let cut := early && g.inOn && !g.keepOn
  let rest := if early then d.earlyRest k rest else rest
  let d := if cut then d.pgDrive k false g.comp else d
  let rest := if cut && d.pgComp k then putSlot (d.fld (F.PGN_DEAD.DT_OFF k), .compRise) rest else rest
  let extra := if early then (if cut then [0] else []) ++ (rest.filter (fun x => x.2 = .compRise)).map (fun x => x.1) else []
  let d := if g.started then
      forL (d.linkedTo k) (fun m d =>
        d.winPeriod m (d.monTag k) (d.gen k).since ((d.gen k).safe || d.safeLine)) d
    else d
  let d := (d.modGen k (fun g => { g with sched := [], hand := none, sync := none })).pgTakeCfg k
  let d := if (d.gen k).comp && !d.pgComp k then d.pgDrive k (d.gen k).on_ false else d
  let d := if 48 ≤ k then d.ssoBoundary (k - 48) else d
  ((d.pgResume k).pgLayout k cyc rest extra).pgShow k

/-- GEN_CYCLES is that of the generator's next boundary (R307). -/
def Dev.pgDue (d : Dev) (k cyc : Nat) : Bool :=
  let g := d.gen k
  if g.started then cyc = g.at_ + g.period
  else cyc % max 1 (if k < 48 then d.fld (F.PGN_PERIOD.PERIOD k) else (d.ssoTiming (k - 48) (d.ssoLevel (k - 48))).1) = 0

/-- A generator reaches a period boundary at GEN_CYCLES `cyc`. -/
def Dev.pgBoundary (d : Dev) (k cyc : Nat) : Dev := if d.pgOn k && d.boot.started && d.pgDue k cyc then d.pgTake k cyc false else d

/-- An edge of its sync monitor makes a boundary of a generator, in the SQUALL cycle of the edge (R310, R325; assumption log 170). -/
def Dev.pgSync (d : Dev) (k : Nat) : Dev := match (d.gen k).sync with
  | some x =>
    let d := d.modGen k (fun g => { g with sync := none })
    if !(d.pgOn k && d.boot.started && (d.gen k).started) then d
    else
      d.atMoment x (fun d =>
        let n := d.pgElapsed k
        let g := d.gen k
        if n = 0 then d else d.pgTake k (g.at_ + min g.period n) (n < g.period))
  | none => d

/-! ### Trips (R288, R290, R314, R323) -/

/-- A generator's trip line has become active; `ms` are the monitors that hold it. -/
def Dev.pgTrip (d : Dev) (k : Nat) (ms : List Nat) : Dev :=
  let g := d.gen k
  let d := if g.on_ || g.comp then
      forL ((List.range 8).filter (fun b => d.on (F.HAZ_BANK_BLANK.PG_EN b) && d.fld (F.HAZ_BANK_BLANK.PG_SEL b) = k)) (fun b d =>
        (d.modBank b (fun q => { q with tail := some (d.after (1000 * d.fld (F.HAZ_BANK_BLANK_T.TRAIL_US b))) })).bankEval b)
        (forL (d.linkedTo k) (fun m d => d.winTimed m (20 * d.fld (F.WIN_BLANK.TRAIL m)) true) d)
    else d
  let d := (d.pgLow k).setFld (F.PGN_STAT.STATE k) 2
  let d := (d.setFld (F.PGN_STAT.CLEAR_PENDING k) 0).inc (F.PGN_TRIP_CNT.TRIPS k)
  let d := (d.setFld (F.PGN_TRIP_T.STAMP k) (d.now.toNat % 2 ^ 32)).setFld (F.PGN_FLAG.TRIP k) 1
  let d := { d with tripq := d.tripq ++ [(k, ms)] }
  if d.rateOk g.evAt then
    (d.modGen k (fun g => { g with evAt := some d.moment })).note .pgTrip (.pg k) 0 (leBytes 1 (d.pgCfg k (F.PGN_CFG.TRIP_GRP k)))
  else d

/-- The monitors that may contribute to a trip line. -/
def Dev.winList (d : Dev) : List Nat := (List.range 128).filter (fun m => d.winOn m || d.winFaulted m || (d.mon m).contrib)

/-- Contributions follow their monitors; WIN_TRIP at most once per 1 ms (R290). -/
def Dev.contribEval (d : Dev) : Dev :=
  forL d.winList (fun m d =>
    let new := d.winContrib m
    if new = (d.mon m).contrib then d
    else
      let d := d.modMon m (fun s => { s with contrib := new })
      if !new then d
      else
        let d := d.setFld (F.WIN_FLAG.TRIP m) 1
        if d.rateOk (d.mon m).evTrip then
          let hi := (d.tripMap m).2.1 && (d.winQual m true || d.winFaulted m)
          (d.modMon m (fun s => { s with evTrip := some d.moment })).raise .winTrip (.wm m)
            (payW ((if hi then (d.mon m).actHi else (d.mon m).actLo).getD d.moment) hi (d.tripMap m).1)
        else d.inc (F.WIN_STAT.SUPPRESSED m)) d

/-- The trip lines follow the contributions, and every activation trips the generators that follow the line. -/
def Dev.tripEval (d : Dev) : Dev :=
  let d := d.contribEval
  let by_ (g : Nat) : List Nat := d.winList.filter (fun m => (d.mon m).contrib && (d.tripMap m).1 = g)
  let lines := (List.range 16).map by_
  let old := d.fld F.WIN_TRIP_STAT.LINE
  forL ((List.range 16).zip lines) (fun (g, ms) d =>
    let new : Bool := ms ≠ []
    if new = old.testBit g then d
    else
      let d := d.setBitOf F.WIN_TRIP_STAT.LINE g new
      if !new then { d with lineOff := tabIns d.lineOff g d.now }
      else
        forL (d.pgList.filter (fun k => d.pgOn k && d.pgHas k (F.PGN_CFG.TRIP_EN k) && d.pgCfg k (F.PGN_CFG.TRIP_GRP k) = g))
          (fun k d => d.pgTrip k ms) (d.setBitOf F.WIN_TRIP_FLAG.SEEN g true)) d

/-! ### Evaluation -/

/-- Level rules of one enabled generator: the vital enable (R313), a status output whose monitor is faulted (R300), the safe-state line,
its pins. -/
def Dev.pgEval (d : Dev) (k : Nat) : Dev :=
  let d := if d.safeLine && !(d.gen k).safe then d.modGen k (fun g => { g with safe := true }) else d
  let d := if d.pgOn k && d.gated k && d.pgState k ≠ 2 && d.pgState k ≠ 3 then (d.pgLow k).setFld (F.PGN_STAT.STATE k) 3 else d
  let n := k - 48
  let d := if 48 ≤ k && d.winFaulted (96 + n) && d.fld (F.PGN_SSO_STAT.LEVEL n) ≠ 3 then ((d.pgLow k).setFld (F.PGN_SSO_STAT.LEVEL n) 3).ssoLoad n 3
    else d
  d.pgShow k

/-- Trip lines, then the boundaries that sync edges make: a trip in the same cycle prevails (R323). A trip changes phases and blanks, so the
lines are read again after it. -/
def Dev.pgSyncAll (d : Dev) : Dev := let d := d.tripEval.tripEval; forL d.pgList (fun k d => d.pgSync k) d

/-- Monitors, trip lines, VEN outputs and generators follow the machine. -/
def Dev.pgEvalAll (d : Dev) : Dev :=
  let d := (d.setFld F.TWN_STAT.VEN_OUT d.venOut).pgSyncAll
  let d := forL d.pgList (fun k d => d.pgEval k) d
  forL d.winList (fun m d => d.winShow m) d

/-! ### Clears (R315, R316, R321) -/

/-- The refusal detail of Table PGN-3, or 0. -/
def Dev.pgClearRefusal (d : Dev) (k : Nat) : Nat :=
  let forced := 48 ≤ k && d.on (F.PGN_SSO_STAT.FORCED (k - 48))
  if 4 ≤ d.fld F.FLT_STATE.DEV_STATE then 1
  else if d.pgState k ≠ 2 ∧ !forced then 2
  else if k < 48 ∧ d.has .lampShortSupply (.lamp k) then 3
  else if d.on (F.PGN_STAT.TRIP_LINE k) then 4
  else if !d.on (F.PGN_STAT.QUIET k) then 5
  else if forced && (d.sso (k - 48)).agree < d.ssoCfg (k - 48) (F.PGN_SSO_CFG.FB_PERIODS (k - 48)) then 6
  else 0

/-- An accepted clear: the generator resumes at its next period boundary. -/
def Dev.pgAccept (d : Dev) (k : Nat) : Dev :=
  let d := (d.setFld (F.PGN_STAT.CLEAR_PENDING k) 1).inc (F.PGN_TRIP_CNT.CLEARS k)
  d.clear .ssoFeedback (.pg k)

/-- PG_CLEAR: byte 8 names the generator; `origin` and `ref` go into the refusal's record. -/
def Dev.pgClear (d : Dev) (k origin ref : Nat) : Dev × Done :=
  if 64 ≤ k then (d, .badParam)
  else if !d.part.hasPg k then (d, .absent)
  else
    let d := d.pgShow k
    let det := d.pgClearRefusal k
    if det = 0 then (d.pgAccept k, .ok)
    else
      let d := (d.setFld (F.PGN_FLAG.CLEAR_REFUSED k) 1).inc (F.PGN_TRIP_CNT.REFUSALS k)
      (d.raise .pgClearRefused (.pg k) (payR 3 det origin ref), .refused det)

/-! ### Readback of status outputs (R320, R321, R327) -/

/-- FB_PERIODS disagreeing verdicts: SSO_FEEDBACK, and the output is forced static low at once. -/
def Dev.ssoForce (d : Dev) (n : Nat) : Dev :=
  let k := 48 + n
  let level := d.fld (F.PGN_SSO_STAT.LEVEL n)
  let d := d.fault .ssoFeedback (.pg k) 0 (Src.sec (d.ssoCfg n (F.PGN_SSO_CFG.SECTION n))).enc (leBytes 1 level)
  let d := (d.setFld (F.PGN_SSO_STAT.FEEDBACK n) 1).setFld (F.PGN_SSO_STAT.FORCED n) 1
  let d := (d.pgLow k).modSso n (fun s => { s with agree := 0 })
  ((d.setFld (F.PGN_SSO_STAT.LEVEL n) 3).ssoLoad n 3).pgShow k

/-- A whole verdict of the readback monitor of a status output; the tag is the MODE of its period. -/
def Dev.ssoVerdict (d : Dev) (n : Nat) (v : Verdict) : Dev :=
  let mode := v.tag
  let b (i : Nat) : Bool := v.bits.testBit i
  let bad := d.winFaulted (96 + n) || (if mode = 1 then b 0 || b 2 || b 4 || b 6 else (!b 8 && !b 1) || (!b 9 && !b 7))
  if mode = 0 || !d.pgOn (48 + n) || v.safe || (d.sso n).settleTo.later v.end_ then d
  else if d.on (F.PGN_SSO_STAT.FORCED n) then
    let d := d.modSso n (fun s => { s with agree := if bad then 0 else s.agree + 1 })
    if bad then d.inc (F.PGN_SSO_STAT.MISMATCH n) else d.setFld (F.PGN_SSO_STAT.MISMATCH n) 0
  else if bad then
    let d := d.inc (F.PGN_SSO_STAT.MISMATCH n)
    if d.ssoCfg n (F.PGN_SSO_CFG.FB_PERIODS n) ≤ d.fld (F.PGN_SSO_STAT.MISMATCH n) then d.ssoForce n else d
  else d.setFld (F.PGN_SSO_STAT.MISMATCH n) 0

/-! ### Configuration (R328 to R330) -/

/-- The generator passes the check of R328. -/
def Dev.pgConfigOk (d : Dev) (k : Nat) : Bool :=
  let n := k - 48
  let mode := d.fld (F.PGN_SSO_CFG.MODE n)
  let wm := 112 + d.fld (F.PGN_CFG.SYNC_WM k)
  let fs := d.fld (F.PGN_SSO_LOOP.FS_CODE n)
  let tol := d.fld (F.PGN_SSO_LOOP.TOL n)
  -- in FREQ and PWIDTH the periods are those of Table PGN-5 (R318)
  let period := if k < 48 ∨ mode < 2 then d.fld (F.PGN_PERIOD.PERIOD k)
    else if mode = 2 then 200000000 / max (d.fld (F.PGN_SSO_FREQ.F_CLEAR_HZ n)) (d.fld (F.PGN_SSO_FREQ.F_OCC_HZ n)) else 1000000
  d.fld (F.PGN_DEAD.DT_ON k) + d.fld (F.PGN_DEAD.DT_OFF k) + 2 * d.fld (F.PGN_MINP.MIN_PULSE k) ≤ period
    && (!d.on (F.PGN_CFG.VEN_GATE k) || d.part.hasVen (d.fld (F.PGN_CFG.VEN_SEL k)))
    && (!d.on (F.PGN_CFG.SYNC_EN k) || (d.winOn wm && !d.nsEntry (24 + d.fld (F.PGN_CFG.SYNC_WM k))))
    && (k < 48 || (d.secEnabled (d.fld (F.PGN_SSO_CFG.SECTION n))
      && (mode ≠ 2 || 5 * d.fld (F.PGN_SSO_FREQ.F_OCC_HZ n) ≤ 4 * d.fld (F.PGN_SSO_FREQ.F_CLEAR_HZ n))
      && (mode ≠ 1 || (8 * tol < fs && fs + tol ≤ 1023))))

/-- The generator starts afresh: it waits for its first boundary. -/
def Dev.pgFresh (d : Dev) (k : Nat) : Dev :=
  let d := d.pgLow k
  let g := d.gen k
  let d := { d with gens := tabPut {} d.gens k { req := g.req, reqTag := g.reqTag, evAt := g.evAt } }
  let d := if 48 ≤ k then
      ({ d with ssos := tabDel d.ssos (k - 48) }).setFld (F.PGN_SSO_STAT.LEVEL (k - 48)) 3
    else d
  d.setReg .pgn (F.PGN_STAT.STATE k).off 0

/-- Judge an enabled generator: PG_CONFIG holds it with both outputs low; a pass leaves the hold (R328, R538). -/
def Dev.pgJudge (d : Dev) (k : Nat) : Dev :=
  if !d.on (F.PGN_CFG.ENABLE k) then (d.clear .pgConfig (.pg k)).pgFresh k
  else if d.pgConfigOk k then
    if d.has .pgConfig (.pg k) then (d.clear .pgConfig (.pg k)).pgFresh k else d
  else if d.has .pgConfig (.pg k) then d
  else
    let d := (d.pgFresh k |>.setFld (F.PGN_FLAG.CONFIG k) 1).fault .pgConfig (.pg k) 0 (pgServes k).enc
    if k < 48 then d.egFurther 2 k else d

/-- ENABLE is written 1. -/
def Dev.pgStart (d : Dev) (k : Nat) : Dev := (d.clear .pgConfig (.pg k)).pgFresh k |>.pgJudge k

end Sys2Proof.Machine
end

