-- ==== Sys2Proof/Machine/Lamps.lean ====
section
/-! DEFINITION. Machine/Lamps.lean: lamp channels, signals and aspects, supervision, proving and cross connections, changeover and
re-arm, dependency rules, LAMP_STRING (chapter 13; R13, R35). -/

namespace Sys2Proof.Machine

def Dev.lamp (d : Dev) (k : Nat) : LampSt := tabGet {} d.lamps k
def Dev.modLamp (d : Dev) (k : Nat) (f : LampSt → LampSt) : Dev := { d with lamps := tabMod {} d.lamps k f }

def Dev.lampOn (d : Dev) (k : Nat) : Bool := d.on (F.LMP_CFG.ENABLE k)
def Dev.lampList (d : Dev) : List Nat := (List.range 48).filter d.lampOn
def Dev.lampState (d : Dev) (k : Nat) : Nat := d.fld (F.LMP_STAT.STATE k)
/-- In service, LAMP_STRING included: the lamp drives and is supervised (R353). -/
def Dev.lampServes (d : Dev) (k : Nat) : Bool := d.lampState k = 1 || d.lampState k = 3
def Dev.sigOn (d : Dev) (s : Nat) : Bool := d.on (F.LMP_SIG_CFG.ENABLE s)
def Dev.sigList (d : Dev) : List Nat := (List.range 16).filter d.sigOn

/-- The enabled lamps at a position of a signal: the main lamps, or the standby lamps (R331). -/
def Dev.lampsAt (d : Dev) (s p : Nat) (standby : Bool) : List Nat :=
  d.lampList.filter (fun k => d.fld (F.LMP_CFG.SIGNAL k) = s && d.fld (F.LMP_CFG.POS k) = p && d.on (F.LMP_CFG.STANDBY k) = standby)

/-- The position is LOST: its main lamp is out of service and it has no standby in service (R346). -/
def Dev.posLost (d : Dev) (s p : Nat) : Bool :=
  (d.lampsAt s p false).any (fun k => !d.lampServes k) && !(d.lampsAt s p true).any d.lampServes

/-- The LOST positions of a signal as a mask. -/
def Dev.lostMask (d : Dev) (s : Nat) : Nat := (List.range 6).foldl (fun a p => if d.posLost s p then a + 2 ^ p else a) 0

/-- The lamp drives its position: the main while in service, otherwise the standby while in service. -/
def Dev.lampDrives (d : Dev) (k : Nat) : Bool :=
  d.lampServes k && (!d.on (F.LMP_CFG.STANDBY k)
    || !(d.lampsAt (d.fld (F.LMP_CFG.SIGNAL k)) (d.fld (F.LMP_CFG.POS k)) false).any d.lampServes)

/-! ### Publication (R352) -/

/-- The stamp of the lamp decisions of this command: that of the phase whose verdict decided them, or now (R11, R341). -/
def Dev.decided (d : Dev) : Stamp := d.decAt.getD d.now

/-- The LAMP_STATUS payload (Table KVT-5). -/
def lampStatusPayload (d : Dev) (enc : Nat → Nat → List Byte) (s : Nat) : List Byte :=
  let pos := List.range 6
  let mask (f : Nat → Bool) : Nat := pos.foldl (fun a p => if f p then a + 2 ^ p else a) 0
  let st (standby : Bool) (p v : Nat) : Bool := (d.lampsAt s p standby).any (fun k => d.lampState k = v)
  let flags := d.fld (F.LMP_SIG_STAT.DARK s) + 2 * d.fld (F.LMP_SIG_STAT.CAPPED s) + 4 * d.fld (F.LMP_SIG_STAT.FLASH_ON s)
  leBytes 1 s ++ leBytes 1 (d.fld (F.LMP_SIG_STAT.SHOWN s)) ++ leBytes 1 (d.fld (F.LMP_SIG_STAT.REASON s)) ++ leBytes 1 flags
    ++ leBytes 1 (d.lostMask s) ++ leBytes 1 (mask (fun p => st false p 3 || st true p 3))
    ++ enc 2 (mask (fun p => st false p 2) + 256 * mask (fun p => st true p 2)) ++ enc 6 d.decided.toNat ++ enc 2 0

/-- LAMP_STATUS of a signal: event record, decision record, and the partners that PUB_SIG names. -/
def Dev.lampStatus (d : Dev) (s : Nat) : Dev :=
  let d := d.raiseAt d.decided .lampStatus (.sig s) (evClass .lampStatus) (lampStatusPayload d leBytes s)
  let d := d.decideAt d.decided (evCode .lampStatus) (.sig s) (lampStatusPayload d beBytes s)
  d.kvtPublish (fun p => d.bitOf (F.KVT_PUB_SIG.SIGNALS p) s) 9 (lampStatusPayload d beBytes s)

/-- The signal has a change to publish. -/
def Dev.sigTouch (d : Dev) (s : Nat) : Dev := { d with sigDirty := setMask d.sigDirty s true }

/-- The ASPECT_FALLBACK message of a remote rule (R350). -/
def Dev.sendFallback (d : Dev) (r : Nat) : Dev :=
  d.kvtSend (d.fld (F.LMP_RULE.PORT r)) 8
    (leBytes 1 r ++ leBytes 1 (d.fld (F.LMP_RULE.TGT_SIG r)) ++ leBytes 1 (d.fld (F.LMP_RULE_STAT.ACTIVE r)) ++ leBytes 1 0
      ++ beBytes 6 d.decided.toNat ++ beBytes 2 0)

/-! ### Lower codes and counters (R339, R348) -/

/-- The lower code of WM_k becomes DARK_CODE or STRING_CODE; it is loaded where that changes it (R333). -/
def Dev.lampThr (d : Dev) (k : Nat) (dark : Bool) : Dev :=
  let dark := dark || !d.on (F.LMP_CFG.STRINGS2 k)
  let d := d.setBit (F.LMP_STAT.DARK_THR k) dark
  let code := if dark then d.fld (F.LMP_THR.DARK_CODE k) else d.fld (F.LMP_THR.STRING_CODE k)
  if (d.winThr k).2 = code then d else d.winLoad k (d.winThr k).1 code

/-- DARK_CODE or STRING_CODE of an enabled lamp has been written, or STRINGS2: the lower code follows the latest class (R339). -/
def Dev.lampRecode (d : Dev) (k : Nat) : Dev :=
  if d.lampOn k then d.lampThr k (d.fld (F.LMP_STAT.CLASS k) = 2 || d.fld (F.LMP_STAT.CLASS k) = 3) else d

/-- A lamp enters service with its counters cleared (R348, R362). -/
def Dev.lampClear (d : Dev) (k : Nat) : Dev :=
  let d := (d.setFld (F.LMP_STAT.DARK_CNT k) 0).setFld (F.LMP_STAT.GHOST_CNT k) 0
  let d := (d.setFld (F.LMP_STAT.HALF_CNT k) 0).setFld (F.LMP_STAT.CLASS k) 0
  (d.modLamp k (fun l => { l with good := 0 })).lampThr k false

/-! ### Faults of lamps (R340 to R345) -/

/-- The sticky flag of a lamp fault. -/
def lampFlag (k : Nat) : Ev → Fld
  | .lampDark => F.LMP_FLAG.DARK k | .lampGhost => F.LMP_FLAG.GHOST k | .lampShortSupply => F.LMP_FLAG.SHORT_SUPPLY k
  | .lampOvercurrent => F.LMP_FLAG.OVERCURRENT k | .lampCross => F.LMP_FLAG.CROSS k | .lampString => F.LMP_FLAG.STRING k
  | _ => F.LMP_FLAG.CONFIG k

/-- Position and standby bytes of a lamp fault's record. -/
def lampDetail (d : Dev) (k : Nat) : List Byte := leBytes 1 (d.fld (F.LMP_CFG.POS k)) ++ leBytes 1 (d.fld (F.LMP_CFG.STANDBY k))

/-- Content of the decision record of an F event: bytes 12 to 27 in network byte order. -/
def decF (d : Dev) (cls related : Nat) (detail : List Byte) : List Byte :=
  leBytes 1 cls ++ leBytes 1 (d.fld F.FLT_STATE.F3_GROUPS) ++ beBytes 2 related ++ detail

/-- A lamp takes a fault at the stamp of its decision (R341): it leaves service, its Endgame ends under R41. -/
def Dev.lampBlame (d : Dev) (k : Nat) (ev : Ev) (st : Stamp) (related : Nat) : Dev :=
  if d.has ev (.lamp k) then d
  else
    let det := lampDetail d k
    let d := (d.setFld (lampFlag k ev) 1).keep ⟨ev, .lamp k, 0, 1, 0⟩
    let d := d.raiseAt st ev (.lamp k) 1 (payF d 1 related det)
    (d.decideAt st (evCode ev) (.lamp k) (decF d 1 related det)).egFurther 2 k

/-- The same for a lamp in service; one out of service takes none. -/
def Dev.lampFault (d : Dev) (k : Nat) (ev : Ev) (st : Stamp) (related : Nat) : Dev :=
  if d.lampServes k then d.lampBlame k ev st related else d

/-- The signal of a lamp as a related object. -/
def lampSig (d : Dev) (k : Nat) : Nat := (Src.sig (d.fld (F.LMP_CFG.SIGNAL k))).enc

/-- LAMP_CROSS on the lamp that proved, in service still or not, and the one that answered (R344). -/
def Dev.lampCross (d : Dev) (x y : Nat) (st : Stamp) : Dev :=
  let d := (d.setFld (F.LMP_STAT.CROSS_WITH x) y).setFld (F.LMP_STAT.CROSS_WITH y) x
  (d.lampBlame x .lampCross st (Src.lamp y).enc).lampFault y .lampCross st (Src.lamp x).enc

/-- The lamps whose proving pulse is in progress. -/
def Dev.provers (d : Dev) (but : Nat) : List Nat := d.lampList.filter (fun x => x ≠ but && (d.gen x).tag.testBit 1)

/-- PG_k of a lamp was tripped by the monitors `ms` (R342, R344): the node monitor is judged before the current monitor. -/
def Dev.lampTripped (d : Dev) (k : Nat) (ms : List Nat) : Dev :=
  if 48 + k ∈ ms then
    match d.provers k with
    | x :: _ => d.lampCross x k d.now
    | [] => (d.lampFault k .lampShortSupply d.now (lampSig d k)).modLamp k (fun l => { l with shortAt := some d.now })
  else if k ∈ ms then d.lampFault k .lampOvercurrent d.now (lampSig d k)
  else d

/-- The trips since the last evaluation reach the lamps. -/
def Dev.lampTrips (d : Dev) : Dev :=
  forL d.tripq (fun (k, ms) d => if k < 48 && d.lampOn k && d.lampServes k then d.lampTripped k ms else d) { d with tripq := [] }

/-! ### Period classes (Table LMP-5, R340, R353) -/

/-- The lit class of a period: 1 FULL, 2 LOW, 3 DARK, 4 HALF. -/
def litClass (strings2 darkThr allLow : Bool) : Nat :=
  if !strings2 then (if allLow then 3 else 1)
  else if darkThr then (if allLow then 3 else 4)
  else if allLow then 2 else 1

/-- The cause of LAMP_STRING has gone after STRING_CONFIRM FULL periods in a row with HALF_CNT 0 (R353), for a slot that
has resumed too (R50). -/
def Dev.lampGood (d : Dev) (k cls : Nat) : Dev :=
  let d := d.modLamp k (fun l => { l with good := if cls = 1 then l.good + 1 else 0 })
  if (d.lamp k).good = d.fld (F.LMP_SUP.STRING_CONFIRM k) && (d.egFind 2 k).isSome then
    (d.clear .lampString (.lamp k)).egGone 2 k
  else d

/-- The ON part of a verdict of WM_k: the lit class of the period. A lamp out of service has its periods classed, and takes no fault. -/
def Dev.lampLit (d : Dev) (k : Nat) (v : Verdict) : Dev :=
  if v.safe || v.bits.testBit 8 then d
  else
    let two := d.on (F.LMP_CFG.STRINGS2 k)
    let cls := litClass two (v.tag.testBit 3) (v.bits.testBit 3)
    let d := d.setFld (F.LMP_STAT.CLASS k) cls
    let d := if cls = 2 ∨ cls = 3 then d.inc (F.LMP_STAT.DARK_CNT k) else d.setFld (F.LMP_STAT.DARK_CNT k) 0
    let d := if cls = 4 then d.inc (F.LMP_STAT.HALF_CNT k) else if cls = 1 then d.setFld (F.LMP_STAT.HALF_CNT k) 0 else d
    let d := d.lampGood k cls
    let d := if two then d.lampThr k (cls = 2 || cls = 3) else d
    if cls = 3 ∧ d.fld (F.LMP_SUP.DARK_CONFIRM k) ≤ d.fld (F.LMP_STAT.DARK_CNT k) then d.lampFault k .lampDark v.end_ (lampSig d k)
    else if cls = 4 ∧ d.lampServes k ∧ d.fld (F.LMP_SUP.STRING_CONFIRM k) ≤ d.fld (F.LMP_STAT.HALF_CNT k) ∧ !d.has .lampString (.lamp k) then
      (d.setFld (F.LMP_FLAG.STRING k) 1).fault2 .lampString k 0 0 (lampSig d k) (lampDetail d k) true v.end_
    else d

/-- The whole verdict of WM_k: the unlit class of the period. -/
def Dev.lampUnlit (d : Dev) (k : Nat) (v : Verdict) : Dev :=
  if v.safe || !v.tag.testBit 2 || v.bits.testBit 9 then d
  else if v.bits.testBit 7 then d.setFld (F.LMP_STAT.GHOST_CNT k) 0
  else
    let d := d.inc (F.LMP_STAT.GHOST_CNT k)
    if d.fld (F.LMP_SUP.GHOST_CONFIRM k) ≤ d.fld (F.LMP_STAT.GHOST_CNT k) then d.lampFault k .lampGhost v.end_ (lampSig d k) else d

/-- The proving pulse of lamp `x` overlaps the period from `a` to `b`. -/
def Dev.pulseMeets (d : Dev) (x : Nat) (a b : Stamp) : Bool := match (d.gen x).pulse with
  | some (p, none) => b.later p
  | some (p, some q) => b.later p && q.later a
  | none => false

/-- The whole verdict of WM_(48 + k): the lamp's answer to another's proving pulse (R344). -/
def Dev.lampNode (d : Dev) (k : Nat) (v : Verdict) : Dev :=
  if v.safe || !d.lampServes k || !v.tag.testBit 2 || v.tag.testBit 1 || !(v.bits.testBit 4 || v.bits.testBit 6) then d
  else match d.lampList.find? (fun x => x ≠ k && d.pulseMeets x v.start v.end_) with
    | some x => d.lampCross x k v.end_
    | none => d

/-- A verdict of monitor `m` is stored and delivered (R286, R287). -/
def Dev.verdict (d : Dev) (m : Nat) : Dev := match (d.mon m).due with
  | [] => d
  | v :: r =>
    let d := { d.modMon m (fun s => { s with due := r }) with decAt := some v.end_ }
    let d := if v.whole then d.setFld (F.WIN_STAT.VERDICT m) v.bits else d
    if m < 48 then (if !d.lampOn m then d else if v.whole then d.lampUnlit m v else d.lampLit m v)
    else if m < 96 then (if d.lampOn (m - 48) && v.whole then d.lampNode (m - 48) v else d)
    else if m < 112 then (if v.whole then d.ssoVerdict (m - 96) v else d)
    else d

/-! ### Lamp states, changeover (R345, R346) -/

/-- The state a lamp is in by its causes (Table LMP-13, R353). -/
def Dev.lampStateOf (d : Dev) (k : Nat) : Nat :=
  if !d.lampOn k then 0
  else if d.causes.any (fun c => c.src = Src.lamp k && c.cls = 1) || d.has .pgConfig (.pg k)
      || d.has .winConfig (.wm k) || d.has .winConfig (.wm (48 + k)) then 2
  else if (d.egFind 2 k).isSome then 3
  else 1

/-- A monitor of the lamp that has failed its checks puts the lamp into its F1 state, until it is re-armed (R300, R301): the cause
stands under WIN_SELFTEST_FAIL with the lamp as its object. -/
def Dev.lampMonitors (d : Dev) (k : Nat) : Dev :=
  let bad (m : Nat) : Bool := d.has .winSelftestFail (.wm m) || d.has .winDacFail (.wm m)
  if !(bad k || bad (48 + k)) || d.has .winSelftestFail (.lamp k) then d
  else (d.keep ⟨.winSelftestFail, .lamp k, 0, 1, 0⟩).egFurther 2 k

/-- One lamp follows its causes. -/
def Dev.lampEval (d : Dev) (k : Nat) : Dev :=
  let old := d.lampState k
  let new := d.lampStateOf k
  if old = new then d
  else
    let s := d.fld (F.LMP_CFG.SIGNAL k)
    let d := (d.setFld (F.LMP_STAT.STATE k) new).sigTouch s
    let d := if (new = 1 ∨ new = 3) ∧ ¬ (old = 1 ∨ old = 3) then d.lampClear k else d
    if new = 2 then d.modGen k (fun g => { g with prove := 0 }) else d

/-- A main lamp that has left service changes over to its standby in service (R346). -/
def Dev.lampChange (d : Dev) (k : Nat) : Dev :=
  match (d.lampsAt (d.fld (F.LMP_CFG.SIGNAL k)) (d.fld (F.LMP_CFG.POS k)) true).find? d.lampServes with
  | some y =>
    (d.inc (F.LMP_CNT.CHANGEOVERS k)).raiseAt d.decided .lampChangeover (.lamp k) (evClass .lampChangeover) (payF d 0 (Src.lamp y).enc [])
  | none => d

/-- The states of all lamps follow their causes, then the changeovers follow the states (R355). -/
def Dev.lampStates (d : Dev) : Dev :=
  let left := (List.range 48).filter (fun k => d.lampServes k && d.lampStateOf k = 2 && !d.on (F.LMP_CFG.STANDBY k))
  let d := forL ((List.range 48).filter (fun k => d.lampOn k || d.lampState k ≠ 0)) (fun k d => d.lampEval k) d
  forL left (fun k d => d.lampChange k) d

/-! ### Signals (R335 to R338, Table LMP-4) -/

/-- The flash clock is on (R338). -/
def Dev.flashOn (d : Dev) (s : Nat) : Bool :=
  let f := 60000000 / d.fld (F.LMP_SIG_CFG.FLASH_FPM s)
  2 * (d.now.toNat % f) < f

/-- The sections that govern a signal (R13). -/
def Dev.governs (d : Dev) (s : Nat) : List Nat :=
  bitsOf 32 (d.fld (F.LMP_SIG_GOV_LO.GOVERN s)) ++ (bitsOf 32 (d.fld (F.LMP_SIG_GOV_HI.GOVERN s))).map (32 + ·)

/-- The signal is in Endgame scope (Table FLT-4). -/
def Dev.sigScope (d : Dev) (s : Nat) : Bool :=
  d.egExpiry.any (fun e =>
    let c := d.fld (F.FLT_EG_SLOT_A.CAUSE e.1)
    c = 3 || (c = 2 && d.fld (F.LMP_CFG.SIGNAL (d.fld (F.FLT_EG_SLOT_A.OBJECT e.1))) = s))

/-- A rule or a received message forces the signal to aspect 0 (R349, R351). -/
def Dev.sigForced (d : Dev) (s : Nat) : Bool :=
  d.forced.any (fun f => f.1 = s)
    || (List.range 64).any (fun r => d.on (F.LMP_RULE_STAT.ACTIVE r) && !d.on (F.LMP_RULE.REMOTE r) && d.fld (F.LMP_RULE.TGT_SIG r) = s)

/-- A safety function whose action selects the signal is not in RUN (R382). -/
def Dev.fbHoldsSig (d : Dev) (s : Nat) : Bool :=
  (List.range 16).any (fun f => d.on (F.SAF_FB_CFG.ENABLE f) && d.fld (F.SAF_FB_STAT.STATE f) ≠ 1 && d.bitOf (F.SAF_FB_ACT.SIG f) s)

/-- What a signal shows: reason, aspect, dark, capped (Table LMP-4). -/
def Dev.sigShows (d : Dev) (s : Nat) : Nat × Nat × Bool × Bool :=
  let lost := d.lostMask s
  let lit (a : Nat) : Nat := d.fld (F.LMP_SIG_ASP.LIT s a)
  let req := d.fld (F.LMP_SIG_STAT.REQUESTED s)
  let gov := d.governs s
  let restricted := d.sigScope s || gov.any (fun i => d.secState i = 4)
  let shown := if restricted then min req (d.fld (F.LMP_SIG_CFG.CAP_ASPECT s)) else req
  if 4 ≤ d.fld F.FLT_STATE.DEV_STATE then (1, 0, true, false)
  else if d.has .sigConfig (.sig s) then (2, 0, true, false)
  else if lit 0 &&& lost ≠ 0 then (3, 0, true, false)
  else if d.on F.BOT_STATUS.COMMISSIONING then (4, 0, false, false)
  else if d.underF3 (d.fld (F.FLT_FG_SIG.GROUP (s / 8) (s % 8))) || d.causes.any (fun c => c.src = Src.sig s && c.cls = 1) || d.fbHoldsSig s then (5, 0, false, false)
  else if gov.any (fun i => !d.secFree i) then (6, 0, false, false)
  else if d.sigForced s then (7, 0, false, false)
  else if lit shown &&& lost ≠ 0 then (8, 0, false, false)
  else if restricted then (9, shown, false, Decidable.decide (shown < req))
  else (0, req, false, false)

/-- Evaluate one enabled signal. -/
def Dev.sigEval (d : Dev) (s : Nat) : Dev :=
  let (reason, shown, dark, capped) := d.sigShows s
  let moved := d.fld (F.LMP_SIG_STAT.SHOWN s) ≠ shown || d.on (F.LMP_SIG_STAT.DARK s) ≠ dark
  let d := (d.setFld (F.LMP_SIG_STAT.SHOWN s) shown).setFld (F.LMP_SIG_STAT.REASON s) reason
  let d := ((d.setBit (F.LMP_SIG_STAT.DARK s) dark).setBit (F.LMP_SIG_STAT.CAPPED s) capped).setBit (F.LMP_SIG_STAT.FLASH_ON s) (d.flashOn s)
  let d := if reason = 3 then d.fault .sigDark (.sig s) 0 0 (leBytes 1 (d.lostMask s)) d.decided
    else if d.fld (F.LMP_SIG_ASP.LIT s 0) &&& d.lostMask s = 0 then d.clear .sigDark (.sig s) else d
  if moved then d.sigTouch s else d

/-- A disabled signal is dark (R361): a change of what it shows is published (R352). -/
def Dev.sigOff (d : Dev) (s : Nat) : Dev :=
  let n := d.setReg .lmp (F.LMP_SIG_STAT.SHOWN s).off (resetAt d.part .lmp (F.LMP_SIG_STAT.SHOWN s).off)
  if d.fld (F.LMP_SIG_STAT.SHOWN s) ≠ n.fld (F.LMP_SIG_STAT.SHOWN s) || d.on (F.LMP_SIG_STAT.DARK s) ≠ n.on (F.LMP_SIG_STAT.DARK s) then n.sigTouch s
  else n

/-! ### On-times (R332, R343, R345, R357, R358) -/

/-- Duty of an aspect in a mode, in SQUALL cycles (Table LMP-1). -/
def litTime (mode period duty : Nat) : Nat := if mode = 0 then duty * period / 1000 else period

/-- The lamp's position is lit by the shown aspect, and by the flash clock where it flashes (R331). -/
def Dev.lampLitNow (d : Dev) (k : Nat) : Bool :=
  let s := d.fld (F.LMP_CFG.SIGNAL k)
  let p := d.fld (F.LMP_CFG.POS k)
  let a := d.fld (F.LMP_SIG_STAT.SHOWN s)
  d.lampDrives k && d.sigOn s && !d.on (F.LMP_SIG_STAT.DARK s) && d.bitOf (F.LMP_SIG_ASP.LIT s a) p
    && (!d.bitOf (F.LMP_SIG_ASP.FLASH s a) p || d.on (F.LMP_SIG_STAT.FLASH_ON s))

/-- The on-time of a proving pulse. -/
def Dev.proveTime (d : Dev) (k : Nat) : Nat := min (2000 * d.fld (F.LMP_CFG.PROVE_US k)) (d.fld (F.PGN_PERIOD.PERIOD k))

/-- Request T of one enabled lamp. -/
def Dev.lampRequest (d : Dev) (k : Nat) : Dev :=
  let s := d.fld (F.LMP_CFG.SIGNAL k)
  let a := d.fld (F.LMP_SIG_STAT.SHOWN s)
  let period := d.fld (F.PGN_PERIOD.PERIOD k)
  let mode := d.fld (F.LMP_CFG.MODE k)
  let duty := if d.on (F.LMP_SIG_STAT.NIGHT s) then d.fld (F.LMP_SIG_ASP.NIGHT s a) else d.fld (F.LMP_SIG_ASP.DAY s a)
  let (t, tag) :=
    if !d.lampServes k then (0, 4)
    else if d.lampLitNow k then (litTime mode period duty, 1)
    else if 0 < (d.gen k).prove then (d.proveTime k, 3)
    else (if mode = 2 then d.fld (F.LMP_SUP.WARM k) * period / 1000 else 0, 4)
  let d := (d.setBit (F.LMP_STAT.DRIVING k) (d.lampDrives k)).setBit (F.LMP_STAT.LOST k) (d.posLost s (d.fld (F.LMP_CFG.POS k)))
  d.modGen k (fun g => { g with req := t, reqTag := tag, prove := if tag = 1 then 0 else g.prove })

/-- A proving slot (R343): an unlit lamp in service is lit for a few periods from its next boundary. -/
def Dev.provingPulse (d : Dev) (k : Nat) : Dev :=
  let every := d.fld (F.LMP_CFG.PROVE_PERIOD k) * 100000
  if d.lampOn k && d.on (F.LMP_CFG.PROVE_EN k) && d.fld (F.LMP_CFG.MODE k) ≠ 3 && d.lampServes k && !d.lampLitNow k
      && d.now.toNat % every = k * 2000 then
    let period := max 1 (d.fld (F.PGN_PERIOD.PERIOD k))
    let n := (2000 * d.fld (F.LMP_CFG.PROVE_US k) + period - 1) / period
    (d.incWrap (F.LMP_CNT.PROVES k)).modGen k (fun g => { g with prove := n })
  else d

/-! ### Rules (R349, R350) -/

/-- One rule follows its source position. -/
def Dev.ruleEval (d : Dev) (r : Nat) : Dev :=
  let new := d.on (F.LMP_RULE.ENABLE r) && d.posLost (d.fld (F.LMP_RULE.SRC_SIG r)) (d.fld (F.LMP_RULE.SRC_POS r))
  let old := d.on (F.LMP_RULE_STAT.ACTIVE r)
  if new = old then d
  else
    let d := d.setBit (F.LMP_RULE_STAT.ACTIVE r) new
    let d := if new then d.inc (F.LMP_RULE_STAT.ACTIVATIONS r) else d
    if d.on (F.LMP_RULE.REMOTE r) then d.sendFallback r else d

/-- A received ASPECT_FALLBACK (R351): ACTIVE = 1 forces the signal it names, and ACTIVE = 0 releases all that the port and rule have forced. -/
def Dev.fallbackRx (d : Dev) (port rule sig : Nat) (active : Bool) : Dev :=
  let x := (sig, port, rule)
  { d with forced :=
      if active then (if x ∈ d.forced then d.forced else d.forced ++ [x])
      else d.forced.filter (fun f => !(f.2.1 = port && f.2.2 = rule)) }

/-! ### Evaluation (R355) -/

/-- Lamps, changeovers, rules and signals, in the order of R355; then on-times and publication. -/
def Dev.lampEvalAll (d : Dev) : Dev :=
  let d := forL d.lampList (fun k d => d.lampMonitors k) d.lampTrips
  let d := d.lampStates
  let d := forL ((List.range 64).filter (fun r => d.on (F.LMP_RULE.ENABLE r) || d.on (F.LMP_RULE_STAT.ACTIVE r))) (fun r d => d.ruleEval r) d
  let d := forL d.sigList (fun s d => d.sigEval s) d
  let d := forL d.lampList (fun k d => d.lampRequest k) d
  forL (bitsOf 16 d.sigDirty) (fun s d => d.lampStatus s) { d with sigDirty := 0 }

/-! ### Requests and re-arms -/

/-- An aspect request (R335): `interlocking` is its source, `origin` and `ref` go into the refusal's record. Answers the detail. -/
def Dev.aspectRequest (d : Dev) (s aspect : Nat) (night interlocking : Bool) (origin ref : Nat) : Dev × Nat :=
  let src := d.fld (F.LMP_SIG_CFG.REQ_SRC s)
  let allowed := src = 2 || (src = 1) = interlocking
  let det :=
    if !d.sigOn s || d.has .sigConfig (.sig s) then 1
    else if !allowed then 2
    else if d.fld (F.LMP_SIG_CFG.TOP_ASPECT s) < aspect then 3
    else if d.bitOf (F.LMP_SIG_STAT.UNUSABLE s) aspect then 4
    else 0
  if det = 0 then ((d.setFld (F.LMP_SIG_STAT.REQUESTED s) aspect).setBit (F.LMP_SIG_STAT.NIGHT s) night, 0)
  else ((d.setFld (F.LMP_SIG_STAT.REQUESTED s) 0).raise .aspectRefused (.sig s) (payR 1 det origin ref), det)

/-- The interlocking partner's session is lost (R336). -/
def Dev.aspectsLost (d : Dev) : Dev :=
  forL (d.sigList.filter (fun s => d.fld (F.LMP_SIG_CFG.REQ_SRC s) ≠ 0)) (fun s d => d.setFld (F.LMP_SIG_STAT.REQUESTED s) 0) d

/-- The re-arms of the last 3,600 s. -/
def recent (now : Stamp) (l : List Stamp) : List Stamp := l.filter (fun t => now.since t < 3600000000)

/-- The refusal detail of Table LMP-7, or 0. -/
def Dev.rearmRefusal (d : Dev) (k : Nat) : Nat :=
  let short := d.has .lampShortSupply (.lamp k)
  let l := d.lamp k
  if !d.lampOn k || d.has .lmpConfig (.lamp k) || d.lampServes k then 1
  else if 4 ≤ d.fld F.FLT_STATE.DEV_STATE then 2
  else if short && (match l.shortAt with | some t => d.now.since t < 100000 | none => false) then 3
  else if short && 3 ≤ (recent d.now l.rearms).length then 4
  else if d.pgState k = 2 && (d.on (F.PGN_STAT.TRIP_LINE k) || !d.on (F.PGN_STAT.QUIET k)) then 5
  else 0

/-- An accepted re-arm: the causes of the lamp end, its history counts a re-arm after LAMP_SHORT_SUPPLY, its generator's trip clears. -/
def Dev.rearmBegin (d : Dev) (k : Nat) : Dev :=
  let short := d.has .lampShortSupply (.lamp k)
  let d := { d with causes := d.causes.filter (fun c => c.src ≠ Src.lamp k) }
  let d := d.modLamp k (fun l => { l with rearms := if short then recent d.now l.rearms ++ [d.now] else recent d.now l.rearms })
  let d := d.setFld (F.LMP_CNT.REARMS_HOUR k) (min 3 (d.lamp k).rearms.length)
  if d.pgState k = 2 then d.pgAccept k else d

/-- An accepted re-arm (R348): the lamp enters service and LAMP_REARMED is raised. -/
def Dev.rearmAccept (d : Dev) (k origin ref : Nat) : Dev :=
  (((d.rearmBegin k).lampClear k).raise .lampRearmed (.lamp k) (payR 2 0 origin ref)).decide (evCode .lampRearmed) (.lamp k)
    (leBytes 1 2 ++ leBytes 1 0 ++ leBytes 1 origin ++ leBytes 1 0 ++ beBytes 4 ref)

/-- LAMP_REARM (R347, R348). -/
def Dev.lampRearm (d : Dev) (k origin ref : Nat) : Dev × Done :=
  if 48 ≤ k then (d, .badParam)
  else if !d.part.hasLamp k then (d, .absent)
  else
    let d := d.pgShow k
    let det := d.rearmRefusal k
    if det = 0 then (d.rearmAccept k origin ref, .ok)
    else
      let d := d.setFld (F.LMP_FLAG.REARM_REFUSED k) 1
      (d.raise .lampRearmRefused (.lamp k) (payR 2 det origin ref), .refused det)

/-- REARMS_HOUR follows the history. -/
def Dev.rearmsView (d : Dev) : Dev :=
  forL d.lamps (fun e d => d.setFld (F.LMP_CNT.REARMS_HOUR e.1) (min 3 (recent d.now e.2.rearms).length)) d

/-! ### Configuration (R334, R360 to R362) -/

/-- The aspect is unusable for a lamp at a position it lights (R334). -/
def Dev.dutyBad (d : Dev) (k duty : Nat) : Bool :=
  let t := duty * d.fld (F.PGN_PERIOD.PERIOD k) / 1000
  let dt := d.fld (F.PGN_DEAD.DT_ON k)
  d.fld (F.LMP_CFG.MODE k) = 0 && d.fld (F.PGN_CFG.POLICY k) = 0
    && (t < dt + d.fld (F.PGN_MINP.MIN_PULSE k) || t - dt ≤ 4 * (d.fld (F.WIN_BLANK.LEAD k) + d.fld (F.WIN_BLANK.TRAIL k)))

def Dev.aspectBad (d : Dev) (s a : Nat) : Bool :=
  d.lampList.any (fun k => d.fld (F.LMP_CFG.SIGNAL k) = s && d.bitOf (F.LMP_SIG_ASP.LIT s a) (d.fld (F.LMP_CFG.POS k))
    && (d.dutyBad k (d.fld (F.LMP_SIG_ASP.DAY s a)) || d.dutyBad k (d.fld (F.LMP_SIG_ASP.NIGHT s a))))

/-- The monitors and the generator of a lamp are set as Table LMP-2 gives. -/
def Dev.lampSetUp (d : Dev) (k : Nat) : Bool :=
  let grp := d.fld (F.PGN_CFG.TRIP_GRP k)
  let (g1, h1, l1) := d.tripMap k
  let (g2, h2, _) := d.tripMap (48 + k)
  let q := if d.on (F.PGN_CFG.ON_SEL k) then some 1 else if d.on (F.PGN_CFG.COMP_EN k) then some 2 else none
  d.on (F.PGN_CFG.ENABLE k) && d.winOn k && d.winOn (48 + k) && d.on (F.PGN_CFG.TRIP_EN k)
    && d.fld (F.WIN_CFG.LATCH_MODE k) = 1 && d.fld (F.WIN_CFG.QUAL_HI k) = 0 && d.fld (F.WIN_CFG.QUAL_LO k) = 1 && h1 && !l1 && g1 = grp
    && d.fld (F.WIN_CFG.LATCH_MODE (48 + k)) = 1 && h2 && g2 = grp
    && (match q with | some v => d.fld (F.WIN_CFG.QUAL_HI (48 + k)) = v | none => true)

/-- The lamp passes the check of R360. -/
def Dev.lampConfigOk (d : Dev) (k : Nat) : Bool :=
  let mode := d.fld (F.LMP_CFG.MODE k)
  let period := d.fld (F.PGN_PERIOD.PERIOD k)
  let s := d.fld (F.LMP_CFG.SIGNAL k)
  let p := d.fld (F.LMP_CFG.POS k)
  let warm := d.fld (F.LMP_SUP.WARM k)
  d.lampSetUp k
    && (mode ≠ 0 || (5000 ≤ period && period ≤ 1000000))
    && (mode ≠ 3 || d.on (F.PGN_CFG.SYNC_EN k))
    && d.fld (F.LMP_THR.DARK_CODE k) ≠ 0
    && (!d.on (F.LMP_CFG.STRINGS2 k) || d.fld (F.LMP_THR.DARK_CODE k) < d.fld (F.LMP_THR.STRING_CODE k))
    && (mode ≠ 2 || warm = 0 || d.fld (F.PGN_DEAD.DT_ON k) + d.fld (F.PGN_MINP.MIN_PULSE k) ≤ warm * period / 1000)
    && d.sigOn s
    && (!d.on (F.LMP_CFG.STANDBY k) || (d.lampsAt s p false).any (fun m => d.fld (F.LMP_CFG.MODE m) = mode && d.fld (F.PGN_PERIOD.PERIOD m) = period))
    && (d.lampsAt s p false).length ≤ 1 && (d.lampsAt s p true).length ≤ 1

/-- The signal passes the check of R361. -/
def Dev.sigConfigOk (d : Dev) (s : Nat) : Bool :=
  let top := d.fld (F.LMP_SIG_CFG.TOP_ASPECT s)
  let served (mask : Nat) : Bool := (bitsOf 6 mask).all (fun p => d.lampsAt s p false ≠ [])
  d.fld (F.LMP_SIG_ASP.LIT s 0) ≠ 0 && !d.bitOf (F.LMP_SIG_STAT.UNUSABLE s) 0
    && (List.range (top + 1)).all (fun a => served (d.fld (F.LMP_SIG_ASP.LIT s a) ||| d.fld (F.LMP_SIG_ASP.FLASH s a)))
    && d.fld (F.LMP_SIG_CFG.CAP_ASPECT s) ≤ top
    && (d.governs s).all d.secEnabled

/-- Judge a lamp (R360, R538). -/
def Dev.lampJudge (d : Dev) (k : Nat) : Dev :=
  if !d.lampOn k ∨ d.lampConfigOk k then d.clear .lmpConfig (.lamp k)
  else if d.has .lmpConfig (.lamp k) then d
  else ((d.setFld (F.LMP_FLAG.CONFIG k) 1).fault .lmpConfig (.lamp k)).egFurther 2 k

/-- Mark the unusable aspects of a signal, each with its event, and judge it (R334, R361, R538). -/
def Dev.sigJudge (d : Dev) (s : Nat) : Dev :=
  if !d.sigOn s then { d with causes := d.causes.filter (fun c => c.src ≠ Src.sig s) }.sigOff s
  else
    let d := forN 16 (fun a d =>
      let bad := d.aspectBad s a
      let d := d.setBitOf (F.LMP_SIG_STAT.UNUSABLE s) a bad
      if bad then d.fault .lmpDutyUnreachable (.sig s) a 0 (leBytes 1 a) else d.clear .lmpDutyUnreachable (.sig s) a) d
    if d.sigConfigOk s then d.clear .sigConfig (.sig s) else d.fault .sigConfig (.sig s)

/-- A lamp starts in service with its counters cleared (R362); its re-arm history stands. -/
def Dev.lampStart (d : Dev) (k : Nat) : Dev :=
  let d := { d with causes := d.causes.filter (fun c => c.src ≠ Src.lamp k || c.ev = Ev.lampString) }
  (d.lampClear k).lampJudge k

/-- A signal starts with requested aspect 0 and day brightness (R362). -/
def Dev.sigStart (d : Dev) (s : Nat) : Dev :=
  ((d.setFld (F.LMP_SIG_STAT.REQUESTED s) 0).setFld (F.LMP_SIG_STAT.NIGHT s) 0).sigJudge s

end Sys2Proof.Machine
end

