-- ==== Sys2Proof/Machine/Saf.lean ====
section
/-! DEFINITION. Machine/Saf.lean: safety inputs, test pulses, safety functions and safe outputs (chapter 14). -/

namespace Sys2Proof.Machine

def Dev.si (d : Dev) (n : Nat) : SiSt := tabGet {} d.sis n
def Dev.modSi (d : Dev) (n : Nat) (f : SiSt → SiSt) : Dev := { d with sis := tabMod {} d.sis n f }
def Dev.tp (d : Dev) (t : Nat) : TpSt := tabGet {} d.tps t
def Dev.modTp (d : Dev) (t : Nat) (f : TpSt → TpSt) : Dev := { d with tps := tabMod {} d.tps t f }
def Dev.fb (d : Dev) (f : Nat) : FbSt := tabGet {} d.fbs f
def Dev.modFb (d : Dev) (f : Nat) (g : FbSt → FbSt) : Dev := { d with fbs := tabMod {} d.fbs f g }

def Dev.siOn (d : Dev) (n : Nat) : Bool := d.on (F.SAF_SI_CFG.ENABLE n)
def Dev.tpOn (d : Dev) (t : Nat) : Bool := d.on (F.SAF_TP_CFG.ENABLE t)
def Dev.fbOn (d : Dev) (f : Nat) : Bool := d.on (F.SAF_FB_CFG.ENABLE f)
def Dev.soOn (d : Dev) (o : Nat) : Bool := d.on (F.SAF_SO_CFG.ENABLE o)

/-- The filtered level of an input. -/
def Dev.level (d : Dev) (n : Nat) : Bool := d.on (F.SAF_SI_STAT.LEVEL n)

/-! ### Test windows (R366, R368, R391) -/

/-- Length of a window of TP_t: WIDTH_US + ECHO_US. -/
def Dev.tpSpan (d : Dev) (t : Nat) : Nat := d.fld (F.SAF_TP_CFG.WIDTH_US t) + 10 * d.fld (F.SAF_TP_CFG.ECHO_US t)

/-- The phase of sample time in the schedule of TP_t: 0 at a pulse start. -/
def Dev.tpPhase (d : Dev) (t : Nat) (x : Stamp) : Nat :=
  let p := d.fld (F.SAF_TP_CFG.PERIOD_MS t) * 1000
  (x.toNat + p - t * p / 8) % p

/-- A sample at a stamp lies in a window of TP_t. -/
def Dev.inWindow (d : Dev) (t : Nat) (x : Stamp) : Bool := d.tpOn t && d.tpPhase t x < d.tpSpan t

/-- The source of an input. -/
def Dev.siTp (d : Dev) (n : Nat) : Option Nat :=
  let s := d.fld (F.SAF_SI_CFG.TP_SRC n)
  if s = 0 then none else some (s - 1)

/-- The sample at a stamp lies in a window of the input's own source. -/
def Dev.ownWindow (d : Dev) (n : Nat) (x : Stamp) : Bool := match d.siTp n with
  | some t => d.inWindow t x
  | none => false

/-- The window of TP_u that ends now overlaps a window of TP_t. -/
def Dev.windowsMeet (d : Dev) (u t : Nat) : Bool :=
  let since := d.tpPhase u d.now
  let begun : Stamp := d.now - BitVec.ofNat 48 since
  let last : Stamp := begun.plus (d.tpSpan u - 1)
  d.tpOn t && d.tpPhase t last < d.tpSpan t + d.tpSpan u - 1

/-! ### Functions: inputs, causes, conditions -/

def Dev.fbType (d : Dev) (f : Nat) : Nat := d.fld (F.SAF_FB_CFG.TYPE f)

/-- The inputs of a function (Table SAF-3), without its reset input. -/
def Dev.fbInputs (d : Dev) (f : Nat) : List Nat :=
  let a := d.fld (F.SAF_FB_IN.IN_A f)
  let b := d.fld (F.SAF_FB_IN.IN_B f)
  match d.fbType f with
  | 0 => [a, b] | 1 => [a, b] | 3 => [a, b]
  | 2 => [a, b, d.fld (F.SAF_FB_IN.IN_C f), d.fld (F.SAF_FB_IN.IN_D f)]
  | 4 => [a, b, d.fld (F.SAF_FB_IN.IN_C f), d.fld (F.SAF_FB_IN.IN_D f)]
  | _ => []

/-- The reset input of a function whose RST_SI is 1 (R372). -/
def Dev.fbResetIn (d : Dev) (f : Nat) : List Nat := if d.on (F.SAF_FB_CFG.RST_SI f) then [d.fld (F.SAF_FB_CFG.RESET_SI f)] else []

/-- The heads an SLS, SLD or SLP reads (R378 to R380). -/
def Dev.fbHeads (d : Dev) (f : Nat) : List Nat :=
  if d.fbType f = 5 && d.on (F.SAF_FB_CFG.SEC_MODE f) then (d.bounds (d.fld (F.SAF_FB_IN.SECTION f))).map (fun b => b.1)
  else if 5 ≤ d.fbType f then [d.fld (F.SAF_FB_IN.HEAD f)] else []

def Dev.fbState (d : Dev) (f : Nat) : Nat := d.fld (F.SAF_FB_STAT.STATE f)

/-- An input has a fault of R367 or R368, or its source one of R369. -/
def Dev.siFaulty (d : Dev) (n : Nat) : Bool :=
  d.has .siTestpulse (.si n) || d.has .siCross (.si n) || (match d.siTp n with | some t => d.has .tpFault (.tp t) | none => false)

/-- The cause of a function fault is present (Table SAF-6). An SLP whose head has left service keeps one until the head serves again (R380). -/
def Dev.fbFaulty (d : Dev) (f : Nat) : Bool :=
  d.has .fbDiscrepancy (.fb f) 0 || d.has .fbDiscrepancy (.fb f) 1 || d.has .fbOssdNopulse (.fb f) 0 || d.has .fbOssdNopulse (.fb f) 1
    || (d.fbInputs f ++ d.fbResetIn f).any d.siFaulty
    || (d.fbType f = 7 && (d.fb f).frozen && !d.headServes (d.fld (F.SAF_FB_IN.HEAD f)))

/-- Hand `i` (0, 1) of a two-hand function: NO and NC levels. -/
def Dev.hand (d : Dev) (f i : Nat) : Bool × Bool :=
  if i = 0 then (d.level (d.fld (F.SAF_FB_IN.IN_A f)), d.level (d.fld (F.SAF_FB_IN.IN_B f)))
  else (d.level (d.fld (F.SAF_FB_IN.IN_C f)), d.level (d.fld (F.SAF_FB_IN.IN_D f)))

def Dev.pressed (d : Dev) (f i : Nat) : Bool := d.hand f i = (true, false)
def Dev.released (d : Dev) (f i : Nat) : Bool := d.hand f i = (false, true)

/-- A gambit in FORBID_DIR is open on the head of an SLP (R380). -/
def Dev.slpGambit (d : Dev) (f : Nat) : Bool :=
  let h := d.fld (F.SAF_FB_IN.HEAD f)
  d.on (F.SAF_FB_CFG.GAMBIT_USE f) && d.on (F.HED_STATE.GAMBIT_OPEN h) && (d.head h).gDir = d.fld (F.SAF_FB_CFG.FORBID_DIR f)

/-- The demand condition of Table SAF-3. `count` leaves BEYOND out: a frozen count does not refuse the reset that clears it. -/
def Dev.fbDemand (d : Dev) (f : Nat) (count : Bool := true) : Bool :=
  let (a, b) := d.hand f 0
  match d.fbType f with
  | 0 => !a || !b
  | 1 => !a || b
  | 2 => (d.fb f).act.isNone
  | 3 => !a || !b
  | 4 => false
  | 5 => (d.fb f).hold.isSome || (d.fbHeads f).any (fun h => !d.headServes h)
  | 6 => (d.fb f).hold.isSome || (d.fbHeads f).any (fun h => !d.headServes h)
  | _ => (count && 0 < d.fld (F.SAF_FB_STAT.BEYOND f)) || d.slpGambit f

/-- The discrepancy combination of the inputs (`i` = 0) or of a hand (Table SAF-3). -/
def Dev.fbOdd (d : Dev) (f i : Nat) : Bool :=
  let (a, b) := d.hand f i
  match d.fbType f with
  | 0 => i = 0 && a ≠ b
  | 1 => i = 0 && a = b
  | 3 => i = 0 && a ≠ b
  | 2 => a = b
  | 4 => a = b
  | _ => false

/-- The inputs show the demand combination together (Table SAF-2, detail 5). -/
def Dev.fbTogether (d : Dev) (f : Nat) : Bool :=
  let (a, b) := d.hand f 0
  match d.fbType f with
  | 0 => !a && !b
  | 1 => !a && b
  | 3 => !a && !b
  | _ => d.released f 0 && d.released f 1

/-! ### State changes (R371, R382) -/

/-- A function changes its state: FB_DEMAND or FB_STATE, and a decision record. -/
def Dev.fbTo (d : Dev) (f new : Nat) : Dev :=
  let old := d.fbState f
  if old = new then d
  else
    let d := d.setFld (F.SAF_FB_STAT.STATE f) new
    let ev := if new = 2 ∨ new = 4 ∨ new = 5 then Ev.fbDemand else Ev.fbState
    let d := if d.on (F.SAF_FB_CFG.EVT f) then d.raise ev (.fb f) (leBytes 1 new ++ leBytes 1 old) else d
    d.decide (evCode ev) (.fb f) (leBytes 1 new ++ leBytes 1 old)

/-- Head records of the stamp reach an SLS, SLD or SLP, in order (R378 to R380). -/
def Dev.fbRecord (d : Dev) (f : Nat) (r : HeadRec) : Dev :=
  let forbid : Bool := r.dir = d.fld (F.SAF_FB_CFG.FORBID_DIR f)
  let hold (d : Dev) : Dev := d.modFb f (fun s => { s with hold := some (d.now.plus (d.fld (F.SAF_FB_LIM.HOLD_S f) * 1000000)) })
  match d.fbType f with
  | 5 =>
    if r.ev = .headEvent && (r.fast || r.single || 10 * d.fld (F.SAF_FB_LIM.LIMIT f) < r.speed) then hold d else d
  | 6 =>
    if forbid && (r.ev = .gambitConfirm || r.ev = .headEvent || (r.ev = .gambit && d.on (F.SAF_FB_CFG.GAMBIT_USE f))) then hold d else d
  | 7 =>
    if r.ev = .headEvent && !(d.fb f).frozen then
      let n := d.fld (F.SAF_FB_STAT.BEYOND f)
      d.setFld (F.SAF_FB_STAT.BEYOND f) (if forbid then min 255 (n + 1) else n - 1)
    else d
  | _ => d

/-- The record queue reaches the functions. -/
def Dev.fbRecords (d : Dev) : Dev :=
  let q := d.headq
  forL ((List.range 16).filter d.fbOn) (fun f d =>
    if d.fbState f = 6 then d else forL (q.filter (fun r => r.1 ∈ d.fbHeads f)) (fun r d => d.fbRecord f r.2) d) { d with headq := [] }

/-- One hand follows its inputs (R377, R389). -/
def handStep (now : Stamp) (pressed other : Bool) (h : HandSt) : HandSt :=
  let press := if pressed then (match h.press with | some t => some t | none => some now) else none
  if pressed && other then { h with press := press, alone := match h.alone with | some t => some t | none => some now }
  else { press := press }

/-- The two hands of a function follow their inputs: actuation, BLOCKED and release (R377). -/
def Dev.fbHands (d : Dev) (f : Nat) : Dev :=
  let p0 := d.pressed f 0
  let p1 := d.pressed f 1
  let r0 := d.released f 0
  let r1 := d.released f 1
  d.modFb f (fun s =>
    let s := { s with hand0 := handStep d.now p0 r1 s.hand0, hand1 := handStep d.now p1 r0 s.hand1 }
    if r0 && r1 then { s with armed := true, act := none, blocked := false, issued := false }
    else if s.act.isSome && !(p0 && p1) then { s with act := none }
    else if s.armed && p0 && p1 then
      (match s.hand0.press, s.hand1.press with
        | some a, some b =>
          if min (a.since b) (b.since a) ≤ 500000 then { s with armed := false, act := some d.now }
          else { s with armed := false, blocked := true }
        | _, _ => s)
    else s)

/-- The discrepancy timers of a function run while the combination lasts; the cause of FB_DISCREPANCY has gone when the inputs
leave it (R375). -/
def Dev.fbDisc (d : Dev) (f : Nat) : Dev :=
  let t0 := d.fbOdd f 0
  let t1 := d.fbOdd f 1
  let track (b : Bool) (x : Option Stamp) : Option Stamp := if b then (match x with | some t => some t | none => some d.now) else none
  let together := d.fbTogether f
  let d := d.modFb f (fun s => { s with
    disc0 := track t0 s.disc0
    disc1 := track t1 s.disc1
    shown := s.shown || (s.dflag && together) })
  let d := if t0 then d else d.clear .fbDiscrepancy (.fb f) 0
  if t1 then d else d.clear .fbDiscrepancy (.fb f) 1

/-- The state Table SAF-1 and R371 to R381 give a function next. A RESETPANEL, which takes no reset (Table SAF-2, detail 1),
starts in RUN and returns to it when no cause is left. -/
def Dev.fbNext (d : Dev) (f : Nat) : Nat :=
  let st := d.fbState f
  let s := d.fb f
  let t := d.fbType f
  let demand := d.fbDemand f
  if d.has .fbConfig (.fb f) then 6
  else if d.fbFaulty f then 4
  else if t = 4 then (if s.blocked then 5 else 1)
  else if st = 4 then 4
  else if t = 2 then (if s.blocked then 5 else if s.act.isSome then 1 else if st = 0 then 0 else 2)
  else if st = 0 then
    if !demand && (t ≠ 1 || !d.on (F.SAF_FB_CFG.START_CYCLE f) || s.opened) then (if d.on (F.SAF_FB_CFG.START_MAN f) then 3 else 1) else 0
  else if st = 1 then (if demand then 2 else 1)
  else if st = 2 then (if demand then 2 else if d.on (F.SAF_FB_CFG.RESTART_MAN f) then 3 else 1)
  else st

/-- A reset may act on the function: WAIT_RESET, or FAULT whose cause has gone. -/
def Dev.fbWaits (d : Dev) (f : Nat) : Bool := d.fbState f = 3 || (d.fbState f = 4 && !d.fbFaulty f)

/-- Evaluate one enabled function (R383). -/
def Dev.fbEval (d : Dev) (f : Nat) : Dev :=
  let t := d.fbType f
  let d := if t = 2 ∨ t = 4 then d.fbHands f else d
  let d := d.fbDisc f
  let d := if t = 1 && d.fbTogether f then d.modFb f (fun s => { s with opened := true }) else d
  -- the head of an SLP has left service (R380)
  let serves := d.headServes (d.fld (F.SAF_FB_IN.HEAD f))
  let d := if t = 7 then d.modFb f (fun s => { s with served := s.served || serves, frozen := s.frozen || (s.served && !serves) }) else d
  let d := d.fbTo f (d.fbNext f)
  -- a reset held while the function leaves the states it may reset restarts nothing (R372)
  let d := if d.fbWaits f then d else d.modFb f (fun s => { s with elig := false })
  d.setBit (F.SAF_FB_STAT.CAUSE f) (d.fbDemand f || d.fbFaulty f)

/-- Records reach the functions at their stamp; at a tick of 10 µs every enabled function is evaluated, in index order (R12, R383, R388). -/
def Dev.fbEvalAll (d : Dev) : Dev :=
  let d := d.fbRecords
  if d.now.toNat % 10 ≠ 0 then d else forL ((List.range 16).filter d.fbOn) (fun f d => d.fbEval f) d

/-! ### Resets (R372, R373) -/

/-- The refusal detail of Table SAF-2 for a command, or for a reset pulse (`pin`), or 0. -/
def Dev.fbRefusal (d : Dev) (f : Nat) (pin : Bool) : Nat :=
  let st := d.fbState f
  if !d.fbOn f || st = 6 || d.fbType f = 4 || (!pin && !d.on (F.SAF_FB_CFG.RST_FW f)) then 1
  else if 4 ≤ d.fld F.FLT_STATE.DEV_STATE || d.underF3 (d.fld (F.FLT_FG_FB.GROUP (f / 8) (f % 8))) then 2
  else if (st ≠ 3 && st ≠ 4) || (pin && !(d.fb f).elig) then 3
  else if d.fbDemand f (!(d.fb f).frozen) || d.fbFaulty f then 4
  else if st = 4 && (d.fb f).dflag && !(d.fb f).shown then 5
  else 0

/-- Judge a reset: an accepted one brings RUN (R372) and clears BEYOND (R380). Answers the detail. -/
def Dev.fbJudgeReset (d : Dev) (f : Nat) (pin : Bool) (origin ref : Nat) : Dev × Nat :=
  let det := d.fbRefusal f pin
  if det = 0 then
    let d := (d.modFb f (fun s => { s with dflag := false, shown := false, frozen := false })).setFld (F.SAF_FB_STAT.BEYOND f) 0
    (d.fbTo f 1, 0)
  else
    let d := d.setFld (F.SAF_FB_STAT.RESET_REFUSED f) 1
    (d.raise .fbResetRefused (.fb f) (payR 4 det origin ref), det)

/-- FB_RESET: an accepted one also leaves SO_STUCK_OFF of the outputs the function selects (R386). -/
def Dev.fbReset (d : Dev) (f origin ref : Nat) : Dev × Done :=
  if 16 ≤ f then (d, .badParam)
  else match d.fbJudgeReset f false origin ref with
    | (d, 0) => (forL (bitsOf 8 (d.fld (F.SAF_FB_ACT.SO f))) (fun o d => d.clear .soStuckOff (.so o)) d, .ok)
    | (d, det) => (d, .refused det)

/-- A fall of a reset input after a pulse of 100 ms to 5 s resets the functions that name it, in index order (R372). -/
def Dev.resetPulse (d : Dev) (n dur : Nat) : Dev :=
  if 100000 ≤ dur ∧ dur ≤ 5000000 then
    forL ((List.range 16).filter (fun f => d.fbOn f && n ∈ d.fbResetIn f)) (fun f d => (d.fbJudgeReset f true 0 0).1) d
  else d

/-! ### Inputs (R364, R365, R376) -/

/-- The raw level of an input by its voltage in millivolts (Table ELP-4): at its TYPE's ON level or above high, at the OFF level or below low,
between them as it was (R364). -/
def Dev.siRaw (d : Dev) (n : Nat) : Bool :=
  let v := tabGet 0 d.siMv n
  let on : Int := if d.on (F.SAF_SI_CFG.TYPE n) then 11000 else 15000
  if on ≤ v then true else if v ≤ 5000 then false else (d.si n).raw

/-- The latest sample of an input lay in a window of its own source that has ended, and the level has held since: the run of that level began
at the first sample after the window, if that came before now, or has come `atNow` (R365). -/
def Dev.siResume (d : Dev) (n : Nat) (atNow : Bool) : Dev := match d.siTp n with
  | none => d
  | some t =>
    let s := d.si n
    let first := ceilStamp 10 (s.at_.plus (d.tpSpan t - d.tpPhase t s.at_))
    if d.inWindow t s.at_ && s.raw ≠ s.base && (d.now.later first || (atNow && d.now = first)) then
      d.modSi n (fun s => { s with base := s.raw, run := first })
    else d

/-- Filter one sample of an enabled input. -/
def Dev.siSample (d : Dev) (n : Nat) : Dev :=
  let d := d.siResume n false
  let raw := d.siRaw n
  let s := d.si n
  let own := d.ownWindow n d.now
  let filter := d.fld (F.SAF_SI_CFG.FILTER n) * 100
  let level := d.level n
  let s := { s with prev := if s.at_ = d.now then s.prev else s.raw, at_ := d.now, raw := raw }
  let s := { s with lowAt := if raw then s.lowAt else (match s.lowAt with | some t => some t | none => some d.now) }
  let s := if !own && raw ≠ s.base then { s with base := raw, run := d.now } else s
  let change : Bool := !own && raw ≠ level && filter ≤ d.now.since s.run
  let pulsed : Bool := raw && level && (match s.lowAt with | some t => 20 ≤ d.now.since t | none => false)
  let s := if raw then { s with lowAt := none, pulseAt := if pulsed then some d.now else s.pulseAt } else s
  let s := if change && raw then { s with rise := some d.now } else s
  let d := { d with sis := tabPut {} d.sis n s }
  let d := ((d.setBit (F.SAF_SI_STAT.RAW n) raw).setBit (F.SAF_SI_STAT.IN_WINDOW n) own).setBit (F.SAF_SI_STAT.LEVEL n) (if change then raw else level)
  if pulsed then
    forN 16 (fun f d =>
      let d := if n = d.fld (F.SAF_FB_IN.IN_A f) then d.clear .fbOssdNopulse (.fb f) 0 else d
      if n = d.fld (F.SAF_FB_IN.IN_B f) then d.clear .fbOssdNopulse (.fb f) 1 else d) d
  else d

/-- The voltages of safety inputs change, in millivolts; the others hold theirs. -/
def Dev.siLevels (d : Dev) (l : List (Nat × Int)) : Dev := { d with siMv := l.foldl (fun t e => tabPut 0 t e.1 e.2) d.siMv }

/-- The samples of one stamp. The inputs are filtered, the functions evaluated, then reset pulses that ended judged (R388). -/
def Dev.siSamples (d : Dev) : Dev :=
  let list := (List.range 32).filter d.siOn
  let before := d
  let d := forL list (fun n d => d.siSample n) d
  let low := list.foldl (fun m n => if (d.si n).raw then m else m ||| 2 ^ n) 0
  let d := forL ((List.range 8).filter (fun t => (d.tp t).window && d.inWindow t d.now)) (fun t d =>
    d.modTp t (fun s => { s with low := s.low ||| low })) d
  let d := d.fbEvalAll
  forL list (fun n d =>
    if before.level n = d.level n then d
    else if d.level n then
      forL ((List.range 16).filter (fun f => d.fbOn f && n ∈ d.fbResetIn f)) (fun f d =>
        d.modFb f (fun s => { s with elig := d.fbWaits f, stuck := false })) d
    else match (d.si n).rise with
      | some t => (d.resetPulse n (d.now.since t)).modSi n (fun s => { s with rise := none })
      | none => d) d

/-! ### Test pulses (R366 to R370) -/

/-- A pulse of TP_t starts. -/
def Dev.tpStart (d : Dev) (t : Nat) : Dev :=
  if d.tpOn t && d.tpPhase t d.now = 0 then
    let bit (n : Nat) (b : Bool) : Nat := if b then 2 ^ n else 0
    let list := (List.range 32).filter d.siOn
    let before := list.foldl (fun m n => m ||| bit n (if (d.si n).at_ = d.now then (d.si n).prev else (d.si n).raw)) 0
    let low := list.foldl (fun m n => m ||| bit n (!(d.si n).raw)) 0
    let d := d.modTp t (fun s => { s with pulse := true, window := true, before := before, low := low })
    let d := forL (list.filter (fun n => d.siTp n = some t)) (fun n d => d.setBit (F.SAF_SI_STAT.IN_WINDOW n) true) d
    d.setFld (F.SAF_TP_STAT.PIN t) 0
  else d

/-- A TP_FAULT of the source. -/
def Dev.tpFail (d : Dev) (t : Nat) : Dev :=
  let d := d.modTp t (fun s => { s with good := 0 })
  if d.has .tpFault (.tp t) then d
  else ((d.setFld (F.SAF_TP_STAT.FAULT_SEEN t) 1).setFld (F.SAF_TP_STAT.FAULT t) 1).fault .tpFault (.tp t)

/-- A pulse of TP_t ends; `high` says whether its pin read high during it. Three correct pulses in a row end a TP_FAULT. -/
def Dev.tpEnd (d : Dev) (t : Nat) (high : Bool) : Dev :=
  if d.tpOn t && (d.tp t).pulse && d.fld (F.SAF_TP_CFG.WIDTH_US t) ≤ d.tpPhase t d.now then
    let d := (d.modTp t (fun s => { s with pulse := false, good := s.good + 1 })).setFld (F.SAF_TP_STAT.PIN t) 1
    if high then d.tpFail t
    else if 3 ≤ (d.tp t).good then (d.clear .tpFault (.tp t)).setFld (F.SAF_TP_STAT.FAULT t) 0
    else d
  else d

/-- The pin of TP_t has read `level` for `us` microseconds: high during a pulse, or low for 1 ms outside one, is a TP_FAULT (R369). -/
def Dev.tpRead (d : Dev) (t : Nat) (level : Bool) (us : Nat) : Dev :=
  if !d.tpOn t then d
  else
    let d := d.setBit (F.SAF_TP_STAT.PIN t) level
    let pulse := (d.tp t).pulse
    if (level && pulse) || (!level && !pulse && 1000 ≤ us) then d.tpFail t else d

/-- An input is judged at the end of a window of its own source (R367, R370). -/
def Dev.siOwnPulse (d : Dev) (n : Nat) (missed : Bool) : Dev :=
  if missed then
    let d := (d.inc (F.SAF_SI_STAT.MISSED n)).modSi n (fun s => { s with missed := s.missed + 1, good := 0 })
    if 2 ≤ (d.si n).missed ∧ !d.has .siTestpulse (.si n) then (d.setFld (F.SAF_SI_STAT.TESTPULSE n) 1).fault .siTestpulse (.si n) else d
  else
    let d := d.modSi n (fun s => { s with missed := 0, good := s.good + 1 })
    if 3 ≤ (d.si n).good then (d.clear .siTestpulse (.si n)).clear .siCross (.si n) else d

/-- An input reads a cross in a window of TP_u (R368). -/
def Dev.siCrossed (d : Dev) (n u : Nat) : Dev :=
  let d := d.modSi n (fun s => { s with good := 0 })
  if d.has .siCross (.si n) then d
  else (d.setFld (F.SAF_SI_STAT.CROSS n) 1).fault .siCross (.si n) 0 (Src.tp u).enc

/-- A window of TP_t has ended; the sample of this stamp is the first after it. -/
def Dev.tpWindowEnd (d : Dev) (t : Nat) : Dev :=
  let w := d.tp t
  if d.tpOn t && w.window && d.tpSpan t ≤ d.tpPhase t d.now then
    let d := d.modTp t (fun s => { s with window := false })
    forL ((List.range 32).filter d.siOn) (fun n d =>
      match d.siTp n with
      | none => d
      | some own =>
        if own = t then ((d.siResume n true).setFld (F.SAF_SI_STAT.IN_WINDOW n) 0).siOwnPulse n (w.before.testBit n && !w.low.testBit n)
        else if w.before.testBit n && w.low.testBit n && (d.si n).raw && !d.windowsMeet t own then d.siCrossed n t
        else d) d
  else d

/-! ### Function timers -/

/-- A discrepancy has lasted DISC_MS (R375). -/
def Dev.fbDiscrepancy (d : Dev) (f : Nat) : Dev :=
  let due (x : Option Stamp) : Bool := match x with
    | some t => d.fld (F.SAF_FB_TIME.DISC_MS f) * 1000 ≤ d.now.since t
    | none => false
  if d.fbOn f && d.fbState f ≠ 6 then
    let hit (i : Nat) (x : Option Stamp) (d : Dev) : Dev :=
      if due x && !d.has .fbDiscrepancy (.fb f) i then
        ((d.setFld (F.SAF_FB_STAT.DISCREPANCY f) 1).fault .fbDiscrepancy (.fb f) i).modFb f (fun s => { s with dflag := true, shown := false })
      else d
    hit 1 (d.fb f).disc1 (hit 0 (d.fb f).disc0 d)
  else d

/-- An OSSD input has shown no pulse for OSSD_CHECK_S, since its latest one or since the function started (R376). -/
def Dev.fbNoPulse (d : Dev) (f : Nat) : Dev :=
  let lim := d.fld (F.SAF_FB_LIM.OSSD_CHECK_S f) * 1000000
  if d.fbOn f && d.fbState f ≠ 6 && d.fbType f = 3 && d.on (F.SAF_FB_CFG.OSSD_CHECK f) then
    let hit (i n : Nat) (d : Dev) : Dev :=
      let old (x : Option Stamp) : Bool := match x with
        | some t => lim ≤ d.now.since t
        | none => true
      if old (d.si n).pulseAt && old (d.fb f).begun && !d.has .fbOssdNopulse (.fb f) i then
        (d.setFld (F.SAF_FB_STAT.OSSD_NOPULSE f) 1).fault .fbOssdNopulse (.fb f) i
      else d
    hit 1 (d.fld (F.SAF_FB_IN.IN_B f)) (hit 0 (d.fld (F.SAF_FB_IN.IN_A f)) d)
  else d

/-- A RESETPANEL actuated for PANEL_HOLD issues one authorisation (R381). -/
def Dev.fbPanel (d : Dev) (f : Nat) : Dev := match (d.fb f).act with
  | some t =>
    if d.fbOn f && d.fbType f = 4 && d.fbState f = 1 && !(d.fb f).issued && d.fld (F.SAF_FB_TIME.PANEL_HOLD f) * 10000 ≤ d.now.since t then
      d.modFb f (fun s => { s with issued := true, auth := some d.now })
    else d
  | none => d

/-- The sections judge a panel's authorisation at a tick after the stamp at which it completed (R264, R277); a disabled section that names the
panel refuses it with detail 1 (Table SEC-4). -/
def Dev.panelAuthorise (d : Dev) (f : Nat) : Dev := match (d.fb f).auth with
  | some t =>
    if d.now.later t then
      let d := d.modFb f (fun s => { s with auth := none })
      forL ((List.range 64).filter (fun i => d.on (F.SEC_RESET.AUTH_PANEL i) && d.fld (F.SEC_RESET.PANEL_FB i) = f)) (fun i d =>
        (d.secAuthorise i (d.fld (F.SEC_RESET.PANEL_PROC i)) 1 true 0x81 0).1) d
    else d
  | none => d

/-- HOLD_S of an SLS or SLD has run out (R378, R379). -/
def Dev.fbHoldEnd (d : Dev) (f : Nat) : Dev := match (d.fb f).hold with
  | some t => if d.now.reached t then d.modFb f (fun s => { s with hold := none }) else d
  | none => d

/-- A reset input has been high for more than 5 s: the pulse is ignored (R372). -/
def Dev.fbResetStuck (d : Dev) (f : Nat) : Dev :=
  forL (d.fbResetIn f) (fun n d => match (d.si n).rise with
    | some t =>
      if d.fbOn f && d.level n && 5000000 < d.now.since t && !(d.fb f).stuck then
        ((d.modFb f (fun s => { s with stuck := true })).setFld (F.SAF_FB_STAT.RESET_STUCK f) 1).note .fbResetStuck (.fb f) 0 (leBytes 1 n)
      else d
    | none => d) d

/-- A hand has been pressed alone for STUCK_S (R389). -/
def Dev.fbButtonStuck (d : Dev) (f : Nat) : Dev :=
  let lim := d.fld (F.SAF_FB_TIME.STUCK_S f) * 1000000
  let due (h : HandSt) : Bool := !h.told && (match h.alone with | some t => lim ≤ d.now.since t | none => false)
  let tell (i : Nat) (d : Dev) : Dev := (d.setFld (F.SAF_FB_STAT.BUTTON_STUCK f) 1).note .fbButtonStuck (.fb f) 0 (leBytes 1 i)
  if d.fbOn f && (d.fbType f = 2 || d.fbType f = 4) then
    let s := d.fb f
    let d := if due s.hand0 then (tell 0 d).modFb f (fun s => { s with hand0 := { s.hand0 with told := true } }) else d
    if due s.hand1 then (tell 1 d).modFb f (fun s => { s with hand1 := { s.hand1 with told := true } }) else d
  else d

/-! ### Safe outputs (R385, R386, R393) -/

/-- The enabled functions that select an output and are not in RUN. -/
def Dev.soBlockers (d : Dev) (o : Nat) : Nat :=
  (List.range 16).foldl (fun m f => if d.fbOn f && d.bitOf (F.SAF_FB_ACT.SO f) o && d.fbState f ≠ 1 then m ||| 2 ^ f else m) 0

/-- The output is forced off (R386, R393). -/
def Dev.soForced (d : Dev) (o : Nat) : Bool := d.has .soStuckOff (.so o) || d.has .soConfig (.so o)

/-- SO_n is commanded on (R385; R123 and R394 in commissioning and during boot). -/
def Dev.soCmd (d : Dev) (o : Nat) : Bool :=
  d.soOn o && !d.soForced o && d.soBlockers o = 0 && !d.underF3 (d.fld (F.FLT_FG_SO.GROUP o)) && !d.safeLine
    && d.boot.started && !d.on F.BOT_STATUS.COMMISSIONING
    && (!d.on (F.SAF_SO_CFG.VEN_GATE o) || d.venOut.testBit (d.fld (F.SAF_SO_CFG.VEN_SEL o)))

/-- The filtered feedback of SO_n follows its raw level once that has held for 1 ms (R386); SO_FEEDBACK's cause goes once it reads low. -/
def Dev.soFilter (d : Dev) (o : Nat) : Dev :=
  let x := tabGet (false, 0) d.soFb o
  if x.1 = d.on (F.SAF_SO_STAT.FB o) || d.now.since x.2 < 1000 then d
  else
    let d := d.setBit (F.SAF_SO_STAT.FB o) x.1
    if x.1 then d else d.clear .soFeedback (.so o)

/-- The raw level of a feedback input is read. -/
def Dev.soRead (d : Dev) (o : Nat) (level : Bool) : Dev :=
  let d := d.soFilter o
  if (tabGet (false, 0) d.soFb o).1 = level then d else { d with soFb := tabPut (false, 0) d.soFb o (level, d.now) }

/-- Command one safe output. -/
def Dev.soEval (d : Dev) (o : Nat) : Dev :=
  let d := d.soFilter o
  let cmd := d.soCmd o
  let old := d.on (F.SAF_SO_STAT.CMD o)
  let d := (d.setFld (F.SAF_SO_STAT.BLOCKERS o) (d.soBlockers o)).setBit (F.SAF_SO_STAT.FORCED o) (d.soForced o)
  let d := d.setBit (F.SAF_SO_STAT.DRV o) (cmd && !d.pinsHeld)
  if cmd = old then d
  else
    let d := d.setBit (F.SAF_SO_STAT.CMD o) cmd
    let d := { d with soAt := tabPut 0 d.soAt o d.now }
    if cmd then d.inc (F.SAF_SO_CNT.SWITCH_ONS o) else d

/-- In F5 every test-pulse pin is low (R26). -/
def Dev.tpHalt (d : Dev) : Dev :=
  if d.fld F.FLT_STATE.DEV_STATE = 5 then forL ((List.range 8).filter d.tpOn) (fun t d => d.setFld (F.SAF_TP_STAT.PIN t) 0) d else d

/-- Command every safe output. -/
def Dev.soEvalAll (d : Dev) : Dev := forN 8 (fun o d => d.soEval o) d.tpHalt

/-- The feedback reads high, filtered, for more than FB_OFF_MS after the output was commanded off. -/
def Dev.soFeedback (d : Dev) (o : Nat) (level : Bool) : Dev :=
  if !d.soOn o then d
  else
    let d := d.soRead o level
    if d.on (F.SAF_SO_STAT.FB o) && !d.on (F.SAF_SO_STAT.CMD o) && d.fld (F.SAF_SO_CFG.FB_OFF_MS o) * 1000 < d.now.since (tabGet 0 d.soAt o)
        && !d.has .soFeedback (.so o) then
      ((d.setFld (F.SAF_SO_FLAG.FEEDBACK o) 1).inc (F.SAF_SO_CNT.FAULTS o)).fault .soFeedback (.so o)
    else d

/-- The feedback reads low, filtered, for more than FB_ON_MS after the output was commanded on. -/
def Dev.soStuckOff (d : Dev) (o : Nat) (level : Bool) : Dev :=
  if !d.soOn o then d
  else
    let d := d.soRead o level
    if !d.on (F.SAF_SO_STAT.FB o) && d.on (F.SAF_SO_STAT.CMD o) && d.fld (F.SAF_SO_CFG.FB_ON_MS o) * 1000 < d.now.since (tabGet 0 d.soAt o)
        && !d.has .soStuckOff (.so o) then
      ((d.setFld (F.SAF_SO_FLAG.STUCK_OFF o) 1).inc (F.SAF_SO_CNT.FAULTS o)).fault .soStuckOff (.so o)
    else d

/-- Judge a safe output (R393, R538). -/
def Dev.soJudge (d : Dev) (o : Nat) : Dev :=
  let selected : Bool := (List.range 16).any (fun f => d.fbOn f && d.bitOf (F.SAF_FB_ACT.SO f) o)
  let ok : Bool := selected && d.part.hasVen (d.fld (F.SAF_SO_CFG.VEN_SEL o))
  if !d.soOn o ∨ ok then d.clear .soConfig (.so o)
  else if d.has .soConfig (.so o) then d
  else ((d.setFld (F.SAF_SO_FLAG.CONFIG o) 1).inc (F.SAF_SO_CNT.FAULTS o)).fault .soConfig (.so o)

/-! ### Configuration and start (R392, R394) -/

/-- The function passes the check of R392. -/
def Dev.fbConfigOk (d : Dev) (f : Nat) : Bool :=
  let t := d.fbType f
  let ins := d.fbInputs f
  let other (n : Nat) : Bool := (List.range 16).any (fun g => g ≠ f && d.fbOn g && n ∈ d.fbInputs g ++ d.fbResetIn g)
  let sec := F.SAF_FB_IN.SECTION f
  let acts : Bool := d.fld (F.SAF_FB_ACT.SIG f) ≠ 0 || d.fld (F.SAF_FB_SEC_LO.SEC f) ≠ 0 || d.fld (F.SAF_FB_SEC_HI.SEC f) ≠ 0
  (ins ++ d.fbResetIn f).all d.siOn && !ins.any other
    && (t ≠ 3 || ins.all (fun n => d.siTp n = none && 15 ≤ d.fld (F.SAF_SI_CFG.FILTER n)))
    && (t ≠ 2 || !acts) && (t ≠ 4 || (!acts && d.fld (F.SAF_FB_ACT.SO f) = 0))
    && (t < 5 || (if t = 5 && d.on (F.SAF_FB_CFG.SEC_MODE f) then d.secEnabled (d.fld sec) else d.headEnabled (d.fld (F.SAF_FB_IN.HEAD f))))
    && (d.on (F.SAF_FB_CFG.RST_SI f) || d.on (F.SAF_FB_CFG.RST_FW f)
      || (!d.on (F.SAF_FB_CFG.RESTART_MAN f) && !d.on (F.SAF_FB_CFG.START_MAN f)))

/-- The state a function starts with (R394). -/
def Dev.fbFresh (d : Dev) (f : Nat) : Dev :=
  let d := { d with fbs := tabPut {} d.fbs f { begun := if d.fbOn f then some d.now else none }, causes := d.causes.filter (fun c => c.src ≠ Src.fb f) }
  ((d.setFld (F.SAF_FB_STAT.STATE f) 0).setFld (F.SAF_FB_STAT.CAUSE f) 0).setFld (F.SAF_FB_STAT.BEYOND f) 0

/-- Judge a function: FB_CONFIG holds it in CONFIG, a pass lets it start (R392, R538). -/
def Dev.fbJudge (d : Dev) (f : Nat) : Dev :=
  if !d.fbOn f then d.fbFresh f
  else if d.fbConfigOk f then (if d.has .fbConfig (.fb f) then (d.fbTo f 0).fbFresh f else d)
  else if d.has .fbConfig (.fb f) then d
  else ((d.setFld (F.SAF_FB_STAT.CONFIG f) 1).fault .fbConfig (.fb f)).fbTo f 6

/-- A function is enabled: it starts in STARTING and is judged. -/
def Dev.fbStart (d : Dev) (f : Nat) : Dev := (d.fbFresh f).fbJudge f

/-- An input starts, or stops being sampled: its filter and its faults begin anew. -/
def Dev.siStart (d : Dev) (n : Nat) : Dev :=
  let d := { d with sis := tabDel d.sis n, causes := d.causes.filter (fun c => c.src ≠ Src.si n) }
  ((d.setFld (F.SAF_SI_STAT.RAW n) 0).setFld (F.SAF_SI_STAT.LEVEL n) 0).setFld (F.SAF_SI_STAT.IN_WINDOW n) 0

/-- A source starts driving its pin at 24 V, or stops (R366). -/
def Dev.tpInit (d : Dev) (t : Nat) : Dev :=
  let d := { d with tps := tabDel d.tps t, causes := d.causes.filter (fun c => c.src ≠ Src.tp t) }
  (d.setBit (F.SAF_TP_STAT.PIN t) (d.tpOn t)).setFld (F.SAF_TP_STAT.FAULT t) 0

/-! ### Publication (R465, Table KVT-5) -/

/-- The content of SAFETY_STATE, bytes 0 to 11. -/
def safetyContent (d : Dev) : List Byte :=
  let so := (List.range 8).foldl (fun m o => if d.on (F.SAF_SO_STAT.CMD o) then m ||| 2 ^ o else m) 0
  let fb := (List.range 16).foldl (fun m f => m + d.fbState f * 2 ^ (3 * f)) 0
  leBytes 1 (d.fld F.FLT_STATE.DEV_STATE) ++ leBytes 1 (d.fld F.BOT_STATUS.COMMISSIONING) ++ leBytes 1 (d.fld F.FLT_STATE.F3_GROUPS)
    ++ leBytes 1 so ++ beBytes 6 fb ++ leBytes 2 0

/-- The payload of SAFETY_STATE. -/
def safetyPayload (d : Dev) : List Byte := safetyContent d ++ beBytes 6 d.now.toNat ++ leBytes 2 0

/-- SAFETY_STATE goes to the partners that subscribe, at each change of its content. -/
def Dev.safePublish (d : Dev) : Dev :=
  let c := safetyContent d
  if c = d.safeSent then d
  else { d with safeSent := c }.kvtPublish (fun p => d.on (F.KVT_PCFG.PUB_SAFE p)) 11 (safetyPayload d)

end Sys2Proof.Machine
end

