-- ==== Sys2Proof/Machine/Bufs.lean ====
section
/-! DEFINITION. Machine/Bufs.lean: the buffers of STRM, SER_RX and SER_TX rings (Table HST-7, R170, R184) and the delivery of
stream records. -/

namespace Sys2Proof.Machine

/-- Complete the buffer in progress of a ring: the evaluator's fields of Table HST-7; the entry is consumed. A ring whose descriptor is out of
reach enters ERROR instead (R181). -/
def State.bufDone (n code detail : Nat) (flushed : Bool) (stamp : Stamp) (s : State) : State := match (s.dev.ring n).buf with
  | none => s
  | some b =>
    let a := s.dev.ringDesc n
    let gap : Bool := 0 < b.gap
    match s.dev.ringBar a with
    | some e => s.ringLost n a true e
    | none =>
      let s := s.ringWrite n (a + 16) (leBytes 4 b.used ++ leBytes 1 code ++ leBytes 1 detail ++ leBytes 1 (1 + 2 * gap.toNat + 4 * flushed.toNat))
      let s := s.ringWrite n (a + 24) (leBytes 6 stamp.toNat ++ leBytes 2 (min b.gap 65535))
      s.map (fun d => (d.modRing n (fun r => { r with buf := none })).consume n b.irq)

/-- Take the next buffer of a ring, if none is in progress and one is available: its descriptor is read once (R173). A descriptor
out of its ranges completes with BAD_PARAM. -/
def State.bufOpen (n : Nat) : Nat → State → State
  | 0, s => s
  | fuel + 1, s =>
    if (s.dev.ring n).buf.isSome ∨ !s.dev.ringRuns n ∨ s.dev.ringAvail n = 0 then s
    else
      let a := s.dev.ringDesc n
      match s.dev.ringBar a with
      | some e => s.ringLost n a false e
      | none =>
        let (l, s) := s.ringRead n a 16
        let addr := ofLe (l.take 4)
        let len := ofLe ((l.drop 4).take 4)
        let flags := ofLe ((l.drop 8).take 1)
        let ok : Bool := addr % 4 = 0 && len % 4 = 0 && 64 ≤ len && len ≤ 65536 && flags < 2 && ofLe (l.drop 9) = 0
        let s := s.map (fun d => d.modRing n (fun r => { r with buf := some ⟨addr, len, flags = 1, 0, d.now, r.gap⟩, gap := 0 }))
        if ok then s else (s.bufDone n 2 0 true s.dev.now).bufOpen n fuel

/-- The number of descriptors `bufOpen` may pass over. -/
def Dev.bufFuel (d : Dev) (n : Nat) : Nat := min 16 (d.ringAvail n)

/-- Offer one record to a ring's buffers. Answers whether it was stored: not without a buffer, nor in a buffer that cannot be written, which
completes with MEM_ERROR (R187). `gap` records were lost before this one. -/
def State.bufTry (n : Nat) (stamp : Stamp) (gap : Nat) (data : List Byte) (s : State) : Bool × State :=
  let s := s.bufOpen n (s.dev.bufFuel n)
  match (s.dev.ring n).buf with
  | none => (false, s)
  | some b =>
    match s.dev.ringBar (b.addr + b.used) with
    | some _ => (false, (s.ringMiss n (b.addr + b.used) true).bufDone n 6 0 true b.first)
    | none =>
      let s := s.ringWrite n (b.addr + b.used) data
      let b := { b with used := b.used + data.length, first := if b.used = 0 then stamp else b.first, gap := min 65535 (b.gap + gap) }
      let s := s.map (fun d => d.modRing n (fun r => { r with buf := some b }))
      (true, if b.len < b.used + data.length then s.bufDone n 0 0 false b.first else s)

/-- Put one record of a stream into a ring's buffers: one that is not stored is lost and counted for the next buffer (R184). -/
def State.bufPut (n : Nat) (stamp : Stamp) (data : List Byte) (s : State) : State :=
  let (stored, s) := s.bufTry n stamp 0 data
  if stored then s else s.map (fun d => d.modRing n (fun r => { r with gap := min 65535 (r.gap + 1) }))

/-- Complete a buffer that holds records, with FLUSHED (R170). -/
def State.bufFlush (n : Nat) (s : State) : State := match (s.dev.ring n).buf with
  | some b => if 0 < b.used then s.bufDone n 0 0 true b.first else s
  | none => s

/-- Stream records reach their rings; a ring that is no STRM ring, or does not run, loses them. -/
def State.streams (s : State) : State :=
  let q := s.dev.strmq
  q.foldl (fun s x =>
    if s.dev.fld (F.HST_RING_CFG.TYPE x.ring) = 2 then s.bufPut x.ring x.stamp x.data else s)
    (s.map (fun d => { d with strmq := [] }))

/-- A STRM buffer is completed 1 ms after its first record (R170). -/
def State.strmExpire (n : Nat) (s : State) : State := match (s.dev.ring n).buf with
  | some b => if s.dev.fld (F.HST_RING_CFG.TYPE n) = 2 ∧ 0 < b.used ∧ 1000 ≤ s.dev.now.since b.first then s.bufDone n 0 0 true b.first else s
  | none => s

end Sys2Proof.Machine
end

