-- ==== Sys2Proof/Machine/Ser.lean ====
section
/-! DEFINITION. Machine/Ser.lean: serial ports, rate measurement, card mode and synchronous mode (chapter 15). -/

namespace Sys2Proof.Machine

def Dev.ser (d : Dev) (n : Nat) : SerSt := tabGet {} d.sers n
/-- Replace a port's state; STAT shows its FIFO. -/
def Dev.setSer (d : Dev) (n : Nat) (s : SerSt) : Dev := { d with sers := tabPut {} d.sers n s }.setFld (F.SER_STAT.FIFO n) s.fifo.length
def Dev.modSer (d : Dev) (n : Nat) (f : SerSt → SerSt) : Dev := d.setSer n (f (d.ser n))

def Dev.serMode (d : Dev) (n : Nat) : Nat := d.fld (F.SER_CFG.MODE n)

/-- UART_0 to UART_6 that is enabled and sampled: HOLD stops it (R421). -/
def Dev.serRuns (d : Dev) (n : Nat) : Bool := n < 7 && d.on (F.SER_CFG.ENABLE n) && d.fld F.PWR_STATE.STATE ≠ 2

/-- A flag of SER_FLAG is set; an enabled one makes the port's interrupt source pending. -/
def Dev.serFlag (d : Dev) (n bit : Nat) : Dev :=
  let d := d.setFld ⟨.ser, (F.SER_FLAG.PARITY n).off, bit, 1⟩ 1
  if d.bitOf (F.SER_IRQ_EN.MASK n) bit then d.pend (70 + n) (d.nsEntry (40 + n)) else d

/-- The ring of a type that binds a port: an enabled one, else any. -/
def Dev.bindRing (d : Dev) (type n : Nat) : Option Nat :=
  let l := (List.range 64).filter (fun r => d.fld (F.HST_RING_CFG.TYPE r) = type && d.fld (F.HST_RING_CFG.BIND r) = n)
  (l.find? (fun r => d.on (F.HST_RING_CTRL.ENABLE r))).or l.head?

/-- The enabled ring of a type that binds a port. -/
def Dev.boundRing (d : Dev) (type n : Nat) : Option Nat := (d.bindRing type n).filter (fun r => d.on (F.HST_RING_CTRL.ENABLE r))

/-- INVERT acts in ASYNC and SYNC (Table SER-1, R409). -/
def Dev.serInvert (d : Dev) (n : Nat) : Bool := (d.serMode n = 1 || d.serMode n = 3) && d.on (F.SER_CFG.INVERT n)

/-- The inverse convention is in force (R411). -/
def Dev.serInverse (d : Dev) (n : Nat) : Bool := d.serMode n = 2 && d.on (F.SER_STAT.INVERSE n)

/-- The most significant bit is sent and received first (R399, R411). -/
def Dev.serMsb (d : Dev) (n : Nat) : Bool := if d.serMode n = 2 then d.serInverse n else d.on (F.SER_CFG.MSB_FIRST n)

/-! ### Pins (Table SER-1) -/

/-- UART_n_TXD between characters: high impedance (none) or driven to a level. A port that is disabled has its pins as MODE 0 gives (R420);
an active card's I/O line is released (R410); a synchronous TXD keeps its last bit (DEDUCED, assumption log 172). -/
def Dev.serTxd (d : Dev) (n : Nat) : Option Bool :=
  if !d.on (F.SER_CFG.ENABLE n) then none
  else match d.serMode n with
    | 1 => some (!d.serInvert n)
    | 2 => if d.on (F.SER_STAT.CARD_ACTIVE n) then none else some false
    | 3 => some ((d.ser n).last ^^ d.serInvert n)
    | _ => none

/-- UART_n_SCK between characters: a running card clock (none) or a level; in HOLD a card clock stops low (R421). -/
def Dev.serSck (d : Dev) (n : Nat) : Option Bool :=
  if d.serRuns n && d.serMode n = 2 && d.on (F.SER_STAT.CARD_ACTIVE n) then none
  else some (d.on (F.SER_CFG.ENABLE n) && d.serMode n = 3 && d.on (F.SER_CFG.CPOL n))

/-! ### Format (R397, R399, R402, R409) -/

/-- BIT_DIV in force (R409 in card mode). -/
def Dev.serDiv (d : Dev) (n : Nat) : Nat :=
  if d.serMode n = 2 then 64 * d.fld (F.SER_CARD_CFG.ETU_F n) * d.fld (F.SER_CARD_CFG.CLK_DIV n) / max 1 (d.fld (F.SER_CARD_CFG.ETU_D n))
  else d.fld (F.SER_RATE.BIT_DIV n)

/-- The receiver's samples per bit at a BIT_DIV (R397, R409). -/
def samplesPerBit (card : Bool) (div : Nat) : Nat := if card || 1024 ≤ div then 16 else 8

/-- Data bits and parity of a character. -/
def Dev.serData (d : Dev) (n : Nat) : Nat := if d.serMode n = 2 then 8 else d.fld (F.SER_CFG.DATA_BITS n)
def Dev.serParity (d : Dev) (n : Nat) : Nat := if d.serMode n = 2 then 1 else d.fld (F.SER_CFG.PARITY n)

/-- Twice the character time C in bit times. -/
def Dev.serChar2 (d : Dev) (n : Nat) : Nat :=
  if d.serMode n = 2 then 24
  else 2 + 2 * d.serData n + (if d.serParity n = 0 then 0 else 2) + 2 + d.fld (F.SER_CFG.STOP n)

/-- `k` times C have passed since a stamp. -/
def Dev.serPast (d : Dev) (n k : Nat) (t : Stamp) : Bool := k * d.serChar2 n * d.serDiv n * 10 ≤ d.now.since t * 128000

/-- The value of data bits from their levels, bit position 1 first. -/
def serValue (bits : Nat) (msb : Bool) (level : Nat → Bool) : Nat :=
  (List.range bits).foldl (fun v k => if level (k + 1) then v + 2 ^ (if msb then bits - 1 - k else k) else v) 0

/-- The parity bit of a value: 1 even, 2 odd, 3 mark, 4 space. -/
def parityBit (kind bits v : Nat) : Bool :=
  let odd : Bool := (bitsOf bits v).length % 2 = 1
  match kind with
  | 1 => odd | 2 => !odd | 3 => true | _ => false

/-- The levels of a character as the transmitter sends it (R405, R411, R412): start, data, parity, first stop bit. In the inverse convention
data and parity are inverted. -/
def Dev.serFrame (d : Dev) (n w : Nat) : List Bool :=
  let bits := d.serData n
  let v := w % 2 ^ bits
  let data := (List.range bits).map (fun k => v.testBit (if d.serMsb n then bits - 1 - k else k) ^^ d.serInverse n)
  if d.serMode n = 3 then data.map (· ^^ d.serInvert n)
  else
    let par := if d.serParity n = 0 then [] else [parityBit (d.serParity n) bits v ^^ d.serInverse n]
    ([false] ++ data ++ par ++ [true]).map (· ^^ d.serInvert n)

/-! ### What the receiver sees (R397, R399, R407) -/

/-- The majority of three samples. -/
def majority (a b c : Bool) : Bool := (a && b) || (a && c) || (b && c)

/-- The level of bit `k` of a sampled character: the majority of the three samples around its middle. -/
def bitAt (samples : List Bool) (inv : Bool) (os k : Nat) : Bool :=
  let at_ (i : Nat) : Bool := match samples[i]? with
    | some b => b ^^ inv
    | none => true
  majority (at_ (k * os + os / 2 - 1)) (at_ (k * os + os / 2)) (at_ (k * os + os / 2 + 1))

/-- The line's falling edges after the start edge, of the pin or, with INVERT, of the inverted pin. -/
def charEdges (c : LineChar) (inv : Bool) : List Nat := if inv then c.rises else c.falls

/-- The line is high `x / y` units of 10 ns after the start edge. -/
def charHighAt (c : LineChar) (inv : Bool) (x y : Nat) : Bool :=
  let past (l : List Nat) : Nat := (l.filter (fun e => e * y ≤ x)).length
  past (charEdges c inv) < past (charEdges c !inv)

/-! ### Receive path (R400 to R404) -/

/-- Move words of the FIFO into the buffers of the bound ring while they have room; a word that a buffer does not take waits for the next. -/
def State.serDrain (n ring : Nat) : Nat → State → State
  | 0, s => s
  | fuel + 1, s => match (s.dev.ser n).fifo with
    | [] => s
    | w :: rest =>
      let s := s.bufOpen ring (s.dev.bufFuel ring)
      match (s.dev.ring ring).buf with
      | none => s
      | some _ =>
        let (stored, s) := s.bufTry ring w.stamp w.gap (leBytes 2 w.word)
        (if stored then s.map (fun d => d.modSer n (fun q => { q with fifo := rest })) else s).serDrain n ring fuel

/-- The words of every port reach their buffers. -/
def State.serDrainAll (s : State) : State :=
  (List.range 7).foldl (fun s n =>
    if (s.dev.ser n).fifo = [] then s
    else match s.dev.boundRing 5 n with
      | some r => s.serDrain n r 64
      | none => s) s

/-- Store a receive word (R401, R402): flags AFTER_IDLE and LOST_BEFORE, the FIFO of 64. The line is no longer idle. -/
def State.serStore (n word : Nat) (stamp : Stamp) (s : State) : State :=
  let ring := s.dev.boundRing 5 n
  let s := match ring with | some r => s.serDrain n r 64 | none => s
  let s := s.map (fun d => d.setFld (F.SER_STAT.RX_IDLE n) 0)
  let q := s.dev.ser n
  if 64 ≤ q.fifo.length then
    s.map (fun d =>
      let d := (d.modSer n (fun q => { q with lost := q.lost + 1, mark := true })).inc (F.SER_LOST_CNT.LOST n) |>.serFlag n 3
      match d.bindRing 5 n with
      | some r => d.inc (F.HST_RING_CNT.DROP r)
      | none => d)
  else
    let word := word + (if q.idle then 2 ^ 12 else 0) + (if q.mark then 2 ^ 13 else 0) + 2 ^ 15
    let s := s.map (fun d =>
      let d := d.setSer n { q with fifo := q.fifo ++ [⟨word, stamp, q.lost⟩], lost := 0, mark := false, idle := false }
      (d.incPair (F.SER_RX_CNT_LO.V n) (F.SER_RX_CNT_HI.V n)).setFld (F.SER_LAST_RX.WORD n) word)
    match ring with | some r => s.serDrain n r 64 | none => s

/-! ### Rate measurement (R406 to R408) -/

/-- The expected character of a measurement. -/
def Dev.abChar (d : Dev) (n : Nat) : Nat := if d.on (F.SER_AB_CFG.AB_SRC n) then d.fld (F.SER_AB_CFG.AB_CHAR n) else 0x55

/-- The falling-edge positions of the expected character in the configured format. -/
def Dev.abEdges (d : Dev) (n : Nat) : List Nat :=
  let bits := d.serData n
  let v := d.abChar n % 2 ^ bits
  let par := d.serParity n
  let level (k : Nat) : Bool :=
    if k = 0 then false
    else if k ≤ bits then v.testBit (if d.on (F.SER_CFG.MSB_FIRST n) then bits - k else k - 1)
    else if k = bits + 1 && par ≠ 0 then parityBit par bits v
    else true
  (List.range (bits + 3)).filter (fun k => 1 ≤ k && level (k - 1) && !level k)

/-- Arm the measurement. A character that had begun by then is not measured (R406). -/
def Dev.abArm (d : Dev) (n : Nat) : Dev :=
  (d.modSer n (fun q => { q with quiet := false, armAt := d.now })).setFld (F.SER_STAT.AB_STATE n) 1

/-- AB_ARM: it measures again from the next character; failures are counted anew. -/
def Dev.abArmWrite (d : Dev) (n : Nat) : Dev :=
  if d.serRuns n && d.serMode n = 1 && d.on (F.SER_AB_CFG.AB_EN n) then (d.modSer n (fun q => { q with fails := 0 })).abArm n else d

/-- A measurement fails: the word, the event, and a wait for quiet; after AB_TRIES failures it gives up. -/
def State.abFail (n div : Nat) (stamp : Stamp) (s : State) : State :=
  let s := s.serStore n (2 ^ 14 + 2 ^ 10) stamp
  s.map (fun d =>
    let d := (d.inc (F.SER_ERR_CNT.FRAME_ERRS n)).serFlag n 1
    let d := (d.inc (F.SER_AB_CNT.FAILS n)).serFlag n 5
    let d := (d.note .serAutobaudFail (.uart n) 0 (leBytes 4 div)).modSer n (fun q => { q with fails := q.fails + 1, quiet := true })
    if d.fld (F.SER_AB_CFG.AB_TRIES n) ≤ (d.ser n).fails then
      ((d.modSer n (fun q => { q with quiet := false })).setFld (F.SER_STAT.AB_STATE n) 3).serFlag n 6
    else d.setFld (F.SER_STAT.AB_STATE n) 0)

/-- An armed receiver measures a character (R407). The word carries what the measured rate decides (Table SER-2). -/
def State.abMeasure (n : Nat) (c : LineChar) (s : State) : State :=
  let d := s.dev
  let inv := d.serInvert n
  let edges := charEdges c inv
  let ps := d.abEdges n
  let p := ps.getLast?.getD 0
  let t := (edges.take ps.length).getLast?.getD 0
  let div := if p = 0 then 0 else (128 * t + p) / (2 * p)
  let bits := d.serData n
  let par := d.serParity n
  let stop := bits + 1 + (if par = 0 then 0 else 1)
  let ok : Bool := ps.length ≤ edges.length && 0 < p
    && (ps.zip edges).all (fun e => 4 * ((e.2 * p : Nat) - (e.1 * t : Nat) : Int).natAbs ≤ t)
    && charHighAt c inv ((2 * stop + 1) * t) (2 * p) && 12000 * t ≤ p * 1000000000 && 100 * p ≤ 3 * t
  let s := s.map (fun d => d.setFld (F.SER_AB_LAST.BIT_DIV n) (min div (2 ^ 25 - 1)))
  if ok then
    let level := bitAt c.samples inv (samplesPerBit false div)
    let value := serValue bits (d.serMsb n) level
    let badPar : Bool := par ≠ 0 && level (bits + 1) ≠ parityBit par bits value
    let s := s.map (fun d =>
      let d := (d.setFld (F.SER_RATE.BIT_DIV n) div).inc (F.SER_AB_CNT.PASSES n) |>.serFlag n 4
      let d := if badPar then (d.inc (F.SER_ERR_CNT.PARITY_ERRS n)).serFlag n 0 else d
      (d.setFld (F.SER_STAT.AB_STATE n) 2).modSer n (fun q => { q with fails := 0 }))
    s.serStore n (2 ^ 14 + value + badPar.toNat * 2 ^ 9) c.first
  else s.abFail n div c.first

/-- The line has been high for AB_QUIET_MS (R408): while edges of a character that began at `from_` are still expected its measurement fails;
after a failure the receiver arms again. -/
def State.abQuiet (n : Nat) (from_ : Option Stamp) (s : State) : State :=
  if !s.dev.serRuns n ∨ s.dev.serMode n ≠ 1 then s
  else if from_.isSome ∧ s.dev.fld (F.SER_STAT.AB_STATE n) = 1 then
    (s.abFail n 0 (from_.getD 0)).map (fun d => if (d.ser n).quiet then d.abArm n else d)
  else if (s.dev.ser n).quiet then s.map (fun d => d.abArm n)
  else s

/-! ### Card mode (R410, R411, R417) -/

/-- The first character after CARD_ARM is checked as TS (R411). -/
def State.serTs (n : Nat) (c : LineChar) (level : Nat → Bool) (s : State) : State :=
  let t := c.falls.head?.getD 0
  let div := s.dev.serDiv n
  let inTime : Bool := 50 * ((64 * t : Nat) - (3 * div : Nat) : Int).natAbs ≤ 3 * div
  let bits := (level 4, level 5, level 6, level 7, level 8)
  let s := s.map (fun d => d.modSer n (fun q => { q with ts := false }))
  if inTime && bits = (true, true, true, false, false) then
    (s.map (fun d => d.setFld (F.SER_STAT.INVERSE n) 0)).serStore n (2 ^ 14 + 0x3B) c.first
  else if inTime && bits = (false, false, false, false, false) then
    (s.map (fun d => d.setFld (F.SER_STAT.INVERSE n) 1)).serStore n (2 ^ 14 + 0x3F) c.first
  else
    let s := s.serStore n (2 ^ 14 + 2 ^ 10) c.first
    s.map (fun d => (((d.inc (F.SER_ERR_CNT.FRAME_ERRS n)).serFlag n 1).serFlag n 9).note .serTsFault (.uart n))

/-- The card becomes inactive: clock low, I/O low. -/
def Dev.cardStop (d : Dev) (n : Nat) : Dev :=
  ((d.setFld (F.SER_STAT.CARD_ACTIVE n) 0).setFld (F.SER_STAT.LINE n) 0).modSer n (fun q => { q with ts := false, tries := 0 })

/-- CARD_ARM (R410). -/
def Dev.cardArm (d : Dev) (n : Nat) : Dev :=
  if d.serRuns n && d.serMode n = 2 && d.on (F.SER_STAT.CARD_PRESENT n) && !d.on (F.SER_STAT.CARD_ACTIVE n) then
    let d := ((d.setFld (F.SER_STAT.CARD_ACTIVE n) 1).setFld (F.SER_STAT.INVERSE n) 0).setFld (F.SER_STAT.LINE n) 1
    d.modSer n (fun q => { q with ts := true, tries := 0, gone := false })
  else d.serFlag n 12

/-- The card-detect input has held a level for `us`: 10 ms of the level DET_POL selects mean a card (R410). -/
def Dev.cardIn (d : Dev) (n : Nat) (high : Bool) (us : Nat) : Dev :=
  if d.serRuns n && high = d.on (F.SER_CARD_CFG.DET_POL n) && 10000 ≤ us && d.serMode n = 2 && !d.on (F.SER_STAT.CARD_PRESENT n) then
    (((d.setFld (F.SER_STAT.CARD_PRESENT n) 1).inc (F.SER_CARD_CNT.INSERTS n)).serFlag n 7).note .serCardInserted (.uart n)
  else d

/-- The buffers of a SER_TX ring are refused while no card is armed after a removal (R417). -/
def State.serRefuse (n r : Nat) : Nat → State → State
  | 0, s => s
  | fuel + 1, s =>
    let s := s.bufOpen r (s.dev.bufFuel r)
    if (s.dev.ring r).buf.isSome then (s.bufDone r 5 1 true (s.dev.ser n).sentAt).serRefuse n r fuel else s

/-- The later buffers of every port whose card was removed are refused. -/
def State.serRefuseAll (s : State) : State :=
  (List.range 7).foldl (fun s n =>
    if (s.dev.ser n).gone then match s.dev.boundRing 6 n with
      | some r => s.serRefuse n r (s.dev.ringAvail r + 1)
      | none => s
    else s) s

/-- The card-detect input has held a level for `us`: 100 us of the level DET_POL does not select mean that the card has been removed, which
prevails over every exchange in progress (R410, R417). -/
def State.cardOut (n : Nat) (high : Bool) (us : Nat) (s : State) : State :=
  if s.dev.serRuns n ∧ high ≠ s.dev.on (F.SER_CARD_CFG.DET_POL n) ∧ 100 ≤ us ∧ s.dev.serMode n = 2 ∧ s.dev.on (F.SER_STAT.CARD_PRESENT n) then
    let s := s.map (fun d =>
      let d := ((d.setFld (F.SER_STAT.CARD_PRESENT n) 0).inc (F.SER_CARD_CNT.REMOVALS n)).serFlag n 8
      ((d.note .serCardRemoved (.uart n)).cardStop n).modSer n (fun q => { q with gone := true }))
    let s := match s.dev.boundRing 5 n with | some r => s.bufFlush r | none => s
    match s.dev.boundRing 6 n with
    | some r => s.bufDone r 5 1 true (s.dev.ser n).sentAt
    | none => s
  else s

/-! ### Characters -/

/-- A character is decided (R398 to R401). -/
def State.serReceive (n : Nat) (c : LineChar) (s : State) : State :=
  let d := s.dev
  let mode := d.serMode n
  if !d.serRuns n ∨ (mode ≠ 1 ∧ mode ≠ 2) ∨ (mode = 2 ∧ !d.on (F.SER_STAT.CARD_ACTIVE n)) then s
  else
    let raw := bitAt c.samples (d.serInvert n) (samplesPerBit (mode = 2) (d.serDiv n))
    let back := d.serInverse n
    let bits := d.serData n
    let par := d.serParity n
    let armed : Bool := mode = 1 && d.fld (F.SER_STAT.AB_STATE n) = 1 && !(d.ser n).armAt.later c.first
    let value := serValue bits (d.serMsb n) (fun k => raw k ^^ back)
    let stopPos := bits + 1 + (if par = 0 then 0 else 1)
    let stop := raw stopPos
    let badPar : Bool := par ≠ 0 && ((raw (bits + 1) ^^ back) ≠ parityBit par bits value)
    let break_ : Bool := (List.range stopPos).all (fun k => k = 0 || !raw k) && !stop
    if raw 0 && !armed then s.map (fun d => d.inc (F.SER_ERR_CNT2.GLITCHES n))
    else if mode = 1 ∧ (d.ser n).quiet then s
    else
      let s := s.map (fun d => (d.modSer n (fun q => { q with lastStop := d.now })).setBit (F.SER_STAT.LINE n) stop)
      if armed then s.abMeasure n c
      else if mode = 2 ∧ (d.ser n).ts then s.serTs n c raw
      else if break_ then
        let s := s.map (fun d => ((d.inc (F.SER_ERR_CNT2.BREAKS n)).inc (F.SER_ERR_CNT.FRAME_ERRS n)).serFlag n 2 |>.serFlag n 1)
        s.serStore n (2 ^ 11 + 2 ^ 10) c.first
      else
        let s := if badPar then s.map (fun d => (d.inc (F.SER_ERR_CNT.PARITY_ERRS n)).serFlag n 0) else s
        let s := if !stop then s.map (fun d => (d.inc (F.SER_ERR_CNT.FRAME_ERRS n)).serFlag n 1) else s
        let s := if badPar && mode = 2 && d.on (F.SER_RXCFG.ERR_SIG n) then s.map (fun d => { d with out := { d.out with serNak := d.out.serNak ++ [n] } }) else s
        s.serStore n (value + badPar.toNat * 2 ^ 9 + (!stop).toNat * 2 ^ 10) c.first

/-- A start is rejected when fewer than two of the three samples around its middle are low (R398). -/
def Dev.serGlitch (d : Dev) (n : Nat) (samples : List Bool) : Dev :=
  if d.serRuns n && (d.serMode n = 1 || d.serMode n = 2)
      && bitAt samples (d.serInvert n) (samplesPerBit (d.serMode n = 2) (d.serDiv n)) 0 then d.inc (F.SER_ERR_CNT2.GLITCHES n) else d

/-- The line has been high for C (R403). -/
def Dev.serIdle (d : Dev) (n : Nat) : Dev :=
  if d.serRuns n && (d.serMode n = 1 || d.serMode n = 2) && !d.on (F.SER_STAT.RX_IDLE n) && d.serPast n 1 (d.ser n).lastStop then
    ((d.modSer n (fun q => { q with idle := true })).setFld (F.SER_STAT.RX_IDLE n) 1 |>.setFld (F.SER_STAT.LINE n) 1).serFlag n 13
  else d

/-- The receive timeout flushes a partial buffer (R404). -/
def State.serTimeout (n : Nat) (s : State) : State :=
  if s.dev.serRuns n ∧ s.dev.serPast n (s.dev.fld (F.SER_RXCFG.RX_TIMEOUT n)) (s.dev.ser n).lastStop then
    match s.dev.boundRing 5 n with
    | some r => s.bufFlush r
    | none => s
  else s

/-! ### Transmit path (R405, R412, R413) -/

/-- The next word to send, with its ring: the word at the fill of the buffer in progress. -/
def State.serNext (n : Nat) (s : State) : Option (Nat × Nat) × State := match s.dev.boundRing 6 n with
  | none => (none, s)
  | some r =>
    let s := s.bufOpen r (s.dev.bufFuel r)
    match (s.dev.ring r).buf with
    | none => (none, s)
    | some b => match s.dev.ringBar (b.addr + b.used) with
      | some _ => (none, s.bufDone r 6 0 true s.dev.now)
      | none =>
        let (l, s) := s.ringRead r (b.addr + b.used) 2
        (some (r, ofLe l % 512), s)

/-- One word of a buffer has been sent: the buffer completes with its last word. -/
def State.serSent (n r : Nat) (s : State) : State :=
  let s := s.map (fun d =>
    let d := d.incPair (F.SER_TX_CNT_LO.V n) (F.SER_TX_CNT_HI.V n)
    let d := d.modSer n (fun q => { q with sentAt := d.now, tries := 0 })
    d.modRing r (fun q => { q with buf := q.buf.map (fun b => { b with used := b.used + 2 }) }))
  match (s.dev.ring r).buf with
  | some b => if b.len ≤ b.used then s.bufDone r 0 0 false s.dev.now else s
  | none => s

/-- One character of a port's SER_TX buffers has been transmitted. In SYNC mode `early` and `late` are the levels of RXD at the two sampling
instants of each bit, the first bit in place 0, and SAMPLE_LATE says which count (Table SER-5); `err` is the card's error signal at 11.0 ETU. -/
def State.serTransmit (n : Nat) (early late : BitVec 9) (err : Bool) (s : State) : State :=
  let mode := s.dev.serMode n
  if !s.dev.serRuns n ∨ mode = 0 ∨ (mode = 2 ∧ !s.dev.on (F.SER_STAT.CARD_ACTIVE n)) then s
  else match s.serNext n with
    | (none, s) => s
    | (some (r, w), s) =>
      let s := s.map (fun d => { d with out := { d.out with serTx := d.out.serTx ++ [(n, d.serFrame n w)] } })
      if mode = 2 ∧ err ∧ s.dev.on (F.SER_RXCFG.ERR_SIG n) then
        if s.dev.fld (F.SER_RXCFG.TX_RETRIES n) ≤ (s.dev.ser n).tries then
          let s := s.bufDone r 5 2 true (s.dev.ser n).sentAt
          s.map (fun d => ((d.modSer n (fun q => { q with tries := 0 })).serFlag n 10).note .serCardTxerr (.uart n))
        else s.map (fun d => (d.modSer n (fun q => { q with tries := q.tries + 1 })).inc (F.SER_CARD_CNT.REPEATS n))
      else
        let s := s.serSent n r
        if mode = 3 then
          let q := s.dev.ser n
          let bits := s.dev.serData n
          let rx := if s.dev.on (F.SER_CFG.SAMPLE_LATE n) then late else early
          let value := serValue bits (s.dev.serMsb n) (fun k => rx.getLsbD (k - 1) ^^ s.dev.serInvert n)
          let last := w.testBit (if s.dev.serMsb n then 0 else bits - 1)
          let s := s.map (fun d => d.setSer n { q with idle := false, mark := false, last := last })
          (s.serStore n value s.dev.now).map (fun d => d.modSer n (fun p => { p with idle := q.idle, mark := q.mark || p.mark, lastStop := d.now }))
        else s

/-- TX_BUSY follows the buffer in progress. -/
def Dev.serBusy (d : Dev) : Dev :=
  forN 7 (fun n d => d.setBit (F.SER_STAT.TX_BUSY n) (match d.boundRing 6 n with
    | some r => (d.ring r).buf.isSome
    | none => false)) d

/-! ### Enable, flush, island reset (R404, R418, R421) -/

/-- The enable is refused (R418). -/
def Dev.serConfigBad (d : Dev) (n : Nat) : Bool :=
  (d.serMode n = 1 && d.on (F.SER_AB_CFG.AB_EN n) && (d.abEdges n).getLast?.getD 0 < 7)
    || (d.serMode n = 2 && d.serDiv n < 1024)

/-- Rate measurement is armed where a port starts with AB_EN (R406, R421). -/
def Dev.abBegin (d : Dev) (n : Nat) : Dev :=
  if d.on (F.SER_CFG.ENABLE n) && d.serMode n = 1 && d.on (F.SER_AB_CFG.AB_EN n) then d.abArm n else d

/-- The state a port starts with. -/
def Dev.serFresh (d : Dev) (n : Nat) : Dev := ((d.setReg .ser (F.SER_STAT.LINE n).off 0).setSer n { lastStop := d.now }).abBegin n

/-- ENABLE has been written 1: the port starts, or the enable is refused (R418). -/
def Dev.serStart (d : Dev) (n : Nat) : Dev :=
  if d.serConfigBad n then ((d.setFld (F.SER_CFG.ENABLE n) 0).serFlag n 11).note .serConfig (.uart n)
  else d.serFresh n

/-- SER_FLUSH (R404). -/
def State.serFlush (n : Nat) (s : State) : State := match s.dev.boundRing 5 n with
  | some r => s.bufFlush r
  | none => s

/-- The engine side of an I applied to the serial-port logic, for one enabled port (R421): the next stored word is marked LOST_BEFORE. -/
def State.serIsland (n : Nat) (s : State) : State :=
  if !s.dev.on (F.SER_CFG.ENABLE n) then s.map (fun d => d.setSer n {})
  else
    let s := s.serFlush n
    let s := match s.dev.boundRing 6 n with
      | some r => s.bufDone r 7 0 true (s.dev.ser n).sentAt
      | none => s
    s.map (fun d => ((d.cardStop n).serFresh n).modSer n (fun q => { q with mark := true }))

end Sys2Proof.Machine
end

