-- ==== Sys2Proof/Machine/Net.lean ====
section
/-! DEFINITION. Machine/Net.lean: network ports: link state and flap holding, the frames a port accepts and sends, RXP and TXP
rings (chapter 16; R170, R171, R184). -/

namespace Sys2Proof.Machine

/-- A MAC address from its two register words: bytes 0 and 1 in HI, bytes 2 to 5 in LO (Table NET-6, R6). -/
def macBytes (hi lo : Nat) : List Byte := leBytes 2 hi ++ leBytes 4 lo
def Dev.ownMac (d : Dev) (n : Nat) : List Byte := macBytes (d.fld (F.NET_OWN_MAC_HI.V n)) (d.fld (F.NET_OWN_MAC_LO.V n))
def Dev.partnerMac (d : Dev) (n : Nat) : List Byte := macBytes (d.fld (F.NET_PARTNER_MAC_HI.V n)) (d.fld (F.NET_PARTNER_MAC_LO.V n))

def Dev.netRole (d : Dev) (n : Nat) : Nat := d.fld (F.NET_CFG.ROLE n)
def Dev.netMode (d : Dev) (n : Nat) : Nat := d.fld (F.NET_CFG.LINE_MODE n)
def Dev.netUp (d : Dev) (n : Nat) : Bool := d.on (F.NET_STAT.LINK_UP n)

/-- The port is owned by the non-secure world. -/
def Dev.portNs (d : Dev) (n : Nat) : Bool := d.netRole n = 3 && d.nsEntry (48 + n)

/-! ### Link state (R427, R428, R443) -/

/-- The lane's receive status: BLOCK_LOCK, FEC_ALIGNED, HI_BER, RX_LF and RX_RF, bits 0 to 4. -/
def Dev.setLane (d : Dev) (n : Nat) (lane : BitVec 5) : Dev :=
  let d := (d.setBit (F.NET_STAT.BLOCK_LOCK n) (lane.getLsbD 0)).setBit (F.NET_STAT.FEC_ALIGNED n) (lane.getLsbD 1)
  ((d.setBit (F.NET_STAT.HI_BER n) (lane.getLsbD 2)).setBit (F.NET_STAT.RX_LF n) (lane.getLsbD 3)).setBit (F.NET_STAT.RX_RF n) (lane.getLsbD 4)

/-- The mode uses Ethernet FEC (Table NET-1). -/
def Dev.netFec (d : Dev) (n : Nat) : Bool := d.netMode n = 2 || (d.netMode n = 1 && d.on (F.NET_CFG.FEC_MODE n))

/-- The port finds its link good (R427). -/
def Dev.netGood (d : Dev) (n : Nat) : Bool :=
  if d.netRole n = 0 then d.laneLock.isSome
  else d.on (F.NET_STAT.BLOCK_LOCK n) && (!d.netFec n || d.on (F.NET_STAT.FEC_ALIGNED n)) && !d.on (F.NET_STAT.HI_BER n)
    && !d.on (F.NET_STAT.RX_LF n) && !d.on (F.NET_STAT.RX_RF n)

/-- An Ethernet port sends remote-fault ordered sets: while its receive side has no link, and while it is held (R428, R443). -/
def Dev.netSendsFault (d : Dev) (n : Nat) : Bool :=
  d.netRuns n && d.netRole n ≠ 0 && d.fld F.FLT_STATE.DEV_STATE ≠ 5 && (!d.netGood n || d.fld (F.NET_STAT.STATE n) = 4)

/-- A network event, whose DETAIL is LINE_MODE. -/
def Dev.netNote (d : Dev) (ev : Ev) (n : Nat) : Dev := d.note ev (.port n) 0 (leBytes 1 (d.netMode n))

/-- The link has been good for `us` microseconds, but no longer than since it was last seen to train or to be bad; the port declares it up
once that is LINK_UP_MS (R428). A held port declares no link up (R443). KVT then leaves CLOSED (Table KVT-4). -/
def Dev.linkUp (d : Dev) (n : Nat) (lane : BitVec 5) (us : Nat) : Dev :=
  let d := if d.netRuns n then d.setLane n lane else d
  let good := if d.netRole n = 0 then (match d.laneLock with | some t => d.now.since t | none => 0)
    else min us (d.now.since (d.net n).trainAt)
  let st := d.fld (F.NET_STAT.STATE n)
  if !d.netRuns n || !d.netGood n || !(st = 1 || st = 3) || good < d.fld (F.NET_LINK_CFG.LINK_UP_MS n) * 1000 then d
  else
    let d := ((d.setFld (F.NET_STAT.LINK_UP n) 1).setFld (F.NET_STAT.STATE n) 2).setFld (F.NET_FLAG.UP n) 1
    let d := (d.pend (78 + n) (d.portNs n)).netNote .netLinkUp n
    if d.on (F.KVT_PCFG.ENABLE n) && d.fld (F.KVT_STAT.STATE n) = 0 then d.kvtOpening n else d

/-- The link is not good now: LINK_UP_MS counts from here. -/
def Dev.netTrains (d : Dev) (n : Nat) : Dev := d.modNet n (fun s => { s with trainAt := d.now })

/-- Frames that wait on a port whose link has gone are dropped and counted (R442). -/
def Dev.dropWaiting (d : Dev) (n : Nat) : Dev :=
  let k := (tabGet [] d.kvtTx n).length
  { d.inc (F.NET_TX_DROP.LINK_DROP n) k with kvtTx := tabDel d.kvtTx n }

/-- A KVT session that is OPENING closes when its port has no link (Table KVT-4). -/
def Dev.kvtLinkGone (d : Dev) (n : Nat) : Dev := if d.fld (F.KVT_STAT.STATE n) = 1 then d.setFld (F.KVT_STAT.STATE n) 0 else d

/-- The link of a port is declared down; too many earlier downs within FLAP_WINDOW_S hold the port (R428, R443), and an Aqsor port turns
its lane off. -/
def Dev.netDown (d : Dev) (n : Nat) : Dev :=
  let earlier := (d.net n).downs.filter (fun t => d.now.since t ≤ d.fld (F.NET_LINK_CFG.FLAP_WINDOW_S n) * 1000000)
  let d := ((d.setFld (F.NET_STAT.LINK_UP n) 0).setFld (F.NET_STAT.STATE n) 3).setFld (F.NET_FLAG.DOWN n) 1
  let d := (d.inc (F.NET_LINK_CNT.DOWNS n)).pend (78 + n) (d.portNs n)
  let d := (d.netNote .netLinkDown n).modNet n (fun s => { s with downs := earlier ++ [d.now] })
  let d := (d.dropWaiting n).kvtLinkGone n
  if d.fld (F.NET_LINK_CFG.FLAP_MAX n) ≤ earlier.length then
    let d := if d.netRole n = 0 then { d with laneLock := none, twin := { d.twin with goodRun := 0, ctr := none } } else d
    ((d.setFld (F.NET_STAT.STATE n) 4).setFld (F.NET_FLAG.HELD n) 1).inc (F.NET_LINK_CNT.HOLDS n) |>.netNote .netLinkHeld n
  else d

/-- The link ceases to be good (R428). -/
def Dev.linkDown (d : Dev) (n : Nat) (lane : BitVec 5) : Dev :=
  let d := if d.netRuns n then d.setLane n lane else d
  let d := if d.netRuns n && !d.netGood n then d.netTrains n else d
  if d.netRuns n && d.netUp n && !d.netGood n then d.netDown n else d

/-- A write of RELEASE (R443): a held port trains again. -/
def Dev.linkRelease (d : Dev) (n : Nat) : Dev :=
  if d.fld (F.NET_STAT.STATE n) = 4 then (d.setFld (F.NET_STAT.STATE n) 1).netTrains n else d

/-! ### Enabling, islands and HOLD (R441, R444 to R446) -/

/-- The port passes the check of R444. -/
def Dev.netConfigOk (d : Dev) (n : Nat) : Bool :=
  let mode := d.netMode n
  let role := d.netRole n
  let others (r : Nat) : Bool := (List.range 4).any (fun m => m ≠ n && d.on (F.NET_CFG.ENABLE m) && d.netRole m = r)
  let multicast (m : List Byte) : Bool := (m.headD 0).getLsbD 0
  d.part.hasPort n && mode < 5 && ((role = 0) == (3 ≤ mode : Bool)) && !(role = 0 && others 0) && !(role = 2 && others 2)
    && !multicast (d.ownMac n) && !(role ≠ 3 && multicast (d.partnerMac n))

/-- The port stops: its lane is off and its link is gone. -/
def Dev.netStop (d : Dev) (n : Nat) : Dev :=
  let d := ((d.setLane n 0).setFld (F.NET_STAT.LINK_UP n) 0).setFld (F.NET_STAT.STATE n) 0
  { (d.dropWaiting n).kvtLinkGone n with laneLock := if d.netRole n = 0 then none else d.laneLock }

/-- ENABLE of a port was written 1 (R444), or its configuration is judged by R538. -/
def Dev.netStart (d : Dev) (n : Nat) : Dev :=
  if d.netConfigOk n then (d.setFld (F.NET_STAT.STATE n) 1).netTrains n
  else
    let d := (d.setFld (F.NET_CFG.ENABLE n) 0).setFld (F.NET_STAT.STATE n) 5
    (d.setFld (F.NET_FLAG.CONFIG n) 1).netNote .netConfig n

/-- What an I of a port does beside the reset of its registers (R446): frames in flight are discarded, the port trains again with a
fresh flap history, and its PTP clock restarts at 0, which is a step. `old` is the clock before. -/
def Dev.netIsland (d : Dev) (n old : Nat) : Dev :=
  let d := { (d.setLane n 0).setFld (F.NET_STAT.LINK_UP n) 0 with kvtTx := tabDel d.kvtTx n }
  let d := (d.setFld (F.NET_STAT.STATE n) (d.fld (F.NET_CFG.ENABLE n))).setNet n { trainAt := d.now }
  ((d.kvtLinkGone n).setPtp n 0).ptpStep n (-(old : Int))

/-- Entry into HOLD stops every port but the twin's, which is no link down (R82, R441). Frames that wait there are dropped and counted (assumption
log 159). -/
def Dev.netHold (d : Dev) (n : Nat) : Dev :=
  if d.on (F.NET_CFG.ENABLE n) && d.netRole n ≠ 0 then
    let st := d.fld (F.NET_STAT.STATE n)
    (((d.setLane n 0).setFld (F.NET_STAT.LINK_UP n) 0).setFld (F.NET_STAT.STATE n) (if st = 4 then 4 else 1)).dropWaiting n
  else d

/-- Return from HOLD: the clock has lost time (R441). -/
def Dev.netResume (d : Dev) (n : Nat) : Dev :=
  if d.on (F.NET_CFG.ENABLE n) && d.netRole n ≠ 0 then
    (((d.setFld (F.NET_FLAG.SYNC_LOST n) 1).setFld (F.NET_PTP_STAT.SYNC_LOST n) 1).netTrains n).ptpStep n 0 false
  else d

/-! ### Receiving (R429, R430, R433) -/

/-- A frame without its FCS as the port reads it: destination, source, the outer C-tag's TCI, the EtherType after that tag, and the
bytes after the EtherType. -/
structure Frame where
  dst : List Byte
  src : List Byte
  tci : Option Nat
  etype : Nat
  body : List Byte
deriving DecidableEq, Repr

/-- Read a frame. -/
def readFrame (l : List Byte) : Frame :=
  let e := ofBe ((l.drop 12).take 2)
  if e = 0x8100 then ⟨l.take 6, (l.drop 6).take 6, some (ofBe ((l.drop 14).take 2)), ofBe ((l.drop 16).take 2), l.drop 18⟩
  else ⟨l.take 6, (l.drop 6).take 6, none, e, l.drop 14⟩

/-- Destination addresses a port accepts. -/
def Dev.netDst (d : Dev) (n : Nat) (a : List Byte) : Bool :=
  a = d.ownMac n || (d.on (F.NET_CFG.BCAST_EN n) && a = List.replicate 6 0xFF)
    || (d.on (F.NET_CFG.PTP_MC_EN n) && (a = [0x01, 0x1B, 0x19, 0, 0, 0] || a = [0x01, 0x80, 0xC2, 0, 0, 0x0E]))

/-- The tag rule of R433. -/
def Dev.netTag (d : Dev) (n : Nat) (f : Frame) : Bool := match f.tci with
  | none => !d.on (F.NET_CFG.TAG_MODE n)
  | some t => if d.on (F.NET_CFG.TAG_MODE n) then t % 4096 = d.fld (F.NET_VLAN.VID n) else d.netRole n = 3

/-- The source rules of R429. -/
def Dev.netSrc (d : Dev) (n : Nat) (f : Frame) : Bool :=
  let kvtPort : Bool := d.netRole n = 1 || d.netRole n = 2
  !((d.on (F.NET_CFG.LOCK_EN n) || (kvtPort && f.etype = d.fld F.KVT_ETYPE.KVT_ETYPE)) && f.src ≠ d.partnerMac n)

/-- Complete a frame descriptor (Table HST-8): TCI, USED, RESULT, DONE_FLAGS, and a timestamp if there is one. -/
def State.frameDone (n : Nat) (irq : Bool) (tci used code detail flags : Nat) (ts : Option Nat) (s : State) : State :=
  let a := s.dev.ringDesc n
  let s := if flags.testBit 2 then s.ringWrite n (a + 8) (leBytes 2 tci) else s
  let s := s.ringWrite n (a + 10) (leBytes 2 used ++ leBytes 1 code ++ leBytes 1 detail ++ leBytes 1 (flags + 1))
  let s := match ts with
    | some v => s.ringWrite n (a + 16) (ptpBytes leBytes v ++ leBytes 6 s.dev.now.toNat)
    | none => s
  s.map (fun d => d.consume n irq)

/-- The host's fields of a frame descriptor: address, LEN, FLAGS, TCI; `ok` when they are in their ranges. -/
structure FrameDesc where
  addr : Nat
  len : Nat
  flags : Nat
  tci : Nat
  ok : Bool
deriving DecidableEq, Repr

/-- Read a frame descriptor; RXP buffers have 64 to 9,216 bytes. -/
def readDesc (rxp : Bool) (l : List Byte) : FrameDesc :=
  let addr := ofLe (l.take 4)
  let len := ofLe ((l.drop 4).take 2)
  let flags := ofLe ((l.drop 6).take 1)
  ⟨addr, len, flags, ofLe ((l.drop 8).take 2),
    addr % 4 = 0 && flags < (if rxp then 2 else 8) && ofLe ((l.drop 7).take 1) = 0 && (!rxp || (64 ≤ len && len ≤ 9216))⟩

/-- Put a frame into the next buffer of an RXP ring (R171, R184): bytes, TCI of a stripped tag, completion detail, timestamp.
Descriptors out of their ranges complete with BAD_PARAM and are passed over, at most `fuel` of them. -/
def State.rxpPut (n : Nat) (data : List Byte) (tci : Option Nat) (detail : Nat) (ts : Option Nat) : Nat → State → State
  | 0, s => s.map (fun d => d.inc (F.HST_RING_CNT.DROP n))
  | fuel + 1, s =>
    if !s.dev.ringRuns n ∨ s.dev.ringAvail n = 0 then s.map (fun d => d.inc (F.HST_RING_CNT.DROP n))
    else match s.dev.ringBar (s.dev.ringDesc n) with
      | some e => (s.ringLost n (s.dev.ringDesc n) false e).map (fun d => d.inc (F.HST_RING_CNT.DROP n))
      | none =>
        let (l, s) := s.ringRead n (s.dev.ringDesc n) 16
        let b := readDesc true l
        let irq := b.flags.testBit 0
        if !b.ok then (s.frameDone n irq 0 0 2 0 0 none).rxpPut n data tci detail ts fuel
        else if b.len < data.length then
          (s.map (fun d => d.inc (F.HST_RING_CNT.DROP n))).frameDone n irq 0 0 8 0 0 none
        else match s.dev.ringBar b.addr with
          | some _ => ((s.ringMiss n b.addr true).map (fun d => d.inc (F.HST_RING_CNT.DROP n))).frameDone n irq 0 0 6 0 0 none
          | none =>
            let flags := (if ts.isSome then 2 else 0) + (if tci.isSome then 4 else 0)
            (s.ringWrite n b.addr data).frameDone n irq (tci.getD 0) data.length 0 detail flags ts

/-- The passes `rxpPut` may take. -/
def Dev.rxpFuel (d : Dev) (n : Nat) : Nat := min 16 (d.ringAvail n + 1)

/-- An accepted frame for the bound RXP ring; without one it is dropped and counted in NO_RING (Table NET-2). -/
def State.rxpFrame (n : Nat) (f : Frame) (raw : List Byte) (s : State) : State :=
  let stripped : Bool := f.tci.isSome && s.dev.on (F.NET_CFG.TAG_MODE n)
  let data := if stripped then f.dst ++ f.src ++ beBytes 2 f.etype ++ f.body else raw
  match s.dev.boundRing 4 n with
  | none => s.map (fun d => d.inc (F.NET_RX_DROP2.NO_RING n))
  | some r =>
    s.rxpPut r data (if stripped then f.tci else none) 0 (some (s.dev.ptpStamp n (s.dev.sfld (F.NET_TS_CORR.RX_CORR n)))) (s.dev.rxpFuel r)

/-- Codewords of Ethernet FEC that the frame came in: corrected and uncorrectable ones are counted. -/
def Dev.netFecCount (d : Dev) (n corrected uncorr : Nat) : Dev :=
  if d.netFec n then (d.incPair (F.NET_FEC_CORR_LO.V n) (F.NET_FEC_CORR_HI.V n) corrected).inc (F.NET_FEC_UNCORR.UNCORRECTABLE n) uncorr else d

/-- Why a received frame is rejected, its counter being that of its first failing condition (R429). -/
def Dev.netReject (d : Dev) (n : Nat) (raw : List Byte) (fcsOk : Bool) : Option Fld :=
  let f := readFrame raw
  let len := raw.length + 4
  if !fcsOk then some (F.NET_RX_ERR.FCS n)
  else if len < 64 ∨ 9216 < len then some (F.NET_RX_ERR.LENGTH n)
  else if !d.netDst n f.dst then some (F.NET_RX_DROP.ADDRESS n)
  else if !d.netTag n f then some (F.NET_RX_DROP.TAG n)
  else if !d.netSrc n f then some (F.NET_RX_DROP2.SOURCE n)
  else none

/-! ### Transmitting (R431, R432, R436, R437) -/

/-- A KVT payload as the frame on the wire without its FCS (R431, R433), padded to 60 bytes. -/
def Dev.kvtWire (d : Dev) (n : Nat) (payload : List Byte) : List Byte :=
  let tag := if d.on (F.NET_CFG.TAG_MODE n) then beBytes 2 0x8100 ++ beBytes 2 (d.fld (F.NET_VLAN.PCP n) * 8192 + d.fld (F.NET_VLAN.VID n)) else []
  let f := d.partnerMac n ++ d.ownMac n ++ tag ++ beBytes 2 (d.fld F.KVT_ETYPE.KVT_ETYPE) ++ payload
  f ++ List.replicate (60 - f.length) 0

/-- The transmit timestamp goes into originTimestamp of a one-step Sync (R437): `at_` is where the bytes after the EtherType begin. -/
def oneStep (f : List Byte) (at_ ts : Nat) : List Byte :=
  f.take (at_ + 34) ++ beBytes 6 (ts / 1000000000) ++ beBytes 4 (ts % 1000000000) ++ f.drop (at_ + 44)

/-- The frame is a Sync whose twoStepFlag is 0 (R437). -/
def isSync (f : Frame) : Bool := f.etype = 0x88F7 && (f.body.headD 0).toNat % 16 = 0 && !((f.body.drop 6).headD 0).getLsbD 1 && 44 ≤ f.body.length

/-- A frame leaves the port: it is counted as sent and shown, or it is cut off by the loss of the link (R439). -/
def Dev.netSend (d : Dev) (n : Nat) (f : List Byte) (cut : Bool) : Dev :=
  if cut then d.inc (F.NET_TX_DROP.LINK_DROP n)
  else { d.incPair (F.NET_TX_FRAMES_LO.V n) (F.NET_TX_FRAMES_HI.V n) with out := { d.out with frames := d.out.frames ++ [(n, f)] } }

/-- The next TXP frame of a port (R171, R431, R432, R436, R437, R439). -/
def State.txpSend (n : Nat) (cut : Bool) (s : State) : State := match s.dev.boundRing 3 n with
  | none => s
  | some r =>
    if !s.dev.ringRuns r ∨ s.dev.ringAvail r = 0 then s
    else match s.dev.ringBar (s.dev.ringDesc r) with
      | some e => s.ringLost r (s.dev.ringDesc r) false e
      | none =>
        let (l, s) := s.ringRead r (s.dev.ringDesc r) 16
        let b := readDesc false l
        let irq := b.flags.testBit 0
        let refuse (detail : Nat) (s : State) : State :=
          (s.map (fun d => d.inc (F.NET_TX_DROP.REFUSED n))).frameDone r irq 0 0 5 detail 0 none
        if !b.ok then s.frameDone r irq 0 0 2 0 0 none
        else if s.dev.netRole n = 0 then refuse 2 s
        else
          let vlan := b.flags.testBit 2
          let wire := b.len + 4 + (if vlan then 4 else 0)
          if wire < 64 ∨ 9216 < wire then s.frameDone r irq 0 0 8 0 0 none
          else match s.dev.ringBar b.addr with
            | some _ => (s.ringMiss r b.addr false).frameDone r irq 0 0 6 0 0 none
            | none =>
              let (data, s) := s.ringRead r b.addr b.len
              let f := readFrame data
              if f.etype = s.dev.fld F.KVT_ETYPE.KVT_ETYPE then refuse 1 s
              else
                let ts := s.dev.ptpStamp n (s.dev.sfld (F.NET_TS_CORR.TX_CORR n))
                let timed := b.flags.testBit 1
                let data := if timed && s.dev.on (F.NET_CFG.ONE_STEP_EN n) && isSync f then oneStep data (data.length - f.body.length) ts else data
                let data := if vlan then data.take 12 ++ beBytes 2 0x8100 ++ beBytes 2 b.tci ++ data.drop 12 else data
                let s := s.map (fun d => d.netSend n data cut)
                if cut then s.frameDone r irq 0 0 7 0 0 none
                else s.frameDone r irq 0 0 0 0 (if timed then 2 else 0) (if timed then some ts else none)

end Sys2Proof.Machine
end

