-- ==== Sys2Proof/Machine/KvtRecv.lean ====
section
/-! DEFINITION. Machine/KvtRecv.lean: the bytes of KVT frames, the receive checks, sessions, delivery, acknowledgements and timers
(chapter 17). -/

namespace Sys2Proof.Machine

/-! ### Frames as bytes (Table KVT-1, R461, R462) -/

/-- Bytes 0 to 27 + LENGTH. -/
def kvtHead (auth : Bool) (f : KvtFrame) : List Byte :=
  leBytes 1 (16 + 8 * auth.toNat) ++ leBytes 1 f.type ++ leBytes 1 (f.syn.toNat + 2 * f.dup.toNat) ++ leBytes 1 0 ++ beBytes 4 f.sid
    ++ beBytes 4 f.seq ++ beBytes 4 f.ack ++ beBytes 6 f.stamp ++ beBytes 2 f.sub ++ beBytes 2 f.payload.length ++ beBytes 2 0 ++ f.payload

/-- A key's bytes, byte 0 first: bits [31:24] of the first word (Table KVT-9). -/
def keyBytes (k : List Word) : List Nat := k.flatMap (fun w => beNat 4 w.toNat)

/-- TAG of R462 over the bytes up to the end of CRC: initial value SID, TX_SEQ, SUB, 0. -/
def kvtTag (key : List Word) (f : KvtFrame) (upToCrc : List Byte) : List Nat :=
  gmac64 (keyBytes key) (beNat 4 f.sid ++ beNat 4 f.seq ++ beNat 2 f.sub ++ [0, 0]) (upToCrc.map (fun b => b.toNat))

/-- The Ethernet payload of a frame that a port sends. -/
def Dev.kvtBytes (d : Dev) (p : Nat) (f : KvtFrame) : List Byte :=
  let auth := d.on (F.KVT_PCFG.AUTH_EN p)
  let h := kvtHead auth f
  let c := h ++ beBytes 4 (crc32c h)
  if auth then c ++ (kvtTag ((d.kv p).key.getD []) f c).map (fun n => BitVec.ofNat 8 n) else c

/-- The payload length of a type (Table KVT-3); none for a type it does not list. APP has any length up to 1,024. -/
def kvtLenOk (type len : Nat) : Bool :=
  if type = 12 then len ≤ 1024
  else if type = 15 then len = 0
  else if type = 8 then len = 12
  else if type = 11 then len = 20
  else if 1 ≤ type ∧ type ≤ 10 then len = 16
  else false

/-- A received Ethernet payload read as a frame: the frame, whether its CRC and its tag are right; none when check 1 fails
(Table KVT-2). -/
def Dev.kvtParse (d : Dev) (p : Nat) (l : List Byte) : Option (KvtFrame × Bool × Bool) :=
  let at_ (i n : Nat) : Nat := ofBe ((l.drop i).take n)
  let len := at_ 24 2
  let auth := d.on (F.KVT_PCFG.AUTH_EN p)
  let total := 32 + len + (if auth then 8 else 0)
  let formOk : Bool := 32 ≤ l.length && at_ 0 1 = 16 + 8 * auth.toNat && at_ 2 1 < 4 && at_ 3 1 = 0 && at_ 26 2 = 0
    && len ≤ 1024 && kvtLenOk (at_ 1 1) len && total ≤ l.length
  if !formOk then none
  else
    let f : KvtFrame := {
      type := at_ 1 1, syn := (at_ 2 1).testBit 0, dup := (at_ 2 1).testBit 1, sid := at_ 4 4, seq := at_ 8 4, ack := at_ 12 4,
      stamp := at_ 16 6, sub := at_ 22 2, payload := (l.drop 28).take len }
    let crcOk : Bool := crc32c (l.take (28 + len)) = at_ (28 + len) 4
    let tagOk : Bool := !auth
      || kvtTag ((d.kv p).key.getD []) f (l.take (32 + len)) = ((l.drop (32 + len)).take 8).map (fun b => b.toNat)
    some (f, crcOk, tagOk)

/-! ### Delivery (R465, R466) -/

/-- The enabled ring of a type that binds a port, if it is secure (R466). -/
def Dev.secureRing (d : Dev) (type p : Nat) : Option Nat := (d.boundRing type p).filter d.ringSecure

/-- No local consumer (R465). -/
def Dev.kvtUnused (d : Dev) (p : Nat) : Dev := d.inc (F.KVT_ERR3.UNUSED p)

/-- A head record from its payload (Table KVT-5). -/
def readHead (type : Nat) (b : Nat → Nat → Nat) : HeadRec :=
  let x := b 1 1
  { ev := if type = 3 then .gambit else if type = 4 then .gambitConfirm else if type = 5 then .gambitCancel
      else if x % 4 = 1 then .headState else .headEvent
    dir := x / 4 % 2, fast := x.testBit 3, slow := x.testBit 4, single := x.testBit 5, faulted := x.testBit 6
    gid := b 2 1, reason := b 3 1, speed := b 4 2, damp := b 6 3, at_ := some (BitVec.ofNat 48 (b 10 6)) }

/-- The effect of a delivered message (Table KVT-3). -/
def Dev.kvtEffect (d : Dev) (p : Nat) (f : KvtFrame) : Dev :=
  let b (i n : Nat) : Nat := ofBe ((f.payload.drop i).take n)
  let interlocking : Bool := d.netRole p = 2
  if f.type = 1 then d
  else if 2 ≤ f.type ∧ f.type ≤ 5 then
    match d.remoteOf p (b 0 1) with
    | [] => d.kvtUnused p
    | hs => forL hs (fun h d => d.remoteRecord h (readHead f.type b)) d
  else if f.type = 7 ∨ f.type = 10 then
    if !interlocking then d.inc (F.KVT_ERR3.ROLE_REJ p)
    else if f.type = 7 then
      if b 0 1 < 16 then (d.aspectRequest (b 0 1) (b 1 1) ((b 2 1).testBit 0) true 0xC0 (b 4 4)).1 else d.kvtUnused p
    else if b 0 1 < 64 then (d.secAuthorise (b 0 1) (b 1 1) 3 (d.on (F.SEC_RESET.AUTH_PERMIT (b 0 1))) 0x83 (b 4 4)).1
    else d.kvtUnused p
  else if f.type = 8 then (if b 1 1 < 16 then d.fallbackRx p (b 0 1) (b 1 1) (b 2 1 = 1) else d.kvtUnused p)
  else if f.type = 12 then
    match d.secureRing 4 p with
    | some _ => { d with appq := d.appq ++ [(p, f.payload)] }
    | none => d.kvtUnused p
  else d.kvtUnused p

/-- Deliver one sequenced frame (R454, R456): E passes it, an ACK is due, and its effect follows. -/
def Dev.kvtDeliver (d : Dev) (p : Nat) (f : KvtFrame) : Dev :=
  let d := d.setFld (F.KVT_SEQ_E.SEQ p) ((f.seq + 1) % 2 ^ 32)
  let d := d.incPair (F.KVT_RXMSG_LO.V p) (F.KVT_RXMSG_HI.V p)
  let d := d.modKv p (fun k => { k with
    ackDue := match k.ackDue with | some t => some t | none => some (d.now.plus (d.fld (F.KVT_TIME2.ACK_DELAY_US p))) })
  d.kvtEffect p f

/-- Held frames that follow without a gap are delivered (R454). -/
def Dev.kvtDeliverHeld (p : Nat) : Nat → Dev → Dev
  | 0, d => d
  | n + 1, d =>
    let k := d.kv p
    match k.held.find? (fun f => f.seq = d.fld (F.KVT_SEQ_E.SEQ p)) with
    | none => d
    | some f => ((d.setKv p { k with held := k.held.filter (fun g => g.seq ≠ f.seq) }).kvtDeliver p f).kvtDeliverHeld p n

/-- Frames acknowledged by a received ACK_SEQ leave the window, and queued messages enter it (R455, R457). -/
def Dev.kvtAcked (d : Dev) (p ack : Nat) : Dev :=
  if !d.kvtOpen p then d
  else
    let d := d.modKv p (fun k => { k with unacked := k.unacked.filter (fun x => !((ack + 2 ^ 32 - x.frame.seq) % 2 ^ 32 < 2 ^ 31 : Bool)) })
    d.kvtDrain p 64

/-- Check 6 and what follows it for a frame of the OPEN session (R454, R455, R469). -/
def Dev.kvtSequence (d : Dev) (p : Nat) (f : KvtFrame) : Dev :=
  let e := d.fld (F.KVT_SEQ_E.SEQ p)
  let ahead := (f.seq + 2 ^ 32 - e) % 2 ^ 32
  let behind := (e + 2 ^ 32 - f.seq) % 2 ^ 32
  let valid (d : Dev) : Dev := d.modKv p (fun k => { k with lastValid := d.now })
  if f.type = 15 then (valid d).kvtAcked p f.ack
  else if ahead = 0 then (((valid d).kvtDeliver p f).kvtDeliverHeld p 64).kvtAcked p f.ack
  else if ahead ≤ 63 then
    ((valid d).modKv p (fun k => { k with held := if k.held.any (fun g => g.seq = f.seq) then k.held else k.held ++ [f] })).kvtAcked p f.ack
  else if behind ≤ 64 then (((valid d).inc (F.KVT_ERR3.DUP_RX p)).kvtAck p true).kvtAcked p f.ack
  else if behind ≤ 2 ^ 31 then d.inc (F.KVT_ERR3.STALE p)
  else d.inc (F.KVT_ERR2.OUT_OF_WINDOW p)

/-! ### Age (R458) -/

/-- The age d of a frame: local arrival minus STAMP, signed. -/
def Dev.kvtD (d : Dev) (f : KvtFrame) : Int := sgn 48 ((d.now.toNat + 2 ^ 48 - f.stamp % 2 ^ 48) % 2 ^ 48)

/-- Set D_REF. -/
def Dev.setDref (d : Dev) (p : Nat) (v : Int) : Dev :=
  let u := unsgn 48 v
  ((d.setFld (F.KVT_DREF_LO.V p) (u % 2 ^ 32)).setFld (F.KVT_DREF_HI.V p) (u / 2 ^ 32)).modKv p (fun k => { k with drefAt := d.now })

/-- D_REF in force. -/
def Dev.dref (d : Dev) (p : Nat) : Int := sgn 48 (d.fld (F.KVT_DREF_LO.V p) + d.fld (F.KVT_DREF_HI.V p) * 2 ^ 32)

/-- An event raised at most once per second per port, with the frames failing in the last second (R471). -/
def Dev.kvtRate (d : Dev) (ev : Ev) (p : Nat) (last : Option Stamp) (count : Nat) : Bool × Dev :=
  let quiet : Bool := match last with | some t => d.now.since t < 1000000 | none => false
  if quiet then (false, d) else (true, d.note ev (.kvt p) 0 (leBytes 2 count))

/-- Stamps of the last second, with now. -/
def lastSecond (d : Dev) (l : List Stamp) : List Stamp := l.filter (fun t => d.now.since t < 1000000) ++ [d.now]

/-- Check 5: the frame is not too old, and D_REF follows; or it is discarded as AGED. -/
def Dev.kvtAge (d : Dev) (p : Nat) (f : KvtFrame) : Bool × Dev :=
  let x := d.kvtD f
  let ref := d.dref p
  if ((d.fld (F.KVT_TIME2.MAX_AGE_MS p) * 1000 : Nat) : Int) < x - ref then
    let l := lastSecond d (d.kv p).aged
    let d := (d.inc (F.KVT_ERR2.AGED p)).modKv p (fun k => { k with aged := l })
    match d.kvtRate .kvtAged p (d.kv p).agedEv l.length with
    | (true, d) => (false, d.modKv p (fun k => { k with agedEv := some d.now }))
    | (false, d) => (false, d)
  else (true, d.setDref p (min x (ref + (d.now.since (d.kv p).drefAt / 5000 : Nat))))

/-- A frame that fails check 2 or 3 (R460, R471). -/
def Dev.kvtInteg (d : Dev) (p : Nat) (cnt : Fld) : Dev :=
  let l := lastSecond d (d.kv p).integ
  let d := (d.inc cnt).modKv p (fun k => { k with integ := l })
  let d := match d.kvtRate .kvtIntegrity p (d.kv p).integEv l.length with
    | (true, d) => d.modKv p (fun k => { k with integEv := some d.now })
    | (false, d) => d
  if d.kvtOpen p ∧ d.fld (F.KVT_PUB_SIG.INTEG_MAX p) < l.length then d.kvtLose p 4 else d

/-! ### Sessions (R451 to R453, R467) -/

/-- What an opening session sends (R459, R467): a HEARTBEAT at once, then the current states in order. -/
def Dev.kvtOpenPublish (d : Dev) (p : Nat) : Dev :=
  let d := d.kvtHeartbeat p
  let d := forL ((bitsOf 32 (d.fld (F.KVT_PUB_HEAD.HEADS p))).filter d.part.hasHead) (fun h d =>
    d.kvtSend p 2 (headPayload d beBytes h { ev := .headState, faulted := !d.headServes h })) d
  let secs := bitsOf 64 (d.fld (F.KVT_PUB_SEC_LO.SECTIONS p) + d.fld (F.KVT_PUB_SEC_HI.SECTIONS p) * 2 ^ 32)
  let d := forL secs (fun i d => d.kvtSend p 6 (secPayload d beBytes i (d.secShown i) 0)) d
  let d := forL (bitsOf 16 (d.fld (F.KVT_PUB_SIG.SIGNALS p))) (fun s d => d.kvtSend p 9 (lampStatusPayload d beBytes s)) d
  let d := if d.on (F.KVT_PCFG.PUB_SAFE p) then d.kvtSend p 11 (safetyPayload d) else d
  forN 64 (fun r d => if d.on (F.LMP_RULE.REMOTE r) && d.fld (F.LMP_RULE.PORT r) = p then d.sendFallback r else d) d

/-- The session opens (R452): sequence number 1, E 1. -/
def Dev.kvtEnterOpen (d : Dev) (p : Nat) : Dev :=
  let d := (d.setFld (F.KVT_STAT.STATE p) 2).setFld (F.KVT_SEQ_TX.SEQ p) 1
  let d := (d.setFld (F.KVT_SEQ_E.SEQ p) 1).inc (F.KVT_SESS_CNT.OPENS p)
  let d := d.modKv p (fun k => { k with lastValid := d.now, lastSeq := d.now, integ := [], aged := [], retx := 0 })
  let d := d.note .kvtSessionOpen (.kvt p) 0 (leBytes 4 (d.fld (F.KVT_PEER_SID.PEER_SID p)) ++ [0])
  d.kvtOpenPublish p

/-- The SID a HEARTBEAT names as its partner's. -/
def namedSid (f : KvtFrame) : Nat := ofBe ((f.payload.drop 8).take 4)

/-- An OPENING port takes a SYN (R452, R458): its SID, its d; it answers with a SYN at once, and it opens when the SYN it took names its
own SID. -/
def Dev.kvtTake (d : Dev) (p : Nat) (f : KvtFrame) : Dev :=
  let d := (d.setFld (F.KVT_PEER_SID.PEER_SID p) f.sid).setDref p (d.kvtD f)
  let d := d.kvtSyn p
  if namedSid f = d.ownSid p then d.kvtEnterOpen p else d

/-- The SID belongs to the partner's end of this link. -/
def Dev.kvtOfLink (d : Dev) (p sid : Nat) : Bool := sid / 65536 = (1 - d.fld (F.KVT_PCFG.END p)) * 2 ^ 15 + d.fld (F.KVT_PCFG.LINK_ID p)

/-- A frame past checks 1 to 3: the checks of session, age and sequence, and its effect (R452 to R458). -/
def Dev.kvtSession (d : Dev) (p : Nat) (f : KvtFrame) : Dev :=
  let st := d.fld (F.KVT_STAT.STATE p)
  let peer := d.fld (F.KVT_PEER_SID.PEER_SID p)
  let syn : Bool := f.syn && f.type = 1
  let ours := d.kvtOfLink p f.sid
  let wrong (d : Dev) : Dev := d.inc (F.KVT_ERR2.WRONG_SID p)
  if st = 1 then
    if syn then (if ours then d.kvtTake p f else wrong d)
    else if !ours ∨ f.sid ≠ peer then wrong d
    else match d.kvtAge p f with
      | (false, d) => d
      | (true, d) => if f.type = 1 ∧ namedSid f = d.ownSid p then (d.kvtEnterOpen p).kvtSequence p f else d
  else if st = 2 then
    if syn ∧ ours ∧ (f.sid ≠ peer ∨ namedSid f ≠ d.ownSid p) then ((d.kvtLose p 3).kvtEnter p).kvtTake p f
    else if f.sid ≠ peer then wrong d
    else match d.kvtAge p f with
      | (false, d) => d
      | (true, d) => if syn then (d.modKv p (fun k => { k with lastValid := d.now })).kvtHeartbeat p else d.kvtSequence p f
  else if st = 3 ∧ syn ∧ ours then (d.kvtEnter p).kvtTake p f
  else wrong d

/-- A frame whose form is right reaches KVT: checks 2 and 3, then the session. -/
def Dev.kvtJudge (d : Dev) (p : Nat) (f : KvtFrame) (crcOk tagOk : Bool) : Dev :=
  if !crcOk then d.kvtInteg p (F.KVT_ERR.CRC_ERR p)
  else if d.on (F.KVT_PCFG.AUTH_EN p) && !tagOk then d.kvtInteg p (F.KVT_ERR.TAG_ERR p)
  else d.kvtSession p f

/-- The Ethernet payload of an accepted KVT frame reaches KVT (Table KVT-2). F5 stops KVT (R26). -/
def Dev.kvtReceive (d : Dev) (p : Nat) (l : List Byte) : Dev :=
  if !d.on (F.KVT_PCFG.ENABLE p) || d.fld F.FLT_STATE.DEV_STATE = 5 then d
  else match d.kvtParse p l with
    | none => d.inc (F.KVT_ERR2.FORM_ERR p)
    | some (f, crcOk, tagOk) => d.kvtJudge p f crcOk tagOk

/-! ### Enabling and timers (R456 to R460, R471) -/

/-- The port passes the check of R471. -/
def Dev.kvtConfigOk (d : Dev) (p : Nat) : Bool :=
  (d.netRole p = 1 || d.netRole p = 2) && d.fld (F.KVT_PCFG.LINK_ID p) ≠ 0
    && 2 * d.fld (F.KVT_TIME.HB_MS p) < d.fld (F.KVT_TIME2.TIMEOUT_MS p)
    && d.fld (F.KVT_TIME.RTO_MS p) * (d.fld (F.KVT_TIME.RETRIES p) + 1) < d.fld (F.KVT_TIME2.TIMEOUT_MS p)
    && !(d.on (F.KVT_PCFG.AUTH_EN p) && (d.kv p).committed.isNone)

/-- ENABLE of a port's KVT was written 1, or is judged by R538: a pass enters OPENING once the link is up. -/
def Dev.kvtStart (d : Dev) (p : Nat) : Dev :=
  if d.kvtConfigOk p then (if d.netUp p && d.fld (F.KVT_STAT.STATE p) = 0 then d.kvtOpening p else d)
  else (d.setFld (F.KVT_PCFG.ENABLE p) 0).note .kvtConfig (.kvt p) 0 (leBytes 2 0)

/-- KVT of a port is disabled: its session closes, and its consumers see the loss of an OPEN one. -/
def Dev.kvtStop (d : Dev) (p : Nat) : Dev :=
  let open_ := d.kvtOpen p
  let d := d.setFld (F.KVT_STAT.STATE p) 0
  let d := d.modKv p (fun k => { k with held := [], unacked := [], queue := [], ackDue := none })
  if open_ then { d with kvtLost := d.kvtLost ++ [p] } else d

/-- The milliseconds have passed since a stamp. -/
def Dev.msPast (d : Dev) (t : Stamp) (ms : Nat) : Bool := ms * 1000 ≤ d.now.since t

/-- RTO_MS has passed since the oldest unacknowledged frame was last sent (R457). -/
def Dev.kvtRetransmit (d : Dev) (p : Nat) : Dev :=
  let k := d.kv p
  let rto := d.fld (F.KVT_TIME.RTO_MS p)
  match k.unacked with
  | [] => d
  | x :: _ =>
    if !d.kvtOpen p ∨ !d.msPast x.at_ rto then d
    else if k.unacked.any (fun y => d.msPast y.at_ rto && d.fld (F.KVT_TIME.RETRIES p) + 1 ≤ y.times) then d.kvtLose p 2
    else
      let d := forL k.unacked (fun y d => d.kvtEmit p y.frame) d
      d.setKv p { k with unacked := k.unacked.map (fun y => { y with at_ := d.now, times := y.times + 1 }), retx := k.retx + k.unacked.length }

/-- An OPENING port sends its SYN again (R451). -/
def Dev.kvtSynResend (d : Dev) (p : Nat) : Dev :=
  if d.fld (F.KVT_STAT.STATE p) = 1 && d.msPast (d.kv p).synAt (d.fld (F.KVT_TIME.RTO_MS p)) then d.kvtSyn p else d

/-- HB_MS have passed without a sequenced frame (R459). -/
def Dev.kvtBeat (d : Dev) (p : Nat) : Dev :=
  if d.kvtOpen p && d.msPast (d.kv p).lastSeq (d.fld (F.KVT_TIME.HB_MS p)) then d.kvtHeartbeat p else d

/-- An ACK is due (R456). -/
def Dev.kvtAckDue (d : Dev) (p : Nat) : Dev := match (d.kv p).ackDue with
  | some t => if d.kvtOpen p && d.now.reached t then d.kvtAck p false else d
  | none => d

/-- TIMEOUT_MS without a valid frame (R460). -/
def Dev.kvtTimeout (d : Dev) (p : Nat) : Dev :=
  if d.kvtOpen p && d.msPast (d.kv p).lastValid (d.fld (F.KVT_TIME2.TIMEOUT_MS p)) then d.kvtLose p 1 else d

/-- The commands of RTO_MS and TIMEOUT_MS. One that expires with the very tick of its command acts when that tick is over, since a frame that
still arrives in it prevents the expiry (R469). -/
def Dev.kvtExpire (d : Dev) (p : Nat) : KvtTimer → Dev
  | .rto => d.kvtRetransmit p
  | .timeout => d.kvtTimeout p
def Dev.kvtDeadline (d : Dev) (p : Nat) : KvtTimer → Option Stamp
  | .rto => (d.kv p).unacked.head?.map (fun x => x.at_.plus (d.fld (F.KVT_TIME.RTO_MS p) * 1000))
  | .timeout => some ((d.kv p).lastValid.plus (d.fld (F.KVT_TIME2.TIMEOUT_MS p) * 1000))
def Dev.kvtTimer (d : Dev) (p : Nat) (x : KvtTimer) : Dev :=
  if d.kvtOpen p && d.kvtDeadline p x = some d.now then d.modKv p (fun k => { k with expires := k.expires ++ [x] }) else d.kvtExpire p x

/-- The tick ends: the timers that expired with it act, if nothing has prevented it. -/
def Dev.kvtTickEnd (d : Dev) : Dev :=
  forN 4 (fun p d => forL (d.kv p).expires (fun x d => d.kvtExpire p x) (d.modKv p (fun k => { k with expires := [] }))) d

/-- A timer waits for the end of the tick. -/
def Dev.kvtExpires (d : Dev) : Bool := (List.range 4).any (fun p => !(d.kv p).expires.isEmpty)

/-- REOPEN_MS after the loss (Table KVT-4): the port enters OPENING, which without a link is CLOSED at once. -/
def Dev.kvtReopen (d : Dev) (p : Nat) : Dev :=
  if d.fld (F.KVT_STAT.STATE p) = 3 && d.msPast (d.kv p).lostAt (d.fld (F.KVT_PCFG.REOPEN p) * 10) then
    (if d.netUp p then d.kvtOpening p else (d.kvtOpening p).kvtLinkGone p)
  else d

/-- A key word is staged (R463). -/
def Dev.kvtKeyWord (d : Dev) (p j : Nat) (w : Word) : Dev := d.modKv p (fun k => { k with staged := k.staged.set j w })

/-- The staged key is committed for the next OPENING (R463). -/
def Dev.kvtCommit (d : Dev) (p : Nat) : Dev :=
  (d.modKv p (fun k => { k with committed := some k.staged })).setFld (F.KVT_KEY_CTRL.KEY_VALID p) 1

/-! ### Frames of a port -/

/-- Delivered APP messages reach the secure RXP rings of their ports (R466). -/
def State.apps (s : State) : State :=
  let q := s.dev.appq
  q.foldl (fun s x => match s.dev.secureRing 4 x.1 with
    | some r => s.rxpPut r x.2 none 0xA0 none (s.dev.rxpFuel r)
    | none => s) (s.map (fun d => { d with appq := [] }))

/-- A received frame is checked and goes where Table NET-2 sends it (R429, R430). -/
def State.frameReceived (n : Nat) (raw : List Byte) (fcsOk : Bool) (corrected uncorr : Nat) (s : State) : State :=
  if !s.dev.netRuns n || !s.dev.netUp n || s.dev.netRole n = 0 then s
  else
    let s := s.map (fun d => d.netFecCount n corrected uncorr)
    match s.dev.netReject n raw fcsOk with
    | some c => s.map (fun d => d.inc c)
    | none =>
      let s := s.map (fun d => d.incPair (F.NET_RX_FRAMES_LO.V n) (F.NET_RX_FRAMES_HI.V n))
      let f := readFrame raw
      if s.dev.netRole n = 3 then s.rxpFrame n f raw
      else if f.etype = s.dev.fld F.KVT_ETYPE.KVT_ETYPE then s.map (fun d => d.kvtReceive n f.body)
      else if s.dev.on (F.NET_CFG.RX_OTHER n) then s.rxpFrame n f raw
      else s.map (fun d => d.inc (F.NET_RX_DROP2.NO_RING n))

/-- The port sends its next waiting frame, a KVT frame first (R431); `cut` when the link goes down during it (R439). A TXP
descriptor of a port in TWIN role is refused (R432). In F5 its transmitter is off (R26, Table ELP-16). -/
def State.frameTransmit (n : Nat) (cut : Bool) (s : State) : State :=
  if s.dev.netRole n = 0 then s.txpSend n false
  else if !s.dev.netRuns n || !s.dev.netUp n || s.dev.fld F.FLT_STATE.DEV_STATE = 5 then s
  else match tabGet [] s.dev.kvtTx n with
    | f :: rest =>
      s.map (fun d => { d with kvtTx := tabPut [] d.kvtTx n rest }.netSend n (d.kvtWire n (d.kvtBytes n f)) cut)
    | [] => s.txpSend n cut

/-- APP_SEND of a length and payload bytes (Table HST-10): refused without an open session. -/
def Dev.appSend (d : Dev) (p : Nat) (payload : List Byte) : Dev := d.kvtSend p 12 payload

end Sys2Proof.Machine
end

