-- ==== Sys2Proof/Machine/Twin.lean ====
section
/-! DEFINITION. Machine/Twin.lean: the Aqsor lane, tick lock, pairing, comparison, castling, partner loss and promotion
(chapter 18). -/

namespace Sys2Proof.Machine

def Dev.modTwin (d : Dev) (f : TwinSt → TwinSt) : Dev := { d with twin := f d.twin }

def Dev.twinOn (d : Dev) : Bool := d.on F.TWN_CFG.ENABLE
def Dev.twinState (d : Dev) : Nat := d.fld F.TWN_STAT.STATE
def Dev.isMirror (d : Dev) : Bool := d.on F.TWN_STAT.ROLE
def Dev.twinLocked (d : Dev) : Bool := d.on F.TWN_STAT.LOCKED
def Dev.twinRunning (d : Dev) : Bool := d.on F.TWN_STAT.RUNNING
def Dev.parallel (d : Dev) : Bool := d.on F.TWN_CFG.WIRING
/-- Comparison runs: PAIRED and LOCKED. -/
def Dev.compares (d : Dev) : Bool := d.twinOn && d.twinState = 3 && d.twinLocked

/-- A twin event: flag and F0 record. -/
def Dev.twinNote (d : Dev) (flag : Fld) (ev : Ev) (detail : List Byte := []) : Dev := (d.setFld flag 1).note ev .twn 0 detail

/-- The channels shared by the twin (R473). -/
def Dev.sharedChans (d : Dev) : List Nat :=
  (List.range 64).filter (fun c => d.on (F.HAZ_CH_CFG.TWIN_SHARED c) && d.fld (F.HAZ_CH_CFG.MODE c) = 1)

/-- The mode in which this evaluator holds a shared channel: CURRENT as the running Lead, otherwise LISTEN; without a twin the
channel follows its MODE (R474, R500). -/
def Dev.sharedMode (d : Dev) : Nat := if d.twinOn && !(d.twinRunning && !d.isMirror) then 3 else 1

/-- Move every shared channel to the mode of this evaluator's role at a boundary (R214). -/
def Dev.moveShared (d : Dev) (b : Stamp) : Dev := forL d.sharedChans (fun c d => d.chanMove c d.sharedMode b) d

/-! ### Blocks (R478) -/

/-- A block of 64 bytes. -/
def aqBlock (type index : Nat) (st : Stamp) (payload : List Byte) : List Byte :=
  leBytes 1 type ++ leBytes 1 index ++ beBytes 6 st.toNat ++ padTo 56 0 payload

/-- Hand a block to the lane; in F5 nothing is sent (R498). -/
def Dev.aqSend (d : Dev) (b : List Byte) : Dev :=
  if !d.twinOn ∨ d.fld F.FLT_STATE.DEV_STATE = 5 then d else { d with out := { d.out with blocks := d.out.blocks ++ [b] } }

/-- A CASTLE block: 1 PLAN, 2 ACK, 3 ABORT. -/
def Dev.castleSend (d : Dev) (index : Nat) (b : Stamp) (reason : Nat) : Dev :=
  d.aqSend (aqBlock 2 index d.now (beBytes 6 b.toNat ++ leBytes 1 reason))

/-! ### Partner loss and promotion (R495 to R499) -/

/-- A castling that is planned ends without an exchange (R489). -/
def Dev.castleAbort (d : Dev) : Dev :=
  if d.twin.plan.isSome then
    ((d.modTwin (fun w => { w with plan := none })).setFld F.TWN_STAT.CASTLING 0).twinNote F.TWN_FLAG.CASTLE_ABORTED .twinCastleAborted
  else d

/-- The reaction of R496: TWIN_LOST in PARALLEL, TWIN_LOST_SERIES in SERIES. -/
def Dev.twinLostReact (d : Dev) (why : Nat) : Dev :=
  let d := (d.setFld F.TWN_FLAG.LOST 1).setFld F.TWN_STAT.STATE 4
  if d.parallel then d.fault2 .twinLost 0 0 0 0 (leBytes 1 why) else d.fault .twinLostSeries .twn

/-- The pins of every generator keep their driver until its next boundary (R490, R497). -/
def Dev.handOver (d : Dev) : Dev :=
  let old := d.pinsHeld
  forL d.pgList (fun k d => d.modGen k (fun g => { g with hand := some (g.hand.getD old) })) d

/-- At B both evaluators exchange roles (R490). -/
def Dev.castleSwitch (d : Dev) : Dev := match d.twin.plan with
  | some p =>
    if p.acked && d.now.reached p.b && d.compares then
      let d := d.handOver.setBit F.TWN_STAT.ROLE (!d.isMirror)
      let d := (d.moveShared p.b).setFld F.TWN_STAT.CASTLING 0
      let d := (d.modTwin (fun w => { w with plan := none, trims := 0 })).inc F.TWN_CNT_HASH.CASTLINGS
      d.twinNote F.TWN_FLAG.CASTLED .twinCastled
    else d
  | none => d

/-- The partner is lost (R495): a Lead keeps its role with its reaction, a Mirror watches its shared channels (R497). A castling whose B is reached has happened (R494). -/
def Dev.twinLose (d : Dev) (why : Nat) : Dev :=
  let d := d.castleSwitch
  if d.twinOn && d.twinState = 3 && d.twin.watch.isNone then
    let d := (d.castleAbort.setFld F.TWN_STAT.LOCKED 0).modTwin (fun w => { w with locks := 0, slips := 0, trims := 0, mine := [], theirs := [] })
    if d.isMirror then d.modTwin (fun w => { w with watch := some d.now, lostWhy := why }) else d.twinLostReact why
  else d

/-- The case of R495 that holds now, or 0. -/
def Dev.twinLossCase (d : Dev) : Nat :=
  if d.fld F.TWN_TIME.SILENCE_US ≤ d.now.since d.twin.lastCw then 1
  else if d.fld F.TWN_TIME.LINK_ERR_MAX < (d.twin.lost.filter (fun t => d.now.since t < 1000000)).length then 2
  else if 3 ≤ d.twin.slips then 3
  else if !d.netUp (d.fld F.TWN_CFG.PORT) then 4
  else 0

/-- A twin that is not PAIRED yet waits again when its link fails: a held evaluator gives up its start stamp, a running one that is
ALONE shows no lock (R501, R505). -/
def Dev.twinUnpair (d : Dev) : Dev :=
  let st := d.twinState
  if !d.twinOn then d
  else if d.twin.held && (st = 1 || st = 2) then
    ((d.setFld F.TWN_STAT.STATE 1).setFld F.TWN_STAT.LOCKED 0).modTwin (fun w => { w with startAt := none, locks := 0, slips := 0, trims := 0 })
  else if st = 4 then d.setFld F.TWN_STAT.LOCKED 0
  else d

/-- Declare the partner lost in any case of R495; a twin that is not PAIRED waits again. -/
def Dev.twinLossCheck (d : Dev) : Dev := match d.twinLossCase with
  | 0 => d
  | why => if d.twinState = 3 then d.twinLose why else d.twinUnpair

/-- A record of a shared channel shows an excited loop (R497): an absolute code at or above its head's OPEN_CODE. -/
def Dev.twinWatch (d : Dev) (r : ChanRec) : Dev :=
  let limit := match d.sysOfChan r.chan with | some (h, _) => d.fld (F.HED_OPEN.OPEN_CODE h) | none => 1
  if d.twinOn && r.chan ∈ d.sharedChans && !r.blanked && limit ≤ r.code.natAbs then d.modTwin (fun w => { w with excitedAt := some d.now }) else d

/-- No shared channel has shown an excited loop after a stamp. -/
def Dev.loopsQuiet (d : Dev) (since : Stamp) : Bool := match d.twin.excitedAt with
  | some t => !t.later since
  | none => true

/-- The Mirror takes the Lead role: channels at the next multiple of 10, SO_DRV at once, generator pins at their boundaries. -/
def Dev.twinPromote (d : Dev) (why : Nat) : Dev :=
  let d := (d.handOver.setFld F.TWN_STAT.ROLE 0).modTwin (fun w => { w with trims := 0 })
  let d := d.moveShared (ceilStamp 10 (d.now + 1))
  ((d.inc F.TWN_CNT_HASH.PROMOTIONS).twinNote F.TWN_FLAG.PROMOTED .twinPromoted).twinLostReact why

/-- The Mirror stays Mirror, isolated. -/
def Dev.twinIsolate (d : Dev) : Dev :=
  ((d.setFld F.TWN_STAT.STATE 5).setFld F.TWN_FLAG.ISOLATED 1).fault .twinIsolated .twn

/-- PROMOTE_US after the loss, a Mirror promotes itself or is isolated (R497). -/
def Dev.promoteJudge (d : Dev) : Dev := match d.twin.watch with
  | some t =>
    if d.fld F.TWN_TIME.PROMOTE_US ≤ d.now.since t then
      let why := d.twin.lostWhy
      let d := d.modTwin (fun w => { w with watch := none })
      if d.loopsQuiet t then d.twinPromote why else d.twinIsolate
    else d
  | none => d

/-! ### The lane (R477, R486) -/

/-- Codewords have been lost: they are counted, TWIN_LINK_ERROR at most once per second, and no record up to the next multiple of
1,000 is judged (R486). -/
def Dev.lostCodewords (d : Dev) (n : Nat) : Dev :=
  let recent := d.twin.lost.filter (fun t => d.now.since t < 1000000)
  let d := (d.inc F.TWN_CNT_LINK.LOST_CW n).modTwin (fun w => { w with
    lost := recent ++ List.replicate (min n 16) d.now, noJudge := some (ceilStamp 1000 (d.now + 1)) })
  let quiet : Bool := match d.twin.errAt with | some t => d.now.since t < 1000000 | none => false
  if quiet then d else (d.modTwin (fun w => { w with errAt := some d.now })).twinNote F.TWN_FLAG.LINK_ERROR .twinLinkError

/-- The port in TWIN role; a held one has turned its lane off (R443). -/
def Dev.twinPort (d : Dev) : Option Nat :=
  (List.range 4).find? (fun n => d.on (F.NET_CFG.ENABLE n) && d.netRole n = 0 && d.fld (F.NET_STAT.STATE n) ≠ 4)

/-- A codeword arrives: it decodes or not, with how many symbols corrected, its marker and its counter (R476, R477). -/
def Dev.codeword (d : Dev) (decodes corrected : Bool) (marker : BitVec 4) (counter : BitVec 16) : Dev := match d.twinPort with
  | none => d
  | some n =>
    let d := d.incPair F.TWN_CW_LO.V F.TWN_CW_HI.V
    let d := if decodes then d else (d.inc F.TWN_CNT_LINK.UNCORRECTABLE).inc (F.NET_FEC_UNCORR.UNCORRECTABLE n)
    let d := if decodes && corrected then d.incPair (F.NET_FEC_CORR_LO.V n) (F.NET_FEC_CORR_HI.V n) else d
    let d := if decodes && marker = 0b1010#4 then
        let gap := match d.twin.ctr with | some c => (counter.toNat + 65535 - c) % 65536 | none => 0
        let d := if 0 < gap ∧ d.laneLock.isSome then d.lostCodewords gap else d
        let run := if gap = 0 then min 4 (d.twin.goodRun + 1) else 1
        let d := d.modTwin (fun w => { w with ctr := some counter.toNat, goodRun := run, badRun := 0, lastCw := d.now })
        if 4 ≤ run ∧ d.laneLock.isNone then { d with laneLock := some d.now } else d
      else
        let d := if d.laneLock.isSome then d.lostCodewords 1 else d
        let d := d.modTwin (fun w => { w with ctr := w.ctr.map (fun c => (c + 1) % 65536), goodRun := 0, badRun := min 3 (w.badRun + 1) })
        if 3 ≤ d.twin.badRun then { d with laneLock := none } else d
    d.twinLossCheck

/-! ### Time marks (R479, R502) -/

/-- The heads HD_0 to HD_31 and the lamps in service, as TIME_MARK reports them. -/
def servingHeads (d : Dev) : Nat := (List.range 32).foldl (fun m h => if d.headEnabled h && d.headServes h then m + 2 ^ h else m) 0
def servingLamps (d : Dev) : Nat := (List.range 48).foldl (fun m k => if d.lampOn k && d.lampServes k then m + 2 ^ k else m) 0

/-- The TIME_MARK block of this tick: GEN_CYCLES `cyc` of the caller's generators, TX_OFS in ps. -/
def Dev.markBlock (d : Dev) (cyc txOfs : Nat) : List Byte :=
  let rx := match d.twin.m with
    | some m => if -2147483648 < m ∧ m < 2147483648 then unsgn 32 m else 0x80000000
    | none => 0x80000000
  let st := d.twinState + 8 * d.fld F.TWN_STAT.ROLE + 16 * d.fld F.TWN_STAT.LOCKED + 32 * d.fld F.TWN_STAT.RUNNING
    + 64 * d.fld F.TWN_CFG.WIRING + 128 * d.fld F.TWN_CFG.LEAD_PREF
  let start := match d.twin.startAt with | some t => if d.isMirror then 0 else t.toNat | none => 0
  aqBlock 1 0 d.now (beBytes 4 txOfs ++ beBytes 4 rx ++ beBytes 8 cyc ++ beBytes 4 (d.fld F.BOT_SEAL_IN_FORCE.CODE)
    ++ beBytes 4 (d.fld F.TWN_PAIR_ID.PAIR_ID) ++ leBytes 1 st
    ++ leBytes 1 (d.fld F.FLT_STATE.DEV_STATE + 8 * d.fld F.BOT_STATUS.COMMISSIONING) ++ leBytes 1 (d.fld F.PWR_RAIL_STAT.VSENS_OK)
    ++ leBytes 1 0 ++ beBytes 6 start ++ beBytes 4 (servingHeads d) ++ beBytes 6 (servingLamps d))

/-- GEN_CYCLES of a count of SQUALL cycles: the Mirror's adjustments included (R482). -/
def Dev.genCycles (d : Dev) (cyc : Nat) : Nat := ((cyc : Int) + d.twin.genAdj).toNat

/-- A TIME_MARK is sent at each multiple of 10 (R479). -/
def Dev.markSend (d : Dev) (cyc txOfs : Nat) : Dev :=
  if d.twinOn && d.now.toNat % 10 = 0 then d.aqSend (d.markBlock (d.genCycles cyc) txOfs) else d

/-- RX_MEAS of a mark as a number, if there is one. -/
def rxOf (k : Mark) : Option Int := if k.rxMeas = 0x80000000#32 then none else some (sgn 32 k.rxMeas.toNat)

/-- A bit of byte 32 of a mark. -/
def stateBit (k : Mark) (i : Nat) : Bool := k.state.getLsbD i

/-- The first condition of Table TWN-7 that fails, or 0. -/
def Dev.pairRefusal (d : Dev) (k : Mark) : Nat :=
  let blank (c : Nat) : Bool := c = 0xFFFFFFFF
  let partner := stateBit k 5
  let apart := min (d.now.since k.stamp) (k.stamp.since d.now)
  if d.fld F.TWN_PAIR_ID.PAIR_ID ≠ k.pairId.toNat then 1
  else if d.parallel ≠ stateBit k 6 then 2
  else if blank (d.fld F.BOT_SEAL_IN_FORCE.CODE) ≠ blank k.sealCode.toNat then 3
  else if d.twinRunning ∧ partner then 4
  else if !d.twinRunning ∧ !partner ∧ d.on F.TWN_CFG.LEAD_PREF = stateBit k 7 then 5
  else if d.twin.held ∧ d.twin.afterS ∧ 1000 < apart then 6
  else 0

/-- The twin is PAIRED (R504): its event, and the causes of a loss have gone; no HASH block has come yet. -/
def Dev.twinPair (d : Dev) : Dev :=
  let d := (d.setFld F.TWN_STAT.STATE 3).twinNote F.TWN_FLAG.PAIRED .twinPaired (leBytes 1 (d.fld F.TWN_STAT.ROLE))
  let d := (d.clear .twinLostSeries .twn).clear .twinLost .twn
  (d.egGone 3 0).modTwin (fun w => { w with told := 0, heldAt := d.now, mine := [], theirs := [], lost := [], startAt := none, hash := none, mask := 0, mine64 := none })

/-- θ in ps from the Mirror's own m and the Lead's (R479). -/
def Dev.theta (d : Dev) (k : Mark) : Option Int := match d.twin.m, rxOf k with
  | some a, some b => some ((a - b) / 2)
  | _, _ => none

/-- What a Mirror does with θ (R481): THETA, its next trims, the lock, a slip. -/
def Dev.thetaApply (d : Dev) (th : Int) : Dev :=
  let tenths := clampI (-32768) 32767 (th.tdiv 100)
  let d := d.setSFld F.TWN_THETA.THETA tenths
  let n := min 8 ((th.natAbs + 2500) / 12500)
  let d := d.modTwin (fun w => { w with
    trims := if 0 ≤ th then (n : Int) else -(n : Int)
    locks := if th.natAbs ≤ 25000 then min 100 (w.locks + 1) else 0
    slips := if d.twinLocked && 50000 < th.natAbs then w.slips + 1 else 0 })
  let d := if 100 ≤ d.twin.locks then d.setFld F.TWN_STAT.LOCKED 1 else d
  if 3 ≤ d.twin.slips then
    let d := d.twinNote F.TWN_FLAG.TICK_SLIP .twinTickSlip (leBytes 2 (unsgn 16 tenths))
    let d := d.twinLose 3
    (d.setFld F.TWN_STAT.LOCKED 0).modTwin (fun w => { w with slips := 0 })
  else d

/-- Ticks end: in a Mirror each trim still to come makes one of them 81 or 79 cycles long (R59). -/
def Dev.twinTicks (d : Dev) (ticks : Nat) : Dev :=
  let n := if d.twinOn && d.isMirror then min ticks d.twin.trims.natAbs else 0
  if n = 0 then d
  else if 0 < d.twin.trims then (d.incWrap F.ISL_TRIM.LONG_TICKS n).modTwin (fun w => { w with trims := w.trims - n })
  else (d.incWrap F.ISL_TRIM.SHORT_TICKS n).modTwin (fun w => { w with trims := w.trims + n })

/-- GEN_CYCLES against the Lead's (R482): one cycle per mark while LOCKED; a held Mirror takes the Lead's count. -/
def Dev.genAlign (d : Dev) (cyc lead : Nat) : Dev :=
  let own := d.genCycles cyc
  if d.twin.held then d.modTwin (fun w => { w with genAdj := (lead : Int) - cyc })
  else if !d.twinLocked then d
  else if lead < own then d.modTwin (fun w => { w with genAdj := w.genAdj - 1 })
  else if own < lead then d.modTwin (fun w => { w with genAdj := w.genAdj + 1 })
  else d

/-- A held evaluator whose conditions hold takes its role; a Mirror that did not restart by S loads the partner's count once (R503). -/
def Dev.twinRole (d : Dev) (k : Mark) : Dev :=
  let mirror : Bool := stateBit k 5 || !d.on F.TWN_CFG.LEAD_PREF
  let d := d.setBit F.TWN_STAT.ROLE mirror
  if mirror && d.twinState = 1 then
    if d.twin.afterS then d.setFld F.TWN_STAT.STATE 2
    else if d.twin.loaded then d
    else
      let count := k.stamp.plus (k.txOfs.toNat / 1000000)
      { d with now := count, recsAt := count }.modTwin (fun w => { w with
        loaded := true, m := none, heldAt := count - (d.now - w.heldAt), lastCw := count, errAt := none, excitedAt := none })
  else d

/-- The start stamps of R504. -/
def Dev.twinStart (d : Dev) (k : Mark) : Dev :=
  let partner := stateBit k 5
  if d.twin.startAt.isSome ∨ !d.twinLocked then d
  else if d.isMirror then
    if partner then d.modTwin (fun w => { w with startAt := some (ceilStamp 1000 (d.now.plus 1000)) })
    else if k.start ≠ 0 then d.modTwin (fun w => { w with startAt := some k.start })
    else d
  else if !partner then d.modTwin (fun w => { w with startAt := some (ceilStamp 1000 (d.now.plus 2000)) })
  else d

/-- A pairing condition that fails is reported once per reason and hold (R502). -/
def Dev.pairRefuse (d : Dev) (r : Nat) : Dev :=
  let d := d.setFld F.TWN_STAT.REFUSAL r
  let d := if d.twin.held then ((d.setFld F.TWN_STAT.STATE 1).setFld F.TWN_STAT.LOCKED 0).modTwin (fun w => { w with startAt := none, locks := 0 }) else d
  if d.twin.told.testBit r then d
  else (d.modTwin (fun w => { w with told := setMask w.told r true })).twinNote F.TWN_FLAG.REFUSED .twinPairRefused (leBytes 1 r)

/-- A partner's TIME_MARK arrives `ps` after the tick edge of now; `cyc` counts the own SQUALL cycles at the mark's stamp (R479 to R482,
R502 to R504). A Lead whose Mirror shows the lock or the pairing gone has lost it. -/
def Dev.markRx (d : Dev) (k : Mark) (ps cyc : Nat) : Dev :=
  if !d.twinOn ∨ d.laneLock.isNone ∨ !d.netUp (d.fld F.TWN_CFG.PORT) then d
  else
    let m : Int := (sgn 48 ((d.now.toNat + 2 ^ 48 - k.stamp.toNat) % 2 ^ 48)) * 1000000 + ps - k.txOfs.toNat
    let d := d.modTwin (fun w => { w with mark := some k, m := some m })
    let d := (d.setFld F.TWN_PARTNER_SEAL.SEAL k.sealCode.toNat).setFld F.TWN_PARTNER_STAT.MARK
      (k.state.toNat + k.devState.toNat * 256 + k.vsens.toNat * 65536)
    let st := d.twinState
    if st = 1 ∨ st = 2 ∨ (st = 4 ∧ d.twinRunning) then
      let r := d.pairRefusal k
      if r ≠ 0 then d.pairRefuse r
      else
        let d := if d.twin.held then d.twinRole k else d.setFld F.TWN_STAT.ROLE 0
        let d := if d.isMirror then
            let d := d.genAlign cyc k.gen.toNat
            match d.theta k with | some th => d.thetaApply th | none => d
          else d.setBit F.TWN_STAT.LOCKED (stateBit k 4)
        if d.twin.held then d.twinStart k
        else if stateBit k 5 && stateBit k 4 then d.twinPair else d
    else if st = 3 ∧ d.twin.watch.isNone then
      if d.isMirror then
        let d := d.genAlign cyc k.gen.toNat
        match d.theta k with | some th => d.thetaApply th | none => d
      else if k.stamp.later d.twin.heldAt && (!stateBit k 4 || k.state.toNat % 8 ≠ 3) then d.twinLose 3
      else d
    else d

/-! ### Hold and start (R501, R505) -/

/-- The engines are held for the twin after boot Step 6 or the re-application of an S (R501). -/
def Dev.twinHold (d : Dev) (afterS : Bool) : Dev :=
  let d := ((d.setFld F.TWN_STAT.STATE 1).setFld F.TWN_STAT.ROLE 0).setFld F.TWN_STAT.LOCKED 0
  let d := { d.setFld F.TWN_STAT.RUNNING 0 with twin := {
    held := true, heldAt := d.now, afterS := afterS, lastCw := d.now, ctr := d.twin.ctr, goodRun := d.twin.goodRun } }
  d.moveShared (ceilStamp 10 d.now)

/-- LOCK_WAIT_MS passes without pairing (R505): the evaluator is to start ALONE or ISOLATED; the engines then start. -/
def Dev.lockWait (d : Dev) : Dev :=
  if d.twin.held && d.twin.startAt.isNone && d.fld F.TWN_CFG.LOCK_WAIT_MS * 1000 ≤ d.now.since d.twin.heldAt then
    let d := d.modTwin (fun w => { w with startAt := some d.now, trims := 0 })
    if d.loopsQuiet (d.now - BitVec.ofNat 48 (d.fld F.TWN_TIME.PROMOTE_US)) then
      (d.setFld F.TWN_STAT.ROLE 0).setFld F.TWN_STAT.STATE 4
    else (d.setFld F.TWN_STAT.ROLE 1).setFld F.TWN_STAT.STATE 5
  else d

/-- The twin lets the engines start now: no hold, or its start stamp is reached. -/
def Dev.twinLets (d : Dev) : Bool := !d.twin.held || (match d.twin.startAt with | some t => d.now.reached t | none => false)

/-- What the start of the engines does to the twin (R474, R504, R505). -/
def Dev.twinStarted (d : Dev) : Dev :=
  if !d.twinOn ∨ !d.twin.held then d
  else
    let d := (d.setFld F.TWN_STAT.RUNNING 1).modTwin (fun w => { w with held := false, startAt := none })
    let d := d.moveShared (ceilStamp 10 d.now)
    if d.twinState = 4 then d.twinLostReact 1
    else if d.twinState = 5 then d.twinIsolate
    else d.twinPair

/-! ### Comparison (R483 to R485) -/

/-- TWIN_SAMPLE_MISMATCH on every local head with a system on the channel (R483). -/
def Dev.sampleMismatch (d : Dev) (c : Nat) : Dev :=
  let d := d.setFld F.TWN_FLAG.SAMPLE_MISMATCH 1
  forL (d.headList.filter (fun h => !remote h && (d.headChan h 0 = c || d.headChan h 1 = c))) (fun h d =>
    if d.has .twinSampleMismatch (.head h) c then d
    else (((d.headCancel h 5).fault .twinSampleMismatch (.head h) c (Src.chan c).enc).headEndgameOver h).headLeave h) d

/-- Compare two records of a channel (R483). -/
def Dev.compareChan (d : Dev) (c : Nat) (a b : Word) : Dev :=
  let bit (w : Word) (i : Nat) : Bool := w.getLsbD i
  if bit a 16 || bit a 18 || bit b 16 || bit b 18 || (b.toNat / 2 ^ 20) % 4 = 0 then d
  else
    let far : Bool := d.fld F.TWN_CMP.TOL < (sgn 16 a.toNat - sgn 16 b.toNat).natAbs
    if bit a 17 ≠ bit b 17 || (!bit a 17 && far) then
      let n := min 15 (tabGet 0 d.twin.dis c + 1)
      let d := (d.inc F.TWN_CNT_CMP.DIGEST_MISMATCH).modTwin (fun w => { w with dis := tabPut 0 w.dis c n, agr := tabDel w.agr c })
      if d.fld F.TWN_CMP.DIGEST_CONFIRM ≤ n then d.sampleMismatch c else d
    else
      let n := min 100 (tabGet 0 d.twin.agr c + 1)
      let d := d.modTwin (fun w => { w with agr := tabPut 0 w.agr c n, dis := tabDel w.dis c })
      if 100 ≤ n then { d with causes := d.causes.filter (fun x => !(x.ev = .twinSampleMismatch && x.sub = c)) } else d

/-- Compare one part of a digest with the own records of its stamp. -/
def Dev.compareDigest (d : Dev) (part : Nat) (ws : List Word) (own : List (Nat × Word)) : Dev :=
  forN 14 (fun i d =>
    let c := 14 * part + i
    match own.find? (fun e => e.1 = c) with
    | some (_, a) => if c < 64 ∧ d.on (F.HAZ_CH_CFG.TWIN_SHARED c) then d.compareChan c a (ws.getD i 0) else d
    | none => d) d

/-- A partner's DIGEST block (R483): it is compared at once, or when the own records of its stamp exist. -/
def Dev.digestRx (d : Dev) (st : Stamp) (part : Nat) (ws : List Word) : Dev :=
  if !d.compares then d
  else match d.twin.own.find? (fun e => e.1 = st) with
    | some (_, own) => d.compareDigest part ws own
    | none => d.modTwin (fun w => { w with digests := (w.digests ++ [(st, part, ws)]).drop (w.digests.length - 31) })

/-- The records of the aperture that ends now are kept, compared with digests that came first, and sent (R478, R483). -/
def Dev.digestOwn (d : Dev) : Dev :=
  if !d.twinOn ∨ d.recsAt ≠ d.now then d
  else
    let own := d.recs
    let due := d.twin.digests.filter (fun e => e.1 = d.now)
    let d := d.modTwin (fun w => { w with own := (w.own.filter (fun e => e.1 ≠ d.now) ++ [(d.now, own)]).drop (w.own.length - 31),
                                          digests := w.digests.filter (fun e => e.1 ≠ d.now) })
    let d := if d.compares then forL due (fun e d => d.compareDigest e.2.1 e.2.2 own) d else d
    let word (c : Nat) : Word := match own.find? (fun e => e.1 = c) with | some (_, w) => w | none => 0
    forN 5 (fun k d => d.aqSend (aqBlock 4 k d.now ((List.range 14).flatMap (fun i => beBytes 4 (word (14 * k + i)).toNat)))) d

/-- A lamp fault that takes a lamp out of service. -/
def lampFaultCode (code : Nat) : Bool := 0x0C01 ≤ code && code ≤ 0x0C05

/-- A record of a kind that is matched (R484). -/
def matchedKind (r : Decision) : Bool :=
  (r.src.code = 8 && r.src.inst < 32 && (r.code = 0x0810 || r.code = 0x0812)) || (r.src.code = 12 && r.src.inst < 48 && lampFaultCode r.code)

/-- Records of equal kind (R484): a head's KIND, DIR and SINGLE flag, or a lamp's event code. -/
def sameKind (a b : Decision) : Bool :=
  let x (r : Decision) : Nat := (r.content.getD 1 0).toNat
  a.code = b.code && a.src = b.src && (a.src.code = 12 || (x a &&& 0b00100111) = (x b &&& 0b00100111))

/-- The head or lamp of a record is in service in the partner's latest mark. -/
def Dev.partnerServes (d : Dev) (r : Decision) : Bool := match d.twin.mark with
  | some k => if r.src.code = 8 then k.heads.getLsbD r.src.inst else k.lamps.getLsbD r.src.inst
  | none => false

/-- The place of a decision among those of its stamp (R12): heads, sections, signals, functions, each by index. Lamps stand before the
signals (assumption log 152). -/
def decisionRank (s : Src) : Nat :=
  if s.code = 8 then s.inst else if s.code = 9 then 64 + s.inst else if s.code = 12 then 128 + s.inst else 256 + s.inst

/-- Decision `a` precedes `b`: its stamp is earlier, or the same with no higher place. -/
def decisionPrecedes (a b : Decision) : Bool :=
  if a.stamp = b.stamp then decisionRank a.src ≤ decisionRank b.src else b.stamp.later a.stamp

/-- A decision takes its place in a list in order, after those equal to it. -/
def decisionPlace (r : Decision) : List Decision → List Decision
  | [] => [r]
  | x :: l => if decisionPrecedes x r then x :: decisionPlace r l else r :: x :: l

/-- The number of a decision record among those of its stamp; stamps of the last 100 ms are remembered. -/
def Dev.decisionSeq (d : Dev) (t : Stamp) : Dev × Nat :=
  let n := tabGet 0 d.twin.seqs t.toNat
  (d.modTwin (fun w => { w with
    seqs := (tabPut 0 w.seqs t.toNat (n + 1)).filter (fun e => d.now.since (BitVec.ofNat 48 e.1) < 100000) }), n)

/-- Decision records leave for the partner in the order of R12, each with its number in that order; those that are matched are kept
(R484). -/
def Dev.decisionSend (d : Dev) : Dev :=
  let q := d.decq.foldl (fun l r => decisionPlace r l) []
  forL q (fun r d =>
    let (d, n) := d.decisionSeq r.stamp
    let d := d.aqSend (aqBlock 3 (n % 256) r.stamp (beBytes 2 r.src.enc ++ beBytes 2 r.code ++ padTo 16 0 r.content))
    if matchedKind r && d.compares then d.modTwin (fun w => { w with mine := w.mine ++ [⟨r, d.partnerServes r, false⟩] }) else d) { d with decq := [] }

/-- The own service of a record's head or lamp. -/
def Dev.ownServes (d : Dev) (r : Decision) : Bool :=
  if r.src.code = 8 then d.headEnabled r.src.inst && d.headServes r.src.inst else d.lampOn r.src.inst && d.lampServes r.src.inst

/-- A partner's DECISION block. -/
def Dev.decisionRx (d : Dev) (r : Decision) : Dev :=
  if matchedKind r && d.compares then d.modTwin (fun w => { w with theirs := w.theirs ++ [⟨r, d.ownServes r && d.partnerServes r, false⟩] }) else d

/-- TWIN_DECISION_MISMATCH on the record's head or lamp. -/
def Dev.decisionMismatch (d : Dev) (r : Decision) : Dev :=
  let d := (d.setFld F.TWN_FLAG.DECISION_MISMATCH 1).inc F.TWN_CNT_CMP.DECISION_MISMATCH
  if r.src.code = 8 then
    let d := d.headCancel r.src.inst 5
    ((d.strike .twinDecisionMismatch r.src 0 (leBytes 2 r.code)).headEndgameOver r.src.inst).headLeave r.src.inst
  else if d.has .twinDecisionMismatch r.src then d
  else
    let d := d.fault .twinDecisionMismatch r.src 0 0 (leBytes 2 r.code)
    match d.egFind 2 r.src.inst with
    | some e => d.egExpire e 3
    | none => d

/-- Records whose time has come are judged (R484, R486): matched by a record of equal kind within SLACK_US, or a mismatch. -/
def Dev.decisionJudge (d : Dev) : Dev :=
  let slack := d.fld F.TWN_CMP.SLACK_US
  let due (x : TwinRec) : Bool := !x.judged && d.now.reached (x.what.stamp.plus (slack + 10))
  let near (a b : Stamp) : Bool := min (a.since b) (b.since a) ≤ slack
  let skipped (x : TwinRec) : Bool := match d.twin.noJudge with | some t => t.reached x.what.stamp | none => false
  let matched (l : List TwinRec) (x : TwinRec) : Bool := l.any (fun y => sameKind x.what y.what && near x.what.stamp y.what.stamp)
  let counts (x : TwinRec) : Bool :=
    !skipped x && (if x.what.src.code = 8 then d.ownServes x.what && d.partnerServes x.what else x.serves)
  let bad := (d.twin.mine.filter (fun x => due x && counts x && !matched d.twin.theirs x))
    ++ (d.twin.theirs.filter (fun x => due x && counts x && !matched d.twin.mine x))
  let old (x : TwinRec) : Bool := 1000 < d.now.since x.what.stamp && d.now.reached x.what.stamp
  -- a record is judged once and stays for a while as a match of the other side's records
  let rest (l : List TwinRec) : List TwinRec := (l.filter (fun x => !old x)).map (fun x => { x with judged := x.judged || due x })
  let d := if d.compares then forL bad (fun x d => d.decisionMismatch x.what) d else d
  d.modTwin (fun w => { w with mine := rest w.mine, theirs := rest w.theirs })

/-- The sections that are CLEAR, OCCUPIED or CLEAR_RESTRICTED (R485). -/
def Dev.hashMask (d : Dev) : Nat :=
  (List.range 64).foldl (fun m i => if d.secEnabled i && (d.secState i = 0 || d.secState i = 1 || d.secState i = 4) then m + 2 ^ i else m) 0

/-- The hash over a compared set. -/
def Dev.secHash (d : Dev) (set : Nat) : Nat :=
  crc64 ((bitsOf 64 set).flatMap (fun i => leBytes 1 i ++ beBytes 2 (unsgn 16 (d.secCount i))))

/-- One compared boundary (R485). -/
def Dev.hashJudge (d : Dev) (a b : Nat) : Dev :=
  if a = b then (d.setFld F.TWN_STAT.HASH_UNEQUAL 0).clear .twinDisagree .twn
  else
    let d := (d.inc F.TWN_STAT.HASH_UNEQUAL).inc F.TWN_CNT_HASH.UNEQUAL
    if 3 ≤ d.fld F.TWN_STAT.HASH_UNEQUAL then (d.setFld F.TWN_FLAG.DISAGREE 1).fault .twinDisagree .twn else d

/-- At each multiple of 1,000 the hash is formed and sent (R485); a castling at that boundary comes first (R494). -/
def Dev.hashSend (d : Dev) : Dev :=
  let d := d.castleSwitch
  if !d.compares ∨ d.now.toNat % 1000 ≠ 0 then d
  else
    let (theirs, prev) := match d.twin.hash with
      | some (st, h, m) => if st = d.now then (some h, d.twin.mask) else (none, m)
      | none => (none, 0)
    let mask := d.hashMask
    let own := d.secHash (mask &&& prev)
    let d := (d.aqSend (aqBlock 5 0 d.now (beBytes 8 own ++ beBytes 8 mask))).modTwin (fun w => { w with mine64 := some (d.now, own) })
    match theirs with | some h => d.hashJudge own h | none => d

/-- A partner's HASH block. -/
def Dev.hashRx (d : Dev) (st : Stamp) (h mask : Nat) : Dev :=
  let d := d.castleSwitch
  if !d.compares then d
  else
    let prev := match d.twin.hash with | some (_, _, m) => m | none => 0
    let d := d.modTwin (fun w => { w with hash := some (st, h, mask), mask := prev })
    match d.twin.mine64 with
    | some (t, own) => if t = st then d.hashJudge own h else d
    | none => d

/-! ### Castling (R488 to R491, R494) -/

/-- The partner lacks the bank supply of a shared channel. -/
def Dev.partnerSupplyMissing (d : Dev) : Bool := match d.twin.mark with
  | some k => d.sharedChans.any (fun c => !k.vsens.getLsbD (c / 8))
  | none => true

/-- CASTLE's refusal detail (Table TWN-3), or 0; an automatic castling applies neither 4 nor 5. -/
def Dev.castleRefusal (d : Dev) (auto : Bool) : Nat :=
  if !d.compares then 1
  else if d.isMirror then 2
  else if d.on F.TWN_STAT.CASTLING then 3
  else if !auto ∧ d.partnerSupplyMissing then 4
  else if !auto ∧ 4 ≤ d.fld F.FLT_STATE.DEV_STATE then 5
  else 0

/-- Plan a castling and send its PLAN (R488, R491). -/
def Dev.castlePlan (d : Dev) (reason : Nat) : Dev :=
  let b := ceilStamp 1000 (d.now.plus (d.fld F.TWN_TIME.CASTLE_LEAD * 100))
  let d := (d.setFld F.TWN_CASTLE_B_LO.V (b.toNat % 2 ^ 32)).setFld F.TWN_CASTLE_B_HI.V (b.toNat / 2 ^ 32)
  let d := (d.setFld F.TWN_STAT.CASTLING 1).modTwin (fun w => { w with plan := some ⟨b, reason, false⟩, planAt := d.now })
  d.castleSend 1 b reason

/-- CASTLE from a ring (R488). -/
def Dev.castleCommand (d : Dev) : Dev × Done :=
  let r := d.castleRefusal false
  if r = 0 then (d.castlePlan 1, .ok) else (d, .refused r)

/-- A Lead in PARALLEL that enters F4 plans a castling with reason SAFE (R491); a plan of the same stamp by command takes that reason
(R494). -/
def Dev.autoCastle (d : Dev) : Dev :=
  let f4 : Bool := d.fld F.FLT_STATE.DEV_STATE = 4
  let enters := f4 && !d.twin.f4
  let d := d.modTwin (fun w => { w with f4 := f4 })
  if !(enters && d.parallel && d.on F.TWN_CFG.AUTO_CASTLE) then d
  else match d.twin.plan with
    | some p =>
      if d.compares && !d.isMirror && p.reason = 1 && d.twin.planAt = d.now then
        let sent := aqBlock 2 1 d.now (beBytes 6 p.b.toNat ++ leBytes 1 1)
        let d := { d with out := { d.out with blocks := d.out.blocks.filter (fun x => x ≠ sent) } }
        (d.modTwin (fun w => { w with plan := some { p with reason := 2 } })).castleSend 1 p.b 2
      else d
    | none => if d.castleRefusal true = 0 then d.castlePlan 2 else d

/-- The Mirror answers a PLAN (R489). -/
def Dev.castlePlanRx (d : Dev) (b : Stamp) (reason : Nat) : Dev :=
  if !(d.compares && d.isMirror) then d
  else
    let ahead : Bool := b.later d.now && 200 ≤ b.since d.now
    let supplied : Bool := d.sharedChans.all (fun c => d.bitOf F.PWR_RAIL_STAT.VSENS_OK (c / 8))
    let d := (d.setFld F.TWN_CASTLE_B_LO.V (b.toNat % 2 ^ 32)).setFld F.TWN_CASTLE_B_HI.V (b.toNat / 2 ^ 32)
    let d := (d.setFld F.TWN_STAT.CASTLING 1).modTwin (fun w => { w with plan := some ⟨b, reason, true⟩ })
    if ahead && supplied then d.castleSend 2 b reason else (d.castleSend 3 b reason).castleAbort

/-- The Lead receives the Mirror's ACK (R489). -/
def Dev.castleAckRx (d : Dev) (b : Stamp) : Dev := match d.twin.plan with
  | some p => if p.b = b && !d.isMirror then d.modTwin (fun w => { w with plan := some { p with acked := true } }) else d
  | none => d

/-- An ABORT leaves the roles unchanged (R489). -/
def Dev.castleAbortRx (d : Dev) (b : Stamp) : Dev := match d.twin.plan with
  | some p => if p.b = b then d.castleAbort else d
  | none => d

/-- Without an ACK by B − 100 µs the Lead sends ABORT (R489). -/
def Dev.castleDeadline (d : Dev) : Dev := match d.twin.plan with
  | some p =>
    if !p.acked && !d.isMirror && d.now.reached (p.b - 100) then (d.castleSend 3 p.b p.reason).castleAbort else d
  | none => d

/-! ### Enabling (R500) -/

/-- The twin passes the check of R500. -/
def Dev.twinConfigOk (d : Dev) : Bool :=
  let n := d.fld F.TWN_CFG.PORT
  let mode := d.netMode n
  d.on (F.NET_CFG.ENABLE n) && d.netRole n = 0 && (mode = 3 || mode = 4)
    && (List.range 64).all (fun c => !d.on (F.HAZ_CH_CFG.TWIN_SHARED c) || d.fld (F.HAZ_CH_CFG.MODE c) = 1)
    && d.fld F.TWN_PAIR_ID.PAIR_ID ≠ 0 && (bitsOf 8 (d.fld F.TWN_VEN.VEN_EN)).all d.part.hasVen

/-- ENABLE was written 1, or is judged by R538: a failing check leaves ENABLE at 0. The hold follows at the next start (R501). -/
def Dev.twinEnable (d : Dev) : Dev :=
  if d.twinConfigOk then (if d.twinState = 6 then d.setFld F.TWN_STAT.STATE 0 else d)
  else ((d.setFld F.TWN_CFG.ENABLE 0).setFld F.TWN_STAT.STATE 6).twinNote F.TWN_FLAG.CONFIG .twinConfig

/-- The twin is disabled: a single evaluator, whose shared channels follow their MODE. -/
def Dev.twinDisable (d : Dev) : Dev :=
  let d := { (((d.setFld F.TWN_STAT.STATE 0).setFld F.TWN_STAT.ROLE 0).setFld F.TWN_STAT.LOCKED 0).setFld F.TWN_STAT.CASTLING 0 with
    twin := { held := d.twin.held, startAt := some d.now, lastCw := d.now } }
  d.moveShared (ceilStamp 10 d.now)

/-- A block takes its place among those that wait for the lane: by type, the oldest first (R478). -/
def blockPlace (b : List Byte) : List (List Byte) → List (List Byte)
  | [] => [b]
  | x :: l => if (b.headD 0).toNat < (x.headD 0).toNat then b :: x :: l else x :: blockPlace b l

/-- The blocks of a command leave in the order of their priority (R478): TIME_MARK, CASTLE, DECISION, DIGEST, HASH. -/
def Dev.blocksLeave (d : Dev) : Dev :=
  if d.out.blocks.isEmpty then d else { d with out := { d.out with blocks := d.out.blocks.foldl (fun l b => blockPlace b l) [] } }

/-- What follows every command: F5 opens the switches of shared channels (R498), F4 of a Lead plans a castling (R491), decision
records leave. -/
def Dev.twinSettle (d : Dev) : Dev :=
  if !d.twinOn then { d with decq := [] }
  else
    let d := if d.fld F.FLT_STATE.DEV_STATE = 5 then forL d.sharedChans (fun c d => d.setFld (F.HAZ_CH_STAT.SWITCH_ON c) 0) d else d
    d.autoCastle.decisionSend.blocksLeave

end Sys2Proof.Machine
end

