-- ==== Sys2Proof/Machine/Reset.lean ====
section
/-! DEFINITION. Machine/Reset.lean: what a reset event does to registers (R8, R105, R191, R222, R305, R447) and to the engines'
working state, the islands' resets (R190, R421, R446), and the snapshot in retention RAM (R88, R89). -/

namespace Sys2Proof

/-- The place of a letter of Table SCP-4 in PWR_RESET_CAUSE and in Kept-by masks. -/
def Rst.bit : Rst → Nat
  | .g => 0 | .p => 1 | .b => 2 | .x => 3 | .w => 4 | .s => 5 | .n => 6 | .i => 7 | .y => 8

/-- The kind of outage-log entry of a reset event (Table PWR-7); 0 for events that write none. -/
def Rst.kind : Rst → Nat
  | .g => 1 | .p => 2 | .b => 3 | .x => 4 | .w => 5 | .s => 6 | .n => 0 | .i => 0 | .y => 0

end Sys2Proof

namespace Sys2Proof.Machine

/-! ### Registers -/

/-- A register word after a reset that takes the fields `lost` says (R8): these read their Reset value, the others are kept. -/
def RegDef.after (r : RegDef) (rst v : Word) (lost : FieldDef → Bool) : Word :=
  r.fields.foldl (fun a f => a ||| ((if lost f then rst else v) &&& BitVec.ofNat 32 f.mask)) 0

/-- The table of a block after a reset. -/
def keptTab (p : Part) (b : Blk) (lost : Nat → FieldDef → Bool) (t : Tab Word) : Tab Word :=
  t.filterMap (fun e => match findReg e.1 (regDefs b) with
    | none => none
    | some (r, _, _) =>
      let rst := resetAt p b e.1
      let w := r.after rst (tabGet rst t e.1) (lost e.1)
      if w = rst then none else some (e.1, w))

/-- The blocks of Table WLD-2. -/
def allBlks : List Blk := [.flt, .isl, .pwr, .bot, .wld, .hst, .haz, .hed, .sec, .win, .pgn, .lmp, .saf, .ser, .net, .kvt, .twn, .evt]

/-- The register file after a reset. -/
def Dev.resetRegs (d : Dev) (lost : Blk → Nat → FieldDef → Bool) : Regs :=
  allBlks.foldl (fun r b => r.setTab (keptTab d.part b (lost b) (r.tab b)) b) d.regs

/-- Fields that S resets: those of secure-owned instances whose Kept-by column does not list S, and the seal-locked ones of every
instance (R105), but for those of a non-secure instance whose column lists "world" (R305, R422, R447). -/
def Dev.lostS (d : Dev) (b : Blk) (off : Nat) (f : FieldDef) : Bool :=
  !f.keep.testBit 5 && (!d.regNonSecure b off || (f.acc = .rwl && !f.world))

/-- Fields that N resets: those of non-secure instances whose Kept-by column does not list N. -/
def Dev.lostN (d : Dev) (b : Blk) (off : Nat) (f : FieldDef) : Bool := d.regNonSecure b off && !f.keep.testBit 6

/-- Fields that an I of island `i` of ISL_ISLAND_HELD resets: 0 DUSK, 1 serial ports, 2 + n PORT_n. -/
def lostI (i : Nat) (b : Blk) (off : Nat) (f : FieldDef) : Bool :=
  !f.keep.testBit 7 && (if i = 0 then b = .hst else if i = 1 then b = .ser && off / 0x80 < 7 else b = .net && off / 0x1000 = i - 2)

/-- Keep the entries of a table whose index a predicate admits. -/
def tabKeep {α : Type} (f : Nat → Bool) (t : Tab α) : Tab α := t.filter (fun e => f e.1)

/-- Record the letters of the reset events that fall together (R97). -/
def Dev.recordReset (d : Dev) (mask : Nat) : Dev :=
  d.setFld F.PWR_RESET_CAUSE.EVENT (d.fld F.PWR_RESET_CAUSE.EVENT ||| mask)

/-! ### Events G, P, B, X, W and Y -/

/-- The letter of a mask that resets most, of those a boot follows with GLOW alive (R97). -/
def topRst (mask : Nat) : Option Rst := [Rst.p, .b, .x, .w, .y].find? (fun e => mask.testBit e.bit)

/-- A reset that a boot follows: every field not kept takes its Reset value, every engine and every record on its way is lost,
sample time restarts, SRAM and the TCMs lose their contents or are zeroed by the boot ROM (Table PWR-9). GLOW lives on, but for G, and
writes an entry of the letter that resets most (R92, R97). The supplies, the main supply and the levels at the pins read as they stood
(assumption log 184). -/
def State.fullReset (e : Rst) (also : Nat) (mode : PMode) (s : State) : State :=
  let mask := 2 ^ e.bit ||| also
  let kind := if e = .g then 0 else ((topRst mask).map Rst.kind).getD 0
  let s := if kind = 0 then s else s.map (fun d => d.logOutage kind mask)
  let s := (s.map (fun d => d.recordReset mask)).glow
  let d := s.dev
  let regs := if e = .g then {} else d.resetRegs (fun _ _ f => !f.keep.testBit e.bit)
  let pw : PowerSt := { mode := mode, sel := d.power.sel, rst := d.power.rst, rtcRem := if e = .g then 0 else d.power.rtcRem,
                            sent := if e = .g then 0 else d.sentTime }
  let d' : Dev := { part := d.part, regs := regs, freeCtr := d.freeCtr, power := pw
                    pins := d.pins, winIn := d.winIn, siMv := d.siMv, soFb := d.soFb.map (fun e => (e.1, (e.2.1, 0))) }
  let d' := (d'.setFld F.PWR_RAIL_STAT.IN_WINDOW (d.fld F.PWR_RAIL_STAT.IN_WINDOW)).setFld F.PWR_RAIL_STAT.VSENS_OK (d.fld F.PWR_RAIL_STAT.VSENS_OK)
  let d' := d'.setFld F.PWR_STATE.VMAIN_OK (d.fld F.PWR_STATE.VMAIN_OK)
  let ret := if e = .g then [] else s.store.mem.filter (fun c => retBase ≤ c.1 && c.1 < retBase + 0x1000)
  { s with dev := { d' with out := d.out }, store := { s.store with mem := ret } }

/-! ### S and N -/

/-- The instance of a record's source belongs to the non-secure world. -/
def Dev.srcNonSecure (d : Dev) (s : Src) : Bool := match srcEntry d s with
  | some e => d.nsEntry e
  | none => false

/-- Bank `b`, auxiliary channel `a`, monitor `m`, serial port `n`, port `n` belong to the non-secure world. -/
def Dev.bankNs (d : Dev) (b : Nat) : Bool := d.nsEntry b
def Dev.auxNs (d : Dev) (a : Nat) : Bool := d.nsEntry (8 + a)
def Dev.monNs (d : Dev) (m : Nat) : Bool := 112 ≤ m && d.nsEntry (24 + (m - 112))
def Dev.serNs (d : Dev) (n : Nat) : Bool := n < 7 && d.nsEntry (40 + n)

/-- Worlds, memory and cores after S: the SV cores and the secure AP cores are reset, and so is the secure interrupt controller (R160). -/
def Dev.worldsS (d : Dev) : WorldSt :=
  { d.worlds with
    zeroing := []
    apRunning := (bitsOf 4 d.worlds.apRunning).foldl (fun m n => if d.nsEntry (52 + n) then m + 2 ^ n else m) 0
    mtimecmp := tabKeep (fun c => 2 ≤ c && d.nsEntry (50 + c)) d.worlds.mtimecmp
    timerPend := (bitsOf 6 d.worlds.timerPend).foldl (fun m c => if 2 ≤ c && d.nsEntry (50 + c) then m + 2 ^ c else m) 0
    plicS := 0
    serveS := 0
    againS := 0
    plicReg := tabKeep (fun k => k % 2 = 1) d.worlds.plicReg }

/-- Worlds, memory and cores after N. -/
def Dev.worldsN (d : Dev) : WorldSt :=
  { d.worlds with
    plicN := 0
    serveN := 0
    againN := 0
    plicReg := tabKeep (fun k => k % 2 = 0) d.worlds.plicReg
    mtimecmp := tabKeep (fun c => c < 2 || !d.nsEntry (50 + c)) d.worlds.mtimecmp
    timerPend := (bitsOf 6 d.worlds.timerPend).foldl (fun m c => if c < 2 || !d.nsEntry (50 + c) then m + 2 ^ c else m) 0 }

/-- The working state that S leaves: that of non-secure instances, of the clocks, GLOW, the boot and the memory system; each lamp's
re-arm history (R363). Causes of class F5 stand, which S does not leave (R51); so do a missing bank supply and those of non-secure instances. -/
def Dev.resetS (d : Dev) : Dev :=
  { part := d.part, now := d.now, fine := d.fine, regs := d.resetRegs d.lostS, shadow := d.shadow, freeCtr := d.freeCtr, vectors := d.vectors
    causes := d.causes.filter (fun c => c.cls = 5 || c.ev = Ev.vsensLow || d.srcNonSecure c.src)
    egExpiry := d.egExpiry, egDirty := d.egDirty, evq := d.evq, startq := d.startq, logq := d.logq, clocks := d.clocks
    power := { d.power with waitS := false, waitN := false, wdtUs := 0 }
    boot := { d.boot with valid := none, invalid := 0, repeats := 0, periodAt := d.now, startDue := false, started := false, step6 := false, worst := if d.boot.worst = 5 then 5 else 0 }
    worlds := d.worldsS
    rings := tabKeep (fun n => !d.ringSecure n) d.rings
    chans := tabKeep (fun c => d.bankNs (c / 8)) d.chans
    banks := (tabKeep d.bankNs d.banks).map (fun e => (e.1, { e.2 with pg := 0, tail := none }))
    auxs := tabKeep d.auxNs d.auxs
    pins := d.pins
    winIn := d.winIn
    siMv := d.siMv
    soFb := d.soFb
    mons := tabKeep d.monNs d.mons
    sers := tabKeep d.serNs d.sers
    nets := tabKeep d.portNs d.nets
    kvt := d.kvt.filterMap (fun e => if e.2.epochSet then some (e.1, { epochSet := true }) else none)
    lamps := d.lamps.filterMap (fun e => if e.2.rearms = [] then none else some (e.1, { rearms := e.2.rearms }))
    out := d.out }

/-- What N takes: the registers and the working state of non-secure instances (R105, R160, R221, R304). -/
def Dev.resetN (d : Dev) : Dev :=
  { d with
    regs := d.resetRegs d.lostN
    causes := d.causes.filter (fun c => !d.srcNonSecure c.src)
    power := { d.power with waitN := false }
    worlds := d.worldsN
    rings := tabKeep d.ringSecure d.rings
    chans := tabKeep (fun c => !d.bankNs (c / 8)) d.chans
    banks := d.banks.filterMap (fun e =>
      let k : BankSt := if d.bankNs e.1 then { pg := e.2.pg, tail := e.2.tail } else e.2
      if k = {} then none else some (e.1, k))
    auxs := tabKeep (fun a => !d.auxNs a) d.auxs
    mons := tabKeep (fun m => !d.monNs m) d.mons
    sers := tabKeep (fun n => !d.serNs n) d.sers
    nets := tabKeep (fun n => !d.portNs n) d.nets }

/-- The high words of the pairs that a reset has touched have not latched since (R150). -/
def Dev.unlatch (d : Dev) (f : Blk → Nat → Bool) : Dev :=
  { d with shadow := d.shadow.filter (fun e => match blkAt (e.1 / 2 / 0x100000) with | some b => !f b (e.1 / 2 % 0x100000) | none => true) }

/-- The channel of a configured HAZ channel starts in the mode in force: its MODE, or that of the twin's role for a shared one. -/
def Dev.chanBegin (d : Dev) (c : Nat) : Dev :=
  let mode := d.fld (F.HAZ_CH_CFG.MODE c)
  if mode = 0 then d else d.chanStart c (if c ∈ d.sharedChans then d.sharedMode else mode)

/-- N (R103, R105, R160, R182): the non-secure world restarts. `flr` when it came as a function-level reset, which also resets the
MSI-X enable and masks as PCI Express requires. -/
def Dev.resetNonSecure (d : Dev) (also : Nat) (flr : Bool) : Dev :=
  let ns := d
  let d := (d.resetN.recordReset (2 ^ Rst.n.bit ||| also)).unlatch (fun b off => ns.regNonSecure b off)
  let d := if flr then { (d.setFld F.HST_LINK_FLAG.FLR 1).setFld F.HST_STATUS.MSIX_EN 0 with
      worlds := { d.worlds with msixMask := 0xFFFFFFFFFFFFFFFF#64, msixPend := 0 }, vectors := [] } else d
  let d := forN 64 (fun c d => if ns.bankNs (c / 8) then d.chanBegin c else d) d
  let d := forN 16 (fun a d => if ns.auxNs a then d.auxStart a else d) d
  let d := forN 16 (fun m d => if ns.monNs (112 + m) then d.winStart (112 + m) else d) d
  forN 4 (fun n d => if ns.nsEntry (52 + n) then
    { d with worlds := { d.worlds with apRunning := setMask d.worlds.apRunning n (d.bitOf F.WLD_AP_RUN.RUN n && !d.clocks.coresHeld) } } else d) d

/-! ### I -/

/-- The link's loss resets the configuration space (R188): MSI-X is disabled, its vectors are masked. -/
def Dev.linkReset (d : Dev) : Dev :=
  let d := ((d.setFld F.HST_STATUS.LINK_UP 0).setFld F.HST_STATUS.SPEED 0).setFld F.HST_STATUS.WIDTH 0
  { d.setFld F.HST_STATUS.MSIX_EN 0 with
    worlds := { d.worlds with msixMask := 0xFFFFFFFFFFFFFFFF#64, msixPend := 0 }, vectors := [] }

/-- An I of DUSK (R190): every ring is disabled and keeps its D; the link retrains. -/
def Dev.islandDusk (d : Dev) : Dev := { d with regs := d.resetRegs (lostI 0), rings := [] }.linkReset

/-- An I of the serial-port logic (R421). -/
def State.islandSer (s : State) : State :=
  let s := (List.range 7).foldl (fun s n => s.serIsland n) s
  s.map (fun d => forN 7 (fun n d => d.abBegin n) ({ d with regs := d.resetRegs (lostI 1) }.unlatch (fun b off => b = Blk.ser && off / 0x80 < 7)))

/-- An I of PORT_n (R446); a port in TWIN role takes none. -/
def Dev.islandPort (d : Dev) (n : Nat) : Dev :=
  if d.netRole n = 0 then d
  else
    let old := d.ptpNs n
    ({ d with regs := d.resetRegs (lostI (2 + n)) }.unlatch (fun b off => b = Blk.net && off / 0x1000 = n)).netIsland n old

/-- The island is held in reset under R69. -/
def Dev.islandHeld (d : Dev) (i : Nat) : Bool := d.bitOf F.ISL_ISLAND_HELD.HELD i

/-- An I applied to island `i` of ISL_ISLAND_HELD (R105). -/
def State.island (i : Nat) (s : State) : State :=
  let s := s.map (fun d => { d.recordReset (2 ^ Rst.i.bit) with clocks := { d.clocks with islandAt := tabPut 0 d.clocks.islandAt i (d.now.toNat + 1) } })
  if i = 0 then s.map Dev.islandDusk else if i = 1 then s.islandSer else s.map (fun d => d.islandPort (i - 2))

/-- A write of ISL_ISLAND_RESET (Table ISL-10, R69): each island named is reset, or released if it was held, which applies no further I
(assumption log 154). In the tick of a monitor's report it is the reset that the report applied (R64). -/
def State.islandWrite (mask : Nat) (s : State) : State :=
  (bitsOf 6 mask).foldl (fun s i =>
    if (2 ≤ i ∧ (s.dev.netRole (i - 2) = 0 ∨ !s.dev.part.hasPort (i - 2))) ∨ s.dev.now ∈ tabGet [] s.dev.clocks.resets i then s
    else if s.dev.islandHeld i then
      s.map (fun d => { d.setBitOf F.ISL_ISLAND_HELD.HELD i false with clocks := { d.clocks with resets := tabDel d.clocks.resets i } })
    else s.island i) s

/-! ### Snapshot (Table PWR-6, R88, R89) -/

/-- The 2-byte section record of a snapshot. -/
def secRecord (d : Dev) (i : Nat) : List Byte := leBytes 2 (unsgn 13 (d.secCount i) + d.secState i * 8192)

/-- Bytes 0 to 27 of the snapshot header with VALID clear. -/
def snapHead (d : Dev) (cause : Nat) : List Byte :=
  leBytes 2 0xD5A7 ++ leBytes 1 cause ++ leBytes 1 0 ++ leBytes 6 d.now.toNat ++ leBytes 2 0 ++ leBytes 4 (d.fld F.PWR_RTC_SEC.SEC)
    ++ leBytes 2 (d.fld F.PWR_RTC_SUB.SUB) ++ leBytes 2 0 ++ leBytes 4 (d.fld F.BOT_SEAL_IN_FORCE.CODE)
    ++ leBytes 4 (d.fld F.PWR_BOOT_CNT.COUNT)

/-- Write the snapshot, VALID last (R88). The CRC is formed with VALID clear. -/
def State.snapWrite (cause : Nat) (s : State) : State :=
  let head := snapHead s.dev cause
  let secs := (List.range 64).flatMap (secRecord s.dev)
  let s := s.retWrite 0 (head ++ leBytes 4 (crc32c (head ++ secs)) ++ secs)
  (s.retWrite 3 [0xA5]).map (fun d => d.setFld F.PWR_GLOW_STAT.SNAP_VALID 1)

/-- The snapshot's VALID byte reads 0xA5. -/
def State.snapValid (s : State) : Bool := s.retRead 3 1 = [0xA5]

/-- The CRC of the snapshot holds. -/
def State.snapOk (s : State) : Bool :=
  let b := s.retRead 0 28
  let body := b.take 3 ++ [0] ++ b.drop 4 ++ s.retRead 0x20 128
  ofLe (s.retRead 0 2) = 0xD5A7 && ofLe (s.retRead 28 4) = crc32c body

/-- A retention region fails its CRC (R102): 1 the snapshot's, 2 the Endgame's. -/
def Dev.retCorrupt (d : Dev) (region : Nat) : Dev := (d.setFld F.PWR_TAMPER.RET_CORRUPT 1).note .retCorrupt (.pwr 0) 0 (leBytes 1 region)

/-- The RTC count in XTAL_GLOW cycles. -/
def Dev.rtc (d : Dev) : Nat := d.fld F.PWR_RTC_SEC.SEC * 32768 + d.fld F.PWR_RTC_SUB.SUB

/-- RTC cycles between two counts, over the wrap of the seconds. -/
def rtcSince (a b : Nat) : Nat := (a + 2 ^ 47 - b % 2 ^ 47) % 2 ^ 47

/-- The snapshot is offered section by section, and VALID is cleared whether or not it is taken up (R89, R271, R272). A region that is not
VALID is not judged by its CRC (assumption log 158). -/
def State.snapOffer (s : State) : State :=
  if !s.snapValid then s
  else
    let ok := s.snapOk
    let same : Bool := ofLe (s.retRead 20 4) = s.dev.fld F.BOT_SEAL_IN_FORCE.CODE
    let out := rtcSince s.dev.rtc (ofLe (s.retRead 12 4) * 32768 + ofLe (s.retRead 16 2))
    let limit := s.dev.fld F.SEC_RESTORE_CFG.RESTORE_OUTAGE_S
    let d := if ok then s.dev else s.dev.retCorrupt 1
    let d := if ok && same then
        let d := (d.setFld F.SEC_SNAP_STAT.SNAP_OFFERED 1).setBit F.SEC_SNAP_STAT.SNAP_CAUSE_S (s.retRead 2 1 = [2])
        let d := d.setFld F.SEC_SNAP_STAT.OUTAGE_S (min 65535 (out / 32768))
        forN 64 (fun i d =>
          let w := ofLe (s.retRead (0x20 + 2 * i) 2)
          let c := sgn 13 w
          let st := w / 8192
          let d := (d.setSFld (F.SEC_OFFER.RET_COUNT i) c).setFld (F.SEC_OFFER.RET_STATE i) st
          if d.secEnabled i && d.on (F.SEC_RESET.RESTORE_EN i) && (st = 0 || st = 1 || st = 4) && 0 ≤ c
              && c < d.fld (F.SEC_CFG.MAX_COUNT i) && 0 < limit && out ≤ limit * 32768 then
            ((d.setSFld (F.SEC_STATE.COUNT i) c).setFld (F.SEC_STATE.OFFERED i) 1).secMaps i
          else d) d
      else d
    ({ s with dev := d.setFld F.PWR_GLOW_STAT.SNAP_VALID 0 }).retWrite 3 [0]

end Sys2Proof.Machine
end

