-- ==== Sys2Proof/Machine/Conf.lean ====
section
/-! DEFINITION. Machine/Conf.lean: ring control (R179, R180), the World Assignment Table and its checks (R133, R134, R155), host
windows and region tags (R137, R139), and the judgement of a complete configuration (R538). -/

namespace Sys2Proof.Machine

/-! ### Rings -/

/-- Bytes `a` to `a + len - 1` lie wholly in SRAM that the ring's world may write. -/
def Dev.inSram (d : Dev) (n a len : Nat) : Bool :=
  0x08000000 ≤ a && a + len ≤ 0x08800000 &&
    (d.ringSecure n || (List.range 128).all (fun k =>
      let base := 0x08000000 + k * 0x10000
      a + len ≤ base || base + 0x10000 ≤ a || d.regionTag k = 1))

/-- Bytes `a` to `a + len - 1` lie wholly in one enabled window. -/
def Dev.inWin (d : Dev) (a len : Nat) : Bool :=
  (List.range 16).any (fun w =>
    let base := 0x20000000 + d.fld (F.WLD_HWIN_DEV.DEV_BASE w) * 4096
    d.on (F.WLD_HWIN_CTRL.ENABLE w) && base ≤ a && a + len ≤ base + 2 ^ d.fld (F.WLD_HWIN_CTRL.SIZE w))

/-- The areas of a ring: descriptors, write-back block, doorbell word unless DISC is MIRROR. -/
def Dev.ringAreas (d : Dev) (n : Nat) : List (Nat × Nat) :=
  let db := if d.fld (F.HST_RING_CFG.DISC n) = 2 then [] else [(d.fld (F.HST_RING_DB.DB_ADDR n) * 4, 4)]
  [(d.fld (F.HST_RING_BASE.BASE n) * 64, d.ringSize n * 32), (d.fld (F.HST_RING_WB.WB_ADDR n) * 16, 16)] ++ db

/-- The set-up check of R179. -/
def Dev.ringOk (d : Dev) (n : Nat) : Bool :=
  let type := d.fld (F.HST_RING_CFG.TYPE n)
  let bind := d.fld (F.HST_RING_CFG.BIND n)
  let disc := d.fld (F.HST_RING_CFG.DISC n)
  let db := d.fld (F.HST_RING_DB.DB_ADDR n) * 4
  let frames : Bool := type = 3 || type = 4
  (d.ringAreas n).all (fun x => d.inSram n x.1 x.2 || d.inWin x.1 x.2)
    && (if disc = 0 then d.inSram n db 4 else disc = 2 || d.inWin db 4)
    && (if frames then bind ≤ 3 && d.part.hasPort bind && (d.ringSecure n || d.netRole bind = 3)
        else if type = 5 || type = 6 then bind ≤ 6 else true)

/-- ENABLE has been set on a disabled ring (R179): it starts at its D and writes a write-back block (R167, R190), or the enable is
refused with ERR = CONFIG. -/
def State.ringStart (n : Nat) (s : State) : State :=
  if s.dev.ringOk n then
    let s := s.map (fun d => ((d.setRing n { hs := d.ringPos n }).setFld (F.HST_RING_CNT.DROP n) 0))
    s.ringState n 1 0
  else s.map (fun d => ((d.setFld (F.HST_RING_CTRL.ENABLE n) 0).setFld (F.HST_RING_CTRL.STATE n) 0).setFld (F.HST_RING_CTRL.ERR n) 1)

/-- ENABLE is cleared on an enabled ring (R180): a partly filled buffer is completed as FLUSHED, a buffer being sent as ABORTED; the
ring then writes a write-back with STATE DISABLED. -/
def State.ringStop (n : Nat) (s : State) : State :=
  let s := if s.dev.ringRuns n then
      (if s.dev.fld (F.HST_RING_CFG.TYPE n) = 6 then s.bufDone n 7 0 true s.dev.now else s.bufFlush n)
    else s
  let s := s.map (fun d => d.modRing n (fun r => { r with buf := none }))
  (s.ringState n 0 0).map (fun d => d.setFld (F.HST_RING_CTRL.ENABLE n) 0)

/-! ### World Assignment Table -/

/-- A non-secure assignment of an entry is forbidden (R133). -/
def Dev.watForbidden (d : Dev) (e : Nat) : Bool :=
  if e < 8 then (List.range 32).any (fun h => d.headEnabled h && (d.headChan h 0 / 8 = e || d.headChan h 1 / 8 = e))
  else if 24 ≤ e ∧ e < 40 then (d.tripMap (112 + (e - 24))).2.1 || (d.tripMap (112 + (e - 24))).2.2
  else if 64 ≤ e then d.on (F.HST_RING_CFG.SECURE_CMDS (e - 64))
  else false

/-- The instance of an entry may not change worlds now (R155): an enabled ring, an enabled serial port or port, a running AP core. -/
def Dev.watBusy (d : Dev) (e : Nat) : Bool :=
  if 40 ≤ e ∧ e < 47 then d.on (F.SER_CFG.ENABLE (e - 40))
  else if 48 ≤ e ∧ e < 52 then d.on (F.NET_CFG.ENABLE (e - 48))
  else if 52 ≤ e ∧ e < 56 then d.bitOf F.WLD_AP_RUN.RUN (e - 52)
  else if 64 ≤ e then d.on (F.HST_RING_CTRL.ENABLE (e - 64))
  else false

/-- The entry's request can take effect: a port's only in HOSTNET role (R134). -/
def Dev.watReaches (d : Dev) (e : Nat) : Bool := !(48 ≤ e && e < 52) || d.netRole (e - 48) = 3

/-- WLD_ASSIGN_REFUSED for an entry, or for a window given as 0x80 + w. -/
def Dev.assignRefused (d : Dev) (e : Nat) : Dev := d.note .wldAssignRefused .wld 0 (leBytes 1 e)

/-- The world in force of an entry. -/
def Dev.setWorld (d : Dev) (e : Nat) (ns : Bool) : Dev :=
  let d := d.setBit (F.WLD_WAT.APPLIED_NS e) ns
  if 52 ≤ e ∧ e < 56 then d.setBitOf F.WLD_STATUS.AP_SECURE (e - 52) (!ns) else d

/-- Judge the request of an entry (R133, R134). -/
def Dev.watJudge (d : Dev) (e : Nat) : Dev :=
  if d.on (F.WLD_WAT.NONSECURE e) then
    if d.watForbidden e then (d.setWorld e false).assignRefused e else d.setWorld e (d.watReaches e)
  else d.setWorld e false

/-- The entries that stand for an instance (Table WLD-3). -/
def watEntries : List Nat := (List.range 47) ++ [48, 49, 50, 51, 52, 53, 54, 55] ++ (List.range 64).map (· + 64)

/-- A check of R133 made again at the write of what it depends on (R538): an entry that is non-secure and is now forbidden to be. -/
def Dev.watAgain (d : Dev) (e : Nat) : Dev := if d.nsEntry e && d.watForbidden e then (d.setWorld e false).assignRefused e else d

/-- A port's entry follows a change of the port's role without a new request (R134). -/
def Dev.watFollow (d : Dev) (n : Nat) : Dev := d.setWorld (48 + n) (d.on (F.WLD_WAT.NONSECURE (48 + n)) && d.netRole n = 3)

/-! ### Windows and regions -/

/-- An enabled window of an untrusted host is never SECURE (R139). -/
def Dev.winTag (d : Dev) (w : Nat) : Dev :=
  if d.on (F.WLD_HWIN_CTRL.ENABLE w) && d.fld (F.WLD_HWIN_CTRL.TAG w) = 0 && !d.on F.WLD_STATUS.TRUSTED_HOST then
    (d.setFld (F.WLD_HWIN_CTRL.TAG w) 1).assignRefused (0x80 + w)
  else d

/-- Regions whose tag leaves SECURE are zeroed before the new tag applies (R137): the tag stays 0 and waits. Only the tags in enabled bytes
`en` are written (R537). -/
def State.regionTags (k : Nat) (old : Word) (en : Nat) (s : State) : State :=
  (List.range 16).foldl (fun s m =>
    let r := 16 * k + m
    let was := old.toNat / 2 ^ (2 * m) % 4
    let new := s.dev.fld (F.WLD_REGION_TAG.TAG k m)
    if !en.testBit (2 * m) then s
    else if 126 ≤ r then s.map (fun d => d.setFld (F.WLD_REGION_TAG.TAG k m) was)
    else if was = 0 ∧ new ≠ 0 then
      { s with
        dev := { s.dev.setFld (F.WLD_REGION_TAG.TAG k m) 0 with worlds := { s.dev.worlds with zeroing := tabPut 0 s.dev.worlds.zeroing r new } }
        store := { s.store with mem := memZero s.store.mem (0x08000000 + r * 0x10000) 0x10000 } }
    else s.map (fun d => { d with worlds := { d.worlds with zeroing := tabDel d.worlds.zeroing r } })) s

/-! ### Cores -/

/-- An AP core whose RUN bit is 1 leaves reset (R147), unless every core is held (R70). -/
def Dev.apStart (d : Dev) (n : Nat) : Dev :=
  if d.bitOf F.WLD_AP_RUN.RUN n && !d.clocks.coresHeld then
    { d with worlds := { d.worlds with apRunning := setMask d.worlds.apRunning n true } }
  else d

/-! ### Stored values that depend on another field -/

/-- The value of a register that a written field may not hold beside another field is stored as the nearest that it may: WINDOW_MIN_MS
(R96), PHASE (R322), DARK_CONFIRM of a STRINGS2 lamp (R354). -/
def Dev.crossFix (d : Dev) (b : Blk) (off : Nat) : Dev :=
  if b = .pwr ∧ off = O.PWR_WDT_CFG then
    d.setFld F.PWR_WDT_CFG.WINDOW_MIN_MS (min (d.fld F.PWR_WDT_CFG.WINDOW_MIN_MS) (d.fld F.PWR_WDT_CFG.TIMEOUT_MS - 1))
  else if b = .pgn ∧ off < 0x1000 ∧ off % 0x40 = O.PGN_PHASE then
    let k := off / 0x40
    d.setFld (F.PGN_PHASE.PHASE k) (min (d.fld (F.PGN_PHASE.PHASE k)) (d.fld (F.PGN_PERIOD.PERIOD k) - 1))
  else if b = .lmp ∧ off < 0x600 ∧ (off % 0x20 = O.LMP_SUP ∨ off % 0x20 = O.LMP_CFG) then
    let k := off / 0x20
    if d.on (F.LMP_CFG.STRINGS2 k) && d.fld (F.LMP_SUP.DARK_CONFIRM k) = 1 then d.setFld (F.LMP_SUP.DARK_CONFIRM k) 2 else d
  else d

/-- The bits of the fields of a register that a predicate admits. -/
def RegDef.bitsWhere (r : RegDef) (p : FieldDef → Bool) : Nat := r.fields.foldl (fun a f => if p f then a ||| f.mask else a) 0

/-- Entry (a, v) of a list stores the bits that `take` admits, without a check (R112, R538). An entry that addresses no register stores
nothing. -/
def Dev.listStore (d : Dev) (take : Blk → Nat → RegDef → Nat) (a v : Nat) : Dev := match blkAt (a / 0x100000) with
  | none => d
  | some b =>
    let off := a % 0x100000
    match findReg off (regDefs b) with
    | none => d
    | some (r, _, _) =>
      if a % 4 ≠ 0 ∨ absentReg d.part b off then d
      else
        let was := d.reg b off
        let w := r.writeWord was.toNat v 0xFFFFFFFF 0 true false
        let m := BitVec.ofNat 32 (take b off r) &&& ~~~ BitVec.ofNat 32 (deadBits d.part b off)
        d.setReg b off ((w &&& m) ||| (was &&& ~~~ m))

/-- What a list re-applies of a register: all of it, or of an instance that `old` gives to the non-secure world the RWL fields that S has
reset (R105, R305). -/
def Dev.reapplies (old : Dev) (b : Blk) (off : Nat) (r : RegDef) : Nat :=
  if old.regNonSecure b off then r.bitsWhere (fun f => f.acc = .rwl && !f.world) else 0xFFFFFFFF

/-- One entry of a WORLD_SET or VITAL_SET list. -/
def Dev.listEntry (old d : Dev) (a v : Nat) : Dev := d.listStore old.reapplies a v

/-- Apply lists of entries: the entries in order, then what depends on another field. -/
def Dev.listApply (old d : Dev) (l : List (Nat × Nat)) : Dev :=
  let d := l.foldl (fun d e => Dev.listEntry old d e.1 e.2) d
  let d := l.foldl (fun d e => match blkAt (e.1 / 0x100000) with
    | some b => d.crossFix b (e.1 % 0x100000)
    | none => d) d
  (d.setFld (F.WLD_REGION_TAG.TAG 7 14) 0).setFld (F.WLD_REGION_TAG.TAG 7 15) 0

/-- What an N re-applies (R304, R420, R445): the fields that it has reset of the non-secure monitors, serial ports and network ports. -/
def Dev.reappliesN (old : Dev) (b : Blk) (off : Nat) (r : RegDef) : Nat :=
  if b = .win || b = .ser || b = .net then r.bitsWhere (old.lostN b off) else 0

/-- An N re-applies the image to the non-secure monitors, serial ports and network ports, and those it enables start. `old` is the device
before. -/
def Dev.restartN (old d : Dev) (l : List (Nat × Nat)) : Dev :=
  let d := l.foldl (fun d e => d.listStore old.reappliesN e.1 e.2) d
  let d := forN 16 (fun i d => if old.monNs (112 + i) && d.winOn (112 + i) then (d.winStart (112 + i)).monReblank (112 + i) else d) d
  let d := forN 7 (fun n d => if old.serNs n && d.on (F.SER_CFG.ENABLE n) then d.serStart n else d) d
  forN 4 (fun n d => if old.portNs n && d.on (F.NET_CFG.ENABLE n) then d.netStart n else d) d

/-! ### The complete configuration (R538) -/

/-- Judge the complete configuration once after the lists have been applied, and start what passes. `old` is the device before: what
belonged to the non-secure world runs on (R104). A ring that a list enables starts at D = (0, 0) (R189). -/
def State.judgeAll (old : Dev) (s : State) : State :=
  let s := s.map (fun d => forN 16 (fun w d => d.winTag w) (forL watEntries (fun e d => d.watJudge e) d))
  let s := (List.range 64).foldl (fun s n =>
    if s.dev.on (F.HST_RING_CTRL.ENABLE n) ∧ s.dev.fld (F.HST_RING_CTRL.STATE n) = 0 then
      (s.map (fun d => d.setReg .hst (F.HST_RING_IDX.DIDX n).off 0)).ringStart n
    else s) s
  s.map (fun d =>
    let d := forN 4 (fun n d => d.apStart n) d
    let d := forN 64 (fun c d => if old.bankNs (c / 8) then d else d.chanBegin c) d
    let d := forN 16 (fun a d => if old.auxNs a then d else d.auxStart a) d
    let d := forN 64 (fun h d => d.headFresh h) d
    let d := forN 64 (fun h d => d.headJudge h) d
    let d := forL d.secList (fun i d => d.secStart i none) d
    let d := forL d.secList (fun i d => d.secJudge i) d
    let d := forN 128 (fun m d => if old.monNs m || !d.winOn m then d else d.winStart m) d
    let d := forL d.pgList (fun k d => d.pgStart k) d
    let d := forL d.lampList (fun k d => d.lampStart k) d
    let d := forL d.sigList (fun g d => d.sigStart g) d
    let d := forN 32 (fun n d => d.siStart n) d
    let d := forN 8 (fun t d => d.tpInit t) d
    let d := forL ((List.range 16).filter d.fbOn) (fun f d => d.fbStart f) d
    let d := forN 8 (fun o d => d.soJudge o) d
    let d := forN 7 (fun n d => if d.on (F.SER_CFG.ENABLE n) && !old.serNs n then d.serStart n else d) d
    let d := forN 4 (fun n d => if d.on (F.NET_CFG.ENABLE n) && !old.portNs n then d.netStart n else d) d
    let d := forN 4 (fun p d => if d.on (F.KVT_PCFG.ENABLE p) then d.kvtStart p else d) d
    if d.twinOn then d.twinEnable else d)

end Sys2Proof.Machine
end

