-- ==== Sys2Proof/Machine/Boot.lean ====
section
/-! DEFINITION. Machine/Boot.lean: the boot sequence, image checks, application of an image, the boot ring, seal scans and their
outcomes, the secure-world reset and the engines' start (chapter 05; R49, R50, R92, R102, R104, R106, R177, R178). -/

namespace Sys2Proof.Machine

/-! ### The image (Tables BOT-3 and BOT-4) -/

/-- `n` bytes of an image at an offset, little-endian. -/
def img (l : List Byte) (off n : Nat) : Nat := ofLe ((l.drop off).take n)

/-- A section entry: type, offset, length, load address. -/
structure Section where
  type : Nat
  off : Nat
  len : Nat
  load : Nat
deriving DecidableEq, Repr

/-- The section entries of an image. -/
def imgSections (l : List Byte) : List Section :=
  (List.range (min 16 (img l 0x11 1))).map (fun k =>
    ⟨img l (0x40 + 16 * k) 1, img l (0x44 + 16 * k) 4, img l (0x48 + 16 * k) 4, img l (0x4C + 16 * k) 4⟩)

/-- The bytes of a section. -/
def imgBytes (l : List Byte) (s : Section) : List Byte := padTo s.len 0 ((l.drop s.off).take s.len)

/-- The entries of a list: address and value. -/
def listEntries (l : List Byte) : List (Nat × Nat) :=
  (List.range (l.length / 8)).map (fun k => (img l (8 * k) 4, img l (8 * k + 4) 4))

/-- The bytes of the sections of one type. -/
def imgList (l : List Byte) (type : Nat) : List Byte := ((imgSections l).filter (fun s => s.type = type)).flatMap (imgBytes l)

/-- The digest of an image (R113). -/
def imgDigest (l : List Byte) : List Byte :=
  let t := padTo (img l 0x14 4) 0 l
  sha256 (t.take 0x180 ++ List.replicate 0x80 0 ++ t.drop 0x200)

/-- The seal code of an image (R113). -/
def imgSeal (l : List Byte) : Nat := ofBe ((l.drop 0x1C0).take 4)

/-- The tag that the image's own WORLD_SET list gives an SRAM region (Table BOT-4). -/
def imgTag (entries : List (Nat × Nat)) (region : Nat) : Nat :=
  let a := 0x10300240 + region / 16 * 4
  let v := entries.foldl (fun v e => if e.1 = a then e.2 else v) 0 / 2 ^ (2 * (region % 16)) % 4
  if v = 3 then 0 else v

/-- The LOAD of a section is right (Table BOT-4, Table BOT-5 code 2): the address itself, and every byte loaded from it on. -/
def loadOk (entries : List (Nat × Nat)) (s : Section) : Bool :=
  let end_ := s.load + max 1 s.len
  if s.type = 1 then 0x04000000 ≤ s.load && end_ ≤ 0x04040000
  else if s.type ≤ 4 then
    0x08000000 ≤ s.load && end_ ≤ 0x087E0000 && (List.range 126).all (fun k =>
      let base := 0x08000000 + k * 0x10000
      end_ ≤ base || base + 0x10000 ≤ s.load || imgTag entries k = s.type - 2)
  else s.load = 0

/-- Two sections share no byte. -/
def apart (x y : Section) : Bool := x.off + x.len ≤ y.off || y.off + y.len ≤ x.off

/-- No two of a list of sections overlap. -/
def allApart : List Section → Bool
  | [] => true
  | s :: r => r.all (apart s) && allApart r

/-- A list entry addresses BOT, a WO register, or a register of UART_7. -/
def entryBarred (a : Nat) : Bool := match blkAt (a / 0x100000) with
  | some b => b = .bot || (b = .ser && a % 0x100000 / 0x80 = 7) || (match findReg (a % 0x100000) (regDefs b) with
      | some (r, _, _) => r.fields.any (fun f => f.acc = .wo)
      | none => false)
  | none => false

/-- A list entry addresses an absent instance: a register of its own, or a field of one that it sets (R3). -/
def entryAbsent (p : Part) (e : Nat × Nat) : Bool := match blkAt (e.1 / 0x100000) with
  | some b => absentReg p b (e.1 % 0x100000) || e.2 &&& absentBits p b (e.1 % 0x100000) ≠ 0
  | none => false

/-- The number of bits set in a word. -/
def ones (w : Word) : Nat := (bitsOf 32 w.toNat).length

/-- The number of a part in an image header. -/
def partCode : Part → Nat
  | .dx8856 => 0x8856
  | .dx8828 => 0x8828

/-- A word of the OTP. -/
def otpWord (otp : Tab Word) (n : Nat) : Word := tabGet 0 otp n

/-- The bytes of eight OTP words, each most significant byte first. -/
def otpSlot (otp : Tab Word) (k : Nat) : List Byte := (List.range 8).flatMap (fun i => beBytes 4 (otpWord otp (8 + 8 * k + i)).toNat)

/-- PUBKEY matches a key slot that is programmed and not revoked (R114). -/
def keyOk (otp : Tab Word) (l : List Byte) : Bool :=
  let h := sha256 ((l.drop 0x140).take 64)
  (List.range 4).any (fun k =>
    otpSlot otp k = h && !(otpWord otp 40).getLsbD k && (List.range 8).any (fun i => otpWord otp (8 + 8 * k + i) ≠ 0))

/-- SIGNED of FLAGS. -/
def imgSigned (l : List Byte) : Bool := img l 0x0B 1 % 2 = 1

/-- The FORMAT reasons of Table BOT-5. -/
def imgFormatBad (l : List Byte) : Bool :=
  let total := img l 0x14 4
  let secs := imgSections l
  let count (t : Nat) : Nat := (secs.filter (fun s => s.type = t)).length
  let world := listEntries (imgList l 5)
  let entries := world ++ listEntries (imgList l 6)
  4194304 < total || img l 0x11 1 = 0 || 16 < img l 0x11 1
    || secs.any (fun s => s.type = 0 || 6 < s.type || s.off % 64 ≠ 0 || s.off < 512 || total < s.off + s.len || !loadOk world s
        || (5 ≤ s.type && s.len % 8 ≠ 0))
    || !allApart secs || count 5 ≠ 1 || count 6 ≠ 1 || count 1 = 0
    || 8192 < entries.length || entries.any (fun e => entryBarred e.1) || imgSeal l = 0xFFFFFFFF

/-- Why an image is refused: the first reason of Table BOT-5 that applies, 0 if none (R115). -/
def imgReason (p : Part) (otp : Tab Word) (l : List Byte) : Nat :=
  let digest := (l.drop 0x1C0).take 32
  let policy := otpWord otp 40
  if img l 0 4 ≠ 0x4B434B31 ∨ img l 4 2 ≠ 1 ∨ img l 6 2 ≠ 512 then 1
  else if imgFormatBad l then 2
  else if imgDigest l ≠ digest then 3
  else if !imgSigned l && policy.getLsbD 8 then 4
  else if imgSigned l && !keyOk otp l then 5
  else if imgSigned l && !ecdsaOk (ofBe digest) (ofBe ((l.drop 0x180).take 32)) (ofBe ((l.drop 0x1A0).take 32))
      (ofBe ((l.drop 0x140).take 32)) (ofBe ((l.drop 0x160).take 32)) then 6
  else if img l 0x10 1 < (List.range 4).foldl (fun n i => n + ones (otpWord otp (41 + i))) 0 then 7
  else if img l 8 2 ≠ partCode p ∨ 0x21 < img l 0x0A 1 then 8
  else if (listEntries (imgList l 5) ++ listEntries (imgList l 6)).any (entryAbsent p) then 9
  else 0

/-! ### The image copy (R104, R128, R129) -/

/-- Where the image copy lies. -/
def copyBase : Nat := 0x087E0000

/-- The image copy: header, WORLD_SET, VITAL_SET, and the CRC-32C of these (the layout is the model's). -/
def copyBytes (l : List Byte) : List Byte :=
  let b := padTo 512 0 (l.take 512) ++ imgList l 5 ++ imgList l 6
  b ++ leBytes 4 (crc32c b)

/-- Read the image copy: the two lists, and whether its CRC holds. -/
def State.copyRead (s : State) : List (Nat × Nat) × Bool :=
  let head := memRead s.store.mem copyBase 512
  let len (t : Nat) : Nat := ((imgSections head).filter (fun x => x.type = t)).foldl (fun n x => n + x.len) 0
  let n := min (512 + len 5 + len 6) 0x1FFFC
  let b := memRead s.store.mem copyBase n
  (listEntries (b.drop 512), crc32c b = ofLe (memRead s.store.mem (copyBase + n) 4))

/-- An image copy that fails (R129): 1 its CRC, 2 an uncorrectable error. -/
def Dev.copyCorrupt (d : Dev) (how : Nat) : Dev := d.fault .imageCopyCorrupt .bot 0 0 (leBytes 1 how)

/-! ### Seal outcomes (Table BOT-8) -/

/-- The seal in force, the lock and the phase after a boot or a re-application (R121, R128). No read has differed from the new seal in
force yet. -/
def Dev.sealOutcome (d : Dev) : Dev :=
  let d := ((d.clear .sealChanged .bot).setFld F.BOT_STATUS.COMMISSIONING 0).setFld F.BOT_STATUS.LOCKED 0
  match d.boot.valid with
  | none => d.setFld F.BOT_STATUS.PHASE 5
  | some c =>
    let d := (d.setFld F.BOT_SEAL_IN_FORCE.CODE c.toNat).setFld F.PWR_SEAL_LAST.CODE c.toNat
    if c.toNat = d.fld F.BOT_IMG_SEAL.CODE then (d.setFld F.BOT_STATUS.LOCKED 1).setFld F.BOT_STATUS.PHASE 4
    else if c = 0xFFFFFFFF#32 then (d.setFld F.BOT_STATUS.COMMISSIONING 1).setFld F.BOT_STATUS.PHASE 4
    else (d.setFld F.BOT_STATUS.PHASE 5).fault .sealMismatch .bot 0 0 (leBytes 4 c.toNat)

/-- Store one scan (R119, R120): the raw words; an invalid read is counted and raises SEAL_READ_FAULT, and the third in a row
SEAL_SCAN_FAULT, whose cause goes with a valid read. Answers the code of a valid read. -/
def Dev.sealRead (d : Dev) (w : BitVec 64) : Dev × Option Word :=
  let t : Word := w.extractLsb' 32 32
  let c : Word := w.extractLsb' 0 32
  let d := (d.setFld F.BOT_SEAL_RAW_T.TRUE t.toNat).setFld F.BOT_SEAL_RAW_C.COMPL c.toNat
  if c = ~~~ t then
    let d := { d.clear .sealScanFault .bot with boot := { d.boot with invalid := 0, scanAt := d.now } }
    (d.incPair (F.SER_RX_CNT_LO.V 7) (F.SER_RX_CNT_HI.V 7), some t)
  else
    let n := d.boot.invalid + 1
    let d := { d with boot := { d.boot with invalid := n, scanAt := d.now } }
    let d := ((d.setFld F.BOT_SEAL_FLAG.READ_FAULT 1).inc F.BOT_SEAL_FLAG.FAULTS).inc (F.SER_ERR_CNT.FRAME_ERRS 7)
    let d := (d.pend 82).note .sealReadFault .bot 0 (leBytes 4 t.toNat)
    (if 3 ≤ n then d.fault .sealScanFault .bot else d, none)

/-- A valid read in sealed operation or commissioning (R125): one that differs from the seal in force sets PWR_TAMPER.SEAL_CHANGED and
raises SEAL_CHANGED, unless its cause is present; the cause goes with a read that matches. -/
def Dev.sealWatch (d : Dev) (code : Word) : Dev :=
  if d.fld F.BOT_STATUS.PHASE ≠ 4 then d
  else if code.toNat = d.fld F.BOT_SEAL_IN_FORCE.CODE then d.clear .sealChanged .bot
  else
    let d := d.setFld F.PWR_TAMPER.SEAL_CHANGED 1
    if d.has .sealChanged .bot then d
    else
      let d := d.setFld F.BOT_SEAL_FLAG.CHANGED 1
      let d := { d with boot := { d.boot with inHold := d.fld F.PWR_STATE.STATE = 2 } }
      (d.pend 82).fault .sealChanged .bot 0 0 (leBytes 4 code.toNat)

/-! ### Endgame at restart (R49, R50, R90, R102) -/

/-- Every head, every lamp and the twin are locked for every cause, and every slot is free (R102). -/
def Dev.egCondemn (d : Dev) : Dev :=
  let d := forN 16 (fun k d => (d.setReg .flt (F.FLT_EG_SLOT_A.CAUSE k).off 0).setReg .flt (F.FLT_EG_SLOT_B.REMAIN_S k).off 0) { d with egExpiry := [] }
  let d := forN 32 (fun h d => if d.part.hasHead h then d.egSetLock 1 h true else d) d.egCount
  (forN 48 (fun k d => if d.part.hasLamp k then d.egSetLock 2 k true else d) d).egSetLock 3 0 true

/-- Take the Endgame slots and locks from retention RAM: remaining time is the expiry minus the RTC seconds, and a slot that has
reached zero expires. -/
def State.egRestore (s : State) : State :=
  let b := s.retRead 0xA0 0x110
  if ofLe (b.drop 0x10C) ≠ crc32c (b.take 0x10C) then s.map (fun d => (d.egCondemn).retCorrupt 2)
  else s.map (fun d =>
    let d := forN 3 (fun w d => d.setReg .flt (F.FLT_EG_LOCK.BITS w).off
      (BitVec.ofNat 32 (img b (0x100 + 4 * w) 4) &&& ~~~ BitVec.ofNat 32 (deadBits d.part .flt (F.FLT_EG_LOCK.BITS w).off))) d
    let d := forN 16 (fun k d =>
      let x := b.drop (16 * k)
      let d := (d.setReg .flt (F.FLT_EG_SLOT_A.CAUSE k).off 0).setReg .flt (F.FLT_EG_SLOT_B.REMAIN_S k).off 0
      if img x 0 1 = 0 then d
      else
        let remain := sgn 32 ((img x 4 4 + 2 ^ 32 - d.fld F.PWR_RTC_SEC.SEC) % 2 ^ 32)
        let d := (d.setFld (F.FLT_EG_SLOT_A.CAUSE k) (img x 0 1)).setFld (F.FLT_EG_SLOT_A.OBJECT k) (img x 1 1)
        let d := d.setFld (F.FLT_EG_SLOT_A.AXLES_USED k) (img x 2 2)
        let d := (d.setFld (F.FLT_EG_SLOT_A.CAUSE_GONE k) (img x 8 1 % 2)).setFld (F.FLT_EG_SLOT_A.SYSTEM k) (img x 8 1 / 2 % 2)
        { d with egExpiry := tabIns d.egExpiry k (d.now.plus (remain.toNat * 1000000)) }) { d with egExpiry := [] }
    (d.egCount.egExpireDue).egRefresh)

/-! ### Steps of a boot -/

/-- Close the latest open entry of the outage log with the outage's duration (R92). -/
def State.outlogClose (s : State) : State :=
  let next := s.dev.fld F.PWR_OUTLOG_IDX.NEXT
  let total := s.dev.fld F.PWR_OUTLOG_IDX.TOTAL
  match ((List.range (min 16 total)).map (fun i => (next + 15 - i) % 16)).find? (fun k => ofLe (s.retRead (0x200 + 32 * k + 16) 4) = 0xFFFFFFFF) with
  | none => s
  | some k =>
    let e := s.retRead (0x200 + 32 * k) 28
    let out := rtcSince s.dev.rtc (img e 4 4 * 32768 + img e 8 2)
    let e := e.take 16 ++ leBytes 4 (out / 32768) ++ leBytes 2 (out % 32768) ++ e.drop 22
    s.retWrite (0x200 + 32 * k) (e ++ leBytes 4 (crc32c e))

/-- The sources of Table BOT-1 that the OTP policy word leaves. -/
def bootSources (sel : Nat) (policy : Word) : List Nat :=
  let l := if sel = 1 then [2] else if sel = 2 then [0, 1, 2] else [0, 1]
  l.filter (fun x => !(if x = 2 then policy.getLsbD 10 else policy.getLsbD 9))

/-- A boot begins (Table BOT-2 steps 1 and 2, R106): the boot count increments, the outage log is closed, the watchdog starts. The
first boot after G writes the log's first entry, and fresh Endgame slots. -/
def State.bootBegin (s : State) (afterG : Bool) (also : Nat) : State :=
  let s := s.map (fun d =>
    { d.inc F.PWR_BOOT_CNT.COUNT with
      power := { d.power with mode := .on, fell := false, wakeOn := false, wdtUs := 0, letters := 0 }
      boot := { running := true, sources := bootSources d.power.sel (otpWord s.store.otp 40), since := d.now, eIx := d.freeCtr }
      freeCtr := d.freeCtr + 1 })
  let s := s.map (fun d => d.setFld F.BOT_STATUS.BOOT_SEL d.power.sel)
  if afterG then (s.map (fun d => { (d.recordReset (1 ||| also)).logOutage 1 (1 ||| also) with egDirty := true })).glow else s.outlogClose

/-- No source is left (R116): BOOT_FAIL, and the watchdog is no longer kicked. -/
def Dev.bootFail (d : Dev) : Dev :=
  let d := { (d.setFld F.BOT_STATUS.PHASE 6).fault .bootFail .bot with boot := { d.boot with running := false, sources := [] } }
  d.setFld F.FLT_STATE.DEV_STATE 5

/-- The boot ring runs (R177): region 0 is tagged NONSECURE, RING_0 is a CMD ring of 16 entries at 0x0800_0000. -/
def State.bootRing (s : State) : State :=
  let s := s.map (fun d =>
    let d := (d.setFld (F.WLD_REGION_TAG.TAG 0 0) 1).setFld F.HST_STATUS.BOOT_RING 1
    let d := (d.setFld (F.HST_RING_BASE.BASE 0) (0x08000000 / 64)).setFld (F.HST_RING_WB.WB_ADDR 0) (0x08000200 / 16)
    (d.setFld (F.HST_RING_CFG.DISC 0) 2).setFld (F.HST_RING_CTRL.ENABLE 0) 1)
  s.ringStart 0

/-- Go on to the next source (R107): the boot ring is brought up for PCIe; with none left the boot fails. -/
def State.bootNext (s : State) : State :=
  let s := s.map (fun d => d.setFld F.BOT_STATUS.PHASE 1)
  match s.dev.boot.sources with
  | [] => s.map Dev.bootFail
  | 2 :: _ => s.bootRing
  | _ => s

/-- A source is refused (R116). -/
def State.bootRefuse (src reason : Nat) (s : State) : State :=
  let s := s.map (fun d =>
    let d := d.setFld (if src = 0 then F.BOT_STATUS.REASON_A else if src = 1 then F.BOT_STATUS.REASON_B else F.BOT_STATUS.REASON_PCIE) reason
    { d.note .bootImageRefused .bot 0 (leBytes 1 src ++ leBytes 1 reason) with boot := { d.boot with sources := d.boot.sources.drop 1 } })
  s.bootNext

/-- The end of Step 5 or of a re-application: the engines are due to start, held first if the twin is enabled (R501). -/
def Dev.engineDue (d : Dev) (afterS : Bool) : Dev :=
  let d := { d with boot := { d.boot with running := false, startDue := true, byS := afterS } }
  if d.twinOn then d.twinHold afterS else d

/-- Apply an accepted image (R112, R121). -/
def State.applyImage (src : Nat) (octal : Bool) (l : List Byte) (s : State) : State :=
  let old := s.dev
  let s := s.map (fun d =>
    let d := ((d.setFld F.BOT_STATUS.SOURCE src).setBit F.BOT_STATUS.OCTAL octal).setBit F.BOT_STATUS.SIGNED (imgSigned l)
    let d := (d.setFld F.BOT_IMAGE.ROLLBACK (img l 0x10 1)).setFld F.BOT_IMAGE.SECT_COUNT (img l 0x11 1)
    let d := (d.setFld F.BOT_IMAGE.PART (img l 8 2)).setFld F.BOT_IMG_SEAL.CODE (imgSeal l)
    let d := forN 8 (fun i d => d.setFld (F.BOT_DIGEST.DIGEST i) (ofBe ((l.drop (0x1C0 + 4 * i)).take 4))) d
    let d := d.setFld F.WLD_STATUS.TRUSTED_HOST (img l 0x0B 1 / 2 % 2)
    Dev.listApply old d (listEntries (imgList l 5) ++ listEntries (imgList l 6)))
  let mem := ((imgSections l).filter (fun x => x.type ≤ 4)).foldl (fun m x => memWrite m x.load (imgBytes l x)) s.store.mem
  let s := { s with store := { s.store with mem := memWrite mem copyBase (copyBytes l) } }
  ((s.judgeAll old).map Dev.sealOutcome).egRestore.map (fun d => d.engineDue false)

/-- The bytes begin with MAGIC (Table BOT-3). -/
def hasMagic (l : List Byte) : Bool := img l 0 4 = 0x4B434B31

/-- The mode in which a slot is read, true for 8D-8D-8D, and what it delivers (R108): `octal` is what the slot delivers in 8D-8D-8D where
the flash's SFDP table describes such a read, `single` what it delivers in 1S-1S-1S. -/
def slotRead (octal : Option (List Byte)) (single : List Byte) : Bool × List Byte := match octal with
  | some l => if hasMagic l then (true, l) else (false, single)
  | none => (false, single)

/-- The boot ROM reads and checks the image of an xSPI slot (R107, R108, R115). -/
def State.bootTry (octal : Option (List Byte)) (single : List Byte) (s : State) : State := match s.dev.boot.sources with
  | src :: _ =>
    if !s.dev.boot.running || !s.dev.boot.scanned || src = 2 then s
    else
      let (mode, l) := slotRead octal single
      let r := imgReason s.dev.part s.store.otp l
      if r = 0 then s.applyImage src mode l else s.bootRefuse src r
  | [] => s

/-- The first BOOT_IMAGE that the boot ring consumes (R178). -/
def State.bootImage (c : Cmd) (s : State) : State :=
  let addr := c.word 8 + c.word 12 * 2 ^ 32
  let s := s.map (fun d => { d with boot := { d.boot with taken := true } })
  if !s.dev.on F.HST_STATUS.LINK_UP then s.complete c 6 0
  else
    let l := memRead s.store.host addr (min (c.word 16) 4194304)
    let r := imgReason s.dev.part s.store.otp l
    if r = 0 then
      let s := s.complete c 0 0
      let s := { s with
        dev := ({ s.dev with rings := tabDel s.dev.rings 0 }.setFld (F.WLD_REGION_TAG.TAG 0 0) 0).setFld F.HST_STATUS.BOOT_RING 0
        store := { s.store with mem := memZero s.store.mem 0x08000000 0x10000 } }
      (s.map (fun d => forN 8 (fun i d => d.setReg .hst (0x100 + 4 * i) (resetAt d.part .hst (0x100 + 4 * i))) d)).applyImage 2 false l
    else (s.complete c 5 r).bootRefuse 2 r

/-- No PCIe image within 10 s of the release (R109). The ROM no longer waits for an image: a descriptor posted later ends as one after
the first BOOT_IMAGE does (assumption log 153). -/
def State.pcieTimeout (s : State) : State := match s.dev.boot.sources with
  | 2 :: _ =>
    if s.dev.boot.running && s.dev.boot.scanned && 10000000 ≤ s.dev.now.since s.dev.boot.since then
      (s.map (fun d => { d with boot := { d.boot with taken := true } })).bootRefuse 2 10
    else s
  | _ => s

/-- A valid read during boot (R121, R127): the last one gives the seal in force; one that differs from a non-zero PWR_SEAL_LAST is
recorded and raises SEAL_CHANGED_OFFLINE, once for each code read. -/
def Dev.bootCode (d : Dev) (c : Word) : Dev :=
  let last := d.fld F.PWR_SEAL_LAST.CODE
  let new : Bool := d.boot.valid ≠ some c
  let d := { d with boot := { d.boot with valid := some c } }
  if last ≠ 0 ∧ c.toNat ≠ last then
    let d := d.setFld F.PWR_TAMPER.SEAL_CHANGED 1
    if new then d.note .sealChangedOffline .bot 0 (leBytes 4 c.toNat) else d
  else d

/-- One scan of the seal block, after which `left` repeats may follow an invalid read (R120). At boot Step 3 a valid read, or the last
repeat, lets the boot go on to Step 4. -/
def State.sealScanned (left : Nat) (w : BitVec 64) (s : State) : State :=
  let (d, code) := s.dev.sealRead w
  let d := { d with boot := { d.boot with repeats := if code.isSome then 0 else left } }
  let d := match code with
    | some c => if d.boot.running then d.bootCode c else d.sealWatch c
    | none => d
  if d.boot.running && !d.boot.scanned && d.boot.repeats = 0 then
    State.bootNext { s with dev := { d with boot := { d.boot with scanned := true } } }
  else { s with dev := d }

/-- A seal scan (R120): the first of a boot, at Step 3, and then one every 1 s. -/
def State.sealScan (w : BitVec 64) (s : State) : State :=
  let b := s.dev.boot
  let due : Bool := if b.running && !b.scanned then b.repeats = 0 else 1000000 ≤ s.dev.now.since b.periodAt
  if due then (s.map (fun d => { d with boot := { d.boot with periodAt := d.now } })).sealScanned 2 w else s

/-- The scan 10 ms after an invalid read, twice at most (R120). -/
def State.sealRetry (w : BitVec 64) (s : State) : State :=
  let b := s.dev.boot
  if b.repeats = 0 ∨ s.dev.now.since b.scanAt < 10000 then s else s.sealScanned (b.repeats - 1) w

/-- The engines start (R21, R121, Table BOT-8): the device state leaves STARTUP, the snapshot is offered, records held since reset are
routed. A twin holds the engines after Step 6; the records are routed then already (R501, R515). -/
def State.engineStart (s : State) : State :=
  if !s.dev.boot.startDue then s
  else if !s.dev.twinLets then s.flushStart
  else
    let worst := s.dev.causes.foldl (fun m c => max m c.cls) s.dev.boot.worst
    let s := s.map (fun d => { d.setFld F.FLT_STATE.DEV_STATE (if 4 ≤ worst then worst else 1) with boot := { d.boot with startDue := false, started := true } })
    (s.snapOffer.map Dev.twinStarted).flushStart

/-! ### The secure-world reset -/

/-- The scans of a re-application (R128): up to three reads of the seal block until one is valid. -/
def Dev.freshScans : List (BitVec 64) → Dev → Dev
  | [], d => d
  | w :: r, d =>
    let (d, code) := d.sealRead w
    match code with
    | some c => { d with boot := { d.boot with valid := some c } }
    | none => if 3 ≤ d.boot.invalid then d else Dev.freshScans r d

/-- What the seal block delivers to an S: the words of the command's operand, or what the last scan read. -/
def Dev.sealWords (d : Dev) : List (BitVec 64) :=
  let last : BitVec 64 := BitVec.ofNat 64 (d.fld F.BOT_SEAL_RAW_T.TRUE * 2 ^ 32 + d.fld F.BOT_SEAL_RAW_C.COMPL)
  padTo 3 last (d.boot.chain.take 3)

/-- Restore the fields that show what stands outside the reset: the link, the supplies. -/
def Dev.mirrors (old d : Dev) : Dev :=
  let keep (f : Fld) (d : Dev) : Dev := d.setFld f (old.fld f)
  forL [F.HST_STATUS.LINK_UP, F.HST_STATUS.SPEED, F.HST_STATUS.WIDTH, F.HST_STATUS.MSIX_EN, F.PWR_RAIL_STAT.IN_WINDOW,
    F.PWR_RAIL_STAT.VSENS_OK, F.PWR_STATE.VMAIN_OK, F.PWR_STATE.STATE] keep d

/-- The SECURE regions of a device, but the image copy's. -/
def Dev.secureRegions (d : Dev) : List Nat := (List.range 126).filter (fun k => d.regionTag k = 0)

/-- S (R104, R128, R158): vital outputs go safe, the snapshot and the log entry are written, every secure-owned block is reset, the
configuration is re-applied from the image copy with a fresh seal scan, and the engines are due to start. -/
def State.secureReset (also : Nat) (s : State) : State :=
  let old := s.dev
  let s := (s.snapWrite 2).map (fun d => (d.logOutage 6 (2 ^ Rst.s.bit ||| also)).recordReset (2 ^ Rst.s.bit ||| also))
  let s := s.glow.map (fun d => Dev.mirrors old (d.resetS.unlatch (fun b off => !d.regNonSecure b off)))
  let s := s.map (fun d =>
    let d := d.setFld F.WLD_STATUS.TRUSTED_HOST (old.fld F.WLD_STATUS.TRUSTED_HOST)
    if d.causes.any (fun c => c.cls = 5) || d.boot.worst = 5 then d.setFld F.FLT_STATE.DEV_STATE 5 else d)
  let (list, ok) := s.copyRead
  let s := if ok then s.map (fun d => Dev.listApply old d list) else s.map (fun d => d.copyCorrupt 1)
  let regions := old.secureRegions ++ s.dev.secureRegions
  let s := { s with store := { s.store with mem := regions.foldl (fun m k => memZero m (0x08000000 + k * 0x10000) 0x10000) s.store.mem } }
  let s := s.judgeAll old
  let words := old.sealWords
  (s.map (fun d => Dev.freshScans words d)).map (fun d => { d.sealOutcome with boot := { d.sealOutcome.boot with chain := [] } } |>.engineDue true)

end Sys2Proof.Machine
end

