-- ==== Sys2Proof/Machine/Power.lean ====
section
/-! DEFINITION. Machine/Power.lean: supplies, power states, the reset events and the PCIe link (chapter 04; R81 to R86, R185, R188). -/

namespace Sys2Proof.Machine

/-! ### GLOW -/

/-- XTAL_GLOW cycles pass for the RTC (R91). -/
def Dev.rtcTick (d : Dev) (cycles : Nat) : Dev :=
  let n := d.fld F.PWR_RTC_SUB.SUB + cycles
  (d.setFld F.PWR_RTC_SUB.SUB (n % 32768)).setFld F.PWR_RTC_SEC.SEC ((d.fld F.PWR_RTC_SEC.SEC + n / 32768) % 2 ^ 32)

/-- The seven rails of R76 are in window. -/
def Dev.railsOk (d : Dev) : Bool := d.fld F.PWR_RAIL_STAT.IN_WINDOW % 128 = 127

/-- Store the supplies: the bits of PWR_RAIL_STAT and the main supply. -/
def Dev.setRails (d : Dev) (rails : BitVec 17) (vmain : Bool) : Dev :=
  ((d.setFld F.PWR_RAIL_STAT.IN_WINDOW (rails.toNat % 512)).setFld F.PWR_RAIL_STAT.VSENS_OK (rails.toNat / 512)).setBit F.PWR_STATE.VMAIN_OK vmain

/-- A rail is out of window (Table PWR-11). -/
def Dev.railOut (d : Dev) (i : Nat) : Dev :=
  let d := if i < 9 then d.setBitOf F.PWR_RAIL_STAT.IN_WINDOW i false else d.setBitOf F.PWR_RAIL_STAT.VSENS_OK (i - 9) false
  d.setBitOf F.PWR_RAIL_FLAG.OUT_SEEN i true

/-! ### The PCIe link -/

/-- The ring has an area in a host window (R185). -/
def Dev.ringInWindow (d : Dev) (n : Nat) : Bool := (d.ringAreas n).any (fun x => 0x20000000 ≤ x.1 && x.1 < 0x30000000)

/-- The PCIe link is lost (R185, R188). -/
def State.linkLost (s : State) : State :=
  if !s.dev.on F.HST_STATUS.LINK_UP then s
  else
    let s := s.map (fun d => ((d.linkReset.setFld F.HST_LINK_FLAG.LINK_LOST 1).inc F.HST_LINK_CNT.LOSSES).note .hstLinkLost (.ring 64))
    (List.range 64).foldl (fun s n =>
      if s.dev.on (F.HST_RING_CTRL.ENABLE n) && s.dev.ringInWindow n then
        (s.ringState n 2 3).map (fun d => d.modRing n (fun r => { r with buf := none }))
      else s) s

/-- The link comes up (R188), at a Gen and width within PCIE_CFG; `msix`: the host has enabled MSI-X. -/
def Dev.linkTrained (d : Dev) (gen width : Nat) (msix : Bool) : Dev :=
  if d.on F.HST_STATUS.LINK_UP || d.fld F.PWR_STATE.STATE = 2 || d.islandHeld 0 then d
  else
    let gen := min gen (d.fld F.HST_PCIE_CFG.MAX_SPEED)
    let width := min width (d.fld F.HST_PCIE_CFG.MAX_WIDTH)
    let d := (((d.setFld F.HST_STATUS.LINK_UP 1).setFld F.HST_STATUS.SPEED gen).setFld F.HST_STATUS.WIDTH width).setBit F.HST_STATUS.MSIX_EN msix
    d.note .hstLinkUp (.ring 64) 0 (leBytes 1 gen ++ leBytes 1 width)

/-! ### N -/

/-- An N that arrives while a command of a non-secure CMD ring has just taken effect leaves its entry without a result (R182): the command
that took effect at the present stamp (assumption log 167). -/
def State.cutResult (n : Nat) (s : State) : State :=
  if s.dev.ringSecure n || !s.dev.ringRuns n || (s.dev.ring n).ranAt ≠ some s.dev.now then s
  else
    let size := s.dev.ringSize n
    let a := s.dev.fld (F.HST_RING_BASE.BASE n) * 64 + (s.dev.fld (F.HST_RING_IDX.DIDX n) + size - 1) % size * 32
    (s.ringWrite n (a + 24) [0, 0, 0]).ringWrite n (a + 28) [0, 0, 0, 0]

/-- N: results that are not yet written are lost (R182), the non-secure world restarts, and once a boot has applied an image it is
re-applied to what N has reset (R304, R420, R445); a copy that fails its CRC is not (R129). -/
def State.nonSecureReset (flr : Bool) (s : State) : State :=
  let old := s.dev
  let s := ((List.range 64).foldl (fun s n => s.cutResult n) s).map (fun d => d.resetNonSecure 0 flr)
  let (list, ok) := s.copyRead
  if !(old.boot.startDue || old.boot.started) then s
  else if ok then s.map (fun d => Dev.restartN old d list)
  else s.map (fun d => d.copyCorrupt 1)

/-! ### Reset events (Table PWR-8) -/

/-- Power-on reset releases (R76): G boots from nothing, a boot follows the P, B or X that held the evaluator, and the Y of a BOOT wake.
The boot waits while RST_N is low (Table PWR-8); an X that G meets so is recorded with it (R97). The balls BOOT_SEL are latched. -/
def State.porRelease (cycles sel : Nat) (rails : BitVec 17) (vmain : Bool) (also : Nat) (s : State) : State :=
  if rails.toNat % 128 ≠ 127 then s
  else
    let latch (s : State) : State :=
      s.map (fun d => ({ d.rtcTick cycles with power := { d.power with sel := sel } }).setRails rails vmain)
    match s.dev.power.mode with
    | .off =>
      let s := latch s
      if s.dev.power.rst then s.map (fun d => { d with power := { d.power with letters := also ||| 2 ^ Rst.x.bit } })
      else s.bootBegin true also
    | .held =>
      let s := latch s
      let s := if s.dev.power.fell then s.fullReset .p also .held else match topRst also with
        | some e => s.fullReset e also .held
        | none => s.map (fun d => d.recordReset also)
      if s.dev.power.rst then s else s.bootBegin false 0
    | .standby =>
      if s.dev.power.wakeOn then
        let s := (latch s).fullReset .y also .held
        if s.dev.power.rst then s else s.bootBegin false 0
      else s
    | .on => s

/-- VDD_IO and VBAT are both absent (R80): GLOW loses everything, and the next power-on is G. -/
def State.allLost (s : State) : State := s.fullReset .g 0 .off

/-- B: one of the seven rails below its threshold for 2 µs (R77). -/
def State.brownOut (rails : BitVec 17) (also : Nat) (s : State) : State :=
  if rails.toNat % 128 = 127 then s
  else match s.dev.power.mode with
    | .on | .held =>
      let vmain := s.dev.on F.PWR_STATE.VMAIN_OK
      (s.fullReset .b also .held).map (fun d => { d.setRails rails vmain with
        power := { d.power with fell := s.dev.power.fell || (d.on F.PWR_GLOW_STAT.ON_VBAT && !rails.getLsbD 4) } })
    | .off => s.map (fun d => d.setRails rails (d.on F.PWR_STATE.VMAIN_OK))
    | .standby => s

/-- X: RST_N low for 1 µs (R103); the evaluator stays in reset until it rises. In STANDBY GLOW records it, and a BOOT wake stays
pending (assumption log 165). -/
def State.resetPin (also : Nat) (s : State) : State :=
  let s := match s.dev.power.mode with
    | .on | .held =>
      let fell := s.dev.power.fell
      (s.fullReset .x also .held).map (fun d => { d with power := { d.power with fell := fell } })
    | .standby =>
      let wake := s.dev.power.wakeOn
      (s.fullReset .x also .standby).map (fun d => { d with power := { d.power with wakeOn := wake } })
    | .off => s
  s.map (fun d => { d with power := { d.power with rst := true } })

/-- RST_N rises: boot starts if the rails are in window. -/
def State.resetPinRise (cycles : Nat) (s : State) : State :=
  let s := s.map (fun d => { d with power := { d.power with rst := false } })
  match s.dev.power.mode with
  | .held =>
    let s := s.map (fun d => d.rtcTick cycles)
    if s.dev.railsOk && !s.dev.power.fell then s.bootBegin false 0 else s
  | .off => if s.dev.railsOk then s.bootBegin true s.dev.power.letters else s
  | _ => s

/-- W or X followed by a boot at once (R94, R124). -/
def State.resetBoot (e : Rst) (also : Nat) (s : State) : State := (s.fullReset e also .held).bootBegin false 0

/-- The watchdog has reached TIMEOUT_MS (R94). -/
def State.watchdog (also : Nat) (s : State) : State :=
  if s.dev.fld F.PWR_WDT_CFG.TIMEOUT_MS ≤ s.dev.wdtMs then s.resetBoot .w also else s

/-- GLOW switches supply (R80). -/
def Dev.glowSupply (d : Dev) (onVbat : Bool) : Dev :=
  let d := d.setBit F.PWR_GLOW_STAT.ON_VBAT onVbat
  if onVbat && d.power.mode = .held then { d with power := { d.power with fell := true } } else d

/-- VBAT falls below 2.0 V (R80). -/
def Dev.vbatLow (d : Dev) : Dev :=
  let d := ((d.setFld F.PWR_GLOW_STAT.VBAT_LOW 1).setFld F.PWR_TAMPER.VBAT_LOW_SEEN 1).setBitOf F.PWR_RAIL_STAT.IN_WINDOW 8 false
  if d.power.mode = .on then (d.setBitOf F.PWR_RAIL_FLAG.OUT_SEEN 8 true).note .vbatLow (.pwr 0) else d

/-- VBAT rises above 2.0 V again. -/
def Dev.vbatBack (d : Dev) : Dev := (d.setFld F.PWR_GLOW_STAT.VBAT_LOW 0).setBitOf F.PWR_RAIL_STAT.IN_WINDOW 8 true

/-- The monitors of clocks that were gated judge again after one full gate (R73, R82). -/
def Dev.ungate (d : Dev) (cs : List Nat) : Dev :=
  { d with clocks := { d.clocks with judging := cs.foldl (fun m i => setMask m i false) d.clocks.judging } }

/-! ### DOZE -/

/-- The SV pair is not held in reset (R70, R146). -/
def Dev.svRuns (d : Dev) (p : Nat) : Bool := !d.clocks.coresHeld && !d.bitOf F.WLD_LOCKSTEP.HELD p

/-- The cores not held in reset: bits 0 and 1 the SV pairs, bits 2 to 5 the AP cores. -/
def Dev.coresRun (d : Dev) : Nat :=
  (d.svRuns 0).toNat + 2 * (d.svRuns 1).toNat + (if d.clocks.coresHeld then 0 else 4 * (d.worlds.apRunning % 16))

/-- A word of an interrupt controller (R148). -/
def Dev.plicWord (d : Dev) (secure : Bool) (off : Nat) : Nat := (tabGet 0 d.worlds.plicReg (2 * (off / 4) + (!secure).toNat)).toNat

/-- A controller serves a context (R148): 0 and 1 are the SV pairs', 2 + 2n and 3 + 2n those of AP_n, in the world of that core (assumption
log 166). -/
def Dev.plicServes (d : Dev) (secure : Bool) (ctx : Nat) : Bool :=
  if ctx < 2 then secure else ctx < 10 && d.nsEntry (52 + (ctx - 2) / 2) ≠ secure

/-- Source `x` of a controller interrupts a context: pending, enabled, and of a priority above the threshold. -/
def Dev.plicMeets (d : Dev) (secure : Bool) (ctx x : Nat) : Bool :=
  (if secure then d.worlds.plicS else d.worlds.plicN).getLsbD x && d.plicServes secure ctx
    && (d.plicWord secure (0x2000 + 0x80 * ctx + x / 32 * 4)).testBit (x % 32)
    && d.plicWord secure (0x200000 + 0x1000 * ctx) % 8 < d.plicWord secure (4 * x) % 8

/-- An interrupt is pending for some core (Table PWR-3). -/
def Dev.irqWaits (d : Dev) : Bool :=
  d.worlds.timerPend &&& d.coresRun ≠ 0
    || [true, false].any (fun sec => (List.range 10).any (fun ctx => (List.range 128).any (fun x => 0 < x && d.plicMeets sec ctx x)))

/-- DOZE is entered when every core not held in reset waits for an interrupt (R81). -/
def Dev.dozeEnter (d : Dev) (waiting : BitVec 6) : Dev :=
  let run := d.coresRun
  if d.fld F.PWR_STATE.STATE = 0 && d.on F.PWR_DOZE_CFG.ENABLE && run ≠ 0 && run &&& waiting.toNat = run && !d.irqWaits then
    (d.setFld F.PWR_STATE.STATE 1).pend 68
  else d

/-- DOZE ends at an interrupt, or when every core is held in reset (R81). -/
def Dev.dozeExit (d : Dev) : Dev :=
  if d.fld F.PWR_STATE.STATE = 1 && (d.irqWaits || d.coresRun = 0) then ((d.setFld F.PWR_STATE.STATE 0).pend 68).ungate [6, 7] else d

/-! ### HOLD and STANDBY -/

/-- The islands that HOLD stops (R82): every port but the twin's, and the PCIe link, which is lost. -/
def State.holdStop (s : State) : State :=
  (s.map (fun d => forN 4 (fun n d => d.netHold n) { d with power := { d.power with holdDue := false } })).linkLost

/-- HOLD is entered (R82): non-vital islands stop, the PCIe link is lost, once an S in progress has completed (R99). -/
def State.holdEnter (s : State) : State :=
  if 2 ≤ s.dev.fld F.PWR_STATE.STATE then s
  else
    let s := s.map (fun d =>
      let d := if d.fld F.PWR_STATE.STATE = 1 then d.ungate [6] else d
      let d := ((d.setFld F.PWR_STATE.STATE 2).setFld F.PWR_STATE.VMAIN_OK 0).pend 68
      let d := { d with power := { d.power with since := d.now } }
      d.note .pwrHoldEnter (.pwr 0) 0 (leBytes 1 (d.fld F.PWR_HOLD_CFG.BUDGET_MS)))
    if s.dev.boot.startDue && s.dev.boot.byS then s.map (fun d => { d with power := { d.power with holdDue := true } }) else s.holdStop

/-- The engines start (R104, R110); a HOLD that an S has held back stops its islands then (R99). -/
def State.enginesStart (s : State) : State :=
  let s := s.engineStart
  if s.dev.boot.started && s.dev.power.holdDue then s.holdStop else s

/-- The budget of HOLD has ended (R82, R98). -/
def Dev.budgetOver (d : Dev) : Bool := d.fld F.PWR_HOLD_CFG.BUDGET_MS * 1000 ≤ d.now.since d.power.since

/-- HOLD returns to RUN (R83): what stopped resumes, the monitors of gated clocks judge again after one full gate, and an S or N that was
held is performed (R99): of both, the one that resets more (R97). That SEAL_CHANGED was raised in HOLD stays known after it (assumption log
160). -/
def State.holdExit (s : State) : State :=
  if s.dev.fld F.PWR_STATE.STATE ≠ 2 || s.dev.budgetOver then s
  else
    let ms := s.dev.now.since s.dev.power.since / 1000
    let s := s.map (fun d =>
      let d := ((d.setFld F.PWR_STATE.STATE 0).setFld F.PWR_STATE.VMAIN_OK 1).pend 68
      let d := if d.power.holdDue then { d with power := { d.power with holdDue := false } } else forN 4 (fun n d => d.netResume n) d
      let d := d.ungate ((List.range 13).filter (fun i => i = 7 || i = 8 || (9 ≤ i && d.netRole (i - 9) ≠ 0)))
      d.note .pwrHoldExit (.pwr 0) 0 (leBytes 2 (min ms 65535)))
    if s.dev.power.waitS then s.secureReset (if s.dev.power.waitN then 2 ^ Rst.n.bit else 0)
    else if s.dev.power.waitN then s.nonSecureReset false else s

/-- The budget ends: the orderly shutdown of Table PWR-4 runs and STANDBY is entered (R84): evaluation ends, and vital outputs and the VEN
outputs go safe (`Dev.safeLine`). A SEAL_CHANGED in HOLD leaves no snapshot
(R126). -/
def State.shutdown (s : State) : State :=
  if s.dev.fld F.PWR_STATE.STATE ≠ 2 || !s.dev.budgetOver then s
  else
    let s := if s.dev.boot.inHold then s else s.snapWrite 1
    let s := (s.map (fun d => d.logOutage 7)).glow
    s.map (fun d => { d.setFld F.PWR_STATE.STATE 3 with power := { d.power with mode := .standby, sent := d.sentTime, waitS := false, waitN := false, wakeOn := false, holdDue := false } })

/-- A wake source acts in STANDBY (R85, Table PWR-5): 0 WAKE_N, 1 WAKE_CMP_0, 2 WAKE_CMP_1 by its edge, 3 the RTC alarm. -/
def State.wake (source : Nat) (rising : Bool) (s : State) : State :=
  let mode := s.dev.fld F.PWR_WAKE_CFG.MODE / 2 ^ (2 * source) % 4
  let acts : Bool := if source = 2 then rising || s.dev.on F.PWR_WAKE_CFG.CMP_1_BOTH
    else if source = 3 then s.dev.fld F.PWR_RTC_SEC.SEC = s.dev.fld F.PWR_RTC_ALARM.ALARM else true
  if s.dev.power.mode ≠ .standby || !acts || mode = 0 then s
  else
    let s := s.map (fun d =>
      let d := d.setBitOf F.PWR_WAKE_SRC.SEEN source true
      if source = 2 then d.setFld F.PWR_TAMPER.DOOR 1 else d)
    if mode = 1 then (s.map (fun d => d.logOutage 10)).glow
    else s.map (fun d => { d with power := { d.power with wakeOn := true } })

/-- The rails have not reached their window 500 ms after a BOOT wake (R86). -/
def State.wakeFail (s : State) : State :=
  if s.dev.power.mode ≠ .standby || !s.dev.power.wakeOn then s
  else (s.map (fun d => { (d.setFld F.PWR_TAMPER.WAKE_FAIL 1).logOutage 11 with power := { d.power with wakeOn := false } })).glow

/-- VBAT is lost in STANDBY (R81): OFF. -/
def State.standbyOff (s : State) : State := if s.dev.power.mode = .standby then s.allLost else s

/-! ### Software resets -/

/-- A keyed write of PWR_SW_RESET (R99, R103): in HOLD the request waits. -/
def State.softReset (wantS wantN : Bool) (s : State) : State :=
  if s.dev.fld F.PWR_STATE.STATE = 2 then
    s.map (fun d => { d with power := { d.power with waitS := d.power.waitS || wantS, waitN := d.power.waitN || wantN } })
  else if wantS then
    (if s.dev.boot.running then s
    else s.secureReset (if wantN then 2 ^ Rst.n.bit else 0))
  else if wantN then s.nonSecureReset false else s

end Sys2Proof.Machine
end

