-- ==== Sys2Proof/Machine/RegWrite.lean ====
section
/-! DEFINITION. Machine/RegWrite.lean: bus accesses: writes and reads of registers with what each written register sets off, of memory,
of the core timer and the interrupt controllers, of host windows and the MSI-X table (R9, R131 to R160, R537, R538). -/

namespace Sys2Proof.Machine

/-! ### What a write may change -/

/-- What the environment decides beside a write: the flag bits that hardware sets in the same cycle (R153, R154), and what an OTP word
reads back after programming, where it is not what was programmed (R117). -/
structure Aside where
  hw : Word := 0
  back : Option Word := none
deriving DecidableEq, Repr

/-- A field of the register takes the write. -/
def RegDef.touched (r : RegDef) (en : Nat) (secure locked : Bool) : Bool :=
  r.fields.any (fun f => f.mask &&& en ≠ 0 && (match f.acc with | .ro => false | .rwl => !locked | .rws => secure | _ => true))

/-- The bits of a register that writes leave alone while its object is enabled: ring areas and indices (Table HST-17), serial and network
configuration (chapters 15 and 16), a host window but for clearing ENABLE (R156). -/
def Dev.frozen (d : Dev) (b : Blk) (off val en : Nat) : Nat := match b with
  | .hst =>
    let o := 0x100 + off % 0x20
    if 0x100 ≤ off ∧ d.on (F.HST_RING_CTRL.ENABLE ((off - 0x100) / 0x20))
        ∧ (o ≤ O.HST_RING_CFG ∨ o = O.HST_RING_IDX) then 0xFFFFFFFF else 0
  | .ser =>
    let o := off % 0x80
    if !d.on (F.SER_CFG.ENABLE (off / 0x80)) then 0
    else if o = O.SER_CFG then 0xFFFFFFFE
    else if o = O.SER_CARD_CFG then 0xFE0000FF
    else if o ≤ O.SER_SYNC_CFG then 0xFFFFFFFF else 0
  | .net =>
    let o := off % 0x1000
    if !d.on (F.NET_CFG.ENABLE (off / 0x1000)) then 0
    else if o = O.NET_CFG then 0xFFFFFFFE
    else if o ≤ O.NET_LINK_CFG ∨ o = O.NET_TS_CORR then 0xFFFFFFFF else 0
  | .wld =>
    let w := (off - O.WLD_HWIN_DEV) / 0x10
    if off < O.WLD_HWIN_DEV ∨ O.WLD_VLOG_ADDR ≤ off ∨ !d.on (F.WLD_HWIN_CTRL.ENABLE w) then 0
    else if off % 0x10 = O.WLD_HWIN_CTRL % 0x10 ∧ en % 2 = 1 ∧ val % 2 = 0 then 0 else 0xFFFFFFFF
  | _ => 0

/-! ### What a written register sets off

`old` is the device before the write, `wo` the bits a write gives the WO fields. -/

/-- A field that a write has raised from 0 to 1, and one that it has cleared. -/
def Dev.rose (d old : Dev) (f : Fld) : Bool := d.on f && !old.on f
def Dev.fell (d old : Dev) (f : Fld) : Bool := !d.on f && old.on f

/-- Shift the RTC seconds of a snapshot in retention RAM by the difference of a set clock, and form its CRC again (R91). -/
def State.snapShift (diff : Nat) (s : State) : State :=
  if !s.snapValid then s
  else
    let ok := s.snapOk
    let b := s.retRead 0 28
    let b := b.take 12 ++ leBytes 4 ((ofLe ((b.drop 12).take 4) + diff) % 2 ^ 32) ++ b.drop 16
    let crc := if ok then leBytes 4 (crc32c (b.take 3 ++ [0] ++ b.drop 4 ++ s.retRead 0x20 128)) else s.retRead 28 4
    s.retWrite 0 (b ++ crc)

/-- Shift the expiry of every Endgame slot in retention RAM by the same difference (R91). -/
def State.egShift (diff : Nat) (s : State) : State :=
  let b := s.retRead 0xA0 0x110
  if ofLe (b.drop 0x10C) ≠ crc32c (b.take 0x10C) then s
  else
    let slot (k : Nat) : List Byte :=
      let x := (b.drop (16 * k)).take 16
      if img x 0 1 = 0 then x else x.take 4 ++ leBytes 4 ((img x 4 4 + diff) % 2 ^ 32) ++ x.drop 8
    let body := (List.range 16).flatMap slot ++ (b.drop 0x100).take 12
    s.retWrite 0xA0 (body ++ leBytes 4 (crc32c body))

/-- A secure write of PWR_RTC_SEC (R91): the sub-seconds clear, and every stored expiry and the snapshot's RTC shift with it. -/
def State.rtcSet (old : Dev) (s : State) : State :=
  let diff := (s.dev.fld F.PWR_RTC_SEC.SEC + 2 ^ 32 - old.fld F.PWR_RTC_SEC.SEC) % 2 ^ 32
  ((s.map (fun d => d.setFld F.PWR_RTC_SUB.SUB 0)).egShift diff).snapShift diff

/-- A write of PWR_WDT_KICK (R94): the count restarts, or a wrong value or an early kick applies W. -/
def State.wdtKick (v : Nat) (s : State) : State :=
  if v = 0x6B1E ∧ s.dev.fld F.PWR_WDT_CFG.WINDOW_MIN_MS ≤ s.dev.wdtMs then
    s.map (fun d => { d.incWrap F.PWR_WDT_STAT.KICKS with power := { d.power with wdtUs := 0 } })
  else s.resetBoot .w 0

def State.pwrHook (old : Dev) (off wo : Nat) (s : State) : State :=
  if off = O.PWR_SW_RESET then
    (if wo % 65536 = 0x5C3A then s.softReset (wo.testBit 16) (wo.testBit 17) else s)
  else if off = O.PWR_WDT_KICK then s.wdtKick (wo % 65536)
  else if off = O.PWR_RTC_SEC then s.rtcSet old
  else s

/-- An OTP word is programmed and read back (R117). `back` is what it reads back, where that is not what it should. -/
def State.otpProgram (back : Option Word) (s : State) : State :=
  let n := s.dev.fld F.BOT_OTP_ADDR.WORD
  if s.dev.fld F.BOT_SEAL_IN_FORCE.CODE = 0xFFFFFFFF ∧ 8 ≤ n then
    let want := otpWord s.store.otp n ||| BitVec.ofNat 32 (s.dev.fld F.BOT_OTP_DATA.DATA)
    let got := back.getD want
    let s := { s with store := { s.store with otp := tabPut 0 s.store.otp n got } }
    if got = want then s.map (fun d => d.setFld F.BOT_OTP_CMD.REFUSED 0)
    else s.map (fun d => (d.setFld F.BOT_OTP_CMD.REFUSED 1).note .otpProgFail .bot 0 (leBytes 1 n))
  else s.map (fun d => d.setFld F.BOT_OTP_CMD.REFUSED 1)

/-- The word at ADDR is read into DATA. -/
def State.otpRead (s : State) : State :=
  s.map (fun d => d.setFld F.BOT_OTP_DATA.DATA (otpWord s.store.otp (d.fld F.BOT_OTP_ADDR.WORD)).toNat)

def State.botHook (off wo : Nat) (back : Option Word) (s : State) : State :=
  if off = O.BOT_CTRL then
    (if wo % 65536 = 0x7A19 ∧ wo.testBit 16 ∧ s.dev.on F.BOT_STATUS.COMMISSIONING then s.resetBoot .x 0 else s)
  else if off = O.BOT_OTP_CMD then
    let s := if wo.testBit 1 then s.otpProgram back else s
    if wo.testBit 0 then s.otpRead else s
  else s

/-- A write of WLD_AP_RUN (R147): a core whose RUN bit is now 1 starts, one whose bit is 0 is held in reset. -/
def Dev.apRunWrite (d : Dev) : Dev :=
  forN 4 (fun n d =>
    if d.bitOf F.WLD_AP_RUN.RUN n then d.apStart n
    else { d with worlds := { d.worlds with apRunning := setMask d.worlds.apRunning n false } }) d

/-- A write of a World Assignment Table entry (R133, R155). -/
def Dev.watWrite (d old : Dev) (e : Nat) : Dev :=
  let new := d.watJudge e
  if old.watBusy e ∧ new.nsEntry e ≠ old.nsEntry e then old.assignRefused e else new

def State.wldHook (old : Dev) (off en : Nat) (s : State) : State :=
  if off = O.WLD_AP_RUN then s.map Dev.apRunWrite
  else if O.WLD_WAT ≤ off ∧ off < O.WLD_REGION_TAG then s.map (fun d => d.watWrite old ((off - O.WLD_WAT) / 4))
  else if O.WLD_REGION_TAG ≤ off ∧ off < O.WLD_HWIN_DEV then
    s.regionTags ((off - O.WLD_REGION_TAG) / 4) (old.reg .wld off) en
  else if O.WLD_HWIN_DEV ≤ off ∧ off < O.WLD_VLOG_ADDR ∧ off % 0x10 = O.WLD_HWIN_CTRL % 0x10 then
    s.map (fun d => d.winTag ((off - O.WLD_HWIN_DEV) / 0x10))
  else s

/-- A write of HST_RING_CTRL (R179, R180); no ring starts while DUSK is held in reset (R69). A non-secure ring that is to carry S opcodes
becomes secure (R133). -/
def State.ringCtrl (old : Dev) (n : Nat) (s : State) : State :=
  if s.dev.rose old (F.HST_RING_CTRL.ENABLE n) then
    (if s.dev.islandHeld 0 then s.map (fun d => d.setFld (F.HST_RING_CTRL.ENABLE n) 0) else (s.map (fun d => d.watAgain (64 + n))).ringStart n)
  else if s.dev.fell old (F.HST_RING_CTRL.ENABLE n) then (s.map (fun d => d.setFld (F.HST_RING_CTRL.ENABLE n) 1)).ringStop n
  else s

def State.hstHook (old : Dev) (off : Nat) (s : State) : State :=
  if 0x100 ≤ off ∧ 0x100 + off % 0x20 = O.HST_RING_CTRL then s.ringCtrl old ((off - 0x100) / 0x20) else s

/-- A write of HAZ_CH_PEAK_CLR restarts MIN and MAX. -/
def Dev.peakClear (d : Dev) (c : Nat) : Dev :=
  (d.setReg .haz (F.HAZ_CH_PEAK.MIN c).off 0).modChan c (fun k => { k with seen := false })

/-- A write of HAZ_CH_CFG: a new mode takes the channel through its start (R218, R219). -/
def Dev.chanWrite (d old : Dev) (c : Nat) : Dev :=
  if d.fld (F.HAZ_CH_CFG.MODE c) = old.fld (F.HAZ_CH_CFG.MODE c) ∧ d.on (F.HAZ_CH_CFG.TWIN_SHARED c) = old.on (F.HAZ_CH_CFG.TWIN_SHARED c) then d
  else if d.fld (F.HAZ_CH_CFG.MODE c) = 0 then d.chanStart c 0
  else d.chanBegin c

def Dev.hazHook (d old : Dev) (off wo : Nat) : Dev :=
  if off < 0x1000 then d
  else if off < 0x2000 then
    let c := (off - 0x1000) / 0x40
    let o := 0x1000 + off % 0x40
    if o = O.HAZ_CH_CFG then d.chanWrite old c
    else if o = O.HAZ_CH_PEAK_CLR ∧ wo ≠ 0 then d.peakClear c
    else d
  else if 0x2000 + off % 0x40 = O.HAZ_AUX_CFG then d.auxStart ((off - 0x2000) / 0x40)
  else d

/-- A write of an enabled head's configuration (R253, R543); the banks of its channels are secure (R133). -/
def Dev.hedHook (d old : Dev) (off : Nat) : Dev :=
  let h := off / 0x40
  let o := off % 0x40
  let was := old.headEnabled h
  let d := if o = O.HED_CFG ∧ d.headEnabled h ∧ !remote h then (d.watAgain (d.headChan h 0 / 8)).watAgain (d.headChan h 1 / 8) else d
  if o ≤ O.HED_LIMIT then (if was || d.headEnabled h then d.headRestart h was else d)
  else if o ≤ O.HED_OPEN ∧ was ∧ !remote h then
    let d := if o = O.HED_BAND_B then d else d.headRethreshold h 0
    let d := if o = O.HED_BAND_A then d else d.headRethreshold h 1
    d.headJudge h
  else d

/-- A write of a section's configuration (R278). -/
def Dev.secHook (d old : Dev) (off : Nat) : Dev :=
  let i := (off - 0x1000) / 0x40
  if 0x1000 ≤ off ∧ 0x1000 + off % 0x40 ≤ O.SEC_NOTRAIN ∧ (old.secEnabled i || d.secEnabled i) then d.secRestart i (old.secEnabled i) else d

/-- A write of a monitor's configuration (R291, R302, R303), of its latches while an output is active (R285, R300), or of the trip
map. -/
def Dev.winHook (d old : Dev) (off : Nat) : Dev :=
  if off < 0x1000 then
    let m := off / 0x20
    let o := off % 0x20
    -- what the monitor saw before the write is judged as it stood then
    let shut : Dev := { d with mons := (old.winSegment m).mons }
    if o = O.WIN_CFG then
      if d.winOn m = old.winOn m then ((shut.winSense m).testAgain old m).winJudge m else (shut.winStart m).monReblank m
    else if o = O.WIN_THR then
      let d := if d.winOn m ∧ d.reg .win off ≠ old.reg .win off then d.winSettle m else d
      d.winJudge m
    else if o = O.WIN_BLANK then ((shut.winTrack m).monReblank m).winJudge m
    else if o = O.WIN_FLAG then ((d.winShow m).winHeld m true).winHeld m false
    else d
  else if off < O.WIN_ST_CFG then
    let k := (off - O.WIN_TRIP_MAP) / 4
    forN 4 (fun j d => (if 28 ≤ k then d.watAgain (24 + (4 * k + j - 112)) else d).winJudge (4 * k + j)) d
  else if off = O.WIN_ST_CFG then forN 128 (fun m d => d.testAgain old m) d
  else d

/-- A write of a generator's or status output's configuration (R328). -/
def Dev.pgnHook (d old : Dev) (off : Nat) : Dev :=
  if off < 0x1000 then
    let k := off / 0x40
    if off % 0x40 = O.PGN_CFG ∧ d.on (F.PGN_CFG.ENABLE k) ≠ old.on (F.PGN_CFG.ENABLE k) then d.pgStart k
    else if off % 0x40 ≤ O.PGN_MINP ∧ d.on (F.PGN_CFG.ENABLE k) then d.pgJudge k
    else d
  else
    let n := (off - 0x1000) / 0x10
    if 0x1000 + off % 0x10 ≤ O.PGN_SSO_FREQ ∧ d.on (F.PGN_CFG.ENABLE (48 + n)) then d.pgJudge (48 + n) else d

/-- A write of a lamp's or signal's configuration (R360, R361). -/
def Dev.lmpHook (d old : Dev) (off : Nat) : Dev :=
  if off < 0x1000 then
    let k := off / 0x20
    if off % 0x20 = O.LMP_CFG ∧ d.lampOn k ≠ old.lampOn k then d.lampStart k
    else if off % 0x20 ≤ O.LMP_SUP then (d.lampRecode k).lampJudge k
    else d
  else if off < 0x2000 then
    let s := (off - 0x1000) / 0x80
    let o := 0x1000 + off % 0x80
    if o = O.LMP_SIG_CFG ∧ d.sigOn s ≠ old.sigOn s then d.sigStart s
    else if o ≠ O.LMP_SIG_STAT then d.sigJudge s
    else d
  else d

/-- A write of a safety input's, test source's, safe output's or function's configuration (R392 to R394). -/
def Dev.safHook (d old : Dev) (off : Nat) : Dev :=
  if off < 0x100 then
    let n := off / 8
    if off % 8 = O.SAF_SI_CFG ∧ d.siOn n ≠ old.siOn n then d.siStart n else d
  else if off < 0x200 then (if off % 8 = 0 then d.tpInit ((off - 0x100) / 8) else d)
  else if off < 0x400 then (if off % 0x10 = 0 then d.soJudge ((off - 0x200) / 0x10) else d)
  else
    let f := (off - 0x400) / 0x20
    if 0x400 + off % 0x20 = O.SAF_FB_CFG ∧ d.fbOn f ≠ old.fbOn f then d.fbStart f
    else if 0x400 + off % 0x20 ≤ O.SAF_FB_SEC_HI then d.fbJudge f
    else d

/-- A serial port is disabled: a card stops, the FIFO is lost. -/
def Dev.serStop (d : Dev) (n : Nat) : Dev := ((d.cardStop n).setReg .ser (F.SER_STAT.LINE n).off 0).setSer n {}

/-- A write of a serial port's ENABLE or of SER_CTRL (R406, R410, R418). -/
def Dev.serHook (d old : Dev) (off wo : Nat) : Dev :=
  let n := off / 0x80
  if off % 0x80 = O.SER_CFG then
    (if d.rose old (F.SER_CFG.ENABLE n) then d.serStart n
    else if d.fell old (F.SER_CFG.ENABLE n) then d.serStop n else d)
  else if off % 0x80 = O.SER_CTRL then
    let d := if wo.testBit 0 then d.abArmWrite n else d
    let d := if wo.testBit 1 then d.cardArm n else d
    if wo.testBit 2 then d.cardStop n else d
  else d

/-- A write of a network port's ENABLE, role, RELEASE, or PTP control (R134, R435, R440, R443, R444). -/
def Dev.netHook (d old : Dev) (off wo : Nat) : Dev :=
  let n := off / 0x1000
  let o := off % 0x1000
  if o = O.NET_CFG then
    let d := if d.netRole n = old.netRole n then d else d.watFollow n
    if d.rose old (F.NET_CFG.ENABLE n) then d.netStart n
    else if d.fell old (F.NET_CFG.ENABLE n) then d.netStop n else d
  else if o = O.NET_CTRL then (if wo.testBit 0 then d.linkRelease n else d)
  else if o = O.NET_PTP_CTRL then (if wo.testBit 0 then d.ptpSet n else if wo.testBit 1 then d.ptpOffset n else d)
  else d

/-- A write of a port's KVT configuration or key (R463, R471). -/
def Dev.kvtHook (d old : Dev) (off wo : Nat) : Dev :=
  let p := (off - 0x100) / 0x100
  let o := 0x100 + off % 0x100
  if off < 0x100 then d
  else if o = O.KVT_PCFG ∧ d.rose old (F.KVT_PCFG.ENABLE p) then d.kvtStart p
  else if o = O.KVT_PCFG ∧ d.fell old (F.KVT_PCFG.ENABLE p) then d.kvtStop p
  else if o ≤ O.KVT_PUB_SIG then
    (if d.on (F.KVT_PCFG.ENABLE p) && !d.kvtConfigOk p then (d.kvtStart p).kvtStop p else d)
  else if O.KVT_KEY ≤ o ∧ o < O.KVT_KEY_CTRL then d.kvtKeyWord p ((o - O.KVT_KEY) / 4) (BitVec.ofNat 32 wo)
  else if o = O.KVT_KEY_CTRL ∧ wo.testBit 0 then d.kvtCommit p
  else d

/-- A write of the twin's configuration (R500). -/
def Dev.twnHook (d old : Dev) (off : Nat) : Dev :=
  if off = O.TWN_CFG ∧ d.fell old F.TWN_CFG.ENABLE then d.twinDisable
  else if off ≤ O.TWN_VEN ∧ d.twinOn then d.twinEnable
  else d

/-- What a written register sets off (R538); `en` are the enabled bits. -/
def State.afterWrite (old : Dev) (b : Blk) (off wo en : Nat) (back : Option Word) (s : State) : State := match b with
  | .isl => if off = O.ISL_ISLAND_RESET then s.islandWrite wo else s
  | .pwr => s.pwrHook old off wo
  | .bot => s.botHook off wo back
  | .wld => s.wldHook old off en
  | .hst => s.hstHook old off
  | .haz => s.map (fun d => d.hazHook old off wo)
  | .hed => s.map (fun d => d.hedHook old off)
  | .sec => s.map (fun d => d.secHook old off)
  | .win => s.map (fun d => d.winHook old off)
  | .pgn => s.map (fun d => d.pgnHook old off)
  | .lmp => s.map (fun d => d.lmpHook old off)
  | .saf => s.map (fun d => d.safHook old off)
  | .ser => s.map (fun d => d.serHook old off wo)
  | .net => s.map (fun d => d.netHook old off wo)
  | .kvt => s.map (fun d => d.kvtHook old off wo)
  | .twn => s.map (fun d => d.twnHook old off)
  | _ => s

/-- The word a register holds right after a write, before anything follows from it. -/
def Dev.storeReg (d : Dev) (r : RegDef) (b : Blk) (off val en hw : Nat) (secure : Bool) : Dev :=
  (d.setReg b off (r.writeWord (d.reg b off).toNat val en hw secure (d.on F.BOT_STATUS.LOCKED))).crossFix b off

/-- The enabled bits of a write that the register may take. -/
def Dev.writable (d : Dev) (b : Blk) (off val en : Nat) : Nat :=
  en - (en &&& (deadBits d.part b off ||| d.frozen b off val en))

/-- A write of a register: registers of absent instances and of UART_7 ignore it (R2, R414); each field acts by its access code; then
what follows from the write happens. -/
def State.regWrite (secure : Bool) (b : Blk) (off val en : Nat) (x : Aside) (s : State) : State :=
  match findReg off (regDefs b) with
  | none => s
  | some (r, _, _) =>
    let en := s.dev.writable b off val en
    if absentReg s.dev.part b off || (b = .ser && off / 0x80 = 7) || !r.touched en secure (s.dev.on F.BOT_STATUS.LOCKED) then s
    else (s.map (fun d => d.storeReg r b off val en x.hw.toNat secure)).afterWrite s.dev b off (r.woBits val en) en x.back

/-! ### The core timer and the interrupt controllers (R148, R149) -/

/-- mtimecmp of a core. -/
def Dev.timerCmp (d : Dev) (core : Nat) : Nat := tabGet (2 ^ 64 - 1) d.worlds.mtimecmp core

/-- A core's timer interrupt is pending while mtime is equal to or later than its mtimecmp (R149). -/
def Dev.timerEval (d : Dev) (core : Nat) : Dev :=
  { d with worlds := { d.worlds with timerPend := setMask d.worlds.timerPend core (d.timerCmp core ≤ d.now.toNat) } }

/-- A write of one half of an mtimecmp register. -/
def Dev.timerWrite (d : Dev) (off val mask : Nat) : Dev :=
  let core := (off - 0x4000) / 8
  if off < 0x4000 ∨ 6 ≤ core then d
  else
    let sh := if off % 8 < 4 then 0 else 32
    let m := mask * 2 ^ sh
    let old := d.timerCmp core
    let new := (old - (old &&& m)) ||| (val * 2 ^ sh &&& m)
    { d with worlds := { d.worlds with mtimecmp := tabPut (2 ^ 64 - 1) d.worlds.mtimecmp core new } }.timerEval core

/-- A word of the timer's registers. -/
def Dev.timerRead (d : Dev) (off : Nat) : Nat :=
  let half (v : Nat) : Nat := if off % 8 < 4 then v % 2 ^ 32 else v / 2 ^ 32
  if 0x4000 ≤ off ∧ off < 0x4030 then half (d.timerCmp ((off - 0x4000) / 8))
  else if 0xBFF8 ≤ off ∧ off < 0xC000 then half d.now.toNat
  else 0

/-- The source a context claims: pending and enabled, of the highest priority, the lowest number among equals; 0 for none. -/
def Dev.plicClaim (d : Dev) (secure : Bool) (ctx : Nat) : Nat :=
  let pend := if secure then d.worlds.plicS else d.worlds.plicN
  (List.range 128).foldl (fun best x =>
    let p := d.plicWord secure (4 * x) % 8
    let q := if best = 0 then 0 else d.plicWord secure (4 * best) % 8
    if 0 < x && pend.getLsbD x && d.plicServes secure ctx && (d.plicWord secure (0x2000 + 0x80 * ctx + x / 32 * 4)).testBit (x % 32) && q < p then x else best) 0

/-- A read of an interrupt controller's word: priorities, pending bits, enables, thresholds. A claim ends the claimed pending bit, and the
source is served until its completion. -/
def Dev.plicRead (d : Dev) (secure : Bool) (off : Nat) : Nat × Dev :=
  let pend := if secure then d.worlds.plicS else d.worlds.plicN
  if 0x1000 ≤ off ∧ off < 0x1010 then (pend.toNat / 2 ^ (8 * (off - 0x1000)) % 2 ^ 32, d)
  else if 0x200000 ≤ off ∧ off % 0x1000 = 4 then
    let x := d.plicClaim secure ((off - 0x200000) / 0x1000)
    let b := 1#128 <<< x
    let w := d.worlds
    (x, if x = 0 then d
      else { d with worlds := if secure then { w with plicS := pend &&& ~~~ b, serveS := w.serveS ||| b }
        else { w with plicN := pend &&& ~~~ b, serveN := w.serveN ||| b } })
  else (d.plicWord secure off, d)

/-- A completion of source `x` by a context for which it is enabled (R148): it can be pending again, and is at once if it has asked since. -/
def Dev.plicComplete (d : Dev) (secure : Bool) (ctx x : Nat) : Dev :=
  let b := 1#128 <<< x
  let w := d.worlds
  if x = 0 || 128 ≤ x || !d.plicServes secure ctx || !(d.plicWord secure (0x2000 + 0x80 * ctx + x / 32 * 4)).testBit (x % 32) then d
  else if secure then
    (if w.serveS.getLsbD x then
      { d with worlds := { w with serveS := w.serveS &&& ~~~ b, againS := w.againS &&& ~~~ b, plicS := w.plicS ||| (w.againS &&& b) } } else d)
  else if w.serveN.getLsbD x then
    { d with worlds := { w with serveN := w.serveN &&& ~~~ b, againN := w.againN &&& ~~~ b, plicN := w.plicN ||| (w.againN &&& b) } } else d

/-- A write of an interrupt controller's word: priorities 1 to 7 of sources 1 to 127, enables and thresholds of 10 contexts are stored; a
claim register takes a completion. -/
def Dev.plicWrite (d : Dev) (secure : Bool) (off val mask : Nat) : Dev :=
  if 0x200000 ≤ off ∧ off < 0x20A000 ∧ off % 0x1000 = 4 then d.plicComplete secure ((off - 0x200000) / 0x1000) (val &&& mask) else
  let keep : Nat :=
    if 4 ≤ off ∧ off < 0x200 then 7
    else if off = 0x2000 + 0x80 * ((off - 0x2000) / 0x80) ∧ 0x2000 ≤ off ∧ off < 0x2500 then 0xFFFFFFFE
    else if 0x2000 ≤ off ∧ off < 0x2500 ∧ off % 0x80 < 0x10 then 0xFFFFFFFF
    else if 0x200000 ≤ off ∧ off < 0x20A000 ∧ off % 0x1000 = 0 then 7
    else 0
  let old := d.plicWord secure off
  let m := mask &&& keep
  let new : Word := BitVec.ofNat 32 ((old - (old &&& m)) ||| (val &&& m))
  { d with worlds := { d.worlds with plicReg := tabPut 0 d.worlds.plicReg (2 * (off / 4) + (!secure).toNat) new } }

/-! ### The MSI-X table (R161, R175) -/

/-- Where the MSI-X table and the pending-bit array of BAR0 stand, as device addresses. -/
def msixTable : Nat := 0x11FFE000
def msixPba : Nat := 0x11FFF000

/-- An inbound access to the MSI-X table or the pending-bit array. -/
def inMsix (acc : Access) (a : Nat) : Bool := acc.master.val = 6 && msixTable ≤ a && a < msixPba + 0x1000

/-- A write of the table: message words are stored; unmasking a vector with a pending bit sends it. -/
def Dev.msixWrite (d : Dev) (a val mask : Nat) : Dev :=
  let o := (a - msixTable) / 4
  let v := o / 4
  if msixPba ≤ a ∨ 64 ≤ v then d
  else if o % 4 < 3 then
    let old := tabGet 0 d.vectors o
    { d with vectors := tabPut 0 d.vectors o ((old - (old &&& mask)) ||| (val &&& mask)) }
  else if mask % 2 = 0 then d
  else if val % 2 = 1 then { d with worlds := { d.worlds with msixMask := d.worlds.msixMask ||| (1#64 <<< v) } }
  else
    let d := { d with worlds := { d.worlds with msixMask := d.worlds.msixMask &&& ~~~ (1#64 <<< v) } }
    if d.worlds.msixPend.getLsbD v then { d with worlds := { d.worlds with msixPend := d.worlds.msixPend &&& ~~~ (1#64 <<< v) } }.msix v else d

/-- A read of the table or of the pending-bit array. -/
def Dev.msixRead (d : Dev) (a : Nat) : Nat :=
  let o := (a - msixTable) / 4
  if msixPba ≤ a then (if a < msixPba + 8 then d.worlds.msixPend.toNat / 2 ^ (8 * (a - msixPba)) % 2 ^ 32 else 0)
  else if 64 ≤ o / 4 then 0
  else if o % 4 < 3 then tabGet 0 d.vectors o
  else (d.worlds.msixMask.getLsbD (o / 4)).toNat

/-! ### Bus accesses -/

/-- Write the enabled bytes of a value into device memory. -/
def putBytes (acc : Access) (a : Nat) (val : Word) (m : List Host.Cell) : List Host.Cell :=
  (List.range 4).foldl (fun m i => if acc.be.getLsbD i then memWrite m (a + i) [val.extractLsb' (8 * i) 8] else m) m

/-- The enabled bytes of a word of memory. -/
def getBytes (acc : Access) (a : Nat) (m : List Host.Cell) : Word :=
  BitVec.ofNat 32 ((List.range 4).foldl (fun v i => if acc.be.getLsbD i then v + (memByte m (a + i)).toNat * 2 ^ (8 * i) else v) 0)

/-- The ring watches its mirror word. -/
def Dev.mirrored (d : Dev) (n : Nat) : Bool := d.ringRuns n && 2 ≤ d.fld (F.HST_RING_CFG.DISC n)

/-- A write to the mirror page (Table HST-1, R168): a ring that watches it judges the value; a non-secure host may not ring a secure
ring but the boot ring. -/
def Dev.mirrorWrite (d : Dev) (acc : Access) (n : Nat) (v : Word) : Dev :=
  if d.ringSecure n && !d.masterSecure acc && !(n = 0 && d.on F.HST_STATUS.BOOT_RING) then d.logViolation acc (n * 0x40) true 0
  else if d.mirrored n then d.doorbell n v else d

/-- An inbound write at an offset of BAR2: the words at n × 0x40 are the rings', other offsets ignore it (Table HST-1). -/
def Dev.pageWrite (d : Dev) (acc : Access) (a lane : Nat) : Dev :=
  let off := (a - mirrorPage) / 4 * 4
  if off % 0x40 = 0 then d.mirrorWrite acc (off / 0x40) (BitVec.ofNat 32 lane) else d

/-- An inbound read of BAR2: a ring's word reads as a free value (assumption log 168), other offsets read 0. -/
def Dev.pageRead (d : Dev) (a : Nat) : Nat × Dev :=
  if (a - mirrorPage) / 4 * 4 % 0x40 = 0 then ((Config.freeMirror d.freeCtr).toNat, { d with freeCtr := d.freeCtr + 1 }) else (0, d)

/-- What the master sees. -/
def Dev.reply (d : Dev) (v : Word) (x : Answer) : Dev := { d with out := { d.out with data := some v, answer := x } }

/-- The answer to a core, or to the link, whose access through a host window finds the link down (R186). -/
def linkAnswer (acc : Access) : Answer := if acc.master.val < 6 then .loadFault else .ok

/-- A write on the bus (R131, R137, R140, R537): a violating write is dropped and logged. Byte i of the value belongs to address
a + i. A secure write to the boot ROM is dropped (assumption log 162). -/
def State.busWrite (acc : Access) (a : Nat) (val : Word) (x : Aside) (s : State) : State :=
  let s := s.map (fun d => d.stalled a)
  let mask := (byteMask (acc.enables a)).toNat
  let lane := val.toNat * 2 ^ (8 * (a % 4)) % 2 ^ 32
  if inMsix acc a then s.map (fun d => d.msixWrite a lane mask)
  else if acc.onMirror a then s.map (fun d => d.pageWrite acc a (lane &&& mask))
  else if !acc.mapped a then s.map (fun d => { d with out := { d.out with answer := .unsupported } })
  else match s.dev.violation acc a true with
    | some k => s.map (fun d => d.logViolation acc a true k)
    | none => match s.dev.place a with
      | .reg b off => s.regWrite (s.dev.masterSecure acc) b off lane mask x
      | .sram _ =>
        let mem := putBytes acc a val s.store.mem
        { s with dev := s.dev.snoop mem a 4, store := { s.store with mem := mem } }
      | .tcm _ => { s with store := { s.store with mem := putBytes acc a val s.store.mem } }
      | .retention => { s with store := { s.store with mem := putBytes acc a val s.store.mem } }
      | .window w =>
        if s.dev.on F.HST_STATUS.LINK_UP then { s with store := { s.store with host := putBytes acc (s.dev.hostAddr w a) val s.store.host } }
        else s
      | .timer off => s.map (fun d => d.timerWrite (off / 4 * 4) lane mask)
      | .plic sec off => s.map (fun d => d.plicWrite sec (off / 4 * 4) lane mask)
      | .rom => s
      | .unmapped => s

/-- A read on the bus: a violating read gives 0 and is logged. The answer stands in `out`. A secure read of the boot ROM, whose contents the
spec does not give, reads 0 (assumption log 162). -/
def State.busRead (acc : Access) (a : Nat) (s : State) : State :=
  let s := s.map (fun d => d.stalled a)
  let en := acc.enables a
  let shift (v : Word) : Word := v >>> (8 * (a % 4))
  let lane (v : Nat) : Word := shift (BitVec.ofNat 32 v &&& byteMask en)
  if inMsix acc a then s.map (fun d => d.reply (lane (d.msixRead (a / 4 * 4))) .ok)
  else if acc.onMirror a then
    let (v, d) := s.dev.pageRead a
    { s with dev := d.reply (lane v) .ok }
  else if !acc.mapped a then s.map (fun d => d.reply 0 .unsupported)
  else match s.dev.violation acc a false with
    | some k => s.map (fun d => (d.logViolation acc a false k).reply 0 .ok)
    | none => match s.dev.place a with
      | .reg b off =>
        let (v, d) := s.dev.readReg acc b off en
        { s with dev := d.reply (shift v) .ok }
      | .sram _ => s.map (fun d => d.reply (getBytes acc a s.store.mem) .ok)
      | .tcm _ => s.map (fun d => d.reply (getBytes acc a s.store.mem) .ok)
      | .retention => s.map (fun d => d.reply (getBytes acc a s.store.mem) .ok)
      | .window w =>
        if s.dev.on F.HST_STATUS.LINK_UP then s.map (fun d => d.reply (getBytes acc (d.hostAddr w a) s.store.host) .ok)
        else s.map (fun d => d.reply 0 (linkAnswer acc))
      | .timer off => s.map (fun d => d.reply (lane (d.timerRead (off / 4 * 4))) .ok)
      | .plic sec off =>
        let (v, d) := s.dev.plicRead sec (off / 4 * 4)
        { s with dev := d.reply (lane v) .ok }
      | .rom => s.map (fun d => d.reply 0 .ok)
      | .unmapped => s.map (fun d => d.reply 0 .ok)

/-- An instruction fetch by a secure master from NONSECURE memory or a host window is refused and logged as FETCH (R141); any other
fetch reads. -/
def State.busFetch (acc : Access) (a : Nat) (s : State) : State :=
  let s := s.map (fun d => d.stalled a)
  let bad : Bool := s.dev.masterSecure acc && (match s.dev.place a with
    | .sram k => s.dev.regionTag k = 1
    | .window _ => true
    | _ => false)
  if bad then s.map (fun d => (d.logViolation acc a false 4).reply 0 .fetchFault) else s.busRead acc a

end Sys2Proof.Machine
end

