-- ==== Sys2Proof/Machine/Watch.lean ====
section
/-! DEFINITION. Machine/Watch.lean: what watches the evaluator itself: clock monitors and the die-to-die link (chapter 03), the supplies
of the banks and the field (chapter 04), memory errors and lockstep (R143 to R146), failed PCIe requests (R186, R187). -/

namespace Sys2Proof.Machine

/-! ### Clock monitors -/

/-- The nominal frequency of a port's clock by LINE_MODE, lane rate / 40 (Tables ISL-1 and NET line modes). -/
def lineHz : Nat → Nat
  | 0 => 257812500 | 1 => 644531250 | 2 => 1328125000 | 3 => 703125000 | 4 => 1406250000 | _ => 257812500

/-- The nominal frequencies of clock `i` of Table ISL-3 and of the clock that watches it. -/
def Dev.clockHz (d : Dev) (i : Nat) : Nat × Nat := match i with
  | 0 => (32768, 80000000) | 1 => (80000000, 100000000) | 2 => (100000000, 80000000) | 3 => (200000000, 100000000)
  | 4 => (400000000, 200000000) | 5 => (1200000000, 400000000) | 6 => (500000000, 1200000000) | 7 => (1000000000, 1200000000)
  | 8 => (1000000000, 1200000000) | n => (lineHz (d.netMode (n - 9)), 1200000000)

/-- How far a gate's count puts the monitored clock off nominal: 0 within 5 %, 1 between, 2 by more than 6 % (R63). The count is of
the faster clock over 256 cycles of the slower one. -/
def Dev.clockOff (d : Dev) (i count : Nat) : Nat :=
  let (f, w) := d.clockHz i
  let (got, want) := if w < f then (count * w, 256 * f) else (256 * w, count * f)
  let off := if got < want then want - got else got - want
  if off * 20 ≤ want then 0 else if off * 50 ≤ want * 3 then 1 else 2

/-- A gate of the clock's monitor reports it out of window; 5 % to 6 % off, R63 leaves that open. -/
def Dev.clockReports (d : Dev) (i count : Nat) (stopped : Bool) : Bool × Dev :=
  if stopped then (true, d)
  else match d.clockOff i count with
    | 0 => (false, d)
    | 1 => (Config.freeReport d.freeCtr, { d with freeCtr := d.freeCtr + 1 })
    | _ => (true, d)

/-- The clock is vital (Table ISL-3). -/
def Dev.clockVital (d : Dev) (i : Nat) : Bool := i < 6 || (9 ≤ i && d.netRole (i - 9) = 0)

/-- The clock is deliberately gated, and its monitor suspended (R82, Table PWR-2). -/
def Dev.clockGated (d : Dev) (i : Nat) : Bool :=
  let st := d.fld F.PWR_STATE.STATE
  (st = 1 && (i = 6 || i = 7)) || (st = 2 && (i = 7 || i = 8 || (9 ≤ i && d.netRole (i - 9) ≠ 0)))

/-- The island of ISL_ISLAND_HELD that a non-vital clock serves. -/
def clockIsland (i : Nat) : Nat := if i = 8 then 0 else i - 7

/-- A non-vital clock is reported (R64, R69): I of its island, which is held in reset from the fourth time within 60 s. A reset exactly
60 s after the first is no longer within 60 s of it (assumption log 154). -/
def State.clockIslandReset (i : Nat) (s : State) : State :=
  let k := clockIsland i
  let now := s.dev.now
  let times := (tabGet [] s.dev.clocks.resets k).filter (fun t => now.since t < 60000000) ++ [now]
  let s := if tabGet 0 s.dev.clocks.islandAt k = now.toNat + 1 then s else s.island k
  s.map (fun d =>
    let d := { d with clocks := { d.clocks with resets := tabPut [] d.clocks.resets k times } }
    let d := d.ungate [i]
    if 4 ≤ times.length then (d.setBitOf F.ISL_ISLAND_HELD.HELD k true).note .islandHeld (.clock i) else d)

/-- Of vital clocks reported in the same tick FLT_FIRST_CAUSE names the first in the order of Table ISL-3 (R66). -/
def Dev.clockFirst (d : Dev) (i : Nat) : Dev :=
  let src := d.fld F.FLT_FIRST_CAUSE.SOURCE
  if d.fld F.FLT_FIRST_CAUSE.CODE = evCode .clkWindowVital && (Src.clock i).enc < src
      && d.fld F.FLT_FIRST_TIME_LO.TIME_LO + d.fld F.FLT_FIRST_TIME_HI.TIME_HI * 2 ^ 32 = d.now.toNat then
    d.setFld F.FLT_FIRST_CAUSE.SOURCE (Src.clock i).enc
  else d

/-- The reaction to a clock reported out of window (R68, R69, R70). -/
def State.clockReact (i : Nat) (s : State) : State :=
  let meas := leBytes 4 (s.dev.fld (F.ISL_CLK_MEAS.COUNT i))
  if s.dev.clockVital i then
    s.map (fun d => if d.has .clkWindowVital (.clock i) then d else (d.fault .clkWindowVital (.clock i) 0 0 meas).clockFirst i)
  else if i < 8 then
    s.map (fun d =>
      let d := d.fault .clkWindowCore (.clock i) 0 0 meas
      { d with clocks := { d.clocks with coresHeld := true }, worlds := { d.worlds with apRunning := 0 } })
  else (s.map (fun d => d.note .clkWindowIsland (.clock i) 0 meas)).clockIslandReset i

/-- A gate of clock `i`'s monitor ends (R63, R73): the first full one after both clocks started is only measured. -/
def State.clockGate (i count : Nat) (stopped : Bool) (s : State) : State :=
  if s.dev.clockGated i || (9 ≤ i && !s.dev.part.hasPort (i - 9)) || (8 ≤ i && !s.dev.clockVital i && s.dev.islandHeld (clockIsland i)) then s
  else
    let s := s.map (fun d => d.setFld (F.ISL_CLK_MEAS.COUNT i) (min count (2 ^ 24 - 1)))
    if !s.dev.clocks.judging.testBit i then
      s.map (fun d => { d with clocks := { d.clocks with judging := setMask d.clocks.judging i (!stopped) } })
    else
      let (bad, d) := s.dev.clockReports i count stopped
      let d := d.setBitOf F.ISL_CLK_OK.IN_WINDOW i (!bad)
      if bad then { s with dev := (d.setBitOf F.ISL_CLK_FLAG.OUT_SEEN i true).pend 69 }.clockReact i
      else { s with dev := (d.clear .clkWindowVital (.clock i)).clear .clkWindowCore (.clock i) }

/-- The die-to-die link (R71): no valid word for 2 µs, or `bad` words in a row that fail their CRC. Valid words again end the cause. -/
def Dev.d2d (d : Dev) (silent : Bool) (bad : Nat) : Dev :=
  let d := d.inc F.ISL_D2D_STAT.CRC_ERR bad
  if silent then d.fault .d2dLinkLost (.clock 0) 0 0 (leBytes 1 1)
  else if 3 ≤ bad then d.fault .d2dLinkLost (.clock 0) 0 0 (leBytes 1 2)
  else d.clear .d2dLinkLost (.clock 0)

/-! ### Supplies -/

/-- VFIELD has been out of range for 100 µs (R78). -/
def Dev.vfield (d : Dev) (high : Bool) : Dev := (d.railOut 7).fault .vfieldRange (.pwr 0) 0 0 (leBytes 1 high.toNat)

/-- VSENS_b has been below 7.5 V for 100 µs (R79). -/
def Dev.vsensLow (d : Dev) (b : Nat) : Dev := if d.part.hasBank b then (d.railOut (9 + b)).fault .vsensLow (.pwr b) else d

/-- VSENS_b is back: the cause can go. -/
def Dev.vsensBack (d : Dev) (b : Nat) : Dev := (d.setBitOf F.PWR_RAIL_STAT.VSENS_OK b true).clear .vsensLow (.pwr b)

/-! ### Memory errors (R143 to R147) -/

/-- A flag of WLD_ECC_FLAG is set. -/
def Dev.eccFlag (d : Dev) (f : Fld) : Dev := (d.setFld f 1).pend 66

/-- `n` errors have been corrected: ECC_CORRECTED is raised at most once per 1 ms (R145). -/
def Dev.eccFixed (d : Dev) (n : Nat) : Dev :=
  if n = 0 then d
  else
    let d := (d.eccFlag F.WLD_ECC_FLAG.CORRECTED).inc F.WLD_ECC_CNT.CORRECTED n
    let since := d.worlds.eccSince + n
    let due : Bool := match d.worlds.eccAt with | some t => 1000 ≤ d.now.since t | none => true
    if due then { d.note .eccCorrected .wld 0 (leBytes 4 since) with worlds := { d.worlds with eccAt := some d.now, eccSince := 0 } }
    else { d with worlds := { d.worlds with eccSince := since } }

/-- An uncorrectable error at an address (R145): in regions 126 and 127 the image copy is corrupt (R129). -/
def Dev.eccBad (d : Dev) (a : Nat) : Dev :=
  let d := (d.eccFlag F.WLD_ECC_FLAG.UNCORRECTABLE).inc F.WLD_ECC_CNT.UNCORRECTABLE
  let d := d.setFld F.WLD_ECC_ADDR.ADDR a
  if copyBase ≤ a ∧ a < copyBase + 0x20000 then d.copyCorrupt 2 else d.note .eccUncorrectable .wld 0 (leBytes 4 a)

/-- A scrubber pass (R144). -/
def Dev.scrub (d : Dev) (fixed : Nat) (bad : List Nat) : Dev := forL bad (fun a d => d.eccBad a) (d.eccFixed fixed)

/-- A buffer or payload that a ring's entry names has failed after its descriptor was read (R187): it completes with MEM_ERROR. -/
def State.bufMemError (n : Nat) (s : State) : State :=
  let type := s.dev.fld (F.HST_RING_CFG.TYPE n)
  if !s.dev.ringRuns n || s.dev.ringAvail n = 0 then s
  else if type = 2 ∨ type = 5 ∨ type = 6 then
    s.bufDone n 6 0 true (match (s.dev.ring n).buf with | some b => b.first | none => s.dev.now)
  else
    let (l, s) := s.ringRead n (s.dev.ringDesc n) 32
    if type = 0 then
      s.complete ⟨Fin.ofNat 64 n, BitVec.ofNat 16 (ofLe ((l.drop 2).take 2)), BitVec.ofNat 32 (ofLe ((l.drop 4).take 4)), BitVec.ofNat 128 (ofLe ((l.drop 8).take 16))⟩ 6 0
    else
      let s := if type = 4 then s.map (fun d => d.inc (F.HST_RING_CNT.DROP n)) else s
      s.frameDone n (((l.drop 6).headD 0).getLsbD 0) 0 0 6 0 0 none

/-- A ring's access has failed (R187): a buffer completes with MEM_ERROR, any other area puts the ring into ERROR. -/
def State.ringMemError (n : Nat) (buffer : Bool) (s : State) : State :=
  if !s.dev.ringRuns n then s
  else if buffer && s.dev.fld (F.HST_RING_CFG.TYPE n) ≠ 1 then s.bufMemError n
  else s.ringFail n 2

/-- The answer to a master whose read met an uncorrectable error (Table WLD-8). -/
def eccAnswer (acc : Access) (fetch : Bool) : Answer :=
  if acc.master.val < 6 then (if fetch then .fetchFault else .loadFault) else if acc.master.val = 6 then .completerAbort else .ringError

/-- A read of memory meets an error (R143, R145, R147): corrected, it reads; else it is recorded and answered. -/
def State.memError (acc : Access) (a : Nat) (fetch corrected buffer : Bool) (s : State) : State :=
  if corrected then
    let s := s.map (fun d => d.eccFixed 1)
    if acc.master.val = 7 then s else if fetch then s.busFetch acc a else s.busRead acc a
  else
    let s := s.map (fun d => (d.eccBad a).reply 0 (eccAnswer acc fetch))
    if acc.master.val = 7 then s.ringMemError acc.ring.val buffer else s

/-- A lockstep mismatch of pair `p` (R146). -/
def Dev.lockstep (d : Dev) (p : Nat) : Dev :=
  if d.bitOf F.WLD_LOCKSTEP.HELD p then d
  else ((d.setBitOf F.WLD_LOCKSTEP.HELD p true).inc F.WLD_LOCKSTEP.MISMATCHES).note .svLockstep (.sv p)

/-- A non-posted request through a host window has waited `us` microseconds, or has returned an error status (R186, R187). -/
def State.cplFail (acc : Access) (a us : Nat) (error buffer : Bool) (s : State) : State :=
  match s.dev.place a with
  | .window _ =>
    if !s.dev.on F.HST_STATUS.LINK_UP || !(error || s.dev.fld F.HST_PCIE_CFG.CPL_TO_MS * 1000 < us) then s
    else
      let s := s.map (fun d => (d.setFld F.HST_LINK_FLAG.CPL_ERR 1).inc F.HST_LINK_CNT.CPL_ERRORS)
      if acc.master.val = 7 then s.ringMemError acc.ring.val buffer
      else if acc.master.val < 6 then s.map (fun d => d.reply 0 .loadFault) else s
  | _ => s

end Sys2Proof.Machine
end

