-- ==== Sys2Proof/Machine/Cmds.lean ====
section
/-! DEFINITION. Machine/Cmds.lean: the commands of CMD rings (Tables HST-10 and HST-11), the doorbells' discovery and the ring engine's own
events (chapter 07), group releases and Endgame acknowledgements (chapter 02). -/

namespace Sys2Proof

/-- The format-R origin of a ring command (Table EVT-3). -/
def Cmd.origin (c : Cmd) : Nat := c.ring.val + 1

/-- The object of an Endgame cause is absent on the part (R2). -/
def Part.lacksEg (p : Part) (cause obj : Nat) : Bool := (cause = 1 && !p.hasHead obj) || (cause = 2 && !p.hasLamp obj)

end Sys2Proof

namespace Sys2Proof.Machine

/-! ### Executing a descriptor -/

/-- Complete a command by its outcome. -/
def State.finishCmd (c : Cmd) (x : Done) (s : State) : State := s.complete c x.code x.detail

/-- Execute the command at D of its ring (R164, R174): a ring that is not ready takes none, a ring whose descriptor meets no memory fails;
on the boot ring every descriptor after a BOOT_IMAGE is aborted (R178). The world check comes first (R176), then the parameters'. -/
def State.runCmd (c : Cmd) (world ok : Bool) (act : State → State × Done) (s : State) : State :=
  if !s.dev.cmdReady c.ring.val then s
  else match s.dev.ringBar (s.dev.ringDesc c.ring.val) with
    | some e => s.ringLost c.ring.val (s.dev.ringDesc c.ring.val) false e
    | none =>
      if s.dev.on F.HST_STATUS.BOOT_RING && c.ring.val = 0 && s.dev.boot.taken then s.finishCmd c ⟨7, 0⟩
      else if !world then s.finishCmd c .world
      else if !ok then s.finishCmd c .badParam
      else
        let (s, x) := act s
        s.finishCmd c x

/-- An engine's command as an action on the state. -/
def onDev (f : Dev → Dev × Done) (s : State) : State × Done :=
  let (d, x) := f s.dev
  ({ s with dev := d }, x)

/-- The outcome of an engine that answers a refusal detail. -/
def byDetail (x : Dev × Nat) : Dev × Done := (x.1, if x.2 = 0 then .ok else .refused x.2)

/-- A signed 16-bit code of a parameter. -/
def codeAt (c : Sys2Proof.Cmd) (k : Nat) : Int := sgn 16 (c.half k)

/-! ### Groups and Endgame -/

/-- An F3 cause of the group is present (R33). -/
def Dev.groupCause (d : Dev) (g : Nat) : Bool := d.causes.any (fun c => c.cls = 3 && c.groups.testBit g)

/-- GROUP_RELEASE (R33). -/
def Dev.groupRelease (d : Dev) (g origin ref : Nat) : Dev × Done :=
  if d.groupCause g then (d, .refused 1)
  else if d.underF3 g then
    ((d.setBitOf F.FLT_STATE.F3_GROUPS g false).raise .fltGroupReleased (.group g) (payR 2 0 origin ref), .ok)
  else (d, .ok)

/-- Another fault than the Endgame's cause is present on its object (Table FLT-19, detail 3). -/
def Dev.otherFault (d : Dev) (cause obj : Nat) : Bool :=
  if cause = 1 then d.headBad obj
  else d.causes.any (fun c => c.src = egObject cause obj && 1 ≤ c.cls && egCauseOf c.ev ≠ cause && c.ev ≠ Ev.endgameExpired)

/-- The refusal detail of Table FLT-19, or 0. -/
def Dev.ackRefusal (d : Dev) (cause obj : Nat) : Nat :=
  let stays : Bool := match d.egFind cause obj with
    | some k => !d.on (F.FLT_EG_SLOT_A.CAUSE_GONE k)
    | none => d.causes.any (fun c => c.src = egObject cause obj && egCauseOf c.ev = cause)
  if (d.egFind cause obj).isNone && !d.egLocked cause obj then 1
  else if stays then 2
  else if d.otherFault cause obj then 3
  else if cause = 1 && ((d.head obj).a.st ≠ 0 || (d.head obj).b.st ≠ 0) then 4
  else 0

/-- An accepted ENDGAME_ACK (R39, R540): the Endgame ends, or only the lock is cleared. -/
def Dev.ackAccept (d : Dev) (cause obj : Nat) : Dev :=
  let d' := (d.egSetLock cause obj false).clear .endgameExpired (egObject cause obj)
  match d.egFind cause obj with
  | some k =>
    let d' := (d'.egRelease k).note .endgameEnded (.slot k)
    if cause = 1 then d'.headSingleEnd obj else d'
  | none => if cause = 3 then d' else d.egSetLock cause obj false

/-- ENDGAME_ACK; an expiry of the same stamp applies first (R45). -/
def Dev.endgameAck (d : Dev) (cause obj : Nat) : Dev × Done :=
  let limit := if cause = 1 then 32 else if cause = 2 then 48 else 1
  if cause = 0 ∨ 3 < cause ∨ limit ≤ obj then (d, .badParam)
  else if d.part.lacksEg cause obj then (d, .absent)
  else
    let d := d.egExpireDue
    let det := d.ackRefusal cause obj
    if det = 0 then (d.ackAccept cause obj, .ok) else (d, .refused det)

/-! ### Thresholds, streams, buffers, messages -/

/-- SEN_THRESHOLD (R229). -/
def Dev.senThreshold (d : Dev) (ch : Nat) (damp rel lo hi : Int) : Dev × Done :=
  if 64 ≤ ch then (d, .badParam)
  else if !d.part.hasChan ch then (d, .absent)
  else
    let det := d.thresholdRefusal ch damp rel lo hi
    match d.sysOfChan ch with
    | some (h, x) => if det = 0 then (d.setThresholds h x damp rel lo hi, .ok) else (d, .refused det)
    | none => (d, .refused det)

/-- WM_THRESHOLD (R291). -/
def Dev.wmThreshold (d : Dev) (m upper lower : Nat) : Dev × Done :=
  if 128 ≤ m ∨ 1023 < upper ∨ upper < lower then (d, .badParam)
  else if !d.part.hasWm m then (d, .absent)
  else ((d.winLoad m upper lower).winJudge m, .ok)

/-- The source of STREAM_CTRL belongs to the non-secure world: a sensor, an auxiliary channel, a capture unit. -/
def Dev.streamNs (d : Dev) (kind n : Nat) : Bool := if kind = 0 then d.bankNs (n / 8) else if kind = 1 then d.auxNs n else d.monNs n

/-- The STRM rings a source streams to. -/
def Dev.streamsOf (d : Dev) (kind n : Nat) : List Nat :=
  if kind = 0 then (d.chan n).streams else if kind = 1 then (d.auxOf n).streams else (d.mon n).streams

/-- Set the STRM rings of a source. -/
def Dev.setStreams (d : Dev) (kind n : Nat) (l : List Nat) : Dev :=
  if kind = 0 then d.modChan n (fun k => { k with streams := l })
  else if kind = 1 then d.modAux n (fun k => { k with streams := l })
  else d.modMon n (fun k => { k with streams := l })

/-- STREAM_CTRL (R170, R196): a source streams to every ring it has been started for; where it stops, the ring's buffer completes. A start
on a ring it streams to, and a stop on one it does not, change nothing. -/
def State.streamCtrl (kind n start ring : Nat) (s : State) : State × Done :=
  let limit := if kind = 0 then 64 else if kind = 1 then 16 else 128
  let absent := if kind = 0 then !s.dev.part.hasChan n else if kind = 1 then !s.dev.part.hasAux n else !s.dev.part.hasWm n
  if 2 < kind ∨ limit ≤ n ∨ 1 < start ∨ 64 ≤ ring then (s, .badParam)
  else if s.dev.fld (F.HST_RING_CFG.TYPE ring) ≠ 2 ∨ s.dev.ringSecure ring = s.dev.streamNs kind n then (s, .badParam)
  else if absent then (s, .absent)
  else
    let l := s.dev.streamsOf kind n
    if start = 1 then (if ring ∈ l then s else s.map (fun d => d.setStreams kind n (l ++ [ring])), .ok)
    else if ring ∈ l then ((s.map (fun d => d.setStreams kind n (l.filter (fun r => r ≠ ring)))).bufFlush ring, .ok)
    else (s, .ok)

/-- APP_SEND (R466): the payload is read by DMA. -/
def State.appCmd (ring port addr len : Nat) (s : State) : State × Done :=
  if 4 ≤ port ∨ 1024 < len then (s, .badParam)
  else if !s.dev.part.hasPort port then (s, .absent)
  else if !s.dev.kvtOpen port then (s, .refused Config.freeDetail.toNat)
  else match s.dev.ringBar addr with
    | some _ => (s.ringMiss ring addr false, ⟨6, 0⟩)
    | none =>
      let (l, s) := s.ringRead ring addr len
      (s.map (fun d => d.appSend port l), .ok)

/-! ### Doorbells (R166 to R173) -/

/-- The host makes writes of its own memory visible (R172). -/
def State.hostBatch (batch : List (Nat × Byte)) (s : State) : State :=
  { s with store := { s.store with host := batch.foldl (fun m x => tabPut 0 m x.1 x.2) s.store.host } }

/-- A poll of the ring is due: its group's interval, in units of 0.5 µs, has passed since its last one (Table HST-5). -/
def Dev.pollDue (d : Dev) (n : Nat) : Bool := match (d.ring n).pollAt with
  | some t => d.fld (F.HST_POLL.INTERVAL (n / 8)) ≤ 2 * d.now.since t
  | none => true

/-- The position that a doorbell value names. -/
def Dev.doorbellPos (d : Dev) (n : Nat) (v : Word) : Nat := v.toNat / 65536 % 256 * d.ringSize n + v.toNat % 65536

/-- Of two doorbell values seen in one cycle, that furthest ahead of D (R182). -/
def Dev.furthest (d : Dev) (n : Nat) (v w : Word) : Word :=
  if ringDist (d.ringSize n) (d.ringPos n) (d.doorbellPos n v) < ringDist (d.ringSize n) (d.ringPos n) (d.doorbellPos n w) then w else v

/-- DUSK polls a ring's doorbell word in host memory when its interval has passed (R168); a value that the mirror page takes in the same cycle
is judged with it, once (R182). -/
def State.poll (n : Nat) (mirror : Option Word) (s : State) : State :=
  let disc := s.dev.fld (F.HST_RING_CFG.DISC n)
  if !s.dev.ringRuns n || !(disc = 1 || disc = 3) || !s.dev.pollDue n then s
  else
    let a := s.dev.fld (F.HST_RING_DB.DB_ADDR n) * 4
    match s.dev.ringBar a with
    | some e => s.ringLost n a false e
    | none =>
      let (l, s) := s.ringRead n a 4
      let v : Word := BitVec.ofNat 32 (ofLe l)
      s.map (fun d =>
        let d := d.modRing n (fun r => { r with pollAt := some d.now })
        d.doorbell n (match mirror with | some w => if disc = 3 then d.furthest n v w else v | none => v))

/-! ### Write-backs, interrupts, overflow -/

/-- A write-back that is due is written (R167). -/
def State.writeBackDue (n : Nat) (s : State) : State :=
  if !(s.dev.ringRuns n && (s.dev.ring n).wbDue) then s
  else match s.dev.ringBar (s.dev.fld (F.HST_RING_WB.WB_ADDR n) * 16) with
    | some e => s.ringLost n (s.dev.fld (F.HST_RING_WB.WB_ADDR n) * 16) true e
    | none => s.writeBack n

/-- The interrupt of a ring is signalled, after the write-back that covers its consumptions (R173, R175). -/
def State.ringInterrupt (n : Nat) (s : State) : State :=
  if s.dev.irqCondition n then (s.writeBackDue n).map (fun d => d.ringSignal n) else s

/-- A slot has become free on a ring that dropped records (R183). -/
def State.overflowDue (n : Nat) (s : State) : State :=
  if s.dev.ringRuns n && s.dev.fld (F.HST_RING_CFG.TYPE n) = 1 then
    (match s.dev.ringBar (s.dev.ringDesc n) with
      | some e => if 0 < (s.dev.ring n).lost ∧ 0 < s.dev.ringAvail n then s.ringLost n (s.dev.ringDesc n) true e else s
      | none => s.flushOverflow n)
  else s

end Sys2Proof.Machine
end

