-- ==== Sys2Proof/Machine/Run.lean ====
section
/-! DEFINITION. Machine/Run.lean: what surrounds every command: time passes up to the command's stamp, the command has its effect, and what
follows of itself from the new state is settled and delivered. -/

namespace Sys2Proof.Machine

/-! ### Time -/

/-- `us` microseconds of RTC (R91): XTAL_GLOW at its nominal 32,768 Hz. -/
def Dev.rtcPass (d : Dev) (us : Nat) : Dev :=
  let n := d.power.rtcRem + us * 32768
  { d.rtcTick (n / 1000000) with power := { d.power with rtcRem := n % 1000000 } }

/-- The watchdog counts in RUN and HOLD and pauses in DOZE (R93); the boot ROM kicks it while it waits for the host (R109). -/
def Dev.wdtPass (d : Dev) (us : Nat) : Dev :=
  if d.boot.running && d.boot.sources.head? = some 2 then { d with power := { d.power with wdtUs := 0 } }
  else if d.fld F.PWR_STATE.STATE = 1 then d
  else { d with power := { d.power with wdtUs := d.power.wdtUs + us } }

/-! ### What follows every command -/

/-- The consumers of KVT sessions that were lost act, after every delivery of the stamp (R240, R336, R470). -/
def Dev.lossesAct (d : Dev) : Dev :=
  forL d.kvtLost (fun p d =>
    let d := d.remoteLost p
    if d.netRole p = 2 then d.aspectsLost else d) { d with kvtLost := [] }

/-- Heads and sections follow the causes and states that bear on them: heads, then sections (R12). -/
def Dev.countsFollow (d : Dev) : Dev := if d.evaluating then d.headEvalAll.secEvalAll else d

/-- Generators, lamps and signals follow. -/
def Dev.drivesFollow (d : Dev) : Dev := if d.boot.started then d.pgEvalAll.lampEvalAll else d

/-- Safety functions follow; what they demand bears on sections, signals and generators in turn. -/
def Dev.functionsFollow (d : Dev) : Dev :=
  if d.evaluating then
    let n := d.fbEvalAll
    if n.regs.saf = d.regs.saf then n else n.countsFollow.drivesFollow
  else d

/-- Everything that follows of itself from the state a command leaves. -/
def Dev.settle (d : Dev) : Dev :=
  let d := d.egRefresh.bankEvalAll.countsFollow.drivesFollow.functionsFollow
  (d.soEvalAll.safePublish.rearmsView).twinSettle

/-! ### Arriving at a command's stamp -/

/-- Heads that wait for further records of the present stamp wait no longer (R12, R246, R247). -/
def Dev.headsClose (d : Dev) : Dev := if d.evaluating && !d.headsWait.isEmpty then d.headsLate.settle else d

/-- What waited for the end of the present stamp takes its place before time goes on: heads, KVT timers (R469), the loss of KVT sessions
(R470), a TIME_MAP record (R65). -/
def Dev.closeStamp (d : Dev) : Dev :=
  let d := d.headsClose
  let d := if d.kvtExpires then d.kvtTickEnd.settle else d
  let d := if d.kvtLost.isEmpty then d else d.lossesAct.settle
  d.mapClose

/-- Sample time goes on to a later stamp `t` (R56, R57), with the clocks that run beside it. -/
def Dev.advance (d : Dev) (t : Stamp) : Dev :=
  let us := t.since d.now
  let d := (d.rtcPass us).wdtPass us
  let d := (forN 4 (fun n d => d.ptpAdvance us n) d).twinTicks us
  (forN 6 (fun c d => d.timerEval c) { d with now := t, fine := 0 }).movesDue

/-- What has changed since the last tick of 10 µs reaches the safety inputs and functions at the next one, if that lies before `t` (R364,
R383). -/
def Dev.tickPass (d : Dev) (t : Stamp) : Dev :=
  let k := ceilStamp 10 d.now
  if d.now.toNat % 10 ≠ 0 && t.later k && d.evaluating && ((List.range 16).any d.fbOn || (List.range 32).any d.siOn) then
    (d.advance k).siSamples.settle
  else d

/-- Sample time goes on to a later stamp `t`. An earlier stamp changes nothing. -/
def Dev.passTo (d : Dev) (t : Stamp) : Dev := if t.later d.now then (d.closeStamp.tickPass t).advance t else d

/-- The moment of a command: its stamp and the nanoseconds into that tick; what monitors and sync edges have made due before it happens at
its own moment. Nothing of an earlier command is put out any more. -/
def Dev.arrive (d : Dev) (t : Stamp) (ns : Nat) : Dev :=
  let d := { d with out := {}, decAt := none }.passTo t
  let d := { d with fine := max d.fine (min ns 999) }.winDueAll
  if d.gens.any (fun e => e.2.sync.isSome) then d.pgSyncAll else d

/-- Deliver the records raised, and those that the delivery itself raises. -/
def State.deliverAll : Nat → State → State
  | 0, s => s
  | n + 1, s => if s.dev.evq.isEmpty then s else s.deliver.deliverAll n

/-- The end of a command: the state settles, and records, stream data, received words and messages reach their rings. -/
def State.finish (s : State) : State :=
  let s := (s.map Dev.settle).streams.serRefuseAll.serDrainAll
  ((s.map Dev.serBusy).apps.glow).deliverAll 8

/-- A command of the running evaluator, at stamp `t` and `ns` nanoseconds into its tick. Without power, or in reset, it has no effect. -/
def State.run (t : Stamp) (ns : Nat) (f : State → State) (s : State) : State :=
  if s.dev.power.mode = .on then (f (s.map (fun d => d.arrive t ns))).finish
  else s.map (fun d => { d with out := {} })

/-- No command waits: sample time goes on by one tick (R56). -/
def idle (s : State) : State := s.run (s.dev.now + 1) 0 (fun s => s)

/-- A command of the supplies and of GLOW, which acts whether or not the evaluator runs; `t` counts while it does. -/
def State.runPower (t : Stamp) (f : State → State) (s : State) : State :=
  let s := s.map (fun d => if d.power.mode = .on then d.arrive t 0 else { d with out := {} })
  let s := f s
  if s.dev.power.mode = .on then s.finish else s

/-- A command that acts on the device alone. -/
def State.runDev (t : Stamp) (ns : Nat) (f : Dev → Dev) (s : State) : State := s.run t ns (fun s => s.map f)

/-- What an engine does only while it evaluates (R21, R26). -/
def Dev.whileEvaluating (f : Dev → Dev) (d : Dev) : Dev := if d.evaluating then f d else d

/-- What happens only once the engines have started. -/
def Dev.onceStarted (f : Dev → Dev) (d : Dev) : Dev := if d.boot.started then f d else d

/-- What F5 stops (R26). -/
def Dev.unlessHalted (f : Dev → Dev) (d : Dev) : Dev := if d.fld F.FLT_STATE.DEV_STATE = 5 then d else f d

/-! ### Records of the front end -/

/-- Records of one stamp reach the twin's watch and the heads. -/
def Dev.recordsReach (d : Dev) (rs : List ChanRec) : Dev :=
  let d := forL rs (fun r d => d.twinWatch r) d
  if d.evaluating then d.headSamples rs else d

/-- The aperture that ends now: what each channel has measured (R196, R539). The records are compared with the twin's (R483). -/
def Dev.sampleRecords (d : Dev) (l : List (Nat × Int × Bool)) : Dev :=
  if d.now.toNat % 10 ≠ 0 then d
  else
    let (d, rs) := l.foldl (fun x e =>
      let (d, r) := x.1.chanSample e.1 e.2.1 e.2.2
      (d, x.2 ++ r)) (d, [])
    d.digestOwn.recordsReach rs

/-- The gate that ends now: per channel crossings, the time of the last before its end, one on its end, mean voltage and current limit
(R197). -/
def Dev.frequencyWords (d : Dev) (l : List (Nat × Nat × Nat × Bool × Int × Bool)) : Dev :=
  if d.now.toNat % 50 ≠ 0 then d
  else
    let (d, rs) := l.foldl (fun x e =>
      let (d, r) := x.1.chanWord e.1 e.2.1 e.2.2.1 e.2.2.2.1 e.2.2.2.2.1 e.2.2.2.2.2
      (d, x.2 ++ r)) (d, [])
    d.recordsReach rs

/-- GLOW cycles pass while the evaluator does not run (R91). -/
def State.glowPass (cycles : Nat) (s : State) : State :=
  if s.dev.power.mode = .standby ∨ s.dev.power.mode = .held then s.map (fun d => d.rtcTick cycles) else s

/-- A KVT frame that the port has accepted arrives (R430): its length must be one its type allows (Table KVT-2). -/
def Dev.kvtArrives (d : Dev) (p : Nat) (f : KvtFrame) (crcOk tagOk : Bool) : Dev :=
  if !d.netRuns p || !d.netUp p || !(d.netRole p = 1 || d.netRole p = 2) || !d.on (F.KVT_PCFG.ENABLE p) || d.fld F.FLT_STATE.DEV_STATE = 5 then d
  else if kvtLenOk f.type f.payload.length then d.kvtJudge p f crcOk tagOk
  else d.inc (F.KVT_ERR2.FORM_ERR p)

end Sys2Proof.Machine
end

