-- ==== Sys2Proof/Machine/BootRows.lean ====
section
/-! DEFINITION. Machine/BootRows.lean: the meanings of the commands of one family: boot, the configuration seal, the start of the engines, clocks and sample time (chapters 03 and 05). -/

namespace Sys2Proof.Machine

/-- BOOT_SOURCE_TRY. The boot ROM reads and checks the image of the source in turn (R107, R108, R115): `octal` is what its slot delivers in
8D-8D-8D, if the SFDP table describes that read, `image` what it delivers in 1S-1S-1S. -/
def execBootSourceTry (t : Stamp) (octal : Option (List Byte)) (image : List Byte) (s : State) : Host.Outcome State Fault Refusal :=
  .next (s.run t 0 (fun s => s.bootTry octal image))

/-- PCIE_TIMEOUT. No PCIe image 10 s after the release (R109). -/
def execPcieTimeout (t : Stamp) (s : State) : Host.Outcome State Fault Refusal :=
  .next (s.run t 0 (fun s => s.pcieTimeout))

/-- SEAL_SCAN. UART_7 scans the seal block, which delivers `w` (R120). -/
def execSealScan (t : Stamp) (w : BitVec 64) (s : State) : Host.Outcome State Fault Refusal :=
  .next (s.run t 0 (fun s => s.sealScan w))

/-- SEAL_SCAN_RETRY. The scan 10 ms after an invalid read (R120). -/
def execSealScanRetry (t : Stamp) (w : BitVec 64) (s : State) : Host.Outcome State Fault Refusal :=
  .next (s.run t 0 (fun s => s.sealRetry w))

/-- ENGINE_START. The engines start (R21, R504). -/
def execEngineStart (t : Stamp) (s : State) : Host.Outcome State Fault Refusal :=
  .next (s.run t 0 (fun s => s.enginesStart))

/-- LOCK_WAIT_EXPIRY. LOCK_WAIT_MS has passed without pairing (R505). -/
def execLockWaitExpiry (t : Stamp) (s : State) : Host.Outcome State Fault Refusal :=
  .next (s.run t 0 (fun s => (s.map Dev.lockWait).enginesStart))

/-- MAPPING_PAIR_CAPTURE. A mapping pair is captured (R61, R62, R65). -/
def execMappingPairCapture (t : Stamp) (s : State) : Host.Outcome State Fault Refusal :=
  .next (s.runDev t 0 Dev.mapCapture)

/-- SAMPLE_TIME_WRAP. Sample time wraps from 2^48 - 1 to 0 (R56, R539). -/
def execSampleTimeWrap (s : State) : Host.Outcome State Fault Refusal :=
  .next (if s.dev.now = 0xFFFFFFFFFFFF#48 then s.run 0 0 (fun s => s) else s.run s.dev.now 0 (fun s => s))

/-- CLOCK_MONITOR_GATE. A gate of clock i's monitor ends with a count of the faster clock (R63, R73); `stopped` when one of the clocks has stopped. -/
def execClockMonitorGate (t : Stamp) (i : Fin 13) (count : BitVec 24) (stopped : Bool) (s : State) : Host.Outcome State Fault Refusal :=
  .next (s.run t 0 (fun s => s.clockGate i.val count.toNat stopped))

/-- D2D_LINK_LOST. The die-to-die link has been silent for 2 µs, or `bad` words in a row have failed their CRC (R71). -/
def execD2dLinkLost (t : Stamp) (silent : Bool) (bad : BitVec 16) (s : State) : Host.Outcome State Fault Refusal :=
  .next (s.runDev t 0 (fun d => d.d2d silent bad.toNat))

end Sys2Proof.Machine
end

