-- ==== Sys2Proof/Machine/Drive.lean ====
section
/-! DEFINITION. Machine/Drive.lean: the meanings of the commands of one family: window monitors, pulse generators and lamps (chapters 11 to 13). -/

namespace Sys2Proof.Machine

/-- COMPARATOR_CHANGE. The input of a monitor takes a level, in mV and sixteenths of a mV, and its comparators follow (R282, R284). -/
def execComparatorChange (t : Stamp) (ns : Fin 1000) (m : Fin 128) (mv : BitVec 12) (frac : BitVec 4) (s : State) : Host.Outcome State Fault Refusal :=
  .next (s.runDev t ns.val (fun d => d.winInput m.val (16 * mv.toNat + frac.toNat)))

/-- SETTLING_END. The settling blank of a monitor ends (R291). -/
def execSettlingEnd (t : Stamp) (ns : Fin 1000) (m : Fin 128) (s : State) : Host.Outcome State Fault Refusal :=
  .next (s.runDev t ns.val (fun d => d.winSettled m.val))

/-- PERIOD_VERDICT. NIMBUS takes the oldest verdict of a monitor (R286, R287). -/
def execPeriodVerdict (t : Stamp) (m : Fin 128) (s : State) : Host.Outcome State Fault Refusal :=
  .next (s.runDev t 0 (Dev.onceStarted (fun d => d.verdict m.val)))

/-- WIN_SELFTEST. A due monitor is tested in a blank (R292, R293): per step the outputs of HI and LO. -/
def execWinSelftest (t : Stamp) (ns : Fin 1000) (m : Fin 128) (outs : List (Bool × Bool)) (s : State) : Host.Outcome State Fault Refusal :=
  .next (s.runDev t ns.val (fun d => d.winSelftest m.val outs))

/-- WIN_SELFTEST_MISSED. No blank came by P/2 (R294): a test is inserted, or missed. -/
def execWinSelftestMissed (t : Stamp) (ns : Fin 1000) (m : Fin 128) (outs : List (Bool × Bool)) (s : State) : Host.Outcome State Fault Refusal :=
  .next (s.runDev t ns.val (fun d => d.winMissed m.val outs))

/-- DAC_READBACK. The housekeeping converter reads the next threshold converter (R295). -/
def execDacReadback (t : Stamp) (code : BitVec 10) (s : State) : Host.Outcome State Fault Refusal :=
  .next (s.runDev t 0 (fun d => d.dacReadback code.toNat))

/-- PG_PERIOD_BOUNDARY. A generator reaches a period boundary at `cyc` SQUALL cycles (R309). One that an edge of the
sync monitor makes has been made with that edge (R310, assumption log 170): of it nothing is left to do. -/
def execPgPeriodBoundary (t : Stamp) (ns : Fin 1000) (k : Fin 64) (cyc : BitVec 64) (sync : Bool) (s : State) : Host.Outcome State Fault Refusal :=
  .next (s.runDev t ns.val (fun d => if sync then d else d.pgBoundary k.val (d.genCycles cyc.toNat)))

/-- SCHEDULED_EDGE. A generator reaches the next instant of its schedule (R308). -/
def execScheduledEdge (t : Stamp) (ns : Fin 1000) (k : Fin 64) (cyc : BitVec 64) (s : State) : Host.Outcome State Fault Refusal :=
  .next (s.runDev t ns.val (fun d => d.pgEdge k.val (d.genCycles cyc.toNat)))

/-- PROVING_PULSE. The proving slot of an unlit lamp (R343). -/
def execProvingPulse (t : Stamp) (k : Fin 48) (s : State) : Host.Outcome State Fault Refusal :=
  .next (s.runDev t 0 (Dev.onceStarted (fun d => d.provingPulse k.val)))

/-- FLASH_PHASE_CHANGE. The flash clock of a signal turns on or off (R338). -/
def execFlashPhaseChange (t : Stamp) (i : Fin 16) (s : State) : Host.Outcome State Fault Refusal :=
  .next (s.runDev t 0 (Dev.onceStarted (fun d => if d.sigOn i.val then d.sigEval i.val else d)))

end Sys2Proof.Machine
end

