-- ==== Sys2Proof/Machine/HostLink.lean ====
section
/-! DEFINITION. Machine/HostLink.lean: the meanings of the commands of one family: doorbells, write-backs, ring interrupts and the PCIe link (chapter 07). -/

namespace Sys2Proof.Machine

/-- DOORBELL_WRITE. A write of a ring's doorbell word, or of its word on the mirror page, after the host has made `batch` visible (R166, R168, R172). -/
def execDoorbellWrite (t : Stamp) (acc : Access) (batch : List (BitVec 64 × Byte)) (mirror : Bool) (n : Fin 64) (v : Word) (s : State) : Host.Outcome State Fault Refusal :=
  .next (s.run t 0 (fun s =>
    let s := s.hostBatch (batch.map (fun x => (x.1.toNat, x.2)))
    if mirror then s.map (fun d => d.mirrorWrite acc n.val v)
    else s.busWrite acc (s.dev.fld (F.HST_RING_DB.DB_ADDR n.val) * 4) v {}))

/-- DOORBELL_POLL. DUSK polls a ring's doorbell word (R168), after the host has made `seen.batch` visible; `seen.mirror` is a value that the mirror page takes in the same cycle (R182). -/
def execDoorbellPoll (t : Stamp) (seen : PollSeen) (n : Fin 64) (s : State) : Host.Outcome State Fault Refusal :=
  .next (s.run t 0 (fun s => (s.hostBatch (seen.batch.map (fun x => (x.1.toNat, x.2)))).poll n.val seen.mirror))

/-- WRITEBACK_WRITE. A write-back block that is due (R167). -/
def execWritebackWrite (t : Stamp) (n : Fin 64) (s : State) : Host.Outcome State Fault Refusal :=
  .next (s.run t 0 (fun s => s.writeBackDue n.val))

/-- RING_INTERRUPT. A ring's interrupt, once a condition of R175 is met. -/
def execRingInterrupt (t : Stamp) (n : Fin 64) (s : State) : Host.Outcome State Fault Refusal :=
  .next (s.run t 0 (fun s => s.ringInterrupt n.val))

/-- STRM_BUFFER_COMPLETE. A STRM buffer 1 ms after its first record (R170). -/
def execStrmBufferComplete (t : Stamp) (n : Fin 64) (s : State) : Host.Outcome State Fault Refusal :=
  .next (s.run t 0 (fun s => s.strmExpire n.val))

/-- HST_EVT_OVERFLOW. A slot is free on a ring that dropped records (R183). -/
def execHstEvtOverflow (t : Stamp) (n : Fin 64) (s : State) : Host.Outcome State Fault Refusal :=
  .next (s.run t 0 (fun s => s.overflowDue n.val))

/-- PCIE_LINK_DOWN. The PCIe link is lost (R185). -/
def execPcieLinkDown (t : Stamp) (s : State) : Host.Outcome State Fault Refusal :=
  .next (s.run t 0 (fun s => s.linkLost))

/-- PCIE_LINK_UP. The PCIe link comes up (R188); `msix` when the host enables MSI-X with it. -/
def execPcieLinkUp (t : Stamp) (gen : Fin 6) (width : Fin 3) (msix : Bool) (s : State) : Host.Outcome State Fault Refusal :=
  .next (s.runDev t 0 (fun d => d.linkTrained gen.val width.val msix))

/-- PCIE_COMPLETION_TIMEOUT. A non-posted request that has waited `us`, or has returned an error status (R186, R187). -/
def execPcieCompletionTimeout (t : Stamp) (acc : Access) (a : BitVec 32) (us : BitVec 32) (error : Bool) (buffer : Bool) (s : State) : Host.Outcome State Fault Refusal :=
  .next (s.run t 0 (fun s => s.cplFail acc a.toNat us.toNat error buffer))

/-- HOST_WINDOW_ACCESS. An access through a host window (R186). -/
def execHostWindowAccess (t : Stamp) (acc : Access) (a : BitVec 32) (write : Bool) (v : Word) (s : State) : Host.Outcome State Fault Refusal :=
  .next (s.run t 0 (fun s => if write then s.busWrite acc a.toNat v {} else s.busRead acc a.toNat))

end Sys2Proof.Machine
end

