-- ==== Sys2Proof/Machine/KvtRows.lean ====
section
/-! DEFINITION. Machine/KvtRows.lean: the meanings of the commands of one family: Krytgo Vital Transport (chapter 17). -/

namespace Sys2Proof.Machine

/-- KVT_HEARTBEAT_RX. A HEARTBEAT (R452): the frame as its form gives it, and whether its CRC and its tag are right. -/
def execKvtHeartbeatRx (t : Stamp) (p : Fin 4) (f : KvtFrame) (crcOk : Bool) (tagOk : Bool) (s : State) : Host.Outcome State Fault Refusal :=
  .next (s.runDev t 0 (fun d => d.kvtArrives p.val { f with type := 1, syn := false } crcOk tagOk))

/-- KVT_SYN_RX. A SYN (R453): the frame as its form gives it, and whether its CRC and its tag are right. -/
def execKvtSynRx (t : Stamp) (p : Fin 4) (f : KvtFrame) (crcOk : Bool) (tagOk : Bool) (s : State) : Host.Outcome State Fault Refusal :=
  .next (s.runDev t 0 (fun d => d.kvtArrives p.val { f with type := 1, syn := true } crcOk tagOk))

/-- KVT_HEAD_EVENT_RX. A head record (R240): the frame as its form gives it, and whether its CRC and its tag are right. -/
def execKvtHeadEventRx (t : Stamp) (p : Fin 4) (f : KvtFrame) (crcOk : Bool) (tagOk : Bool) (s : State) : Host.Outcome State Fault Refusal :=
  .next (s.runDev t 0 (fun d => d.kvtArrives p.val { f with type := 2 } crcOk tagOk))

/-- KVT_GAMBIT_RX. A GAMBIT (R240): the frame as its form gives it, and whether its CRC and its tag are right. -/
def execKvtGambitRx (t : Stamp) (p : Fin 4) (f : KvtFrame) (crcOk : Bool) (tagOk : Bool) (s : State) : Host.Outcome State Fault Refusal :=
  .next (s.runDev t 0 (fun d => d.kvtArrives p.val { f with type := 3 } crcOk tagOk))

/-- KVT_GAMBIT_CONFIRM_RX. A GAMBIT_CONFIRM (R240): the frame as its form gives it, and whether its CRC and its tag are right. -/
def execKvtGambitConfirmRx (t : Stamp) (p : Fin 4) (f : KvtFrame) (crcOk : Bool) (tagOk : Bool) (s : State) : Host.Outcome State Fault Refusal :=
  .next (s.runDev t 0 (fun d => d.kvtArrives p.val { f with type := 4 } crcOk tagOk))

/-- KVT_GAMBIT_CANCEL_RX. A GAMBIT_CANCEL (R240): the frame as its form gives it, and whether its CRC and its tag are right. -/
def execKvtGambitCancelRx (t : Stamp) (p : Fin 4) (f : KvtFrame) (crcOk : Bool) (tagOk : Bool) (s : State) : Host.Outcome State Fault Refusal :=
  .next (s.runDev t 0 (fun d => d.kvtArrives p.val { f with type := 5 } crcOk tagOk))

/-- KVT_SECTION_STATE_RX. A SECTION_STATE (R465): the frame as its form gives it, and whether its CRC and its tag are right. -/
def execKvtSectionStateRx (t : Stamp) (p : Fin 4) (f : KvtFrame) (crcOk : Bool) (tagOk : Bool) (s : State) : Host.Outcome State Fault Refusal :=
  .next (s.runDev t 0 (fun d => d.kvtArrives p.val { f with type := 6 } crcOk tagOk))

/-- KVT_ASPECT_REQUEST_RX. An ASPECT_REQUEST (R335): the frame as its form gives it, and whether its CRC and its tag are right. -/
def execKvtAspectRequestRx (t : Stamp) (p : Fin 4) (f : KvtFrame) (crcOk : Bool) (tagOk : Bool) (s : State) : Host.Outcome State Fault Refusal :=
  .next (s.runDev t 0 (fun d => d.kvtArrives p.val { f with type := 7 } crcOk tagOk))

/-- KVT_ASPECT_FALLBACK_RX. An ASPECT_FALLBACK (R351): the frame as its form gives it, and whether its CRC and its tag are right. -/
def execKvtAspectFallbackRx (t : Stamp) (p : Fin 4) (f : KvtFrame) (crcOk : Bool) (tagOk : Bool) (s : State) : Host.Outcome State Fault Refusal :=
  .next (s.runDev t 0 (fun d => d.kvtArrives p.val { f with type := 8 } crcOk tagOk))

/-- KVT_LAMP_STATUS_RX. A LAMP_STATUS (R465): the frame as its form gives it, and whether its CRC and its tag are right. -/
def execKvtLampStatusRx (t : Stamp) (p : Fin 4) (f : KvtFrame) (crcOk : Bool) (tagOk : Bool) (s : State) : Host.Outcome State Fault Refusal :=
  .next (s.runDev t 0 (fun d => d.kvtArrives p.val { f with type := 9 } crcOk tagOk))

/-- RESET_PERMIT. A RESET_PERMIT (R264): the frame as its form gives it, and whether its CRC and its tag are right. -/
def execResetPermit (t : Stamp) (p : Fin 4) (f : KvtFrame) (crcOk : Bool) (tagOk : Bool) (s : State) : Host.Outcome State Fault Refusal :=
  .next (s.runDev t 0 (fun d => d.kvtArrives p.val { f with type := 10 } crcOk tagOk))

/-- KVT_SAFETY_STATE_RX. A SAFETY_STATE (R465): the frame as its form gives it, and whether its CRC and its tag are right. -/
def execKvtSafetyStateRx (t : Stamp) (p : Fin 4) (f : KvtFrame) (crcOk : Bool) (tagOk : Bool) (s : State) : Host.Outcome State Fault Refusal :=
  .next (s.runDev t 0 (fun d => d.kvtArrives p.val { f with type := 11 } crcOk tagOk))

/-- KVT_APP_RX. An APP message (R466): the frame as its form gives it, and whether its CRC and its tag are right. -/
def execKvtAppRx (t : Stamp) (p : Fin 4) (f : KvtFrame) (crcOk : Bool) (tagOk : Bool) (s : State) : Host.Outcome State Fault Refusal :=
  .next (s.runDev t 0 (fun d => d.kvtArrives p.val { f with type := 12 } crcOk tagOk))

/-- KVT_ACK_RX. An ACK (R455): the frame as its form gives it, and whether its CRC and its tag are right. -/
def execKvtAckRx (t : Stamp) (p : Fin 4) (f : KvtFrame) (crcOk : Bool) (tagOk : Bool) (s : State) : Host.Outcome State Fault Refusal :=
  .next (s.runDev t 0 (fun d => d.kvtArrives p.val { f with type := 15 } crcOk tagOk))

/-- KVT_RETRANSMIT. RTO_MS has run out for unacknowledged frames (R457). -/
def execKvtRetransmit (t : Stamp) (p : Fin 4) (s : State) : Host.Outcome State Fault Refusal :=
  .next (s.runDev t 0 (Dev.unlessHalted (fun d => d.kvtTimer p.val .rto)))

/-- KVT_SYN_RESEND. A SYN is sent again (R451). -/
def execKvtSynResend (t : Stamp) (p : Fin 4) (s : State) : Host.Outcome State Fault Refusal :=
  .next (s.runDev t 0 (Dev.unlessHalted (fun d => d.kvtSynResend p.val)))

/-- KVT_HEARTBEAT_SEND. HB_MS without a sequenced frame (R459). -/
def execKvtHeartbeatSend (t : Stamp) (p : Fin 4) (s : State) : Host.Outcome State Fault Refusal :=
  .next (s.runDev t 0 (Dev.unlessHalted (fun d => d.kvtBeat p.val)))

/-- KVT_ACK_DELAY. A delivery is acknowledged (R456). -/
def execKvtAckDelay (t : Stamp) (p : Fin 4) (s : State) : Host.Outcome State Fault Refusal :=
  .next (s.runDev t 0 (Dev.unlessHalted (fun d => d.kvtAckDue p.val)))

/-- KVT_TIMEOUT. No valid frame for TIMEOUT_MS (R460). -/
def execKvtTimeout (t : Stamp) (p : Fin 4) (s : State) : Host.Outcome State Fault Refusal :=
  .next (s.runDev t 0 (Dev.unlessHalted (fun d => d.kvtTimer p.val .timeout)))

/-- KVT_REOPEN. REOPEN_MS after a loss (R451). -/
def execKvtReopen (t : Stamp) (p : Fin 4) (s : State) : Host.Outcome State Fault Refusal :=
  .next (s.runDev t 0 (Dev.unlessHalted (fun d => d.kvtReopen p.val)))

end Sys2Proof.Machine
end

