-- ==== Sys2Proof/Machine/Memory.lean ====
section
/-! DEFINITION. Machine/Memory.lean: the meanings of the commands of one family: memory errors, lockstep and core timers (chapter 06). -/

namespace Sys2Proof.Machine

/-- SCRUB_PASS. The scrubber has corrected `fixed` words and found uncorrectable ones at `bad` (R144, R145). -/
def execScrubPass (t : Stamp) (fixed : BitVec 16) (bad : List (BitVec 32)) (s : State) : Host.Outcome State Fault Refusal :=
  .next (s.runDev t 0 (fun d => d.scrub fixed.toNat (bad.map BitVec.toNat)))

/-- SV_LOCKSTEP. A lockstep mismatch of an SV pair (R146). -/
def execSvLockstep (t : Stamp) (p : Fin 2) (s : State) : Host.Outcome State Fault Refusal :=
  .next (s.runDev t 0 (fun d => d.lockstep p.val))

/-- CORE_TIMER_INTERRUPT. A core's timer is compared with mtime (R149); cores 0 and 1 are the SV pairs. -/
def execCoreTimerInterrupt (t : Stamp) (core : Fin 6) (s : State) : Host.Outcome State Fault Refusal :=
  .next (s.runDev t 0 (fun d => d.timerEval core.val))

/-- UNCORRECTABLE_READ. A read that meets a memory error (R143, R145, R187); `buffer` when a ring was reading what its entry names, not an area of its own. -/
def execUncorrectableRead (t : Stamp) (acc : Access) (a : BitVec 32) (fetch : Bool) (corrected : Bool) (buffer : Bool) (s : State) : Host.Outcome State Fault Refusal :=
  .next (s.run t 0 (fun s => s.memError acc a.toNat fetch corrected buffer))

end Sys2Proof.Machine
end

