-- ==== Sys2Proof/Machine/Ports.lean ====
section
/-! DEFINITION. Machine/Ports.lean: the meanings of the commands of one family: serial and network ports (chapters 15 and 16). -/

namespace Sys2Proof.Machine

/-- CHARACTER_RECEIVED. A port decides a character (R398 to R401). -/
def execCharacterReceived (t : Stamp) (n : Fin 7) (c : LineChar) (s : State) : Host.Outcome State Fault Refusal :=
  .next (s.run t 0 (fun s => s.serReceive n.val c))

/-- START_GLITCH. A low pulse on an idle line (R398). -/
def execStartGlitch (t : Stamp) (n : Fin 7) (samples : List Bool) (s : State) : Host.Outcome State Fault Refusal :=
  .next (s.runDev t 0 (fun d => d.serGlitch n.val samples))

/-- AUTOBAUD_QUIET. The line has been quiet for AB_QUIET_MS (R408); `from_` is the start of a character of which edges are still expected. -/
def execAutobaudQuiet (t : Stamp) (n : Fin 7) (from_ : Option Stamp) (s : State) : Host.Outcome State Fault Refusal :=
  .next (s.run t 0 (fun s => s.abQuiet n.val from_))

/-- LINE_IDLE. The line has been high for one character time (R403). -/
def execLineIdle (t : Stamp) (n : Fin 7) (s : State) : Host.Outcome State Fault Refusal :=
  .next (s.runDev t 0 (fun d => d.serIdle n.val))

/-- RX_TIMEOUT_FLUSH. No start for RX_TIMEOUT character times (R404). -/
def execRxTimeoutFlush (t : Stamp) (n : Fin 7) (s : State) : Host.Outcome State Fault Refusal :=
  .next (s.run t 0 (fun s => s.serTimeout n.val))

/-- TRANSMIT_CHARACTER. The transmitter ends a character (R405, R412, R413): what RXD showed beside it in SYNC, whether the card signalled an error. -/
def execTransmitCharacter (t : Stamp) (n : Fin 7) (rx : SyncRx) (err : Bool) (s : State) : Host.Outcome State Fault Refusal :=
  .next (s.run t 0 (fun s => s.serTransmit n.val rx.early rx.late err))

/-- SER_CARD_INSERTED. The card-detect input has held a level for a time (R410). -/
def execSerCardInserted (t : Stamp) (det : CardLevel) (s : State) : Host.Outcome State Fault Refusal :=
  .next (s.runDev t 0 (fun d => d.cardIn det.port.val det.high det.us.toNat))

/-- SER_CARD_REMOVED. The card-detect input has held a level for a time (R410, R417). -/
def execSerCardRemoved (t : Stamp) (det : CardLevel) (s : State) : Host.Outcome State Fault Refusal :=
  .next (s.run t 0 (fun s => s.cardOut det.port.val det.high det.us.toNat))

/-- LINK_UP. A link has been good for `us` (R428), with the lane bits of NET_STAT. -/
def execLinkUp (t : Stamp) (n : Fin 4) (lane : BitVec 5) (us : BitVec 32) (s : State) : Host.Outcome State Fault Refusal :=
  .next (s.runDev t 0 (fun d => d.linkUp n.val lane us.toNat))

/-- LINK_DOWN. A link ceases to be good (R428). -/
def execLinkDown (t : Stamp) (n : Fin 4) (lane : BitVec 5) (s : State) : Host.Outcome State Fault Refusal :=
  .next (s.runDev t 0 (fun d => (d.linkDown n.val lane).twinLossCheck))

/-- FRAME_RECEIVED. A frame arrives (R429, R430): its bytes without FCS, the FEC codewords corrected and lost with it. -/
def execFrameReceived (t : Stamp) (ns : Fin 1000) (n : Fin 4) (raw : List Byte) (fcsOk : Bool) (corrected : BitVec 16) (uncorr : BitVec 16) (s : State) : Host.Outcome State Fault Refusal :=
  .next (s.run t ns.val (fun s => s.frameReceived n.val raw fcsOk corrected.toNat uncorr.toNat))

/-- FRAME_TRANSMIT. A port sends its next frame (R431); `cut` when the link goes down during it (R439). -/
def execFrameTransmit (t : Stamp) (ns : Fin 1000) (n : Fin 4) (cut : Bool) (s : State) : Host.Outcome State Fault Refusal :=
  .next (s.run t ns.val (fun s => s.frameTransmit n.val cut))

end Sys2Proof.Machine
end

