-- ==== Sys2Proof/Machine/RingCmds.lean ====
section
/-! DEFINITION. Machine/RingCmds.lean: the meanings of the commands of one family: the commands of CMD rings (Table HST-10). -/

namespace Sys2Proof.Machine

/-- NOP. NOP (R174); an OPCODE that is not in Table HST-10 completes with BAD_OPCODE. -/
def execNop (t : Stamp) (c : Cmd) (opcode : BitVec 16) (s : State) : Host.Outcome State Fault Refusal :=
  .next (s.run t 0 (fun s => if opcode = 0 then s.runCmd c true (c.reservedOk []) (fun s => (s, .ok)) else s.runCmd c true true (fun s => (s, ⟨1, 0⟩))))

/-- ASPECT_REQUEST. ASPECT_REQUEST from a ring (R335). -/
def execAspectRequest (t : Stamp) (c : Cmd) (s : State) : Host.Outcome State Fault Refusal :=
  .next (s.run t 0 (fun s => s.runCmd c (s.dev.secureCmds c.ring.val) (c.reservedOk [8, 9, 10] && c.byte 8 < 16 && c.byte 9 < 16 && c.byte 10 < 2)
    (onDev (fun d => byDetail (d.aspectRequest (c.byte 8) (c.byte 9) (c.byte 10 = 1) false c.origin c.tag.toNat)))))

/-- LAMP_REARM. LAMP_REARM (R347, R348). -/
def execLampRearm (t : Stamp) (c : Cmd) (s : State) : Host.Outcome State Fault Refusal :=
  .next (s.run t 0 (fun s => s.runCmd c (s.dev.secureCmds c.ring.val) (c.reservedOk [8])
    (onDev (fun d => d.lampRearm (c.byte 8) c.origin c.tag.toNat))))

/-- PG_CLEAR. PG_CLEAR (R315, R316). -/
def execPgClear (t : Stamp) (c : Cmd) (s : State) : Host.Outcome State Fault Refusal :=
  .next (s.run t 0 (fun s => s.runCmd c (s.dev.secureCmds c.ring.val) (c.reservedOk [8])
    (onDev (fun d => d.pgClear (c.byte 8) c.origin c.tag.toNat))))

/-- SECTION_RESET. SECTION_RESET: an authorisation by firmware (R264 to R266). -/
def execSectionReset (t : Stamp) (c : Cmd) (s : State) : Host.Outcome State Fault Refusal :=
  .next (s.run t 0 (fun s => s.runCmd c (s.dev.secureCmds c.ring.val) (c.reservedOk [8, 9, 12, 13, 14, 15] && c.byte 8 < 64 && 1 ≤ c.byte 9 && c.byte 9 ≤ 3)
    (onDev (fun d => byDetail (d.secAuthorise (c.byte 8) (c.byte 9) 2 (d.on (F.SEC_RESET.AUTH_FW (c.byte 8))) c.origin (c.word 12))))))

/-- GROUP_RELEASE. GROUP_RELEASE (R33). -/
def execGroupRelease (t : Stamp) (c : Cmd) (s : State) : Host.Outcome State Fault Refusal :=
  .next (s.run t 0 (fun s => s.runCmd c (s.dev.secureCmds c.ring.val) (c.reservedOk [8] && c.byte 8 < 8)
    (onDev (fun d => d.groupRelease (c.byte 8) c.origin c.tag.toNat))))

/-- ENDGAME_ACK. ENDGAME_ACK (R39, R540). -/
def execEndgameAck (t : Stamp) (c : Cmd) (s : State) : Host.Outcome State Fault Refusal :=
  .next (s.run t 0 (fun s => s.runCmd c (s.dev.secureCmds c.ring.val) (c.reservedOk [8, 9])
    (onDev (fun d => d.endgameAck (c.byte 8) (c.byte 9)))))

/-- FB_RESET. FB_RESET (R373). -/
def execFbReset (t : Stamp) (c : Cmd) (s : State) : Host.Outcome State Fault Refusal :=
  .next (s.run t 0 (fun s => s.runCmd c (s.dev.secureCmds c.ring.val) (c.reservedOk [8])
    (onDev (fun d => d.fbReset (c.byte 8) c.origin c.tag.toNat))))

/-- CASTLE. CASTLE (R488). -/
def execCastle (t : Stamp) (c : Cmd) (s : State) : Host.Outcome State Fault Refusal :=
  .next (s.run t 0 (fun s => s.runCmd c (s.dev.secureCmds c.ring.val) (c.reservedOk [])
    (onDev Dev.castleCommand)))

/-- SEN_THRESHOLD. SEN_THRESHOLD (R229). -/
def execSenThreshold (t : Stamp) (c : Cmd) (s : State) : Host.Outcome State Fault Refusal :=
  .next (s.run t 0 (fun s => s.runCmd c (s.dev.secureCmds c.ring.val) (c.reservedOk [8, 10, 11, 12, 13, 14, 15, 16, 17])
    (onDev (fun d => d.senThreshold (c.byte 8) (codeAt c 10) (codeAt c 12) (codeAt c 14) (codeAt c 16)))))

/-- WM_THRESHOLD. WM_THRESHOLD (R291): a secure command, or for the general monitors their owner's. -/
def execWmThreshold (t : Stamp) (c : Cmd) (s : State) : Host.Outcome State Fault Refusal :=
  .next (s.run t 0 (fun s => s.runCmd c (if c.byte 8 < 112 then s.dev.secureCmds c.ring.val else s.dev.ringSecure c.ring.val || 128 ≤ c.byte 8 || s.dev.monNs (c.byte 8)) (c.reservedOk [8, 10, 11, 12, 13])
    (onDev (fun d => d.wmThreshold (c.byte 8) (c.half 10) (c.half 12)))))

/-- BLANK. BLANK (R202). -/
def execBlank (t : Stamp) (c : Cmd) (s : State) : Host.Outcome State Fault Refusal :=
  .next (s.run t 0 (fun s => s.runCmd c (s.dev.secureCmds c.ring.val) (c.reservedOk [8, 12, 13, 14, 15])
    (onDev (fun d => d.blankCommand (c.byte 8) (c.word 12)))))

/-- APP_SEND. APP_SEND (R176, R466). -/
def execAppSend (t : Stamp) (c : Cmd) (s : State) : Host.Outcome State Fault Refusal :=
  .next (s.run t 0 (fun s => s.runCmd c (s.dev.secureCmds c.ring.val) (c.reservedOk [8, 12, 13, 14, 15, 16, 17])
    (fun s => s.appCmd c.ring.val (c.byte 8) (c.word 12) (c.half 16))))

/-- STREAM_CTRL. STREAM_CTRL (R196), for the owner of the source. -/
def execStreamCtrl (t : Stamp) (c : Cmd) (s : State) : Host.Outcome State Fault Refusal :=
  .next (s.run t 0 (fun s => s.runCmd c (s.dev.ringSecure c.ring.val || s.dev.streamNs (c.byte 8) (c.byte 9)) (c.reservedOk [8, 9, 10, 11])
    (fun s => s.streamCtrl (c.byte 8) (c.byte 9) (c.byte 10) (c.byte 11))))

/-- SER_FLUSH. SER_FLUSH (R404), for the owner of the UART. -/
def execSerFlush (t : Stamp) (c : Cmd) (s : State) : Host.Outcome State Fault Refusal :=
  .next (s.run t 0 (fun s => s.runCmd c (s.dev.ringSecure c.ring.val || s.dev.serNs (c.byte 8)) (c.reservedOk [8] && c.byte 8 < 7)
    (fun s => (s.serFlush (c.byte 8), .ok))))

/-- BOOT_IMAGE. BOOT_IMAGE: the boot ROM acts on the first one that the boot ring consumes (R178). Any other ring completes it with WORLD. -/
def execBootImage (t : Stamp) (c : Cmd) (s : State) : Host.Outcome State Fault Refusal :=
  .next (s.run t 0 (fun s =>
    if s.dev.on F.HST_STATUS.BOOT_RING && c.ring.val = 0 && !s.dev.boot.taken then
      (if !s.dev.cmdReady 0 || !s.dev.boot.scanned then s
      else if c.reservedOk [8, 9, 10, 11, 12, 13, 14, 15, 16, 17, 18, 19] then s.bootImage c else s.finishCmd c .badParam)
    else s.runCmd c false true (fun s => (s, .ok))))

end Sys2Proof.Machine
end

