-- ==== Sys2Proof/Machine/Safety.lean ====
section
/-! DEFINITION. Machine/Safety.lean: the meanings of the commands of one family: safety functions and safe outputs (chapter 14). -/

namespace Sys2Proof.Machine

/-- SI_FILTER_CHANGE. The voltages of safety inputs change, in millivolts, and at a tick of 10 µs all inputs are sampled (R364, R365, R388). -/
def execSiFilterChange (t : Stamp) (l : List (Fin 32 × Int)) (s : State) : Host.Outcome State Fault Refusal :=
  .next (s.runDev t 0 (fun d => Dev.whileEvaluating (fun d => if d.now.toNat % 10 = 0 then d.siSamples else d) (d.siLevels (l.map (fun e => (e.1.val, e.2))))))

/-- TEST_PULSE_START. A test pulse starts (R366). -/
def execTestPulseStart (t : Stamp) (p : Fin 8) (s : State) : Host.Outcome State Fault Refusal :=
  .next (s.runDev t 0 (Dev.whileEvaluating (fun d => d.tpStart p.val)))

/-- TEST_PULSE_END. A test pulse ends (R366); `high` when its pin read high during it (R369). -/
def execTestPulseEnd (t : Stamp) (p : Fin 8) (high : Bool) (s : State) : Host.Outcome State Fault Refusal :=
  .next (s.runDev t 0 (Dev.whileEvaluating (fun d => d.tpEnd p.val high)))

/-- TEST_WINDOW_END. The window of a test pulse ends (R367, R368). -/
def execTestWindowEnd (t : Stamp) (p : Fin 8) (s : State) : Host.Outcome State Fault Refusal :=
  .next (s.runDev t 0 (Dev.whileEvaluating (fun d => d.tpWindowEnd p.val)))

/-- TP_FAULT. The pin of a test-pulse source has read `level` for `us` (R369). -/
def execTpFault (t : Stamp) (p : Fin 8) (level : Bool) (us : BitVec 32) (s : State) : Host.Outcome State Fault Refusal :=
  .next (s.runDev t 0 (Dev.whileEvaluating (fun d => d.tpRead p.val level us.toNat)))

/-- FB_DISCREPANCY. A discrepancy has lasted DISC_MS (R375). -/
def execFbDiscrepancy (t : Stamp) (f : Fin 16) (s : State) : Host.Outcome State Fault Refusal :=
  .next (s.runDev t 0 (Dev.whileEvaluating (fun d => d.fbDiscrepancy f.val)))

/-- FB_OSSD_NOPULSE. An OSSD input has shown no pulse within OSSD_CHECK_S (R376). -/
def execFbOssdNopulse (t : Stamp) (f : Fin 16) (s : State) : Host.Outcome State Fault Refusal :=
  .next (s.runDev t 0 (Dev.whileEvaluating (fun d => d.fbNoPulse f.val)))

/-- PANEL_HOLD_COMPLETE. A panel has been actuated for PANEL_HOLD (R381). -/
def execPanelHoldComplete (t : Stamp) (f : Fin 16) (s : State) : Host.Outcome State Fault Refusal :=
  .next (s.runDev t 0 (Dev.whileEvaluating (fun d => d.fbPanel f.val)))

/-- SPEED_HOLD_EXPIRY. HOLD_S of an SLS or SLD has run out (R378). -/
def execSpeedHoldExpiry (t : Stamp) (f : Fin 16) (s : State) : Host.Outcome State Fault Refusal :=
  .next (s.runDev t 0 (Dev.whileEvaluating (fun d => d.fbHoldEnd f.val)))

/-- FB_RESET_STUCK. A reset input has been high for more than 5 s (R372). -/
def execFbResetStuck (t : Stamp) (f : Fin 16) (s : State) : Host.Outcome State Fault Refusal :=
  .next (s.runDev t 0 (Dev.whileEvaluating (fun d => d.fbResetStuck f.val)))

/-- FB_BUTTON_STUCK. A hand has been held alone for STUCK_S (R389). -/
def execFbButtonStuck (t : Stamp) (f : Fin 16) (s : State) : Host.Outcome State Fault Refusal :=
  .next (s.runDev t 0 (Dev.whileEvaluating (fun d => d.fbButtonStuck f.val)))

/-- SO_FEEDBACK. The raw feedback of a safe output after command off (R386). -/
def execSoFeedback (t : Stamp) (o : Fin 8) (level : Bool) (s : State) : Host.Outcome State Fault Refusal :=
  .next (s.runDev t 0 (Dev.whileEvaluating (fun d => d.soFeedback o.val level)))

/-- SO_STUCK_OFF. The raw feedback of a safe output after command on (R386). -/
def execSoStuckOff (t : Stamp) (o : Fin 8) (level : Bool) (s : State) : Host.Outcome State Fault Refusal :=
  .next (s.runDev t 0 (Dev.whileEvaluating (fun d => d.soStuckOff o.val level)))

end Sys2Proof.Machine
end

