-- ==== Sys2Proof/Machine/Sense.lean ====
section
/-! DEFINITION. Machine/Sense.lean: the meanings of the commands of one family: the sensor front end, heads and sections (chapters 08 to 10). -/

namespace Sys2Proof.Machine

/-- SAMPLE_RECORD. The aperture that ends at t (R196): per channel the mean differential voltage in nanovolts and whether its switch was in current limit. -/
def execSampleRecord (t : Stamp) (records : List (Fin 64 × Int × Bool)) (s : State) : Host.Outcome State Fault Refusal :=
  .next (s.runDev t 0 (fun d => d.sampleRecords (records.map (fun x => (x.1.val, x.2.1, x.2.2)))))

/-- FREQUENCY_WORD. The gate that ends at t (R197): per channel its rising crossings, how long before its end the last one fell in units of
1.5625 ns, whether one falls on its end, the mean shunt voltage in nanovolts, the switch in current limit. -/
def execFrequencyWord (t : Stamp) (words : List (Fin 64 × BitVec 16 × BitVec 16 × Bool × Int × Bool)) (s : State) : Host.Outcome State Fault Refusal :=
  .next (s.runDev t 0 (fun d => d.frequencyWords
    (words.map (fun x => (x.1.val, x.2.1.toNat, x.2.2.1.toNat, x.2.2.2.1, x.2.2.2.2.1, x.2.2.2.2.2)))))

/-- GAMBIT_WINDOW_EXPIRY. The gambit window expires (R235). -/
def execGambitWindowExpiry (t : Stamp) (h : Fin 32) (s : State) : Host.Outcome State Fault Refusal :=
  .next (s.runDev t 0 (Dev.whileEvaluating (fun d => d.gambitTimeout h.val)))

/-- HEAD_SYS_STUCK. A system has been DAMPED for T_STUCK (R248). -/
def execHeadSysStuck (t : Stamp) (h : Fin 32) (s : State) : Host.Outcome State Fault Refusal :=
  .next (s.runDev t 0 (Dev.whileEvaluating (fun d => d.headStuck h.val)))

/-- ENDGAME_EXPIRY. The time limits of Endgames that are reached (R37, R38). They run on and expire in F4 (R47), and in F5 too (assumption log
156). -/
def execEndgameExpiry (t : Stamp) (s : State) : Host.Outcome State Fault Refusal :=
  .next (s.runDev t 0 Dev.egExpireDue)

/-- CURRENT_LIMIT_TRIP. A switch has been in current limit for 200 µs (R195). -/
def execCurrentLimitTrip (t : Stamp) (c : Fin 64) (s : State) : Host.Outcome State Fault Refusal :=
  .next (s.runDev t 0 (fun d => d.limitTrip c.val))

/-- SWITCH_RECLOSE. The switch closes again (R195). -/
def execSwitchReclose (t : Stamp) (c : Fin 64) (s : State) : Host.Outcome State Fault Refusal :=
  .next (s.runDev t 0 (fun d => d.switchReclose c.val))

/-- BLANK_PIN_EDGE. BLANK_p has held a level for a time (R200). -/
def execBlankPinEdge (t : Stamp) (ns : Fin 1000) (p : Fin 4) (held : PinHeld) (s : State) : Host.Outcome State Fault Refusal :=
  .next (s.runDev t ns.val (fun d => d.blankPin p.val held.level held.ns.toNat))

/-- BLANK_COMMAND_END. A command blank has run out (R202). -/
def execBlankCommandEnd (t : Stamp) (b : Fin 8) (s : State) : Host.Outcome State Fault Refusal :=
  .next (s.runDev t 0 (fun d => d.blankCommandEnd b.val))

/-- BLANK_OVERLONG. A bank has been blanked for LIMIT_US (R203). -/
def execBlankOverlong (t : Stamp) (b : Fin 8) (s : State) : Host.Outcome State Fault Refusal :=
  .next (s.runDev t 0 (fun d => d.blankOverlong b.val))

/-- BANK_HOLD_END. The sources of a held bank have been inactive for 1 ms (R203). -/
def execBankHoldEnd (t : Stamp) (b : Fin 8) (s : State) : Host.Outcome State Fault Refusal :=
  .next (s.runDev t 0 (fun d => d.bankHoldEnd b.val))

/-- BANK_CLAMP. A channel goes beyond ±1.5 V (R206). -/
def execBankClamp (t : Stamp) (c : Fin 64) (s : State) : Host.Outcome State Fault Refusal :=
  .next (s.runDev t 0 (fun d => d.clampStart c.val))

/-- BANK_CLAMP_RELEASE. The clamp of a channel releases (R206). -/
def execBankClampRelease (t : Stamp) (c : Fin 64) (s : State) : Host.Outcome State Fault Refusal :=
  .next (s.runDev t 0 (fun d => d.clampEnd c.val))

/-- AUX_RESULT. An auxiliary channel completes a pair of conversions, in nanovolts (R208). -/
def execAuxResult (t : Stamp) (a : Fin 16) (even : Int) (odd : Int) (beyond : Bool) (s : State) : Host.Outcome State Fault Refusal :=
  .next (s.runDev t 0 (fun d => d.auxResult a.val even odd beyond))

/-- REFERENCE_SLOT. The reference slot of an auxiliary channel (R208). -/
def execReferenceSlot (t : Stamp) (a : Fin 16) (nv : Int) (beyond : Bool) (s : State) : Host.Outcome State Fault Refusal :=
  .next (s.runDev t 0 (fun d => d.refSlot a.val nv beyond))

/-- HAZ_SELFTEST. A channel's self-test aperture (R211). -/
def execHazSelftest (t : Stamp) (c : Fin 64) (code : BitVec 16) (s : State) : Host.Outcome State Fault Refusal :=
  .next (s.runDev t 0 (fun d => d.selftest c.val code.toInt))

/-- CLEAR_CONFIRM_EXPIRY. A section has been ready to clear for CONFIRM (R261). -/
def execClearConfirmExpiry (t : Stamp) (i : Fin 64) (s : State) : Host.Outcome State Fault Refusal :=
  .next (s.runDev t 0 (Dev.whileEvaluating (fun d => d.secConfirm i.val)))

/-- SEC_SWEEP_TIMEOUT. A section has been PREPARED without ENTERED for SWEEP_TIMEOUT_S (R270). -/
def execSecSweepTimeout (t : Stamp) (i : Fin 64) (s : State) : Host.Outcome State Fault Refusal :=
  .next (s.runDev t 0 (Dev.whileEvaluating (fun d => d.secSweepTimeout i.val)))

/-- PANEL_AUTHORISATION. The sections judge a panel's authorisation (R277). -/
def execPanelAuthorisation (t : Stamp) (f : Fin 16) (s : State) : Host.Outcome State Fault Refusal :=
  .next (s.runDev t 0 (Dev.whileEvaluating (fun d => d.panelAuthorise f.val)))

end Sys2Proof.Machine
end

