-- ==== Sys2Proof/Machine/Supplies.lean ====
section
/-! DEFINITION. Machine/Supplies.lean: the meanings of the commands of one family: supplies, resets, power states and wake sources (chapter 04). -/

namespace Sys2Proof.Machine

/-- POWER_ON_RESET_RELEASE. Power-on reset releases (R76): the GLOW cycles since the last command, the balls BOOT_SEL, the supplies, the letters of other reset events that fall together (R97). -/
def execPowerOnResetRelease (t : Stamp) (cycles : BitVec 48) (sel : Fin 4) (rails : BitVec 17) (vmain : Bool) (also : BitVec 9) (s : State) : Host.Outcome State Fault Refusal :=
  .next (s.runPower t (fun s => s.porRelease cycles.toNat sel.val rails vmain also.toNat))

/-- ALL_POWER_LOST. VDD_IO and VBAT are both absent (R80). -/
def execAllPowerLost (t : Stamp) (s : State) : Host.Outcome State Fault Refusal :=
  .next (s.runPower t (fun s => s.allLost))

/-- BROWN_OUT. A rail has been below its threshold for 2 µs (R77). -/
def execBrownOut (t : Stamp) (rails : BitVec 17) (also : BitVec 9) (s : State) : Host.Outcome State Fault Refusal :=
  .next (s.runPower t (fun s => s.brownOut rails also.toNat))

/-- EXTERNAL_RESET. RST_N has been low for 1 µs (R103). -/
def execExternalReset (t : Stamp) (also : BitVec 9) (s : State) : Host.Outcome State Fault Refusal :=
  .next (s.runPower t (fun s => s.resetPin also.toNat))

/-- RST_N_RISE. RST_N rises (R103). -/
def execRstNRise (t : Stamp) (cycles : BitVec 48) (s : State) : Host.Outcome State Fault Refusal :=
  .next (s.runPower t (fun s => s.resetPinRise cycles.toNat))

/-- WATCHDOG_EXPIRY. The watchdog reaches TIMEOUT_MS (R94). -/
def execWatchdogExpiry (t : Stamp) (also : BitVec 9) (s : State) : Host.Outcome State Fault Refusal :=
  .next (s.run t 0 (fun s => s.watchdog also.toNat))

/-- VFIELD_RANGE. VFIELD has been out of range for 100 µs (R78). -/
def execVfieldRange (t : Stamp) (high : Bool) (s : State) : Host.Outcome State Fault Refusal :=
  .next (s.runDev t 0 (fun d => d.vfield high))

/-- VSENS_LOW. VSENS_b has been below 7.5 V for 100 µs (R79). -/
def execVsensLow (t : Stamp) (b : Fin 8) (s : State) : Host.Outcome State Fault Refusal :=
  .next (s.runDev t 0 (fun d => d.vsensLow b.val))

/-- VSENS_RESTORED. VSENS_b is back above its threshold (R79). -/
def execVsensRestored (t : Stamp) (b : Fin 8) (s : State) : Host.Outcome State Fault Refusal :=
  .next (s.runDev t 0 (fun d => d.vsensBack b.val))

/-- VBAT_LOW. VBAT falls below 2.0 V (R80). -/
def execVbatLow (t : Stamp) (s : State) : Host.Outcome State Fault Refusal :=
  .next (s.runPower t (fun s => s.map Dev.vbatLow))

/-- VBAT_RESTORED. VBAT rises above 2.0 V again (R80). -/
def execVbatRestored (t : Stamp) (s : State) : Host.Outcome State Fault Refusal :=
  .next (s.runPower t (fun s => s.map Dev.vbatBack))

/-- GLOW_SUPPLY_SWITCHOVER. GLOW switches supply (R80). -/
def execGlowSupplySwitchover (t : Stamp) (onVbat : Bool) (s : State) : Host.Outcome State Fault Refusal :=
  .next (s.runPower t (fun s => s.map (fun d => d.glowSupply onVbat)))

/-- DOZE_ENTRY. The cores in `waiting` wait for an interrupt (R81): bits 0 and 1 the SV pairs, 2 to 5 the AP cores. -/
def execDozeEntry (t : Stamp) (waiting : BitVec 6) (s : State) : Host.Outcome State Fault Refusal :=
  .next (s.runDev t 0 (fun d => d.dozeEnter waiting))

/-- DOZE_EXIT. DOZE ends (R81). -/
def execDozeExit (t : Stamp) (s : State) : Host.Outcome State Fault Refusal :=
  .next (s.runDev t 0 Dev.dozeExit)

/-- HOLD_ENTRY. VMAIN_SENSE has been below its threshold for 20 µs (R82). -/
def execHoldEntry (t : Stamp) (s : State) : Host.Outcome State Fault Refusal :=
  .next (s.run t 0 (fun s => s.holdEnter))

/-- HOLD_EXIT. VMAIN_SENSE has been back for 10 ms (R83). -/
def execHoldExit (t : Stamp) (s : State) : Host.Outcome State Fault Refusal :=
  .next (s.run t 0 (fun s => s.holdExit))

/-- ORDERLY_SHUTDOWN. The budget of HOLD ends (R84). -/
def execOrderlyShutdown (t : Stamp) (s : State) : Host.Outcome State Fault Refusal :=
  .next (s.run t 0 (fun s => s.shutdown))

/-- WAKE_SOURCE. A wake source acts (R85): 0 WAKE_N, 1 and 2 the comparators, 3 the RTC alarm. -/
def execWakeSource (t : Stamp) (cycles : BitVec 48) (source : Fin 4) (rising : Bool) (s : State) : Host.Outcome State Fault Refusal :=
  .next (s.runPower t (fun s => (s.glowPass cycles.toNat).wake source.val rising))

/-- WAKE_FAIL. The rails are not in window 500 ms after a BOOT wake (R86). -/
def execWakeFail (t : Stamp) (cycles : BitVec 48) (s : State) : Host.Outcome State Fault Refusal :=
  .next (s.runPower t (fun s => (s.glowPass cycles.toNat).wakeFail))

/-- STANDBY_POWER_OFF. VBAT is lost in STANDBY (R81). -/
def execStandbyPowerOff (t : Stamp) (s : State) : Host.Outcome State Fault Refusal :=
  .next (s.runPower t (fun s => s.standbyOff))

end Sys2Proof.Machine
end

