-- ==== Sys2Proof/Machine/TwinRows.lean ====
section
/-! DEFINITION. Machine/TwinRows.lean: the meanings of the commands of one family: twin operation (chapter 18). -/

namespace Sys2Proof.Machine

/-- CODEWORD_RECEIVED. An Aqsor codeword arrives (R476, R477). -/
def execCodewordReceived (t : Stamp) (decodes : Bool) (corrected : Bool) (marker : BitVec 4) (counter : BitVec 16) (s : State) : Host.Outcome State Fault Refusal :=
  .next (s.runDev t 0 (fun d => d.codeword decodes corrected marker counter))

/-- TIME_MARK_RX. A partner's TIME_MARK arrives `ps` after the tick edge (R479 to R482), at `cyc` own SQUALL cycles. -/
def execTimeMarkRx (t : Stamp) (k : Mark) (ps : BitVec 32) (cyc : BitVec 64) (s : State) : Host.Outcome State Fault Refusal :=
  .next (s.runDev t 0 (Dev.unlessHalted (fun d => d.markRx k ps.toNat cyc.toNat)))

/-- TIME_MARK_SEND. A TIME_MARK is sent (R479). -/
def execTimeMarkSend (t : Stamp) (cyc : BitVec 64) (txOfs : BitVec 32) (s : State) : Host.Outcome State Fault Refusal :=
  .next (s.runDev t 0 (fun d => d.markSend cyc.toNat txOfs.toNat))

/-- CASTLE_PLAN_RX. A PLAN arrives (R489). -/
def execCastlePlanRx (t : Stamp) (b : Stamp) (reason : Fin 3) (s : State) : Host.Outcome State Fault Refusal :=
  .next (s.runDev t 0 (Dev.unlessHalted (fun d => d.castlePlanRx b reason.val)))

/-- CASTLE_ACK_RX. An ACK of a PLAN arrives (R489). -/
def execCastleAckRx (t : Stamp) (b : Stamp) (s : State) : Host.Outcome State Fault Refusal :=
  .next (s.runDev t 0 (Dev.unlessHalted (fun d => d.castleAckRx b)))

/-- CASTLE_ABORT_RX. An ABORT arrives (R489). -/
def execCastleAbortRx (t : Stamp) (b : Stamp) (s : State) : Host.Outcome State Fault Refusal :=
  .next (s.runDev t 0 (Dev.unlessHalted (fun d => d.castleAbortRx b)))

/-- CASTLE_ACK_DEADLINE. No ACK by B - 100 µs (R489). -/
def execCastleAckDeadline (t : Stamp) (s : State) : Host.Outcome State Fault Refusal :=
  .next (s.runDev t 0 (Dev.unlessHalted Dev.castleDeadline))

/-- CASTLE_SWITCH. The roles are exchanged at B (R490). -/
def execCastleSwitch (t : Stamp) (s : State) : Host.Outcome State Fault Refusal :=
  .next (s.runDev t 0 (Dev.unlessHalted Dev.castleSwitch))

/-- DECISION_RX. A DECISION block arrives (R484). -/
def execDecisionRx (t : Stamp) (r : Decision) (s : State) : Host.Outcome State Fault Refusal :=
  .next (s.runDev t 0 (Dev.unlessHalted (fun d => d.decisionRx r)))

/-- DECISION_JUDGE. The records that are due are judged (R484). -/
def execDecisionJudge (t : Stamp) (s : State) : Host.Outcome State Fault Refusal :=
  .next (s.runDev t 0 (Dev.unlessHalted Dev.decisionJudge))

/-- DIGEST_RX. Partner sample records arrive (R483). -/
def execDigestRx (t : Stamp) (stamp : Stamp) (part : Fin 5) (words : List Word) (s : State) : Host.Outcome State Fault Refusal :=
  .next (s.runDev t 0 (Dev.unlessHalted (fun d => d.digestRx stamp part.val words)))

/-- HASH_SEND. The section hash is formed and sent, after the decisions of its stamp (R485). -/
def execHashSend (t : Stamp) (s : State) : Host.Outcome State Fault Refusal :=
  .next (s.runDev t 0 (Dev.unlessHalted (fun d => d.headsClose.hashSend)))

/-- HASH_RX. A HASH block arrives (R485). -/
def execHashRx (t : Stamp) (stamp : Stamp) (h : BitVec 64) (mask : BitVec 64) (s : State) : Host.Outcome State Fault Refusal :=
  .next (s.runDev t 0 (Dev.unlessHalted (fun d => d.hashRx stamp h.toNat mask.toNat)))

/-- TWIN_PARTNER_LOSS. The loss of the partner is looked for (R495). -/
def execTwinPartnerLoss (t : Stamp) (s : State) : Host.Outcome State Fault Refusal :=
  .next (s.runDev t 0 (Dev.unlessHalted Dev.twinLossCheck))

/-- PROMOTE_JUDGE. A Mirror promotes or isolates itself (R497). -/
def execPromoteJudge (t : Stamp) (s : State) : Host.Outcome State Fault Refusal :=
  .next (s.runDev t 0 (Dev.unlessHalted Dev.promoteJudge))

end Sys2Proof.Machine
end

