-- ==== Sys2Proof/Machine/Writes.lean ====
section
/-! DEFINITION. Machine/Writes.lean: the meanings of the commands of one family: bus accesses of software and of the host: register writes with a step of their own, and the general accesses (chapter 06). -/

namespace Sys2Proof.Machine

/-- SECURE_WORLD_RESET. A write of PWR_SW_RESET with S set (R99, R104); `chain` is what the seal block delivers to the scans of the re-application. -/
def execSecureWorldReset (t : Stamp) (acc : Access) (v : Word) (chain : List (BitVec 64)) (s : State) : Host.Outcome State Fault Refusal :=
  .next (s.run t 0 (fun s =>
    (s.map (fun d => { d with boot := { d.boot with chain := chain } })).busWrite acc (blkBase .pwr + O.PWR_SW_RESET) v {}))

/-- NON_SECURE_WORLD_RESET. N: a function-level reset, or a write of PWR_SW_RESET with N set (R99, R103). -/
def execNonSecureWorldReset (t : Stamp) (acc : Access) (v : Word) (flr : Bool) (s : State) : Host.Outcome State Fault Refusal :=
  .next (s.run t 0 (fun s =>
    if flr then (if s.dev.on F.HST_STATUS.LINK_UP then s.nonSecureReset true else s)
    else s.busWrite acc (blkBase .pwr + O.PWR_SW_RESET) v {}))

/-- ISLAND_RESET_DUSK. I of DUSK, or its release (R69, R190). -/
def execIslandResetDusk (t : Stamp) (acc : Access) (s : State) : Host.Outcome State Fault Refusal :=
  .next (s.run t 0 (fun s => s.busWrite acc (blkBase .isl + O.ISL_ISLAND_RESET) 1 {}))

/-- ISLAND_RESET_SER. I of the serial-port logic (R421). -/
def execIslandResetSer (t : Stamp) (acc : Access) (s : State) : Host.Outcome State Fault Refusal :=
  .next (s.run t 0 (fun s => s.busWrite acc (blkBase .isl + O.ISL_ISLAND_RESET) 2 {}))

/-- ISLAND_RESET_PORT. I of a port that is not in TWIN role (R446). -/
def execIslandResetPort (t : Stamp) (acc : Access) (n : Fin 4) (s : State) : Host.Outcome State Fault Refusal :=
  .next (s.run t 0 (fun s => s.busWrite acc (blkBase .isl + O.ISL_ISLAND_RESET) (4#32 <<< n.val) {}))

/-- WDT_KICK. A write of PWR_WDT_KICK (R94). -/
def execWdtKick (t : Stamp) (acc : Access) (v : Word) (s : State) : Host.Outcome State Fault Refusal :=
  .next (s.run t 0 (fun s => s.busWrite acc (blkBase .pwr + O.PWR_WDT_KICK) v {}))

/-- RTC_SET. A write of PWR_RTC_SEC (R91). -/
def execRtcSet (t : Stamp) (acc : Access) (v : Word) (s : State) : Host.Outcome State Fault Refusal :=
  .next (s.run t 0 (fun s => s.busWrite acc (blkBase .pwr + O.PWR_RTC_SEC) v {}))

/-- RELOAD. A write of BOT_CTRL (R124). -/
def execReload (t : Stamp) (acc : Access) (v : Word) (s : State) : Host.Outcome State Fault Refusal :=
  .next (s.run t 0 (fun s => s.busWrite acc (blkBase .bot + O.BOT_CTRL) v {}))

/-- OTP_READ. BOT_OTP_CMD.READ (R117). -/
def execOtpRead (t : Stamp) (acc : Access) (s : State) : Host.Outcome State Fault Refusal :=
  .next (s.run t 0 (fun s => s.busWrite acc (blkBase .bot + O.BOT_OTP_CMD) 1 {}))

/-- OTP_PROGRAM. BOT_OTP_CMD.PROGRAM (R117); `back` is what the word reads back, where that is not what it should. -/
def execOtpProgram (t : Stamp) (acc : Access) (back : Option Word) (s : State) : Host.Outcome State Fault Refusal :=
  .next (s.run t 0 (fun s => s.busWrite acc (blkBase .bot + O.BOT_OTP_CMD) 2 { back := back }))

/-- PEAK_CLEAR. A write of HAZ_CH_PEAK_CLR (Table of chapter 08). -/
def execPeakClear (t : Stamp) (acc : Access) (n : Fin 64) (s : State) : Host.Outcome State Fault Refusal :=
  .next (s.run t 0 (fun s => s.busWrite acc (blkBase .haz + O.HAZ_CH_PEAK_CLR + 0x40 * n.val) 1 {}))

/-- AB_ARM. A write of SER_CTRL.AB_ARM (R406). -/
def execAbArm (t : Stamp) (acc : Access) (n : Fin 7) (s : State) : Host.Outcome State Fault Refusal :=
  .next (s.run t 0 (fun s => s.busWrite acc (blkBase .ser + O.SER_CTRL + 0x80 * n.val) 1 {}))

/-- CARD_ARM. A write of SER_CTRL.CARD_ARM (R410). -/
def execCardArm (t : Stamp) (acc : Access) (n : Fin 7) (s : State) : Host.Outcome State Fault Refusal :=
  .next (s.run t 0 (fun s => s.busWrite acc (blkBase .ser + O.SER_CTRL + 0x80 * n.val) 2 {}))

/-- CARD_STOP. A write of SER_CTRL.CARD_STOP (R410). -/
def execCardStop (t : Stamp) (acc : Access) (n : Fin 7) (s : State) : Host.Outcome State Fault Refusal :=
  .next (s.run t 0 (fun s => s.busWrite acc (blkBase .ser + O.SER_CTRL + 0x80 * n.val) 4 {}))

/-- LINK_RELEASE. A write of NET_CTRL.RELEASE (R443). -/
def execLinkRelease (t : Stamp) (acc : Access) (n : Fin 4) (s : State) : Host.Outcome State Fault Refusal :=
  .next (s.run t 0 (fun s => s.busWrite acc (blkBase .net + O.NET_CTRL + 0x1000 * n.val) 1 {}))

/-- PTP_SET. A write of NET_PTP_CTRL.SET (R435). -/
def execPtpSet (t : Stamp) (acc : Access) (n : Fin 4) (s : State) : Host.Outcome State Fault Refusal :=
  .next (s.run t 0 (fun s => s.busWrite acc (blkBase .net + O.NET_PTP_CTRL + 0x1000 * n.val) 1 {}))

/-- PTP_OFFSET_STEP. A write of NET_PTP_CTRL.STEP (R435). -/
def execPtpOffsetStep (t : Stamp) (acc : Access) (n : Fin 4) (s : State) : Host.Outcome State Fault Refusal :=
  .next (s.run t 0 (fun s => s.busWrite acc (blkBase .net + O.NET_PTP_CTRL + 0x1000 * n.val) 2 {}))

/-- KVT_KEY_WRITE. A write of a key word (R463). -/
def execKvtKeyWrite (t : Stamp) (acc : Access) (p : Fin 4) (j : Fin 4) (v : Word) (s : State) : Host.Outcome State Fault Refusal :=
  .next (s.run t 0 (fun s => s.busWrite acc (blkBase .kvt + O.KVT_KEY + 0x100 * p.val + 4 * j.val) v {}))

/-- KEY_COMMIT. A write of KVT_KEY_CTRL.COMMIT (R463). -/
def execKeyCommit (t : Stamp) (acc : Access) (p : Fin 4) (s : State) : Host.Outcome State Fault Refusal :=
  .next (s.run t 0 (fun s => s.busWrite acc (blkBase .kvt + O.KVT_KEY_CTRL + 0x100 * p.val) 1 {}))

/-- RING_ENABLE. A write of ENABLE = 1 of a ring (R179). -/
def execRingEnable (t : Stamp) (acc : Access) (n : Fin 64) (s : State) : Host.Outcome State Fault Refusal :=
  .next (s.run t 0 (fun s => s.busWrite acc (blkBase .hst + O.HST_RING_CTRL + 0x20 * n.val) 1 {}))

/-- RING_DISABLE. A write of ENABLE = 0 of a ring (R180). -/
def execRingDisable (t : Stamp) (acc : Access) (n : Fin 64) (s : State) : Host.Outcome State Fault Refusal :=
  .next (s.run t 0 (fun s => s.busWrite acc (blkBase .hst + O.HST_RING_CTRL + 0x20 * n.val) 0 {}))

/-- WINDOW_DISABLE. A write that clears ENABLE of a host window (R156). -/
def execWindowDisable (t : Stamp) (acc : Access) (w : Fin 16) (v : Word) (s : State) : Host.Outcome State Fault Refusal :=
  .next (s.run t 0 (fun s => s.busWrite acc (blkBase .wld + O.WLD_HWIN_CTRL + 0x10 * w.val) v {}))

/-- REGION_TAG_WRITE. A write of the tags of 16 SRAM regions (R137). -/
def execRegionTagWrite (t : Stamp) (acc : Access) (k : Fin 8) (v : Word) (s : State) : Host.Outcome State Fault Refusal :=
  .next (s.run t 0 (fun s => s.busWrite acc (blkBase .wld + O.WLD_REGION_TAG + 4 * k.val) v {}))

/-- REGION_ZEROED. The zeroing of a region has ended (R137). -/
def execRegionZeroed (t : Stamp) (r : Fin 128) (s : State) : Host.Outcome State Fault Refusal :=
  .next (s.runDev t 0 (fun d => d.regionZeroed r.val))

/-- WAT_WRITE. A write of a World Assignment Table entry (R133, R155). -/
def execWatWrite (t : Stamp) (acc : Access) (e : Fin 128) (v : Word) (s : State) : Host.Outcome State Fault Refusal :=
  .next (s.run t 0 (fun s => s.busWrite acc (blkBase .wld + O.WLD_WAT + 4 * e.val) v {}))

/-- AP_RUN_WRITE. A write of WLD_AP_RUN (R147). -/
def execApRunWrite (t : Stamp) (acc : Access) (v : Word) (s : State) : Host.Outcome State Fault Refusal :=
  .next (s.run t 0 (fun s => s.busWrite acc (blkBase .wld + O.WLD_AP_RUN) v {}))

/-- HEAD_ENABLE. A write of HED_CFG (R253). -/
def execHeadEnable (t : Stamp) (acc : Access) (h : Fin 64) (v : Word) (s : State) : Host.Outcome State Fault Refusal :=
  .next (s.run t 0 (fun s => s.busWrite acc (blkBase .hed + O.HED_CFG + 0x40 * h.val) v {}))

/-- HEAD_CONFIG_WRITE. A write of a configuration register of a head, word `k` of its slot (R543). -/
def execHeadConfigWrite (t : Stamp) (acc : Access) (h : Fin 64) (k : Fin 9) (v : Word) (s : State) : Host.Outcome State Fault Refusal :=
  .next (s.run t 0 (fun s => s.busWrite acc (blkBase .hed + 0x40 * h.val + 4 * k.val) v {}))

/-- HEAD_COUNTER_PRESET. A write of a lifetime wheel counter (R239); `inc` when an increment falls in the same cycle, which is applied after it (R152). -/
def execHeadCounterPreset (t : Stamp) (acc : Access) (h : Fin 64) (ba : Bool) (v : Word) (inc : Bool) (s : State) : Host.Outcome State Fault Refusal :=
  .next (s.run t 0 (fun s =>
    (s.busWrite acc (blkBase .hed + (if ba then O.HED_CNT_BA else O.HED_CNT_AB) + 0x40 * h.val) v {}).map
      (fun d => if inc && s.dev.masterSecure acc then d.headCount h.val ba else d)))

/-- SECTION_ENABLE. A write of a configuration register of a section, word `k` of its registers (R278). -/
def execSectionEnable (t : Stamp) (acc : Access) (i : Fin 64) (k : Fin 5) (v : Word) (s : State) : Host.Outcome State Fault Refusal :=
  .next (s.run t 0 (fun s => s.busWrite acc (blkBase .sec + O.SEC_CFG + 0x40 * i.val + 4 * k.val) v {}))

/-- MONITOR_ENABLE. A write of WIN_CFG (R302, R303). -/
def execMonitorEnable (t : Stamp) (acc : Access) (m : Fin 128) (v : Word) (s : State) : Host.Outcome State Fault Refusal :=
  .next (s.run t 0 (fun s => s.busWrite acc (blkBase .win + O.WIN_CFG + 0x20 * m.val) v {}))

/-- MONITOR_THRESHOLD_WRITE. A write of WIN_THR (R291). -/
def execMonitorThresholdWrite (t : Stamp) (acc : Access) (m : Fin 128) (v : Word) (s : State) : Host.Outcome State Fault Refusal :=
  .next (s.run t 0 (fun s => s.busWrite acc (blkBase .win + O.WIN_THR + 0x20 * m.val) v {}))

/-- GENERATOR_ENABLE. A write of a configuration register of a generator, word `k` of its registers (R328). -/
def execGeneratorEnable (t : Stamp) (acc : Access) (g : Fin 64) (k : Fin 6) (v : Word) (s : State) : Host.Outcome State Fault Refusal :=
  .next (s.run t 0 (fun s => s.busWrite acc (blkBase .pgn + O.PGN_CFG + 0x40 * g.val + 4 * k.val) v {}))

/-- LAMP_ENABLE. A write of LMP_CFG (R360). -/
def execLampEnable (t : Stamp) (acc : Access) (k : Fin 48) (v : Word) (s : State) : Host.Outcome State Fault Refusal :=
  .next (s.run t 0 (fun s => s.busWrite acc (blkBase .lmp + O.LMP_CFG + 0x20 * k.val) v {}))

/-- SIGNAL_ENABLE. A write of LMP_SIG_CFG (R361). -/
def execSignalEnable (t : Stamp) (acc : Access) (i : Fin 16) (v : Word) (s : State) : Host.Outcome State Fault Refusal :=
  .next (s.run t 0 (fun s => s.busWrite acc (blkBase .lmp + O.LMP_SIG_CFG + 0x80 * i.val) v {}))

/-- FUNCTION_ENABLE. A write of SAF_FB_CFG (R392). -/
def execFunctionEnable (t : Stamp) (acc : Access) (f : Fin 16) (v : Word) (s : State) : Host.Outcome State Fault Refusal :=
  .next (s.run t 0 (fun s => s.busWrite acc (blkBase .saf + O.SAF_FB_CFG + 0x20 * f.val) v {}))

/-- SAFE_OUTPUT_ENABLE. A write of SAF_SO_CFG (R393). -/
def execSafeOutputEnable (t : Stamp) (acc : Access) (o : Fin 8) (v : Word) (s : State) : Host.Outcome State Fault Refusal :=
  .next (s.run t 0 (fun s => s.busWrite acc (blkBase .saf + O.SAF_SO_CFG + 0x10 * o.val) v {}))

/-- SERIAL_PORT_ENABLE. A write of SER_CFG (R418). -/
def execSerialPortEnable (t : Stamp) (acc : Access) (n : Fin 7) (v : Word) (s : State) : Host.Outcome State Fault Refusal :=
  .next (s.run t 0 (fun s => s.busWrite acc (blkBase .ser + O.SER_CFG + 0x80 * n.val) v {}))

/-- PORT_ENABLE. A write of NET_CFG (R444). -/
def execPortEnable (t : Stamp) (acc : Access) (n : Fin 4) (v : Word) (s : State) : Host.Outcome State Fault Refusal :=
  .next (s.run t 0 (fun s => s.busWrite acc (blkBase .net + O.NET_CFG + 0x1000 * n.val) v {}))

/-- KVT_ENABLE. A write of KVT_PCFG (R471). -/
def execKvtEnable (t : Stamp) (acc : Access) (p : Fin 4) (v : Word) (s : State) : Host.Outcome State Fault Refusal :=
  .next (s.run t 0 (fun s => s.busWrite acc (blkBase .kvt + O.KVT_PCFG + 0x100 * p.val) v {}))

/-- TWIN_ENABLE. A write of TWN_CFG (R500). -/
def execTwinEnable (t : Stamp) (acc : Access) (v : Word) (s : State) : Host.Outcome State Fault Refusal :=
  .next (s.run t 0 (fun s => s.busWrite acc (blkBase .twn + O.TWN_CFG) v {}))

/-- COUNTER_PAIR_LOW_READ. A read of the low word of a counter pair (R150). -/
def execCounterPairLowRead (t : Stamp) (acc : Access) (a : BitVec 32) (s : State) : Host.Outcome State Fault Refusal :=
  .next (s.run t 0 (fun s => s.busRead acc a.toNat))

/-- REGISTER_WRITE. A write on the bus (R9, R537); `hw` are the flag bits that hardware sets in the same cycle (R153). -/
def execRegisterWrite (t : Stamp) (acc : Access) (a : BitVec 32) (v : Word) (hw : Word) (s : State) : Host.Outcome State Fault Refusal :=
  .next (s.run t 0 (fun s => s.busWrite acc a.toNat v { hw := hw }))

/-- VIOLATING_ACCESS. An access that violates worlds or finds nothing (R131, R140). -/
def execViolatingAccess (t : Stamp) (acc : Access) (a : BitVec 32) (write : Bool) (v : Word) (s : State) : Host.Outcome State Fault Refusal :=
  .next (s.run t 0 (fun s => if write then s.busWrite acc a.toNat v {} else s.busRead acc a.toNat))

/-- INSTRUCTION_FETCH_REFUSED. An instruction fetch (R141). -/
def execInstructionFetchRefused (t : Stamp) (acc : Access) (a : BitVec 32) (s : State) : Host.Outcome State Fault Refusal :=
  .next (s.run t 0 (fun s => s.busFetch acc a.toNat))

end Sys2Proof.Machine
end

