-- ==== Sys2Proof/Machine/Dispatch.lean ====
section
/-! DEFINITION. Machine/Dispatch.lean: one arm per command, each a direct call of its meaning. -/

namespace Sys2Proof.Machine

/-- The effect of a command on everything but the queue. -/
def exec (i : Instr) (s : State) : Host.Outcome State Fault Refusal :=
  match i with
  | .nop t c opcode => Sys2Proof.Machine.execNop t c opcode s
  | .aspectRequest t c => Sys2Proof.Machine.execAspectRequest t c s
  | .lampRearm t c => Sys2Proof.Machine.execLampRearm t c s
  | .pgClear t c => Sys2Proof.Machine.execPgClear t c s
  | .sectionReset t c => Sys2Proof.Machine.execSectionReset t c s
  | .groupRelease t c => Sys2Proof.Machine.execGroupRelease t c s
  | .endgameAck t c => Sys2Proof.Machine.execEndgameAck t c s
  | .fbReset t c => Sys2Proof.Machine.execFbReset t c s
  | .castle t c => Sys2Proof.Machine.execCastle t c s
  | .senThreshold t c => Sys2Proof.Machine.execSenThreshold t c s
  | .wmThreshold t c => Sys2Proof.Machine.execWmThreshold t c s
  | .blank t c => Sys2Proof.Machine.execBlank t c s
  | .appSend t c => Sys2Proof.Machine.execAppSend t c s
  | .streamCtrl t c => Sys2Proof.Machine.execStreamCtrl t c s
  | .serFlush t c => Sys2Proof.Machine.execSerFlush t c s
  | .bootImage t c => Sys2Proof.Machine.execBootImage t c s
  | .secureWorldReset t acc v chain => Sys2Proof.Machine.execSecureWorldReset t acc v chain s
  | .nonSecureWorldReset t acc v flr => Sys2Proof.Machine.execNonSecureWorldReset t acc v flr s
  | .islandResetDusk t acc => Sys2Proof.Machine.execIslandResetDusk t acc s
  | .islandResetSer t acc => Sys2Proof.Machine.execIslandResetSer t acc s
  | .islandResetPort t acc n => Sys2Proof.Machine.execIslandResetPort t acc n s
  | .wdtKick t acc v => Sys2Proof.Machine.execWdtKick t acc v s
  | .rtcSet t acc v => Sys2Proof.Machine.execRtcSet t acc v s
  | .reload t acc v => Sys2Proof.Machine.execReload t acc v s
  | .otpRead t acc => Sys2Proof.Machine.execOtpRead t acc s
  | .otpProgram t acc back => Sys2Proof.Machine.execOtpProgram t acc back s
  | .peakClear t acc n => Sys2Proof.Machine.execPeakClear t acc n s
  | .abArm t acc n => Sys2Proof.Machine.execAbArm t acc n s
  | .cardArm t acc n => Sys2Proof.Machine.execCardArm t acc n s
  | .cardStop t acc n => Sys2Proof.Machine.execCardStop t acc n s
  | .linkRelease t acc n => Sys2Proof.Machine.execLinkRelease t acc n s
  | .ptpSet t acc n => Sys2Proof.Machine.execPtpSet t acc n s
  | .ptpOffsetStep t acc n => Sys2Proof.Machine.execPtpOffsetStep t acc n s
  | .kvtKeyWrite t acc p j v => Sys2Proof.Machine.execKvtKeyWrite t acc p j v s
  | .keyCommit t acc p => Sys2Proof.Machine.execKeyCommit t acc p s
  | .ringEnable t acc n => Sys2Proof.Machine.execRingEnable t acc n s
  | .ringDisable t acc n => Sys2Proof.Machine.execRingDisable t acc n s
  | .windowDisable t acc w v => Sys2Proof.Machine.execWindowDisable t acc w v s
  | .regionTagWrite t acc k v => Sys2Proof.Machine.execRegionTagWrite t acc k v s
  | .regionZeroed t r => Sys2Proof.Machine.execRegionZeroed t r s
  | .watWrite t acc e v => Sys2Proof.Machine.execWatWrite t acc e v s
  | .apRunWrite t acc v => Sys2Proof.Machine.execApRunWrite t acc v s
  | .headEnable t acc h v => Sys2Proof.Machine.execHeadEnable t acc h v s
  | .headConfigWrite t acc h k v => Sys2Proof.Machine.execHeadConfigWrite t acc h k v s
  | .headCounterPreset t acc h ba v inc => Sys2Proof.Machine.execHeadCounterPreset t acc h ba v inc s
  | .sectionEnable t acc n k v => Sys2Proof.Machine.execSectionEnable t acc n k v s
  | .monitorEnable t acc m v => Sys2Proof.Machine.execMonitorEnable t acc m v s
  | .monitorThresholdWrite t acc m v => Sys2Proof.Machine.execMonitorThresholdWrite t acc m v s
  | .generatorEnable t acc g k v => Sys2Proof.Machine.execGeneratorEnable t acc g k v s
  | .lampEnable t acc k v => Sys2Proof.Machine.execLampEnable t acc k v s
  | .signalEnable t acc n v => Sys2Proof.Machine.execSignalEnable t acc n v s
  | .functionEnable t acc f v => Sys2Proof.Machine.execFunctionEnable t acc f v s
  | .safeOutputEnable t acc o v => Sys2Proof.Machine.execSafeOutputEnable t acc o v s
  | .serialPortEnable t acc n v => Sys2Proof.Machine.execSerialPortEnable t acc n v s
  | .portEnable t acc n v => Sys2Proof.Machine.execPortEnable t acc n v s
  | .kvtEnable t acc p v => Sys2Proof.Machine.execKvtEnable t acc p v s
  | .twinEnable t acc v => Sys2Proof.Machine.execTwinEnable t acc v s
  | .counterPairLowRead t acc a => Sys2Proof.Machine.execCounterPairLowRead t acc a s
  | .registerWrite t acc a v hw => Sys2Proof.Machine.execRegisterWrite t acc a v hw s
  | .violatingAccess t acc a write v => Sys2Proof.Machine.execViolatingAccess t acc a write v s
  | .instructionFetchRefused t acc a => Sys2Proof.Machine.execInstructionFetchRefused t acc a s
  | .scrubPass t fixed bad => Sys2Proof.Machine.execScrubPass t fixed bad s
  | .svLockstep t p => Sys2Proof.Machine.execSvLockstep t p s
  | .coreTimerInterrupt t core => Sys2Proof.Machine.execCoreTimerInterrupt t core s
  | .doorbellWrite t acc batch mirror n v => Sys2Proof.Machine.execDoorbellWrite t acc batch mirror n v s
  | .doorbellPoll t seen n => Sys2Proof.Machine.execDoorbellPoll t seen n s
  | .writebackWrite t n => Sys2Proof.Machine.execWritebackWrite t n s
  | .ringInterrupt t n => Sys2Proof.Machine.execRingInterrupt t n s
  | .strmBufferComplete t n => Sys2Proof.Machine.execStrmBufferComplete t n s
  | .hstEvtOverflow t n => Sys2Proof.Machine.execHstEvtOverflow t n s
  | .pcieLinkDown t => Sys2Proof.Machine.execPcieLinkDown t s
  | .pcieLinkUp t gen width msix => Sys2Proof.Machine.execPcieLinkUp t gen width msix s
  | .pcieCompletionTimeout t acc a us error buffer => Sys2Proof.Machine.execPcieCompletionTimeout t acc a us error buffer s
  | .powerOnResetRelease t cycles sel rails vmain also => Sys2Proof.Machine.execPowerOnResetRelease t cycles sel rails vmain also s
  | .allPowerLost t => Sys2Proof.Machine.execAllPowerLost t s
  | .brownOut t rails also => Sys2Proof.Machine.execBrownOut t rails also s
  | .externalReset t also => Sys2Proof.Machine.execExternalReset t also s
  | .watchdogExpiry t also => Sys2Proof.Machine.execWatchdogExpiry t also s
  | .vfieldRange t high => Sys2Proof.Machine.execVfieldRange t high s
  | .vsensLow t b => Sys2Proof.Machine.execVsensLow t b s
  | .vbatLow t => Sys2Proof.Machine.execVbatLow t s
  | .glowSupplySwitchover t onVbat => Sys2Proof.Machine.execGlowSupplySwitchover t onVbat s
  | .dozeEntry t waiting => Sys2Proof.Machine.execDozeEntry t waiting s
  | .dozeExit t => Sys2Proof.Machine.execDozeExit t s
  | .holdEntry t => Sys2Proof.Machine.execHoldEntry t s
  | .holdExit t => Sys2Proof.Machine.execHoldExit t s
  | .orderlyShutdown t => Sys2Proof.Machine.execOrderlyShutdown t s
  | .wakeSource t cycles source rising => Sys2Proof.Machine.execWakeSource t cycles source rising s
  | .wakeFail t cycles => Sys2Proof.Machine.execWakeFail t cycles s
  | .standbyPowerOff t => Sys2Proof.Machine.execStandbyPowerOff t s
  | .bootSourceTry t octal image => Sys2Proof.Machine.execBootSourceTry t octal image s
  | .pcieTimeout t => Sys2Proof.Machine.execPcieTimeout t s
  | .sealScan t w => Sys2Proof.Machine.execSealScan t w s
  | .sealScanRetry t w => Sys2Proof.Machine.execSealScanRetry t w s
  | .engineStart t => Sys2Proof.Machine.execEngineStart t s
  | .mappingPairCapture t => Sys2Proof.Machine.execMappingPairCapture t s
  | .sampleTimeWrap => Sys2Proof.Machine.execSampleTimeWrap s
  | .clockMonitorGate t n count stopped => Sys2Proof.Machine.execClockMonitorGate t n count stopped s
  | .d2dLinkLost t silent bad => Sys2Proof.Machine.execD2dLinkLost t silent bad s
  | .sampleRecord t records => Sys2Proof.Machine.execSampleRecord t records s
  | .frequencyWord t words => Sys2Proof.Machine.execFrequencyWord t words s
  | .gambitWindowExpiry t h => Sys2Proof.Machine.execGambitWindowExpiry t h s
  | .headSysStuck t h => Sys2Proof.Machine.execHeadSysStuck t h s
  | .endgameExpiry t => Sys2Proof.Machine.execEndgameExpiry t s
  | .currentLimitTrip t c => Sys2Proof.Machine.execCurrentLimitTrip t c s
  | .switchReclose t c => Sys2Proof.Machine.execSwitchReclose t c s
  | .blankPinEdge t ns p held => Sys2Proof.Machine.execBlankPinEdge t ns p held s
  | .blankCommandEnd t b => Sys2Proof.Machine.execBlankCommandEnd t b s
  | .blankOverlong t b => Sys2Proof.Machine.execBlankOverlong t b s
  | .bankHoldEnd t b => Sys2Proof.Machine.execBankHoldEnd t b s
  | .bankClamp t c => Sys2Proof.Machine.execBankClamp t c s
  | .bankClampRelease t c => Sys2Proof.Machine.execBankClampRelease t c s
  | .auxResult t a even odd beyond => Sys2Proof.Machine.execAuxResult t a even odd beyond s
  | .hazSelftest t c code => Sys2Proof.Machine.execHazSelftest t c code s
  | .clearConfirmExpiry t n => Sys2Proof.Machine.execClearConfirmExpiry t n s
  | .secSweepTimeout t n => Sys2Proof.Machine.execSecSweepTimeout t n s
  | .panelAuthorisation t f => Sys2Proof.Machine.execPanelAuthorisation t f s
  | .comparatorChange t ns m mv frac => Sys2Proof.Machine.execComparatorChange t ns m mv frac s
  | .periodVerdict t m => Sys2Proof.Machine.execPeriodVerdict t m s
  | .winSelftest t ns m outs => Sys2Proof.Machine.execWinSelftest t ns m outs s
  | .winSelftestMissed t ns m outs => Sys2Proof.Machine.execWinSelftestMissed t ns m outs s
  | .dacReadback t code => Sys2Proof.Machine.execDacReadback t code s
  | .pgPeriodBoundary t ns k cyc sync => Sys2Proof.Machine.execPgPeriodBoundary t ns k cyc sync s
  | .provingPulse t k => Sys2Proof.Machine.execProvingPulse t k s
  | .flashPhaseChange t n => Sys2Proof.Machine.execFlashPhaseChange t n s
  | .siFilterChange t l => Sys2Proof.Machine.execSiFilterChange t l s
  | .testPulseStart t p => Sys2Proof.Machine.execTestPulseStart t p s
  | .testWindowEnd t p => Sys2Proof.Machine.execTestWindowEnd t p s
  | .tpFault t p level us => Sys2Proof.Machine.execTpFault t p level us s
  | .fbDiscrepancy t f => Sys2Proof.Machine.execFbDiscrepancy t f s
  | .fbOssdNopulse t f => Sys2Proof.Machine.execFbOssdNopulse t f s
  | .panelHoldComplete t f => Sys2Proof.Machine.execPanelHoldComplete t f s
  | .speedHoldExpiry t f => Sys2Proof.Machine.execSpeedHoldExpiry t f s
  | .fbResetStuck t f => Sys2Proof.Machine.execFbResetStuck t f s
  | .fbButtonStuck t f => Sys2Proof.Machine.execFbButtonStuck t f s
  | .soFeedback t o level => Sys2Proof.Machine.execSoFeedback t o level s
  | .soStuckOff t o level => Sys2Proof.Machine.execSoStuckOff t o level s
  | .characterReceived t n c => Sys2Proof.Machine.execCharacterReceived t n c s
  | .autobaudQuiet t n from_ => Sys2Proof.Machine.execAutobaudQuiet t n from_ s
  | .lineIdle t n => Sys2Proof.Machine.execLineIdle t n s
  | .rxTimeoutFlush t n => Sys2Proof.Machine.execRxTimeoutFlush t n s
  | .transmitCharacter t n rx err => Sys2Proof.Machine.execTransmitCharacter t n rx err s
  | .serCardInserted t det => Sys2Proof.Machine.execSerCardInserted t det s
  | .serCardRemoved t det => Sys2Proof.Machine.execSerCardRemoved t det s
  | .linkUp t n lane us => Sys2Proof.Machine.execLinkUp t n lane us s
  | .linkDown t n lane => Sys2Proof.Machine.execLinkDown t n lane s
  | .frameReceived t ns n raw fcsOk corrected uncorr => Sys2Proof.Machine.execFrameReceived t ns n raw fcsOk corrected uncorr s
  | .frameTransmit t ns n cut => Sys2Proof.Machine.execFrameTransmit t ns n cut s
  | .kvtHeartbeatRx t p f crcOk tagOk => Sys2Proof.Machine.execKvtHeartbeatRx t p f crcOk tagOk s
  | .kvtSynRx t p f crcOk tagOk => Sys2Proof.Machine.execKvtSynRx t p f crcOk tagOk s
  | .kvtHeadEventRx t p f crcOk tagOk => Sys2Proof.Machine.execKvtHeadEventRx t p f crcOk tagOk s
  | .kvtGambitRx t p f crcOk tagOk => Sys2Proof.Machine.execKvtGambitRx t p f crcOk tagOk s
  | .kvtGambitConfirmRx t p f crcOk tagOk => Sys2Proof.Machine.execKvtGambitConfirmRx t p f crcOk tagOk s
  | .kvtGambitCancelRx t p f crcOk tagOk => Sys2Proof.Machine.execKvtGambitCancelRx t p f crcOk tagOk s
  | .kvtSectionStateRx t p f crcOk tagOk => Sys2Proof.Machine.execKvtSectionStateRx t p f crcOk tagOk s
  | .kvtAspectRequestRx t p f crcOk tagOk => Sys2Proof.Machine.execKvtAspectRequestRx t p f crcOk tagOk s
  | .kvtAspectFallbackRx t p f crcOk tagOk => Sys2Proof.Machine.execKvtAspectFallbackRx t p f crcOk tagOk s
  | .kvtLampStatusRx t p f crcOk tagOk => Sys2Proof.Machine.execKvtLampStatusRx t p f crcOk tagOk s
  | .resetPermit t p f crcOk tagOk => Sys2Proof.Machine.execResetPermit t p f crcOk tagOk s
  | .kvtSafetyStateRx t p f crcOk tagOk => Sys2Proof.Machine.execKvtSafetyStateRx t p f crcOk tagOk s
  | .kvtAppRx t p f crcOk tagOk => Sys2Proof.Machine.execKvtAppRx t p f crcOk tagOk s
  | .kvtAckRx t p f crcOk tagOk => Sys2Proof.Machine.execKvtAckRx t p f crcOk tagOk s
  | .kvtRetransmit t p => Sys2Proof.Machine.execKvtRetransmit t p s
  | .kvtSynResend t p => Sys2Proof.Machine.execKvtSynResend t p s
  | .kvtHeartbeatSend t p => Sys2Proof.Machine.execKvtHeartbeatSend t p s
  | .kvtAckDelay t p => Sys2Proof.Machine.execKvtAckDelay t p s
  | .kvtTimeout t p => Sys2Proof.Machine.execKvtTimeout t p s
  | .kvtReopen t p => Sys2Proof.Machine.execKvtReopen t p s
  | .codewordReceived t decodes corrected marker counter => Sys2Proof.Machine.execCodewordReceived t decodes corrected marker counter s
  | .timeMarkRx t k ps cyc => Sys2Proof.Machine.execTimeMarkRx t k ps cyc s
  | .timeMarkSend t cyc txOfs => Sys2Proof.Machine.execTimeMarkSend t cyc txOfs s
  | .castlePlanRx t b reason => Sys2Proof.Machine.execCastlePlanRx t b reason s
  | .castleAckRx t b => Sys2Proof.Machine.execCastleAckRx t b s
  | .castleAbortRx t b => Sys2Proof.Machine.execCastleAbortRx t b s
  | .castleAckDeadline t => Sys2Proof.Machine.execCastleAckDeadline t s
  | .castleSwitch t => Sys2Proof.Machine.execCastleSwitch t s
  | .decisionRx t r => Sys2Proof.Machine.execDecisionRx t r s
  | .decisionJudge t => Sys2Proof.Machine.execDecisionJudge t s
  | .digestRx t stamp part words => Sys2Proof.Machine.execDigestRx t stamp part words s
  | .hashSend t => Sys2Proof.Machine.execHashSend t s
  | .hashRx t stamp h mask => Sys2Proof.Machine.execHashRx t stamp h mask s
  | .twinPartnerLoss t => Sys2Proof.Machine.execTwinPartnerLoss t s
  | .promoteJudge t => Sys2Proof.Machine.execPromoteJudge t s
  | .lockWaitExpiry t => Sys2Proof.Machine.execLockWaitExpiry t s
  | .scheduledEdge t ns k cyc => Sys2Proof.Machine.execScheduledEdge t ns k cyc s
  | .settlingEnd t ns m => Sys2Proof.Machine.execSettlingEnd t ns m s
  | .vsensRestored t b => Sys2Proof.Machine.execVsensRestored t b s
  | .vbatRestored t => Sys2Proof.Machine.execVbatRestored t s
  | .startGlitch t n samples => Sys2Proof.Machine.execStartGlitch t n samples s
  | .referenceSlot t a nv beyond => Sys2Proof.Machine.execReferenceSlot t a nv beyond s
  | .rstNRise t cycles => Sys2Proof.Machine.execRstNRise t cycles s
  | .uncorrectableRead t acc a fetch corrected buffer => Sys2Proof.Machine.execUncorrectableRead t acc a fetch corrected buffer s
  | .hostWindowAccess t acc a write v => Sys2Proof.Machine.execHostWindowAccess t acc a write v s
  | .testPulseEnd t p high => Sys2Proof.Machine.execTestPulseEnd t p high s

end Sys2Proof.Machine
end

