-- ==== Sys2Proof/Safety.lean ====
section
/-! DEFINITION. Safety.lean: what claims say of states: the canonical forms, the device safe state, what a command's own effect leaves
alone. -/

namespace Sys2Proof.Machine

/-- The addressed memories and the OTP words are in canonical form. -/
def Store.wf (m : Store) : Bool := Mem.wf m.mem && Mem.wf m.host && tabWf (0 : Word) m.otp

/-- Two devices agree on every register but those at the listed places. -/
def sameRegsBut (l : List (Blk × Nat)) (d d' : Dev) : Prop := ∀ b off, (b, off) ∉ l → d'.reg b off = d.reg b off

/-- The place of the register that holds a field. -/
def Fld.place (f : Fld) : Blk × Nat := (f.blk, f.off)

/-- The evaluator is powered and out of reset: commands have their effects. -/
def Runs (s : State) : Prop := s.dev.power.mode = .on

/-- The state at the moment of a command: sample time has gone on to stamp `t` and `ns` nanoseconds into its tick. -/
def State.moment (s : State) (t : Stamp) (ns : Nat) : State := s.map (fun d => d.arrive t ns)

/-- A command's own effect takes the state, at the moment of the command, to `u`: the command answers `u` with everything that follows
of itself. -/
def Does (x : Host.Outcome State Fault Refusal) (u : State) : Prop := x = .next u.finish

/-- The evaluator runs, and `a` is its device at the moment of a command with stamp `t`, `ns` nanoseconds into the tick. -/
def At (s : State) (t : Stamp) (ns : Nat) (a : Dev) : Prop := Runs s ∧ s.dev.arrive t ns = a

/-- A command's own effect is on the device alone: it takes the device from `a` to `d`, in which every register but the listed ones is as
it was; memory and the queue stay as they are. -/
def Turns (x : Host.Outcome State Fault Refusal) (s : State) (l : List (Blk × Nat)) (a d : Dev) : Prop :=
  Does x { s with dev := d } ∧ sameRegsBut l a d

/-- The counters that a record of a class counts in (R513, Table FLT-15): FLT_CLASS_CNT of the class, and EVT_CNT. -/
def eventRegs (cls : Nat) : List (Blk × Nat) :=
  [(F.FLT_CLASS_CNT.COUNT cls).place, F.EVT_CNT_LO.V.place, F.EVT_CNT_HI.V.place]

/-- The registers that raising a fault of a class may write: those of its record, the groups under F3 and the device state, the first
cause and its time. -/
def faultRegs (cls : Nat) : List (Blk × Nat) :=
  eventRegs cls ++ [F.FLT_STATE.DEV_STATE.place, F.FLT_FIRST_CAUSE.CODE.place, F.FLT_FIRST_TIME_LO.TIME_LO.place, F.FLT_FIRST_TIME_HI.TIME_HI.place]

/-- The command at D of its ring is taken (R164, R176): the ring is ready, its descriptor lies in memory, the boot ring is not in use. -/
def Ready (a : Dev) (c : Sys2Proof.Cmd) : Prop :=
  a.cmdReady c.ring.val = true ∧ a.ringBar (a.ringDesc c.ring.val) = none ∧ a.on F.HST_STATUS.BOOT_RING = false

/-- The ring command is taken, its ring may carry S opcodes (R176), and only the listed bytes of its parameters are in use. -/
def Granted (a : Dev) (c : Sys2Proof.Cmd) (used : List Nat) : Prop :=
  Ready a c ∧ a.secureCmds c.ring.val = true ∧ c.reservedOk used = true

/-- The ring command is taken; its engine takes the device from `a` to `d`, in which every register but the listed ones is as it was, and
the command completes with `x`. -/
def Ends (y : Host.Outcome State Fault Refusal) (s : State) (c : Sys2Proof.Cmd) (l : List (Blk × Nat)) (a d : Dev) (x : Done) : Prop :=
  Does y ({ s with dev := d }.complete c x.code x.detail) ∧ sameRegsBut l a d

/-- The commands of the supplies and of GLOW, which have an effect whether or not the evaluator runs. -/
def supplyRow : Sys2Proof.Instr → Bool
  | .powerOnResetRelease _ _ _ _ _ _ => true
  | .allPowerLost _ => true
  | .brownOut _ _ _ => true
  | .externalReset _ _ => true
  | .rstNRise _ _ => true
  | .vbatLow _ => true
  | .vbatRestored _ => true
  | .glowSupplySwitchover _ _ => true
  | .wakeSource _ _ _ _ => true
  | .wakeFail _ _ => true
  | .standbyPowerOff _ => true
  | _ => false

/-- A full-word access of an SV pair, which is a secure master (Table WLD-1). -/
def Sv (acc : Access) : Prop := acc.master.val < 2 ∧ acc.be = 15#4

/-- The device right after a full-word secure write of `v` to the register at an offset of a block, before anything follows from it: each
field by its access code (R9). -/
def Dev.stored (d : Dev) (b : Blk) (off : Nat) (v : Word) : Dev := match findReg off (regDefs b) with
  | none => d
  | some (r, _, _) => d.storeReg r b off v.toNat (d.writable b off v.toNat 0xFFFFFFFF) 0 true

/-- The register is present, configuration is not locked by the seal, and its object leaves it open to writes (R2, R9). -/
def Open (d : Dev) (b : Blk) (off : Nat) (v : Word) : Prop :=
  absentReg d.part b off = false ∧ d.on F.BOT_STATUS.LOCKED = false ∧ d.frozen b off v.toNat 0xFFFFFFFF = 0

/-- The registers that recording a violation may write (R142): the entry at NEXT, the newest entry's repeats, NEXT and ENTRIES, the flag, and the
counters of its record. -/
def Dev.violRegs (d : Dev) : List (Blk × Nat) :=
  let n := d.fld F.WLD_VIOL_CNT.NEXT
  [(F.WLD_VLOG_ADDR.ADDR n).place, (F.WLD_VLOG_INFO.KIND n).place, (F.WLD_VLOG_TIME_LO.V n).place, (F.WLD_VLOG_TIME_HI.V n).place,
    (F.WLD_VLOG_INFO.REPEAT ((n + 15) % 16)).place, F.WLD_VIOL_CNT.NEXT.place, F.WLD_VIOL_FLAG.VIOLATION.place] ++ eventRegs 0

/-- The device when a command of the supplies finds it: at the command's stamp while the evaluator runs, else where it stood. -/
def AtPower (s : State) (t : Stamp) (a : Dev) : Prop :=
  a = if s.dev.power.mode = .on then s.dev.arrive t 0 else { s.dev with out := {} }

/-- What follows a command of the supplies of itself: everything that follows any command, if the evaluator then runs. -/
def State.after (u : State) : State := if u.dev.power.mode = .on then u.finish else u

end Sys2Proof.Machine
end

