-- ==== Sys2Proof/Certificates/Slice0/Obligations.lean ====
section
/-! DEFINITION. Certificates/Slice0/Obligations.lean: the statements for the provers, family by family of the command table. -/

open Sys2Proof Sys2Proof.Machine

/-! ### The queue, the idle step, memory, reset -/

/-- A step runs the command at the front of the queue on the state with the rest of the queue. -/
def Obligations.StepRunsFront : Prop :=
  ∀ (s : State) (c : Instr) (rest : List Instr), s.pending = c :: rest → step s = exec c { s with pending := rest }

/-- With assumption log 1, R56: on an empty queue a step is one tick of sample time, which wraps after 2^48 - 1. That the empty queue ticks is the
model's choice (log 1). -/
def Obligations.EmptyQueueTicks : Prop :=
  ∀ (s : State) (a : Dev), s.pending = [] → At s (s.dev.now + 1) 0 a →
    Does (step s) { s with dev := a } ∧ a.now = s.dev.now + 1 ∧ a.now.toNat = (s.dev.now.toNat + 1) % 2 ^ 48

/-- Every command answers a next state, none stops with a fault or a refusal, and no command touches the queue of waiting commands: what exec answers
has the queue it was given. -/
def Obligations.EveryCommandCompletes : Prop :=
  ∀ (c : Instr) (s : State), ∃ u, exec c s = .next u ∧ u.pending = s.pending

/-- Without power, or in reset, a command of the running evaluator has no effect (the model's reading, log 20): nothing but what the latest command
put out is cleared. -/
def Obligations.UnpoweredIgnores : Prop :=
  ∀ (c : Instr) (s : State), s.dev.power.mode ≠ .on → supplyRow c = false → exec c s = .next { s with dev := { s.dev with out := {} } }

/-- The memories of the state after reset are in canonical form. -/
def Obligations.ResetStoreCanonical : Prop := State.reset.store.wf = true

/-- Every step keeps the canonical form of the addressed memories and of the OTP words: addresses strictly rising, no entry equal to what an unlisted
address reads as. -/
def Obligations.StoreStaysCanonical : Prop :=
  ∀ s u : State, s.store.wf = true → step s = .next u → u.store.wf = true

/-- R117, its part on words 0 to 7: no command changes them. -/
def Obligations.OtpLowWordsFixed : Prop :=
  ∀ (c : Instr) (s u : State) (n : Nat), n < 8 → exec c s = .next u → otpWord u.store.otp n = otpWord s.store.otp n

/-- What the state after reset reads as. Every register holds the Reset value of its register table on the part: the device state is STARTUP, the
Endgame limits are 600 s, 86,400 s and 3,600 s, the watchdog's timeout 2,000 ms; no supply is on, no command waits. That host and device memory read 0
is the model's choice (log 4), and so is the part (log 2). -/
def Obligations.ResetRegisters : Prop :=
  (∀ (b : Blk) (off : Nat), State.reset.dev.reg b off = resetAt .dx8856 b off)
  ∧ State.reset.dev.fld F.FLT_STATE.DEV_STATE = 0 ∧ State.reset.dev.fld (F.FLT_EG_TIME.LIMIT_S 0) = 600
  ∧ State.reset.dev.fld (F.FLT_EG_TIME.LIMIT_S 1) = 86400 ∧ State.reset.dev.fld (F.FLT_EG_TIME.LIMIT_S 2) = 3600
  ∧ State.reset.dev.fld F.PWR_WDT_CFG.TIMEOUT_MS = 2000 ∧ State.reset.dev.power.mode = .off ∧ State.reset.pending = []
  ∧ ∀ x : Nat, memByte State.reset.store.mem x = 0 ∧ memByte State.reset.store.host x = 0

/-! ### Commands of CMD rings -/

/-- NOP completes with OK; an OPCODE that Table HST-10 does not list completes with BAD_OPCODE, whatever its ring. Neither changes a register before
its completion. Table HST-11, BAD_PARAM: an S opcode from a ring that may carry it, whose FLAGS or unused parameter bytes are not 0, has no effect but
its completion. -/
def Obligations.NopUnknownAndReservedBytes : Prop :=
  (∀ (s : State) (t : Stamp) (c : Sys2Proof.Cmd) (opcode : BitVec 16) (a : Dev), At s t 0 a → Ready a c →
    (opcode = 0 → c.reservedOk [] = true → Ends (exec (.nop t c opcode) s) s c [] a a .ok)
    ∧ (opcode ≠ 0 → Ends (exec (.nop t c opcode) s) s c [] a a ⟨1, 0⟩)) ∧
  (∀ (s : State) (t : Stamp) (c : Sys2Proof.Cmd) (a : Dev), At s t 0 a → Ready a c → a.secureCmds c.ring.val = true →
    (c.reservedOk [] = false → Ends (exec (.castle t c) s) s c [] a a .badParam)
    ∧ (c.reservedOk [8] = false → ∀ i ∈ [Instr.lampRearm t c, .pgClear t c, .groupRelease t c, .fbReset t c],
        Ends (exec i s) s c [] a a .badParam)
    ∧ (c.reservedOk [8, 9] = false → Ends (exec (.endgameAck t c) s) s c [] a a .badParam)
    ∧ (c.reservedOk [8, 9, 10] = false → Ends (exec (.aspectRequest t c) s) s c [] a a .badParam)
    ∧ (c.reservedOk [8, 12, 13, 14, 15] = false → Ends (exec (.blank t c) s) s c [] a a .badParam))

/-- R176: an S opcode from a ring that is not secure, or has SECURE_CMDS clear, completes with WORLD and has no other effect. An opcode marked owner
completes with WORLD, and has no other effect, on a ring that is neither secure nor of the instance's own world, and is executed on the others. -/
def Obligations.SecureOpcodesNeedSecureRing : Prop :=
  (∀ (s : State) (t : Stamp) (c : Sys2Proof.Cmd) (a : Dev), At s t 0 a → Ready a c → a.secureCmds c.ring.val = false →
    (∀ i ∈ [Instr.aspectRequest t c, .lampRearm t c, .pgClear t c, .sectionReset t c, .groupRelease t c, .endgameAck t c, .fbReset t c,
        .castle t c, .senThreshold t c, .blank t c, .appSend t c], Ends (exec i s) s c [] a a .world)
    ∧ (c.byte 8 < 112 → Ends (exec (.wmThreshold t c) s) s c [] a a .world))
  ∧ ∀ (s : State) (t : Stamp) (c : Sys2Proof.Cmd) (a : Dev), At s t 0 a → Ready a c →
    (a.ringSecure c.ring.val = false →
      (112 ≤ c.byte 8 → c.byte 8 < 128 → a.monNs (c.byte 8) = false → Ends (exec (.wmThreshold t c) s) s c [] a a .world)
      ∧ (a.streamNs (c.byte 8) (c.byte 9) = false → Ends (exec (.streamCtrl t c) s) s c [] a a .world)
      ∧ (a.serNs (c.byte 8) = false → Ends (exec (.serFlush t c) s) s c [] a a .world))
    ∧ ((a.ringSecure c.ring.val = true ∨ a.monNs (c.byte 8) = true) → 112 ≤ c.byte 8 → c.byte 8 < 128 →
        c.reservedOk [8, 10, 11, 12, 13] = true → ∀ (b : Dev) (x : Done), a.wmThreshold (c.byte 8) (c.half 10) (c.half 12) = (b, x) →
      Does (exec (.wmThreshold t c) s) ({ s with dev := b }.complete c x.code x.detail))
    ∧ ((a.ringSecure c.ring.val = true ∨ a.streamNs (c.byte 8) (c.byte 9) = true) → c.reservedOk [8, 9, 10, 11] = true → ∀ (u : State) (x : Done),
        State.streamCtrl (c.byte 8) (c.byte 9) (c.byte 10) (c.byte 11) { s with dev := a } = (u, x) →
      Does (exec (.streamCtrl t c) s) (u.complete c x.code x.detail))
    ∧ ((a.ringSecure c.ring.val = true ∨ a.serNs (c.byte 8) = true) → c.reservedOk [8] = true → c.byte 8 < 7 →
      Does (exec (.serFlush t c) s) ((State.serFlush (c.byte 8) { s with dev := a }).complete c 0 0))

/-- What completing a command writes (R174, Table HST-6), where no region is being zeroed and no ring snoops its doorbell word there: RESULT, DETAIL and
the DONE flag in bytes 24 to 26 of its descriptor, DONE_TIME in bytes 28 to 31, and no other byte of SRAM; the entry is then consumed. Consuming an entry advances D by one, DGEN counting the turns of the ring modulo 256
(R163, R164), and counts it for the interrupt conditions of R175. -/
def Obligations.CompletionWritesDescriptorAndAdvancesD : Prop :=
  (∀ (s : State) (c : Sys2Proof.Cmd) (code detail k : Nat), s.dev.place (s.dev.ringDesc c.ring.val + 24) = .sram k →
    s.dev.place (s.dev.ringDesc c.ring.val + 28) = .sram k →
    s.dev.violation (ringAccess c.ring.val) (s.dev.ringDesc c.ring.val + 24) true = none →
    s.dev.violation (ringAccess c.ring.val) (s.dev.ringDesc c.ring.val + 28) true = none →
    s.dev.stalled (s.dev.ringDesc c.ring.val) = s.dev →
    (∀ n < 64, s.dev.ringRuns n = true → s.dev.fld (F.HST_RING_CFG.DISC n) = 0 →
      s.dev.fld (F.HST_RING_DB.DB_ADDR n) * 4 < s.dev.ringDesc c.ring.val + 24 ∨ s.dev.ringDesc c.ring.val + 32 ≤ s.dev.fld (F.HST_RING_DB.DB_ADDR n) * 4) →
    let a := s.dev.ringDesc c.ring.val
    let m := (s.complete c code detail).store.mem
    (s.complete c code detail).dev =
        (s.dev.consume c.ring.val (c.flags.getLsbD 0)).modRing c.ring.val (fun r => { r with ranAt := some s.dev.now })
      ∧ memByte m (a + 24) = BitVec.ofNat 8 code ∧ memByte m (a + 25) = BitVec.ofNat 8 detail ∧ memByte m (a + 26) = 1
      ∧ (∀ j < 4, memByte m (a + 28 + j) = BitVec.ofNat 8 (s.dev.now.toNat / 256 ^ j))
      ∧ ∀ x, ¬ (a + 24 ≤ x ∧ x < a + 27) → ¬ (a + 28 ≤ x ∧ x < a + 32) → memByte m x = memByte s.store.mem x) ∧
  (∀ (d : Dev) (n : Nat) (irq : Bool), n < 64 → d.fld (F.HST_RING_CFG.LOG2SIZE n) ≤ 16 →
    let e := d.consume n irq
    let p := (d.ringPos n + 1) % (256 * d.ringSize n)
    e.fld (F.HST_RING_IDX.DIDX n) = p % d.ringSize n ∧ e.fld (F.HST_RING_IDX.DGEN n) = p / d.ringSize n
      ∧ (e.ring n).unsig = (d.ring n).unsig + 1 ∧ (e.ring n).wbDue = true ∧ ((e.ring n).irqDue = ((d.ring n).irqDue || irq))
      ∧ sameRegsBut [(F.HST_RING_IDX.DIDX n).place] d e)

/-- The detail with which an aspect request is refused (Table HST-10's list for ASPECT_REQUEST), 0 when it is taken. -/
def Obligations.AspectRequests : Prop :=
  ∀ (s : State) (t : Stamp) (c : Sys2Proof.Cmd) (a : Dev), At s t 0 a → Granted a c [8, 9, 10] → c.byte 8 < 16 → c.byte 9 < 16 →
    c.byte 10 < 2 →
    ∀ det : Nat, det = (if a.sigOn (c.byte 8) = false ∨ a.has .sigConfig (.sig (c.byte 8)) = true then 1
      else if a.fld (F.LMP_SIG_CFG.REQ_SRC (c.byte 8)) = 1 then 2
      else if a.fld (F.LMP_SIG_CFG.TOP_ASPECT (c.byte 8)) < c.byte 9 then 3
      else if a.bitOf (F.LMP_SIG_STAT.UNUSABLE (c.byte 8)) (c.byte 9) = true then 4 else 0) →
    (det = 0 → Ends (exec (.aspectRequest t c) s) s c [(F.LMP_SIG_STAT.REQUESTED (c.byte 8)).place] a
      ((a.setFld (F.LMP_SIG_STAT.REQUESTED (c.byte 8)) (c.byte 9)).setBit (F.LMP_SIG_STAT.NIGHT (c.byte 8)) (c.byte 10 = 1)) .ok)
    ∧ (det ≠ 0 → Ends (exec (.aspectRequest t c) s) s c ((F.LMP_SIG_STAT.REQUESTED (c.byte 8)).place :: eventRegs 0) a
      ((a.setFld (F.LMP_SIG_STAT.REQUESTED (c.byte 8)) 0).raise .aspectRefused (.sig (c.byte 8)) (payR 1 det c.origin c.tag.toNat))
      (.refused det))

/-- LAMP_REARM and PG_CLEAR: absent instances, an accepted clear, a refusal with its sticky bit and its record (R347, R348, R315, R316). An accepted
LAMP_REARM ends every cause of the lamp, counts toward its history after LAMP_SHORT_SUPPLY, clears the lamp's counters, clears a tripped generator as
PG_CLEAR would, and raises LAMP_REARMED. R33: a group that shows no F3 cause any more leaves F3 and FLT_GROUP_RELEASED is raised; while a cause is
present the command is refused with detail 1; a group not under F3 completes with OK. ENDGAME_ACK of a cause or object outside Table FLT-4 is
BAD_PARAM, of an absent object ABSENT. -/
def Obligations.ReArmClearReleaseAndAck : Prop :=
  (∀ (s : State) (t : Stamp) (c : Sys2Proof.Cmd) (a b : Dev) (k : Nat), At s t 0 a → Granted a c [8] → c.byte 8 = k → a.pgShow k = b →
    (48 ≤ k → Ends (exec (.lampRearm t c) s) s c [] a a .badParam)
    ∧ (64 ≤ k → Ends (exec (.pgClear t c) s) s c [] a a .badParam)
    ∧ (k < 48 → a.part.hasLamp k = false → Ends (exec (.lampRearm t c) s) s c [] a a .absent)
    ∧ (k < 64 → a.part.hasPg k = false → Ends (exec (.pgClear t c) s) s c [] a a .absent)
    ∧ (k < 64 → a.part.hasPg k = true →
      (b.pgClearRefusal k = 0 → Ends (exec (.pgClear t c) s) s c [(F.PGN_STAT.STATE k).place, (F.PGN_TRIP_CNT.CLEARS k).place] a
        (((b.setFld (F.PGN_STAT.CLEAR_PENDING k) 1).inc (F.PGN_TRIP_CNT.CLEARS k)).clear .ssoFeedback (.pg k)) .ok)
      ∧ (b.pgClearRefusal k ≠ 0 → Ends (exec (.pgClear t c) s) s c
          ([(F.PGN_STAT.STATE k).place, (F.PGN_FLAG.CLEAR_REFUSED k).place, (F.PGN_TRIP_CNT.REFUSALS k).place] ++ eventRegs 0) a
          (((b.setFld (F.PGN_FLAG.CLEAR_REFUSED k) 1).inc (F.PGN_TRIP_CNT.REFUSALS k)).raise .pgClearRefused (.pg k)
            (payR 3 (b.pgClearRefusal k) c.origin c.tag.toNat)) (.refused (b.pgClearRefusal k))))
    ∧ (k < 48 → a.part.hasLamp k = true →
      (b.rearmRefusal k = 0 → ∀ d : Dev, d = (((b.rearmBegin k).lampClear k).raise .lampRearmed (.lamp k) (payR 2 0 c.origin
          c.tag.toNat)).decide (evCode .lampRearmed) (.lamp k) (leBytes 1 2 ++ leBytes 1 0 ++ leBytes 1 c.origin ++ leBytes 1 0 ++ beBytes 4 c.tag.toNat) →
        Does (exec (.lampRearm t c) s) ({ s with dev := d }.complete c 0 0) ∧ (∀ x ∈ (b.rearmBegin k).causes, x.src ≠ Src.lamp k))
      ∧ (b.rearmRefusal k ≠ 0 → Ends (exec (.lampRearm t c) s) s c
          ([(F.PGN_STAT.STATE k).place, (F.LMP_FLAG.REARM_REFUSED k).place] ++ eventRegs 0) a
          ((b.setFld (F.LMP_FLAG.REARM_REFUSED k) 1).raise .lampRearmRefused (.lamp k) (payR 2 (b.rearmRefusal k) c.origin c.tag.toNat))
          (.refused (b.rearmRefusal k))))) ∧
  (∀ (s : State) (t : Stamp) (c : Sys2Proof.Cmd) (a : Dev), At s t 0 a →
    (Granted a c [8] → c.byte 8 < 8 →
      (a.groupCause (c.byte 8) = true → Ends (exec (.groupRelease t c) s) s c [] a a (.refused 1))
      ∧ (a.groupCause (c.byte 8) = false → a.underF3 (c.byte 8) = false → Ends (exec (.groupRelease t c) s) s c [] a a .ok)
      ∧ (a.groupCause (c.byte 8) = false → a.underF3 (c.byte 8) = true → Ends (exec (.groupRelease t c) s) s c
          (F.FLT_STATE.F3_GROUPS.place :: eventRegs 0) a ((a.setBitOf F.FLT_STATE.F3_GROUPS (c.byte 8) false).raise .fltGroupReleased
            (.group (c.byte 8)) (payR 2 0 c.origin c.tag.toNat)) .ok))
    ∧ (Granted a c [8, 9] →
      ((c.byte 8 = 0 ∨ 3 < c.byte 8) → Ends (exec (.endgameAck t c) s) s c [] a a .badParam)
      ∧ (c.byte 8 = 1 → c.byte 9 < 32 → a.part.hasHead (c.byte 9) = false → Ends (exec (.endgameAck t c) s) s c [] a a .absent)
      ∧ (1 ≤ c.byte 8 → c.byte 8 ≤ 3 → c.byte 9 < (if c.byte 8 = 1 then 32 else if c.byte 8 = 2 then 48 else 1) →
          a.part.lacksEg (c.byte 8) (c.byte 9) = false → a.egExpiry = [] →
          Does (exec (.endgameAck t c) s) (let det := a.ackRefusal (c.byte 8) (c.byte 9)
            if det = 0 then { s with dev := a.ackAccept (c.byte 8) (c.byte 9) }.complete c 0 0 else { s with dev := a }.complete c 5 det))))

/-- SECTION_RESET (R265, R267): the judged authorisation stands in SEC_LAST_RESET; an accepted one counts in RESETS, raises SEC_RESET_DONE and has the
effect of its procedure; a refused one counts in REFUSALS and raises SEC_RESET_REFUSED with its detail of Table SEC-4. FB_RESET (R373): a refused one
sets RESET_REFUSED and raises FB_RESET_REFUSED with its detail of Table SAF-2; an accepted one brings RUN with BEYOND clear and ends SO_STUCK_OFF of
the outputs the function selects. CASTLE (R488): a refused one has its detail of Table TWN-3 and no other effect; an accepted one plans the boundary
B. -/
def Obligations.SectionAndFunctionResetsAndCastle : Prop :=
  (∀ (s : State) (t : Stamp) (c : Sys2Proof.Cmd) (a b : Dev) (n proc det : Nat), At s t 0 a → Granted a c [8, 9, 12, 13, 14, 15] →
    c.byte 8 = n → c.byte 9 = proc → n < 64 → 1 ≤ proc → proc ≤ 3 → det = a.secRefusal n proc (a.on (F.SEC_RESET.AUTH_FW n)) →
    b = (((((a.setFld (F.SEC_LAST_RESET.PROC n) proc).setFld (F.SEC_LAST_RESET.SOURCE n) 2).setBit (F.SEC_LAST_RESET.REFUSED n)
      (det ≠ 0)).setFld (F.SEC_LAST_RESET.DETAIL n) det).setFld (F.SEC_RESET_REF.REFERENCE n) (c.word 12)) →
    (det = 0 → ∀ d : Dev, d = ((b.inc (F.SEC_STAT_CNT.RESETS n)).raise .secResetDone (.sec n) (payR proc 0 c.origin (c.word 12))).secReset n
        proc → Does (exec (.sectionReset t c) s) ({ s with dev := d }.complete c 0 0))
    ∧ (det ≠ 0 → Ends (exec (.sectionReset t c) s) s c
        ([(F.SEC_LAST_RESET.PROC n).place, (F.SEC_RESET_REF.REFERENCE n).place, (F.SEC_STAT_CNT.REFUSALS n).place] ++ eventRegs 0) a
        ((b.inc (F.SEC_STAT_CNT.REFUSALS n)).raise .secResetRefused (.sec n) (payR proc det c.origin (c.word 12))) (.refused det))) ∧
  (∀ (s : State) (t : Stamp) (c : Sys2Proof.Cmd) (a : Dev), At s t 0 a →
    (∀ f det : Nat, Granted a c [8] → c.byte 8 = f → a.fbRefusal f false = det →
      (16 ≤ f → Ends (exec (.fbReset t c) s) s c [] a a .badParam)
      ∧ (f < 16 → det ≠ 0 → Ends (exec (.fbReset t c) s) s c ((F.SAF_FB_STAT.STATE f).place :: eventRegs 0) a
          ((a.setFld (F.SAF_FB_STAT.RESET_REFUSED f) 1).raise .fbResetRefused (.fb f) (payR 4 det c.origin c.tag.toNat)) (.refused det))
      ∧ (f < 16 → det = 0 → ∀ b d : Dev, b = (a.modFb f (fun x => { x with dflag := false, shown := false, frozen := false })).setFld
            (F.SAF_FB_STAT.BEYOND f) 0 →
          d = forL (bitsOf 8 ((b.fbTo f 1).fld (F.SAF_FB_ACT.SO f))) (fun o d => d.clear .soStuckOff (.so o)) (b.fbTo f 1) →
          Does (exec (.fbReset t c) s) ({ s with dev := d }.complete c 0 0)))
    ∧ (Granted a c [] →
      (a.castleRefusal false ≠ 0 → Ends (exec (.castle t c) s) s c [] a a (.refused (a.castleRefusal false)))
      ∧ (a.castleRefusal false = 0 → ∀ (x : Stamp) (b : Dev), x = ceilStamp 1000 (a.now.plus (a.fld F.TWN_TIME.CASTLE_LEAD * 100)) →
          b = ((a.setFld F.TWN_CASTLE_B_LO.V (x.toNat % 2 ^ 32)).setFld F.TWN_CASTLE_B_HI.V (x.toNat / 2 ^ 32)).setFld F.TWN_STAT.CASTLING 1 →
          Does (exec (.castle t c) s)
            ({ s with dev := (b.modTwin (fun w => { w with plan := some ⟨x, 1, false⟩, planAt := a.now })).castleSend 1 x 1 }.complete c 0 0))))

/-- SEN_THRESHOLD (R229): no such channel, an absent one, a channel no enabled local head uses, thresholds that Table HED-1 refuses, and thresholds
that apply. WM_THRESHOLD (R291, R298): codes out of order or range, an absent monitor; a monitor in a test takes them when the test ends; one that is off
takes them at once, and one that is on is blanked for 2 µs from now, whatever its codes were. BLANK (R202): a mask of 0 or a
duration outside 10 to 10,000 µs is BAD_PARAM, an absent bank ABSENT, a duration above a bank's LIMIT_US is refused with detail 1, a held bank with
detail 2; otherwise each bank is blanked up to the end of the duration, and a blank that ends later stays. -/
def Obligations.ThresholdAndBlankCommands : Prop :=
  (∀ (s : State) (t : Stamp) (c : Sys2Proof.Cmd) (a : Dev), At s t 0 a →
    (∀ (n : Nat) (damp rel lo hi : Int), Granted a c [8, 10, 11, 12, 13, 14, 15, 16, 17] → c.byte 8 = n → codeAt c 10 = damp →
      codeAt c 12 = rel → codeAt c 14 = lo → codeAt c 16 = hi →
      (64 ≤ n → Ends (exec (.senThreshold t c) s) s c [] a a .badParam)
      ∧ (n < 64 → a.part.hasChan n = false → Ends (exec (.senThreshold t c) s) s c [] a a .absent)
      ∧ (n < 64 → a.part.hasChan n = true → a.sysOfChan n = none → Ends (exec (.senThreshold t c) s) s c [] a a (.refused 5))
      ∧ (n < 64 → a.part.hasChan n = true → ∀ h x, a.sysOfChan n = some (h, x) →
          (damp = rel → Ends (exec (.senThreshold t c) s) s c [] a a (.refused 1))
          ∧ (damp ≠ rel → hi < lo → Ends (exec (.senThreshold t c) s) s c [] a a (.refused 2))
          ∧ (damp ≠ rel → lo ≤ hi → (if rel < damp then rel < hi else lo < rel) → Ends (exec (.senThreshold t c) s) s c [] a a (.refused 3))
          ∧ (x = 0 → damp ≠ rel → lo ≤ hi → (if rel < damp then hi ≤ rel else rel ≤ lo) → a.fld (F.HED_OPEN.OPEN_CODE h) ≤ damp.natAbs →
              a.fld (F.HED_OPEN.OPEN_CODE h) ≤ rel.natAbs →
              Ends (exec (.senThreshold t c) s) s c [(F.HED_THR_DAMP.DAMP_A h).place, (F.HED_THR_REL.REL_A h).place, (F.HED_BAND_A.LO h).place]
                a (((((a.setSFld (F.HED_THR_DAMP.DAMP_A h) damp).setSFld (F.HED_THR_REL.REL_A h) rel).setSFld (F.HED_BAND_A.LO h) lo).setSFld
                  (F.HED_BAND_A.HI h) hi).modSys h 0 (fun y => { y with run := none, openAt := none, bandAt := none })) .ok)))
    ∧ (∀ n up low : Nat, Granted a c [8, 10, 11, 12, 13] → c.byte 8 = n → c.half 10 = up → c.half 12 = low → n < 112 →
      (1023 < up ∨ up < low → Ends (exec (.wmThreshold t c) s) s c [] a a .badParam)
      ∧ (up ≤ 1023 → low ≤ up → a.part.hasWm n = false → Ends (exec (.wmThreshold t c) s) s c [] a a .absent)
      ∧ (up ≤ 1023 → low ≤ up → a.part.hasWm n = true →
          Does (exec (.wmThreshold t c) s) ({ s with dev := (a.winLoad n up low).winJudge n }.complete c 0 0)
          ∧ (a.winTesting n = true → a.winLoad n up low = a.modMon n (fun k => { k with thrDue := some (up, low) }))
          ∧ (a.winTesting n = false → a.winOn n = false →
              a.winLoad n up low = (a.setFld (F.WIN_THR.UPPER n) up).setFld (F.WIN_THR.LOWER n) low)
          ∧ (a.winTesting n = false → a.winOn n = true → (a.winLoad n up low).fld (F.WIN_THR.UPPER n) = up
              ∧ (a.winLoad n up low).fld (F.WIN_THR.LOWER n) = low ∧ ((a.winLoad n up low).mon n).settle = some (a.after 2000)
              ∧ (a.winLoad n up low).on (F.WIN_STAT.SETTLING n) = true)))) ∧
  (∀ (s : State) (t : Stamp) (c : Sys2Proof.Cmd) (a : Dev) (dur : Nat), At s t 0 a → Granted a c [8, 12, 13, 14, 15] → c.word 12 = dur →
    ((c.byte 8 = 0 ∨ dur < 10 ∨ 10000 < dur) → Ends (exec (.blank t c) s) s c [] a a .badParam)
    ∧ (c.byte 8 ≠ 0 → 10 ≤ dur → dur ≤ 10000 →
      ((∃ b ∈ bitsOf 8 (c.byte 8), a.part.hasBank b = false) → Ends (exec (.blank t c) s) s c [] a a .absent)
      ∧ ((∀ b ∈ bitsOf 8 (c.byte 8), a.part.hasBank b = true) →
        ((∃ b ∈ bitsOf 8 (c.byte 8), a.fld (F.HAZ_BANK_BLANK_T.LIMIT_US b) < dur) → Ends (exec (.blank t c) s) s c [] a a (.refused 1))
        ∧ ((∀ b ∈ bitsOf 8 (c.byte 8), dur ≤ a.fld (F.HAZ_BANK_BLANK_T.LIMIT_US b)) →
          ((∃ b ∈ bitsOf 8 (c.byte 8), a.on (F.HAZ_BANK_STAT.HELD b) = true) → Ends (exec (.blank t c) s) s c [] a a (.refused 2))
          ∧ ((∀ b ∈ bitsOf 8 (c.byte 8), a.on (F.HAZ_BANK_STAT.HELD b) = false) → ∀ d : Dev,
            d = forL (bitsOf 8 (c.byte 8)) (fun b d => (d.modBank b (fun k => { k with cmdEnd := match k.cmdEnd with
              | some x => if x.later (a.now.plus dur) then some x else some (a.now.plus dur)
              | none => some (a.now.plus dur) })).bankEval b) a →
            Does (exec (.blank t c) s) ({ s with dev := d }.complete c 0 0))))))

/-- APP_SEND without an open session is refused (Table HST-10 gives the reason no number: the detail is a free value, log 21); on an open one the
payload read from SRAM goes into the session as an APP message (R466). STREAM_CTRL (R196) starts a source on a ring of type STRM of its own world,
beside any other ring it streams to, and stops it on that ring alone, whose buffer then completes; SER_FLUSH (R404) without a bound SER_RX ring, or
without a buffer in progress, only completes. BOOT_IMAGE (R176, R178): a ring that is not the boot ring completes it with WORLD; on the boot ring the
first one is taken: with the PCIe link down it completes with MEM_ERROR, an image with a reason of Table BOT-5 is refused with that reason, and its
entry is consumed. -/
def Obligations.MessageStreamFlushAndBootImage : Prop :=
  (∀ (s : State) (t : Stamp) (c : Sys2Proof.Cmd) (a : Dev), At s t 0 a →
    (Granted a c [8, 12, 13, 14, 15, 16, 17] →
      ((4 ≤ c.byte 8 ∨ 1024 < c.half 16) → Ends (exec (.appSend t c) s) s c [] a a .badParam)
      ∧ (c.byte 8 < 4 → c.half 16 ≤ 1024 → a.part.hasPort (c.byte 8) = true →
        (a.kvtOpen (c.byte 8) = false → Ends (exec (.appSend t c) s) s c [] a a (.refused Config.freeDetail.toNat))
        ∧ (a.kvtOpen (c.byte 8) = true → (∃ k, a.place (c.word 12) = .sram k) →
            (∀ x, c.word 12 ≤ x → x < c.word 12 + c.half 16 → (∃ k, a.place x = .sram k)
              ∧ a.violation (ringAccess c.ring.val) x false = none ∧ a.stalled x = a) →
            Does (exec (.appSend t c) s) ({ s with dev := a.appSend (c.byte 8) (memRead s.store.mem (c.word 12) (c.half 16)) }.complete c 0 0))))
    ∧ (∀ n ring : Nat, Ready a c → c.reservedOk [8, 9, 10, 11] = true → c.byte 8 = 0 → c.byte 9 = n → c.byte 11 = ring → n < 64 → ring < 64 →
        a.part.hasChan n = true → a.ringSecure c.ring.val = true → a.fld (F.HST_RING_CFG.TYPE ring) = 2 →
        a.ringSecure ring = !a.bankNs (n / 8) →
        (c.byte 10 = 1 → ring ∉ (a.chan n).streams →
          Ends (exec (.streamCtrl t c) s) s c [] a (a.modChan n (fun k => { k with streams := (a.chan n).streams ++ [ring] })) .ok)
        ∧ (c.byte 10 = 1 → ring ∈ (a.chan n).streams → Ends (exec (.streamCtrl t c) s) s c [] a a .ok)
        ∧ (c.byte 10 = 0 → ring ∉ (a.chan n).streams → Ends (exec (.streamCtrl t c) s) s c [] a a .ok)
        ∧ (c.byte 10 = 0 → ring ∈ (a.chan n).streams → ∀ b : Dev,
            b = a.modChan n (fun k => { k with streams := (a.chan n).streams.filter (fun r => r ≠ ring) }) →
            Does (exec (.streamCtrl t c) s) ((State.bufFlush ring { s with dev := b }).complete c 0 0)))
    ∧ (Ready a c → c.reservedOk [8] = true → c.byte 8 < 7 → a.ringSecure c.ring.val = true →
        (a.boundRing 5 (c.byte 8) = none → Ends (exec (.serFlush t c) s) s c [] a a .ok)
        ∧ (∀ r, a.boundRing 5 (c.byte 8) = some r → Does (exec (.serFlush t c) s) ((State.bufFlush r { s with dev := a }).complete c 0 0)))) ∧
  (∀ (s : State) (t : Stamp) (c : Sys2Proof.Cmd) (a : Dev), At s t 0 a →
    (Ready a c → Ends (exec (.bootImage t c) s) s c [] a a .world)
    ∧ (a.on F.HST_STATUS.BOOT_RING = true → c.ring.val = 0 → a.boot.taken = false → a.cmdReady 0 = true → a.boot.scanned = true →
      c.reservedOk [8, 9, 10, 11, 12, 13, 14, 15, 16, 17, 18, 19] = true → ∀ b : Dev, b = { a with boot := { a.boot with taken := true } } →
      (a.on F.HST_STATUS.LINK_UP = false → Ends (exec (.bootImage t c) s) s c [] a b ⟨6, 0⟩)
      ∧ (a.on F.HST_STATUS.LINK_UP = true → ∀ r : Nat,
          r = imgReason a.part s.store.otp (memRead s.store.host (c.word 8 + c.word 12 * 2 ^ 32) (min (c.word 16) 4194304)) → r ≠ 0 →
          Does (exec (.bootImage t c) s) (({ s with dev := b }.complete c 5 r).bootRefuse 2 r))))

/-! ### Register writes that act: resets, watchdog, clock, boot, OTP -/

/-- S and N by software (R99, R103, R104): a full-word write of the key 0x5C3A with S set applies S, or waits while the evaluator holds; with only N
set it applies N; a function-level reset is N of the PCIe function. R99, R94: a write of PWR_SW_RESET without its key, or of BOT_CTRL without its key
or outside commissioning, resets nothing: it changes no register but its own. -/
def Obligations.SoftwareResetsNeedTheirKeys : Prop :=
  ((∀ (s : State) (t : Stamp) (acc : Access) (v : Word) (chain : List (BitVec 64)) (a b : Dev), At s t 0 a → Sv acc →
    v.toNat % 65536 = 0x5C3A → v.getLsbD 16 = true →
    b = { a with boot := { a.boot with chain := chain } }.stored .pwr O.PWR_SW_RESET v →
    (a.fld F.PWR_STATE.STATE ≠ 2 → a.boot.running = false →
      Does (exec (.secureWorldReset t acc v chain) s) (State.secureReset (if v.getLsbD 17 then 2 ^ Rst.n.bit else 0) { s with dev := b }))
    ∧ (a.fld F.PWR_STATE.STATE = 2 → Turns (exec (.secureWorldReset t acc v chain) s) s [(.pwr, O.PWR_SW_RESET)] a
        { b with power := { b.power with waitS := true, waitN := b.power.waitN || v.getLsbD 17 } }))
  ∧ (∀ (s : State) (t : Stamp) (acc : Access) (v : Word) (a : Dev), At s t 0 a →
    (Sv acc → v.toNat % 65536 = 0x5C3A → v.getLsbD 16 = false → v.getLsbD 17 = true → a.fld F.PWR_STATE.STATE ≠ 2 →
      Does (exec (.nonSecureWorldReset t acc v false) s) (State.nonSecureReset false { s with dev := a.stored .pwr O.PWR_SW_RESET v }))
    ∧ (a.on F.HST_STATUS.LINK_UP = true →
      Does (exec (.nonSecureWorldReset t acc v true) s) (State.nonSecureReset true { s with dev := a }))
    ∧ (a.on F.HST_STATUS.LINK_UP = false → Turns (exec (.nonSecureWorldReset t acc v true) s) s [] a a))) ∧
  (∀ (s : State) (t : Stamp) (acc : Access) (v : Word) (a : Dev), At s t 0 a → Sv acc →
    (v.toNat % 65536 ≠ 0x5C3A → Turns (exec (.nonSecureWorldReset t acc v false) s) s [(.pwr, O.PWR_SW_RESET)] a
      (a.stored .pwr O.PWR_SW_RESET v))
    ∧ ((v.toNat % 65536 ≠ 0x7A19 ∨ v.getLsbD 16 = false ∨ a.on F.BOT_STATUS.COMMISSIONING = false) →
      Turns (exec (.reload t acc v) s) s [(.bot, O.BOT_CTRL)] a (a.stored .bot O.BOT_CTRL v)))

/-- R94, R124: a kick of 0x6B1E not before WINDOW_MIN_MS restarts the watchdog's count and counts in KICKS; a wrong value or an early kick applies W.
RELOAD with its key while commissioning applies X. R91: a secure write of PWR_RTC_SEC sets the RTC and clears its sub-seconds, and shifts every stored
expiry and the snapshot's time by the difference. -/
def Obligations.WatchdogKickReloadAndRtcSet : Prop :=
  (∀ (s : State) (t : Stamp) (acc : Access) (v : Word) (a b : Dev), At s t 0 a → Sv acc → b = a.stored .pwr O.PWR_WDT_KICK v →
    (v.toNat % 65536 = 0x6B1E → a.fld F.PWR_WDT_CFG.WINDOW_MIN_MS ≤ a.wdtMs →
      Turns (exec (.wdtKick t acc v) s) s [(.pwr, O.PWR_WDT_KICK), F.PWR_WDT_STAT.KICKS.place] a
        { b.incWrap F.PWR_WDT_STAT.KICKS with power := { b.power with wdtUs := 0 } })
    ∧ (v.toNat % 65536 ≠ 0x6B1E ∨ a.wdtMs < a.fld F.PWR_WDT_CFG.WINDOW_MIN_MS →
      Does (exec (.wdtKick t acc v) s) (State.resetBoot .w 0 { s with dev := b }))
    ∧ (v.toNat % 65536 = 0x7A19 → v.getLsbD 16 = true → a.on F.BOT_STATUS.COMMISSIONING = true →
      Does (exec (.reload t acc v) s) (State.resetBoot .x 0 { s with dev := a.stored .bot O.BOT_CTRL v }))) ∧
  (∀ (s : State) (t : Stamp) (acc : Access) (v : Word) (a b : Dev), At s t 0 a → Sv acc → b = a.stored .pwr O.PWR_RTC_SEC v →
    b.fld F.PWR_RTC_SEC.SEC = v.toNat
    ∧ ∃ u : State, Does (exec (.rtcSet t acc v) s) u ∧ u.dev = b.setFld F.PWR_RTC_SUB.SUB 0
      ∧ u = (State.egShift ((v.toNat + 2 ^ 32 - a.fld F.PWR_RTC_SEC.SEC) % 2 ^ 32) { s with dev := b.setFld F.PWR_RTC_SUB.SUB 0 }).snapShift
        ((v.toNat + 2 ^ 32 - a.fld F.PWR_RTC_SEC.SEC) % 2 ^ 32)
      ∧ u.store.host = s.store.host ∧ u.store.otp = s.store.otp
      ∧ ∀ x, ¬ (retBase ≤ x ∧ x < retBase + 0x1B0) → memByte u.store.mem x = memByte s.store.mem x)

/-- R117: BOT_OTP_CMD.READ reads the word at ADDR into DATA. PROGRAM while the seal in force is 0xFFFFFFFF ORs DATA into a word from 8 up; under any
other seal, or for words 0 to 7, the command is refused and no word changes. A word that reads back otherwise raises OTP_PROG_FAIL. -/
def Obligations.OtpCommands : Prop :=
  ∀ (s : State) (t : Stamp) (acc : Access) (a : Dev) (n : Nat), At s t 0 a → Sv acc → a.fld F.BOT_OTP_ADDR.WORD = n →
    (∃ d, Turns (exec (.otpRead t acc) s) s [F.BOT_OTP_DATA.DATA.place, F.BOT_OTP_CMD.REFUSED.place] a d
      ∧ d.fld F.BOT_OTP_DATA.DATA = (otpWord s.store.otp n).toNat)
    ∧ ((a.fld F.BOT_SEAL_IN_FORCE.CODE ≠ 0xFFFFFFFF ∨ n < 8) → ∀ back, ∃ d, Turns (exec (.otpProgram t acc back) s) s
        [F.BOT_OTP_CMD.REFUSED.place] a d ∧ d.on F.BOT_OTP_CMD.REFUSED = true)
    ∧ (a.fld F.BOT_SEAL_IN_FORCE.CODE = 0xFFFFFFFF → 8 ≤ n → ∀ w : Word,
        w = otpWord s.store.otp n ||| BitVec.ofNat 32 (a.fld F.BOT_OTP_DATA.DATA) →
        (∃ u, Does (exec (.otpProgram t acc none) s) u ∧ u.store = { s.store with otp := tabPut 0 s.store.otp n w }
          ∧ u.dev.on F.BOT_OTP_CMD.REFUSED = false ∧ sameRegsBut [F.BOT_OTP_CMD.REFUSED.place] a u.dev)
        ∧ (∀ x : Word, x ≠ w → ∃ u, Does (exec (.otpProgram t acc (some x)) s) u
            ∧ u.store = { s.store with otp := tabPut 0 s.store.otp n x } ∧ u.dev.on F.BOT_OTP_CMD.REFUSED = true
            ∧ u.dev.evq = a.evq ++ [⟨.otpProgFail, .bot, a.now, padTo 20 0 (payF a 0 0 (leBytes 1 n))⟩]))

/-! ### Register writes that act: front end, serial and network ports, keys -/

/-- Writes of one-shot controls (chapters 08, 15, 16): HAZ_CH_PEAK_CLR restarts MIN and MAX of the channel; AB_ARM, CARD_ARM and CARD_STOP act on the
port (R406, R410); RELEASE lets a held port train again (R443). -/
def Obligations.ControlWrites : Prop :=
  (∀ (s : State) (t : Stamp) (acc : Access) (n : Fin 64) (a b : Dev), At s t 0 a → Sv acc → Open a .haz (O.HAZ_CH_PEAK_CLR + 0x40 * n.val) 1 →
    b = a.stored .haz (O.HAZ_CH_PEAK_CLR + 0x40 * n.val) 1 →
    Turns (exec (.peakClear t acc n) s) s [(.haz, O.HAZ_CH_PEAK_CLR + 0x40 * n.val), (F.HAZ_CH_PEAK.MIN n.val).place] a
      ((b.setReg .haz (F.HAZ_CH_PEAK.MIN n.val).off 0).modChan n.val (fun k => { k with seen := false })))
  ∧ (∀ (s : State) (t : Stamp) (acc : Access) (n : Fin 7) (a b : Dev), At s t 0 a → Sv acc →
    (b = a.stored .ser (O.SER_CTRL + 0x80 * n.val) 1 → a.serRuns n.val = true → a.serMode n.val = 1 → a.on (F.SER_AB_CFG.AB_EN n.val) = true →
      Turns (exec (.abArm t acc n) s) s [(.ser, O.SER_CTRL + 0x80 * n.val), (F.SER_STAT.AB_STATE n.val).place] a
        (((b.modSer n.val (fun q => { q with fails := 0 })).modSer n.val (fun q => { q with quiet := false, armAt := a.now })).setFld
          (F.SER_STAT.AB_STATE n.val) 1))
    ∧ (b = a.stored .ser (O.SER_CTRL + 0x80 * n.val) 2 →
      (a.serRuns n.val = true → a.serMode n.val = 2 → a.on (F.SER_STAT.CARD_PRESENT n.val) = true →
        a.on (F.SER_STAT.CARD_ACTIVE n.val) = false →
        Turns (exec (.cardArm t acc n) s) s [(.ser, O.SER_CTRL + 0x80 * n.val), (F.SER_STAT.CARD_ACTIVE n.val).place] a
          ((((b.setFld (F.SER_STAT.CARD_ACTIVE n.val) 1).setFld (F.SER_STAT.INVERSE n.val) 0).setFld (F.SER_STAT.LINE n.val) 1).modSer n.val
            (fun q => { q with ts := true, tries := 0, gone := false })))
      ∧ (a.on (F.SER_STAT.CARD_PRESENT n.val) = false →
        Turns (exec (.cardArm t acc n) s) s [(.ser, O.SER_CTRL + 0x80 * n.val), (F.SER_FLAG.PARITY n.val).place] a (b.serFlag n.val 12)))
    ∧ (b = a.stored .ser (O.SER_CTRL + 0x80 * n.val) 4 →
      Turns (exec (.cardStop t acc n) s) s [(.ser, O.SER_CTRL + 0x80 * n.val), (F.SER_STAT.CARD_ACTIVE n.val).place] a
        (((b.setFld (F.SER_STAT.CARD_ACTIVE n.val) 0).setFld (F.SER_STAT.LINE n.val) 0).modSer n.val (fun q => { q with ts := false, tries := 0 }))))
  ∧ (∀ (s : State) (t : Stamp) (acc : Access) (n : Fin 4) (a b : Dev), At s t 0 a → Sv acc → a.part.hasPort n.val = true →
    b = a.stored .net (O.NET_CTRL + 0x1000 * n.val) 1 →
    (a.fld (F.NET_STAT.STATE n.val) = 4 → Turns (exec (.linkRelease t acc n) s) s
      [(.net, O.NET_CTRL + 0x1000 * n.val), (F.NET_STAT.STATE n.val).place] a
      ((b.setFld (F.NET_STAT.STATE n.val) 1).modNet n.val (fun q => { q with trainAt := a.now })))
    ∧ (a.fld (F.NET_STAT.STATE n.val) ≠ 4 → Turns (exec (.linkRelease t acc n) s) s [(.net, O.NET_CTRL + 0x1000 * n.val)] a b))

/-- R435: SET loads a port's clock with the written seconds and nanoseconds and clears SYNC_LOST; STEP adds the signed offset; both count in STEPS and
raise PTP_STEP with the size of the step, and the time they replace is kept for the CIRRUS cycle of the step (R440). R463: a key word goes into the staged key of its port, which reads as 0; COMMIT makes the staged key the one
the next OPENING uses and sets KEY_VALID. -/
def Obligations.PtpSetStepAndKeyWrites : Prop :=
  ((∀ (d : Dev) (n v : Nat), n < 4 → (d.setPtp n v).ptpNs n = v % ptpWrap)
  ∧ ∀ (s : State) (t : Stamp) (acc : Access) (n : Fin 4) (a b : Dev) (sec : Nat) (x : Int), At s t 0 a → Sv acc → a.part.hasPort n.val = true →
    sec = a.fld (F.NET_PTP_STEP_SEC_LO.V n.val) + a.fld (F.NET_PTP_STEP_SEC_HI.V n.val) * 2 ^ 32 →
    (b = a.stored .net (O.NET_PTP_CTRL + 0x1000 * n.val) 1 → x = (sec * 1000000000 : Nat) + a.sfld (F.NET_PTP_STEP_NS.STEP_NS n.val) →
      ∀ d : Dev, d = (((b.setPtp n.val (x % (ptpWrap : Int)).toNat).modNet n.val (fun q => { q with
        frac := 0, rem := 0, stepped := some (a.now, a.cirrusCycle n.val, a.ptpNs n.val) })).ptpStep n.val (x - (a.ptpNs n.val : Nat))).setFld (F.NET_PTP_STAT.SYNC_LOST n.val) 0 → Does (exec (.ptpSet t acc n) s) { s with dev := d })
    ∧ (b = a.stored .net (O.NET_PTP_CTRL + 0x1000 * n.val) 2 → x = sgn 48 sec * 1000000000 + a.sfld (F.NET_PTP_STEP_NS.STEP_NS n.val) →
      ∀ d : Dev, d = ((b.setPtp n.val (((a.ptpNs n.val : Nat) + x) % (ptpWrap : Int)).toNat).modNet n.val
        (fun q => { q with frac := 0, rem := 0, stepped := some (a.now, a.cirrusCycle n.val, a.ptpNs n.val) })).ptpStep n.val x →
        Does (exec (.ptpOffsetStep t acc n) s) { s with dev := d })) ∧
  (∀ (s : State) (t : Stamp) (acc : Access) (p : Fin 4) (a b : Dev), At s t 0 a → Sv acc → a.part.hasPort p.val = true →
    (∀ (j : Fin 4) (v : Word), b = a.stored .kvt (O.KVT_KEY + 0x100 * p.val + 4 * j.val) v →
      Turns (exec (.kvtKeyWrite t acc p j v) s) s [(.kvt, O.KVT_KEY + 0x100 * p.val + 4 * j.val)] a
        (b.modKv p.val (fun k => { k with staged := k.staged.set j.val v })))
    ∧ (b = a.stored .kvt (O.KVT_KEY_CTRL + 0x100 * p.val) 1 →
      Turns (exec (.keyCommit t acc p) s) s [(.kvt, O.KVT_KEY_CTRL + 0x100 * p.val)] a
        ((b.modKv p.val (fun k => { k with committed := some k.staged })).setFld (F.KVT_KEY_CTRL.KEY_VALID p.val) 1)))

/-- R179, R180: setting ENABLE starts a disabled ring at its D with Hs = D and DROP = 0 in RUNNING, with a write-back block, or leaves it disabled
with ERR = CONFIG where its set-up fails; a non-secure ring that is to carry S opcodes becomes secure first (R133, R538); clearing ENABLE of a ring in ERROR writes a write-back block with STATE DISABLED. What a ring's change of
STATE writes (R167, Table HST-4): the write-back block with the new STATE and ERR, stamped now, with the ring's sequence number, and no other byte of
SRAM. -/
def Obligations.RingEnableDisableAndWriteBack : Prop :=
  (∀ (s : State) (t : Stamp) (acc : Access) (n : Fin 64) (a b : Dev), At s t 0 a → Sv acc → a.on F.BOT_STATUS.LOCKED = false →
    (b = a.stored .hst (O.HST_RING_CTRL + 0x20 * n.val) 1 → a.on (F.HST_RING_CTRL.ENABLE n.val) = false → a.islandHeld 0 = false →
      ((a.ringSecure n.val = true ∨ a.on (F.HST_RING_CFG.SECURE_CMDS n.val) = false) →
        (b.ringOk n.val = true → ∀ d : Dev, d = (b.setRing n.val { hs := b.ringPos n.val }).setFld (F.HST_RING_CNT.DROP n.val) 0 →
          Does (exec (.ringEnable t acc n) s) (State.ringState n.val 1 0 { s with dev := d }))
        ∧ (b.ringOk n.val = false → Turns (exec (.ringEnable t acc n) s) s [(.hst, O.HST_RING_CTRL + 0x20 * n.val)] a
          (((b.setFld (F.HST_RING_CTRL.ENABLE n.val) 0).setFld (F.HST_RING_CTRL.STATE n.val) 0).setFld (F.HST_RING_CTRL.ERR n.val) 1)))
      ∧ (a.ringSecure n.val = false → a.on (F.HST_RING_CFG.SECURE_CMDS n.val) = true → ∀ c : Dev,
          c = (b.setWorld (64 + n.val) false).assignRefused (64 + n.val) → c.ringSecure n.val = true
          ∧ (c.ringOk n.val = true → ∀ d : Dev, d = (c.setRing n.val { hs := c.ringPos n.val }).setFld (F.HST_RING_CNT.DROP n.val) 0 →
            Does (exec (.ringEnable t acc n) s) (State.ringState n.val 1 0 { s with dev := d }))))
    ∧ (a.on (F.HST_RING_CTRL.ENABLE n.val) = true → a.fld (F.HST_RING_CTRL.STATE n.val) ≠ 1 →
        ∀ d : Dev, d = ((a.stored .hst (O.HST_RING_CTRL + 0x20 * n.val) 0).setFld (F.HST_RING_CTRL.ENABLE n.val) 1).modRing n.val
          (fun r => { r with buf := none }) →
        Does (exec (.ringDisable t acc n) s) ((State.ringState n.val 0 0 { s with dev := d }).map
          (fun d => d.setFld (F.HST_RING_CTRL.ENABLE n.val) 0)))) ∧
  (∀ (s : State) (n st err k : Nat) (d : Dev), n < 64 → st < 4 → err < 16 →
    d = (s.dev.setFld (F.HST_RING_CTRL.STATE n) st).setFld (F.HST_RING_CTRL.ERR n) err →
    ∀ a : Nat, a = s.dev.fld (F.HST_RING_WB.WB_ADDR n) * 16 → d.place a = .sram k → d.violation (ringAccess n) a true = none → d.stalled a = d →
    (∀ r < 64, d.ringRuns r = true → d.fld (F.HST_RING_CFG.DISC r) = 0 →
      d.fld (F.HST_RING_DB.DB_ADDR r) * 4 < a ∨ a + 16 ≤ d.fld (F.HST_RING_DB.DB_ADDR r) * 4) →
    ∃ u, s.ringState n st err = u ∧ memRead u.store.mem a 16 = wbBlock d n
      ∧ (∀ x, ¬ (a ≤ x ∧ x < a + 16) → memByte u.store.mem x = memByte s.store.mem x)
      ∧ (u.dev.ring n).wbSeq = (s.dev.ring n).wbSeq + 1 ∧ u.dev.fld (F.HST_RING_CTRL.STATE n) = st
      ∧ sameRegsBut [(F.HST_RING_CTRL.STATE n).place] s.dev u.dev)

/-! ### Register writes that act: islands, windows, regions, world assignment, cores -/

/-- R69, R105, R190, R421, R446: a write of ISL_ISLAND_RESET resets the island it names, unless its reset has already been performed at this stamp, and
releases a held one; a port in TWIN role is not reset. What an I leaves: of DUSK, each field of its registers at its Reset value or as it was where
its Kept-by column names I, every other register, memory and the causes as they were, no ring enabled, the link down with MSI-X off; of the serial
ports, no word in a FIFO, no active card, LOST_BEFORE due at every enabled port, rate measurement armed where AB_EN is 1; of a port, its link down and
training if it is enabled, no frame waiting, no flap history, its PTP clock at 0. PWR_RESET_CAUSE names the I. That a release applies no further I is
the model's choice (log 154). -/
def Obligations.IslandResets : Prop :=
  ∀ (s : State) (t : Stamp) (acc : Access) (a : Dev), At s t 0 a → Sv acc →
    (∀ b : Dev, b = a.stored .isl O.ISL_ISLAND_RESET 1 → a.now ∉ tabGet [] a.clocks.resets 0 →
      (a.islandHeld 0 = false → ∃ u, Does (exec (.islandResetDusk t acc) s) u ∧ u = State.island 0 { s with dev := b }
        ∧ (∀ blk off r i j, findReg off (regDefs blk) = some (r, i, j) →
            (blk, off) ∉ [(.isl, O.ISL_ISLAND_RESET), F.PWR_RESET_CAUSE.EVENT.place, F.HST_STATUS.LINK_UP.place] →
            u.dev.reg blk off = r.after (resetAt a.part blk off) (a.reg blk off) (fun f => blk = .hst && !f.keep.testBit Rst.i.bit))
        ∧ u.dev.bitOf F.PWR_RESET_CAUSE.EVENT Rst.i.bit = true ∧ u.dev.on F.HST_STATUS.LINK_UP = false ∧ u.dev.on F.HST_STATUS.MSIX_EN = false
        ∧ u.dev.rings = [] ∧ (∀ n < 64, u.dev.on (F.HST_RING_CTRL.ENABLE n) = false) ∧ u.dev.causes = a.causes ∧ u.store = s.store)
      ∧ (a.islandHeld 0 = true → Turns (exec (.islandResetDusk t acc) s) s [(.isl, O.ISL_ISLAND_RESET), F.ISL_ISLAND_HELD.HELD.place] a
        { b.setBitOf F.ISL_ISLAND_HELD.HELD 0 false with clocks := { a.clocks with resets := tabDel a.clocks.resets 0 } }))
    ∧ (∀ b : Dev, b = a.stored .isl O.ISL_ISLAND_RESET 2 → a.now ∉ tabGet [] a.clocks.resets 1 →
      (a.islandHeld 1 = false → ∃ u, Does (exec (.islandResetSer t acc) s) u ∧ u = State.island 1 { s with dev := b }
        ∧ (∀ n < 7, (u.dev.ser n).fifo = [] ∧ u.dev.on (F.SER_STAT.CARD_ACTIVE n) = false ∧ (u.dev.ser n).mark = a.on (F.SER_CFG.ENABLE n)
          ∧ u.dev.on (F.SER_CFG.ENABLE n) = a.on (F.SER_CFG.ENABLE n)
          ∧ u.dev.fld (F.SER_STAT.AB_STATE n) = (if a.on (F.SER_CFG.ENABLE n) && a.serMode n = 1 && a.on (F.SER_AB_CFG.AB_EN n) then 1 else 0))
        ∧ u.dev.bitOf F.PWR_RESET_CAUSE.EVENT Rst.i.bit = true ∧ u.store.otp = s.store.otp)
      ∧ (a.islandHeld 1 = true → Turns (exec (.islandResetSer t acc) s) s [(.isl, O.ISL_ISLAND_RESET), F.ISL_ISLAND_HELD.HELD.place] a
        { b.setBitOf F.ISL_ISLAND_HELD.HELD 1 false with clocks := { a.clocks with resets := tabDel a.clocks.resets 1 } }))
    ∧ (∀ (n : Fin 4) (b : Dev), b = a.stored .isl O.ISL_ISLAND_RESET (4#32 <<< n.val) → a.part.hasPort n.val = true →
      (a.netRole n.val ≠ 0 → a.islandHeld (2 + n.val) = false → a.now ∉ tabGet [] a.clocks.resets (2 + n.val) →
        ∃ u, Does (exec (.islandResetPort t acc n) s) u ∧ u = State.island (2 + n.val) { s with dev := b }
          ∧ u.dev.netUp n.val = false ∧ u.dev.fld (F.NET_STAT.STATE n.val) = (a.on (F.NET_CFG.ENABLE n.val)).toNat
          ∧ u.dev.netRole n.val = a.netRole n.val ∧ (u.dev.net n.val).downs = [] ∧ tabGet [] u.dev.kvtTx n.val = [] ∧ u.dev.ptpNs n.val = 0
          ∧ u.dev.bitOf F.PWR_RESET_CAUSE.EVENT Rst.i.bit = true ∧ u.store = s.store)
      ∧ (a.netRole n.val ≠ 0 → a.islandHeld (2 + n.val) = true → a.now ∉ tabGet [] a.clocks.resets (2 + n.val) →
        Turns (exec (.islandResetPort t acc n) s) s [(.isl, O.ISL_ISLAND_RESET), F.ISL_ISLAND_HELD.HELD.place] a
          { b.setBitOf F.ISL_ISLAND_HELD.HELD (2 + n.val) false with clocks := { a.clocks with resets := tabDel a.clocks.resets (2 + n.val) } })
      ∧ (a.netRole n.val = 0 → Turns (exec (.islandResetPort t acc n) s) s [(.isl, O.ISL_ISLAND_RESET)] a b))

/-- R156: clearing ENABLE of a host window disables it; nothing else follows. R137: a region whose tag leaves SECURE is zeroed before the new tag
applies, which stays SECURE and waits; the zeroing's end applies it. -/
def Obligations.WindowsAndRegions : Prop :=
  (∀ (s : State) (t : Stamp) (acc : Access) (w : Fin 16) (v : Word) (a b : Dev), At s t 0 a → Sv acc →
    a.on F.BOT_STATUS.LOCKED = false → v.getLsbD 0 = false → b = a.stored .wld (O.WLD_HWIN_CTRL + 0x10 * w.val) v →
    Turns (exec (.windowDisable t acc w v) s) s [(.wld, O.WLD_HWIN_CTRL + 0x10 * w.val)] a b
      ∧ b.on (F.WLD_HWIN_CTRL.ENABLE w.val) = false)
  ∧ (∀ (s : State) (t : Stamp) (acc : Access) (k : Fin 8) (m : Fin 16) (v : Word) (a : Dev), At s t 0 a → Sv acc →
    a.on F.BOT_STATUS.LOCKED = false → 16 * k.val + m.val < 126 → a.fld (F.WLD_REGION_TAG.TAG k.val m.val) = 0 →
    ∀ tag, (v.extractLsb' (2 * m.val) 2).toNat = tag → (tag = 1 ∨ tag = 2) →
    ∃ u, Does (exec (.regionTagWrite t acc k v) s) u ∧ u.dev.fld (F.WLD_REGION_TAG.TAG k.val m.val) = 0
      ∧ tabGet 0 u.dev.worlds.zeroing (16 * k.val + m.val) = tag ∧ sameRegsBut [(.wld, O.WLD_REGION_TAG + 4 * k.val)] a u.dev
      ∧ (∀ x, 0x08000000 + (16 * k.val + m.val) * 0x10000 ≤ x → x < 0x08000000 + (16 * k.val + m.val + 1) * 0x10000 →
        memByte u.store.mem x = 0))
  ∧ (∀ (s : State) (t : Stamp) (r : Fin 128) (a : Dev), At s t 0 a →
    (tabGet 0 a.worlds.zeroing r.val = 0 → Turns (exec (.regionZeroed t r) s) s [] a a)
    ∧ (∀ tag, tabGet 0 a.worlds.zeroing r.val = tag → tag ≠ 0 → Turns (exec (.regionZeroed t r) s) s
      [(F.WLD_REGION_TAG.TAG (r.val / 16) (r.val % 16)).place] a
      { a.setFld (F.WLD_REGION_TAG.TAG (r.val / 16) (r.val % 16)) tag with
        worlds := { a.worlds with zeroing := tabDel a.worlds.zeroing r.val } }))

/-- R133, R134, R155: a write of a World Assignment Table entry whose instance is not busy: a request for the secure world applies at once; a request
for the non-secure world applies where it is not forbidden, and is refused with WLD_ASSIGN_REFUSED where it is. A busy instance's world does not
change. R147: a write of WLD_AP_RUN starts the cores whose RUN bit it sets, unless every core is held (R70), and holds the others in reset. -/
def Obligations.WorldAssignmentAndApRun : Prop :=
  (∀ (s : State) (t : Stamp) (acc : Access) (e : Fin 128) (v : Word) (a b : Dev), At s t 0 a → Sv acc →
    Open a .wld (O.WLD_WAT + 4 * e.val) v → ¬ (e.val = 47 ∨ (56 ≤ e.val ∧ e.val < 64)) → b = a.stored .wld (O.WLD_WAT + 4 * e.val) v →
    (a.watBusy e.val = false →
      (v.getLsbD 0 = false → Turns (exec (.watWrite t acc e v) s) s [(.wld, O.WLD_WAT + 4 * e.val), F.WLD_STATUS.AP_SECURE.place] a
        (b.setWorld e.val false))
      ∧ (v.getLsbD 0 = true → b.watForbidden e.val = false → Turns (exec (.watWrite t acc e v) s) s
        [(.wld, O.WLD_WAT + 4 * e.val), F.WLD_STATUS.AP_SECURE.place] a (b.setWorld e.val (b.watReaches e.val)))
      ∧ (v.getLsbD 0 = true → b.watForbidden e.val = true → Turns (exec (.watWrite t acc e v) s) s
        ([(.wld, O.WLD_WAT + 4 * e.val), F.WLD_STATUS.AP_SECURE.place] ++ eventRegs 0) a ((b.setWorld e.val false).assignRefused e.val)))
    ∧ (a.watBusy e.val = true → (b.watJudge e.val).nsEntry e.val ≠ a.nsEntry e.val →
        Turns (exec (.watWrite t acc e v) s) s (eventRegs 0) a (a.assignRefused e.val))) ∧
  (∀ (s : State) (t : Stamp) (acc : Access) (v : Word) (a b : Dev), At s t 0 a → Sv acc → b = a.stored .wld O.WLD_AP_RUN v →
    ∃ d, Turns (exec (.apRunWrite t acc v) s) s [(.wld, O.WLD_AP_RUN)] a d ∧ d.fld F.WLD_AP_RUN.RUN = v.toNat % 16
      ∧ ∀ n < 4, d.worlds.apRunning.testBit n = (v.getLsbD n && (!a.clocks.coresHeld || a.worlds.apRunning.testBit n)))

/-! ### Enabling and configuring engines -/

/-- R253, R543: enabling a head, or a configuration write to an enabled one, judges and restarts it: a local head that passes is STARTING, a remote one,
or one held by HEAD_CONFIG, is out of service; the banks of an enabled local head are secure (R133). A write of a slot that is not enabled and stays so
changes its register alone. A preset of a lifetime counter is stored, and an increment of the same cycle is applied after it (R152, R239). -/
def Obligations.HeadConfiguration : Prop :=
  ∀ (s : State) (t : Stamp) (acc : Access) (h : Fin 64) (v : Word) (a : Dev), At s t 0 a → Sv acc →
    (∀ b c : Dev, Open a .hed (O.HED_CFG + 0x40 * h.val) v → b = a.stored .hed (O.HED_CFG + 0x40 * h.val) v → v.getLsbD 0 = true →
      c = (if h.val < 32 then (b.watAgain (b.headChan h.val 0 / 8)).watAgain (b.headChan h.val 1 / 8) else b) →
      ∃ u, Does (exec (.headEnable t acc h v) s) u ∧ u = { s with dev := c.headRestart h.val (a.headEnabled h.val) }
        ∧ u.dev.headEnabled h.val = true ∧ (u.dev.pattern h.val = 7 ∨ (h.val < 32 ∧ u.dev.pattern h.val = 6))
        ∧ (h.val < 32 → ∀ x < 2, c.nsEntry (b.headChan h.val x / 8) = false))
    ∧ (∀ (k : Fin 9) (b : Dev), h.val < 32 → Open a .hed (0x40 * h.val + 4 * k.val) v → b = a.stored .hed (0x40 * h.val + 4 * k.val) v →
      (a.headEnabled h.val = true → 1 ≤ k.val → k.val ≤ 3 →
        Does (exec (.headConfigWrite t acc h k v) s) { s with dev := b.headRestart h.val true }
          ∧ (b.headRestart h.val true).headEnabled h.val = true
          ∧ ((b.headRestart h.val true).pattern h.val = 6 ∨ (b.headRestart h.val true).pattern h.val = 7))
      ∧ (a.headEnabled h.val = true → k.val = 0 → v.getLsbD 0 = false →
        Does (exec (.headConfigWrite t acc h k v) s) { s with dev := b.headRestart h.val true }
          ∧ (b.headRestart h.val true).headEnabled h.val = false ∧ (b.headRestart h.val true).pattern h.val = 7)
      ∧ (a.headEnabled h.val = true → 4 ≤ k.val → ∀ d : Dev,
          d = (if k.val = 6 then (b.headRethreshold h.val 0).headJudge h.val else if k.val = 7 then (b.headRethreshold h.val 1).headJudge h.val
            else ((b.headRethreshold h.val 0).headRethreshold h.val 1).headJudge h.val) →
          Does (exec (.headConfigWrite t acc h k v) s) { s with dev := d })
      ∧ (a.headEnabled h.val = false → b.headEnabled h.val = false →
          Turns (exec (.headConfigWrite t acc h k v) s) s [(.hed, 0x40 * h.val + 4 * k.val)] a b))
    ∧ (a.part.hasHead h.val = true →
      (∀ b : Dev, b = a.stored .hed (O.HED_CNT_AB + 0x40 * h.val) v → b.fld (F.HED_CNT_AB.COUNT h.val) = v.toNat
        ∧ Turns (exec (.headCounterPreset t acc h false v false) s) s [(F.HED_CNT_AB.COUNT h.val).place] a b
        ∧ Turns (exec (.headCounterPreset t acc h false v true) s) s [(F.HED_CNT_AB.COUNT h.val).place, (F.HED_STAT_CNT.WRAP_AB h.val).place] a
          (b.headCount h.val false))
      ∧ (∀ b : Dev, b = a.stored .hed (O.HED_CNT_BA + 0x40 * h.val) v → b.fld (F.HED_CNT_BA.COUNT h.val) = v.toNat
        ∧ Turns (exec (.headCounterPreset t acc h true v false) s) s [(F.HED_CNT_BA.COUNT h.val).place] a b
        ∧ Turns (exec (.headCounterPreset t acc h true v true) s) s [(F.HED_CNT_BA.COUNT h.val).place, (F.HED_STAT_CNT.WRAP_BA h.val).place] a
          (b.headCount h.val true)))

/-- Enabling a section, monitor, generator, lamp, signal, function or safe output by its configuration register starts it and judges it (R278, R303,
R328, R360 to R362, R392, R393). A section restarts DISTURBED with COUNT 0, no offer and RESTART among its causes, and says so where it was enabled in
another state (R263, R279); a monitor is blanked for 2 µs and has no verdict; a generator is OFF until its first boundary; a lamp starts with its
counters clear and no cause but LAMP_STRING, what its check finds, and an Endgame that ends with it; a signal has requested aspect 0 by day; a function
is in STARTING, or in CONFIG where its check fails; a safe output that no enabled function selects, or whose VEN output is absent, has SO_CONFIG. -/
def Obligations.EngineEnables : Prop :=
  ∀ (s : State) (t : Stamp) (acc : Access) (v : Word) (a : Dev), At s t 0 a → Sv acc → v.getLsbD 0 = true →
    (∀ (n : Fin 64) (b d : Dev), Open a .sec (O.SEC_CFG + 0x40 * n.val) v → b = a.stored .sec (O.SEC_CFG + 0x40 * n.val) v →
      d = (b.secStart n.val none).secJudge n.val →
      ∃ u, Does (exec (.sectionEnable t acc n 0 v) s) u
        ∧ u = { s with dev := if a.secEnabled n.val && a.secState n.val ≠ 2 then d.secTell n.val (a.secState n.val) else d }
        ∧ u.dev.secEnabled n.val = true ∧ u.dev.secState n.val = 2 ∧ u.dev.secCount n.val = 0 ∧ u.dev.on (F.SEC_STATE.OFFERED n.val) = false
        ∧ u.dev.bitOf (F.SEC_CAUSE.CAUSES n.val) 0 = true)
    ∧ (∀ (m : Fin 128) (b : Dev), Open a .win (O.WIN_CFG + 0x20 * m.val) v → b = a.stored .win (O.WIN_CFG + 0x20 * m.val) v →
      a.winOn m.val = false → ∃ u, Does (exec (.monitorEnable t acc m v) s) u ∧ u = { s with dev := (b.winStart m.val).monReblank m.val }
        ∧ u.dev.winOn m.val = true ∧ u.dev.on (F.WIN_STAT.SETTLING m.val) = true ∧ (u.dev.mon m.val).settle = some (a.after 2000)
        ∧ u.dev.fld (F.WIN_STAT.VERDICT m.val) = 0)
    ∧ (∀ (g : Fin 64) (b : Dev), Open a .pgn (O.PGN_CFG + 0x40 * g.val) v → b = a.stored .pgn (O.PGN_CFG + 0x40 * g.val) v →
      a.on (F.PGN_CFG.ENABLE g.val) = false → ∃ u, Does (exec (.generatorEnable t acc g 0 v) s) u
        ∧ u = { s with dev := ((b.clear .pgConfig (.pg g.val)).pgFresh g.val).pgJudge g.val }
        ∧ u.dev.on (F.PGN_CFG.ENABLE g.val) = true ∧ u.dev.pgState g.val = 0 ∧ (u.dev.gen g.val).started = false
        ∧ (u.dev.gen g.val).on_ = false ∧ (u.dev.gen g.val).comp = false)
    ∧ (∀ (k : Fin 48) (b : Dev), Open a .lmp (O.LMP_CFG + 0x20 * k.val) v → b = a.stored .lmp (O.LMP_CFG + 0x20 * k.val) v →
      a.lampOn k.val = false → ∃ u, Does (exec (.lampEnable t acc k v) s) u ∧ u = { s with dev := b.lampStart k.val }
        ∧ u.dev.lampOn k.val = true ∧ u.dev.fld (F.LMP_STAT.DARK_CNT k.val) = 0 ∧ u.dev.fld (F.LMP_STAT.GHOST_CNT k.val) = 0
        ∧ u.dev.fld (F.LMP_STAT.HALF_CNT k.val) = 0
        ∧ ∀ c ∈ u.dev.causes, c.src = .lamp k.val → c.ev = .lampString ∨ c.ev = .lmpConfig ∨ c.ev = .endgameExpired)
    ∧ (∀ (n : Fin 16) (b : Dev), Open a .lmp (O.LMP_SIG_CFG + 0x80 * n.val) v → b = a.stored .lmp (O.LMP_SIG_CFG + 0x80 * n.val) v →
      a.sigOn n.val = false → ∃ u, Does (exec (.signalEnable t acc n v) s) u
        ∧ u = { s with dev := ((b.setFld (F.LMP_SIG_STAT.REQUESTED n.val) 0).setFld (F.LMP_SIG_STAT.NIGHT n.val) 0).sigJudge n.val }
        ∧ u.dev.sigOn n.val = true ∧ u.dev.fld (F.LMP_SIG_STAT.REQUESTED n.val) = 0 ∧ u.dev.on (F.LMP_SIG_STAT.NIGHT n.val) = false)
    ∧ (∀ (f : Fin 16) (b : Dev), Open a .saf (O.SAF_FB_CFG + 0x20 * f.val) v → b = a.stored .saf (O.SAF_FB_CFG + 0x20 * f.val) v →
      a.fbOn f.val = false → ∃ u, Does (exec (.functionEnable t acc f v) s) u ∧ u = { s with dev := (b.fbFresh f.val).fbJudge f.val }
        ∧ u.dev.fbOn f.val = true ∧ u.dev.fbState f.val = (if (b.fbFresh f.val).fbConfigOk f.val then 0 else 6)
        ∧ u.dev.fld (F.SAF_FB_STAT.BEYOND f.val) = 0)
    ∧ (∀ (o : Fin 8) (b : Dev), Open a .saf (O.SAF_SO_CFG + 0x10 * o.val) v → b = a.stored .saf (O.SAF_SO_CFG + 0x10 * o.val) v →
      ∃ u, Does (exec (.safeOutputEnable t acc o v) s) u ∧ u = { s with dev := b.soJudge o.val } ∧ u.dev.soOn o.val = true
        ∧ u.dev.has .soConfig (.so o.val) = !((List.range 16).any (fun f => a.fbOn f && a.bitOf (F.SAF_FB_ACT.SO f) o.val)
          && a.part.hasVen (b.fld (F.SAF_SO_CFG.VEN_SEL o.val))))

/-- R418, R444, R471: setting ENABLE of a serial port, a network port or a port's KVT starts it where its check passes; where it fails ENABLE reads 0
and the CONFIG event is raised. R500: an enable of the twin whose check passes is kept, and takes effect at the next start (log 22); one whose check
fails leaves ENABLE at 0 with TWIN_CONFIG. R291: new thresholds of a monitor that is off are stored and judged; those of an enabled one blank it for
the settling time. -/
def Obligations.PortAndTwinEnablesAndThresholdWrites : Prop :=
  (∀ (s : State) (t : Stamp) (acc : Access) (v : Word) (a : Dev), At s t 0 a → Sv acc → a.on F.BOT_STATUS.LOCKED = false → v.getLsbD 0 = true →
    (∀ (n : Fin 7) (b : Dev), b = a.stored .ser (O.SER_CFG + 0x80 * n.val) v → a.on (F.SER_CFG.ENABLE n.val) = false →
      (b.serConfigBad n.val = false → Turns (exec (.serialPortEnable t acc n v) s) s
        [(.ser, O.SER_CFG + 0x80 * n.val), (F.SER_STAT.LINE n.val).place] a (b.serFresh n.val))
      ∧ (b.serConfigBad n.val = true → Turns (exec (.serialPortEnable t acc n v) s) s
        ([(.ser, O.SER_CFG + 0x80 * n.val), (F.SER_FLAG.PARITY n.val).place] ++ eventRegs 0) a
        (((b.setFld (F.SER_CFG.ENABLE n.val) 0).serFlag n.val 11).note .serConfig (.uart n.val))))
    ∧ (∀ (n : Fin 4) (b : Dev), a.part.hasPort n.val = true → b = a.stored .net (O.NET_CFG + 0x1000 * n.val) v →
      a.on (F.NET_CFG.ENABLE n.val) = false → b.netRole n.val = a.netRole n.val →
      (b.netConfigOk n.val = true → Turns (exec (.portEnable t acc n v) s) s
        [(.net, O.NET_CFG + 0x1000 * n.val), (F.NET_STAT.STATE n.val).place] a
        ((b.setFld (F.NET_STAT.STATE n.val) 1).modNet n.val (fun q => { q with trainAt := a.now })))
      ∧ (b.netConfigOk n.val = false → Turns (exec (.portEnable t acc n v) s) s
        ([(.net, O.NET_CFG + 0x1000 * n.val), (F.NET_STAT.STATE n.val).place, (F.NET_FLAG.CONFIG n.val).place] ++ eventRegs 0) a
        ((((b.setFld (F.NET_CFG.ENABLE n.val) 0).setFld (F.NET_STAT.STATE n.val) 5).setFld (F.NET_FLAG.CONFIG n.val) 1).netNote .netConfig n.val)))
    ∧ (∀ (p : Fin 4) (b : Dev), a.part.hasPort p.val = true → b = a.stored .kvt (O.KVT_PCFG + 0x100 * p.val) v →
      a.on (F.KVT_PCFG.ENABLE p.val) = false →
      (b.kvtConfigOk p.val = true → a.netUp p.val = true → a.fld (F.KVT_STAT.STATE p.val) = 0 →
        Does (exec (.kvtEnable t acc p v) s) { s with dev := b.kvtOpening p.val })
      ∧ (b.kvtConfigOk p.val = true → a.netUp p.val = false →
        Turns (exec (.kvtEnable t acc p v) s) s [(.kvt, O.KVT_PCFG + 0x100 * p.val)] a b)
      ∧ (b.kvtConfigOk p.val = false → Turns (exec (.kvtEnable t acc p v) s) s ((.kvt, O.KVT_PCFG + 0x100 * p.val) :: eventRegs 0) a
        ((b.setFld (F.KVT_PCFG.ENABLE p.val) 0).note .kvtConfig (.kvt p.val) 0 (leBytes 2 0))))) ∧
  (∀ (s : State) (t : Stamp) (acc : Access) (v : Word) (a : Dev), At s t 0 a → Sv acc →
    (∀ b : Dev, Open a .twn O.TWN_CFG v → v.getLsbD 0 = true → b = a.stored .twn O.TWN_CFG v →
      (b.twinConfigOk = true → a.twinState ≠ 6 → Turns (exec (.twinEnable t acc v) s) s [(.twn, O.TWN_CFG)] a b)
      ∧ (b.twinConfigOk = false → Turns (exec (.twinEnable t acc v) s) s
        ([(.twn, O.TWN_CFG), F.TWN_STAT.STATE.place, F.TWN_FLAG.CONFIG.place] ++ eventRegs 0) a
        (((b.setFld F.TWN_CFG.ENABLE 0).setFld F.TWN_STAT.STATE 6).twinNote F.TWN_FLAG.CONFIG .twinConfig)))
    ∧ (∀ (m : Fin 128) (b : Dev), Open a .win (O.WIN_THR + 0x20 * m.val) v → b = a.stored .win (O.WIN_THR + 0x20 * m.val) v →
      (a.winOn m.val = false → ∃ u, Does (exec (.monitorThresholdWrite t acc m v) s) u ∧ u = { s with dev := b.winJudge m.val }
        ∧ u.dev.fld (F.WIN_THR.UPPER m.val) = b.fld (F.WIN_THR.UPPER m.val) ∧ u.dev.fld (F.WIN_THR.LOWER m.val) = b.fld (F.WIN_THR.LOWER m.val))
      ∧ (a.winOn m.val = true → b.reg .win (O.WIN_THR + 0x20 * m.val) ≠ a.reg .win (O.WIN_THR + 0x20 * m.val) →
        ∃ u, Does (exec (.monitorThresholdWrite t acc m v) s) u ∧ u = { s with dev := (b.winSettle m.val).winJudge m.val }
          ∧ u.dev.fld (F.WIN_THR.UPPER m.val) = b.fld (F.WIN_THR.UPPER m.val) ∧ u.dev.fld (F.WIN_THR.LOWER m.val) = b.fld (F.WIN_THR.LOWER m.val)
          ∧ (u.dev.mon m.val).settle = some (a.after 2000) ∧ u.dev.on (F.WIN_STAT.SETTLING m.val) = true)))

/-! ### Bus accesses and memory errors -/

/-- Table SCP-5 (R9) and R153: the word a register holds after a write, field by field, for every register of the map but for a SET_COUNT field. An RO
field keeps its value; a WO field stores nothing; a writable field written whole holds the value its row admits; a locked RWL field and an RWS field
written by the non-secure world keep theirs; a W1C field clears the bits written 1, but a bit that hardware sets in the same cycle stays set; a W1S
field sets the bits written 1; bytes not enabled change nothing. -/
def Obligations.WritesFollowAccessCodes : Prop :=
  ∀ (b : Blk) (off i j : Nat) (r : RegDef), findReg off (regDefs b) = some (r, i, j) → ∀ f ∈ r.fields, ∀ m < f.n,
    r.setCnt ≠ some (f.lo + m * f.step) → ∀ (old val en hw : Word) (secure locked : Bool),
    let get (x : Word) : Nat := x.toNat / 2 ^ (f.lo + m * f.step) % 2 ^ f.w
    let new := get (r.writeWord old.toNat val.toNat en.toNat hw.toNat secure locked)
    (f.acc = .ro → new = get old) ∧ (f.acc = .wo → new = 0)
    ∧ ((f.acc = .rw ∨ (f.acc = .rwl ∧ locked = false) ∨ (f.acc = .rws ∧ secure = true)) →
        (get en = 2 ^ f.w - 1 → new = f.fix.store f.w (get val) % 2 ^ f.w) ∧ (get en = 0 → new = get old))
    ∧ (((f.acc = .rwl ∧ locked = true) ∨ (f.acc = .rws ∧ secure = false)) → new = get old)
    ∧ (f.acc = .w1c → ∀ k < f.w, new.testBit k = (((get old).testBit k && !((get val).testBit k && (get en).testBit k)) || (get hw).testBit k))
    ∧ (f.acc = .w1s → ∀ k < f.w, new.testBit k = ((get old).testBit k || ((get val).testBit k && (get en).testBit k)))

/-- A full-word write of an SV pair to a register (R9, R2, R140, R414): a register of an absent instance, one of UART_7, and one with no field open to
the write keep their words; any other takes the write, field by field, and what its chapter gives the write follows; nothing follows a write of the registers of FLT and
EVT. R150: a full-word secure read of a low word answers the register and latches the high words of its pair into the secure world's shadow; a read of
a high word answers the shadow. A read changes no register. -/
def Obligations.RegisterWritesAndPairReads : Prop :=
  (∀ (s : State) (t : Stamp) (acc : Access) (x : BitVec 32) (v hw : Word) (b : Blk) (off i j en : Nat) (r : RegDef) (a : Dev), At s t 0 a →
    Sv acc → x.toNat % 4 = 0 → a.place x.toNat = .reg b off → findReg off (regDefs b) = some (r, i, j) →
    en = a.writable b off v.toNat 0xFFFFFFFF →
    ((absentReg a.part b off = true ∨ (b = .ser ∧ off / 0x80 = 7) ∨ r.touched en true (a.on F.BOT_STATUS.LOCKED) = false) →
      Turns (exec (.registerWrite t acc x v hw) s) s [] a a)
    ∧ (absentReg a.part b off = false → ¬ (b = .ser ∧ off / 0x80 = 7) → r.touched en true (a.on F.BOT_STATUS.LOCKED) = true → ∀ d : Dev,
        d = a.storeReg r b off v.toNat en hw.toNat true →
        Does (exec (.registerWrite t acc x v hw) s) (State.afterWrite a b off (r.woBits v.toNat en) en none { s with dev := d })
        ∧ ((b = .flt ∨ b = .evt) → Turns (exec (.registerWrite t acc x v hw) s) s [(b, off)] a d)
        ∧ ((b = .flt ∨ b = .evt) → d.reg b off = r.writeWord (a.reg b off).toNat v.toNat en hw.toNat true (a.on F.BOT_STATUS.LOCKED)))) ∧
  (∀ (s : State) (t : Stamp) (acc : Access) (x : BitVec 32) (b : Blk) (off i j : Nat) (r : RegDef) (a : Dev), At s t 0 a → Sv acc →
    x.toNat % 4 = 0 → a.place x.toNat = .reg b off → findReg off (regDefs b) = some (r, i, j) → absentReg a.part b off = false →
    ∀ mask : Word, mask = BitVec.ofNat 32 (r.readMask true false) &&& ~~~ BitVec.ofNat 32 (deadBits a.part b off) →
    ∃ d, Turns (exec (.counterPairLowRead t acc x) s) s [] a d ∧ d.out.answer = .ok
      ∧ (pairLows b off = [] → d.out.data = some ((a.view.wired b off).reg b off &&& mask)
        ∧ ∀ h ∈ pairOf b off, tabGet 0 d.shadow (shadowKey b h true) = (a.view.wired b off).reg b h)
      ∧ (pairLows b off ≠ [] → d.out.data = some (tabGet 0 a.shadow (shadowKey b off true) &&& mask)))

/-- R140, R142: a violating read answers 0 without a fault, a violating write is dropped, whatever the reason; either is logged with its kind, address
and time, as one more repeat of the newest entry if it is the same within 1,000 µs, else in a new entry with WLD_VIOLATION. -/
def Obligations.ViolationsAreLogged : Prop :=
  ∀ (s : State) (t : Stamp) (acc : Access) (x : BitVec 32) (v : Word) (k : Nat) (a : Dev), At s t 0 a → inMsix acc x.toNat = false →
    acc.onMirror x.toNat = false → acc.mapped x.toNat = true → a.stalled x.toNat = a →
    (a.violation acc x.toNat false = some k → Turns (exec (.violatingAccess t acc x false v) s) s a.violRegs a
      ((a.logViolation acc x.toNat false k).reply 0 .ok))
    ∧ (a.violation acc x.toNat true = some k →
      Turns (exec (.violatingAccess t acc x true v) s) s a.violRegs a (a.logViolation acc x.toNat true k))
    ∧ ∀ (wr : Bool) (n : Nat) (d : Dev), d = a.logViolation acc x.toNat wr k → a.fld F.WLD_VIOL_CNT.NEXT = n →
      d.fld F.WLD_VIOL_CNT.NEXT = n ∧ a.fld F.WLD_VIOL_CNT.ENTRIES ≠ 0 ∧ a.fld (F.WLD_VLOG_ADDR.ADDR ((n + 15) % 16)) = x.toNat
          ∧ d = a.inc (F.WLD_VLOG_INFO.REPEAT ((n + 15) % 16))
        ∨ d.fld F.WLD_VIOL_CNT.NEXT = (n + 1) % 16 ∧ d.fld (F.WLD_VLOG_ADDR.ADDR n) = x.toNat
          ∧ d.fld (F.WLD_VLOG_TIME_LO.V n) + 2 ^ 32 * d.fld (F.WLD_VLOG_TIME_HI.V n) = a.now.toNat
          ∧ d.fld (F.WLD_VLOG_INFO.MASTER n) = acc.master.val ∧ (k < 8 → d.fld (F.WLD_VLOG_INFO.KIND n) = k)
          ∧ d.on F.WLD_VIOL_FLAG.VIOLATION = true ∧ ∃ e ∈ d.evq, e.ev = .wldViolation ∧ e.stamp = a.now

/-- R141: an instruction fetch by a secure master from a NONSECURE region or from a host window is refused with an instruction access fault and logged
as FETCH. -/
def Obligations.SecureFetchesStayInside : Prop :=
  ∀ (s : State) (t : Stamp) (acc : Access) (x : BitVec 32) (a : Dev), At s t 0 a → a.stalled x.toNat = a → a.masterSecure acc = true →
    ((∃ k, a.place x.toNat = .sram k ∧ a.regionTag k = 1) ∨ (∃ w, a.place x.toNat = .window w)) →
    Turns (exec (.instructionFetchRefused t acc x) s) s a.violRegs a ((a.logViolation acc x.toNat false 4).reply 0 .fetchFault)
    ∧ (a.fld F.WLD_VIOL_CNT.ENTRIES = 0 → ∀ n d, n = a.fld F.WLD_VIOL_CNT.NEXT → d = a.logViolation acc x.toNat false 4 →
      d.fld (F.WLD_VLOG_INFO.KIND n) = 4 ∧ d.fld (F.WLD_VLOG_ADDR.ADDR n) = x.toNat ∧ d.fld F.WLD_VIOL_CNT.ENTRIES = 1
      ∧ ∃ e ∈ d.evq, e.ev = .wldViolation ∧ e.stamp = a.now)

/-- R138, R186: a window of the access's own world leads to the host's memory while the link is up, and with the link down answers a core's read with
a load access fault and drops a write. -/
def Obligations.HostWindowAccesses : Prop :=
  ∀ (s : State) (t : Stamp) (acc : Access) (x : BitVec 32) (v : Word) (w : Nat) (a : Dev), At s t 0 a → acc.master.val < 6 →
    a.place x.toNat = .window w →
    (a.violation acc x.toNat false = none →
      (a.on F.HST_STATUS.LINK_UP = true → Turns (exec (.hostWindowAccess t acc x false v) s) s [] a
        (a.reply (getBytes acc (a.hostAddr w x.toNat) s.store.host) .ok))
      ∧ (a.on F.HST_STATUS.LINK_UP = false → Turns (exec (.hostWindowAccess t acc x false v) s) s [] a (a.reply 0 .loadFault)))
    ∧ (a.violation acc x.toNat true = none →
      (a.on F.HST_STATUS.LINK_UP = true → ∀ m, m = putBytes acc (a.hostAddr w x.toNat) v s.store.host →
        Does (exec (.hostWindowAccess t acc x true v) s) { s with dev := a, store := { s.store with host := m } }
        ∧ (∀ k < 4, acc.be.getLsbD k = true → memByte m (a.hostAddr w x.toNat + k) = v.extractLsb' (8 * k) 8)
        ∧ ∀ y, ¬ (a.hostAddr w x.toNat ≤ y ∧ y < a.hostAddr w x.toNat + 4) → memByte m y = memByte s.store.host y)
      ∧ (a.on F.HST_STATUS.LINK_UP = false → Turns (exec (.hostWindowAccess t acc x true v) s) s [] a a))

/-- R144, R145, R146, R149: corrected errors count and set their flag; an uncorrectable one outside the image copy counts, sets its flag, keeps its
address and raises ECC_UNCORRECTABLE, and its read is answered with a fault; a lockstep mismatch holds its pair, once; a core's timer interrupt is
pending while mtime has reached its mtimecmp. -/
def Obligations.MemoryErrorsLockstepAndTimers : Prop :=
  ∀ (s : State) (t : Stamp) (a : Dev), At s t 0 a →
    (∀ fixed : BitVec 16, Turns (exec (.scrubPass t fixed []) s) s
        ([F.WLD_ECC_FLAG.CORRECTED.place, F.WLD_ECC_CNT.CORRECTED.place] ++ eventRegs 0) a (a.eccFixed fixed.toNat)
      ∧ (fixed ≠ 0 → (a.eccFixed fixed.toNat).on F.WLD_ECC_FLAG.CORRECTED = true))
    ∧ (∀ (fixed : BitVec 16) (x : BitVec 32) (d : Dev), ¬ (copyBase ≤ x.toNat ∧ x.toNat < copyBase + 0x20000) →
        d = ((((a.eccFixed fixed.toNat).eccFlag F.WLD_ECC_FLAG.UNCORRECTABLE).inc F.WLD_ECC_CNT.UNCORRECTABLE).setFld F.WLD_ECC_ADDR.ADDR
          x.toNat).note .eccUncorrectable .wld 0 (leBytes 4 x.toNat) →
        Turns (exec (.scrubPass t fixed [x]) s) s ([F.WLD_ECC_FLAG.CORRECTED.place, F.WLD_ECC_CNT.CORRECTED.place, F.WLD_ECC_ADDR.ADDR.place]
          ++ eventRegs 0) a d ∧ d.fld F.WLD_ECC_ADDR.ADDR = x.toNat)
    ∧ (∀ (acc : Access) (x : BitVec 32) (fetch buffer : Bool), acc.master.val ≠ 7 → ∀ d : Dev, d = a.eccBad x.toNat →
        Turns (exec (.uncorrectableRead t acc x fetch false buffer) s) s ([F.WLD_ECC_FLAG.CORRECTED.place, F.WLD_ECC_CNT.CORRECTED.place,
          F.WLD_ECC_ADDR.ADDR.place] ++ faultRegs (evClass .imageCopyCorrupt) ++ eventRegs 0) a (d.reply 0 (if acc.master.val < 6 then
            (if fetch then .fetchFault else .loadFault) else if acc.master.val = 6 then .completerAbort else .ringError)))
    ∧ (∀ p : Fin 2,
        (a.bitOf F.WLD_LOCKSTEP.HELD p.val = true → Turns (exec (.svLockstep t p) s) s [] a a)
        ∧ (a.bitOf F.WLD_LOCKSTEP.HELD p.val = false → Turns (exec (.svLockstep t p) s) s (F.WLD_LOCKSTEP.HELD.place :: eventRegs 0) a
          (((a.setBitOf F.WLD_LOCKSTEP.HELD p.val true).inc F.WLD_LOCKSTEP.MISMATCHES).note .svLockstep (.sv p.val))))
    ∧ (∀ core : Fin 6, ∃ d, Turns (exec (.coreTimerInterrupt t core) s) s [] a d
        ∧ d = { a with worlds := { a.worlds with timerPend := d.worlds.timerPend } }
        ∧ ∀ n, d.worlds.timerPend.testBit n = if n = core.val then decide (a.timerCmp n ≤ a.now.toNat) else a.worlds.timerPend.testBit n)

/-! ### Rings, write-backs, interrupts and the PCIe link -/

/-- R166: an observed doorbell value that does not carry its ring's number, or an index outside the ring, or a position neither new nor behind, is
counted in DB_BAD and ignored; a new position from the last accepted one to one ring ahead of D is accepted; an older one changes nothing. R168, R172:
what the host has made visible stands in its memory before the doorbell; a mirror write of a world that may ring is judged by a running ring that
watches its mirror word, and does nothing else to a ring that does not; a doorbell word in SRAM is stored and judged by the rings that snoop it; a
poll that is due judges the word that stands in host memory, and of a mirror value taken in the same cycle that furthest ahead (R182). -/
def Obligations.DoorbellsAreJudged : Prop :=
  (∀ (d : Dev) (n : Nat) (v : Word) (size pos : Nat), d.ringSize n = size → v.toNat / 2 ^ 16 % 2 ^ 8 * size + v.toNat % 2 ^ 16 = pos →
    ((v.toNat / 2 ^ 24 ≠ n ∨ size ≤ v.toNat % 2 ^ 16) → d.doorbell n v = d.inc (F.HST_RING_CNT.DB_BAD n))
    ∧ (v.toNat / 2 ^ 24 = n → v.toNat % 2 ^ 16 < size → ∀ hs behind : Nat, hs = (d.ring n).hs % (256 * size) →
        (hs + 256 * size - pos) % (256 * size) = behind →
        (1 ≤ behind → behind ≤ size → d.doorbell n v = d)
        ∧ ((behind = 0 ∨ size < behind) → (pos + 256 * size - d.ringPos n % (256 * size)) % (256 * size) ≤ size →
            (d.doorbell n v).ring n = { d.ring n with hs := pos } ∧ sameRegsBut [] d (d.doorbell n v))
        ∧ ((behind = 0 ∨ size < behind) → size < (pos + 256 * size - d.ringPos n % (256 * size)) % (256 * size) →
            d.doorbell n v = d.inc (F.HST_RING_CNT.DB_BAD n)))) ∧
  (∀ (s : State) (t : Stamp) (batch : List (BitVec 64 × Byte)) (n : Fin 64) (a : Dev) (m : Store), At s t 0 a →
    m = { s.store with host := batch.foldl (fun h x => tabPut 0 h x.1.toNat x.2) s.store.host } →
    (∀ (acc : Access) (v : Word), a.masterSecure acc = true ∨ a.ringSecure n.val = false →
      (a.ringRuns n.val = true → 2 ≤ a.fld (F.HST_RING_CFG.DISC n.val) →
        Does (exec (.doorbellWrite t acc batch true n v) s) { s with dev := a.doorbell n.val v, store := m })
      ∧ ((a.ringRuns n.val = false ∨ a.fld (F.HST_RING_CFG.DISC n.val) < 2) →
        Does (exec (.doorbellWrite t acc batch true n v) s) { s with dev := a, store := m }))
    ∧ (∀ (acc : Access) (v : Word) (x : Nat), x = a.fld (F.HST_RING_DB.DB_ADDR n.val) * 4 → (∃ k, a.place x = .sram k) → a.stalled x = a →
      a.violation acc x true = none → ∀ mem, mem = putBytes acc x v s.store.mem →
      Does (exec (.doorbellWrite t acc batch false n v) s) { s with dev := a.snoop mem x 4, store := { m with mem := mem } })
    ∧ (∀ (mirror : Option Word) (x : Nat), x = a.fld (F.HST_RING_DB.DB_ADDR n.val) * 4 →
      ((a.ringRuns n.val = false ∨ a.fld (F.HST_RING_CFG.DISC n.val) % 2 = 0 ∨ a.pollDue n.val = false) →
        Does (exec (.doorbellPoll t ⟨batch, mirror⟩ n) s) { s with dev := a, store := m })
      ∧ (a.ringRuns n.val = true → a.fld (F.HST_RING_CFG.DISC n.val) % 2 = 1 → a.pollDue n.val = true →
        (∀ (w : Nat) (b : Dev) (q : Word), a.place x = .window w → a.on F.HST_STATUS.LINK_UP = true →
          a.violation (ringAccess n.val) x false = none → b = a.modRing n.val (fun r => { r with pollAt := some a.now }) →
          q = BitVec.ofNat 32 (ofLe (memRead m.host (a.hostAddr w x) 4)) →
          (mirror = none → Does (exec (.doorbellPoll t ⟨batch, mirror⟩ n) s) { s with dev := b.doorbell n.val q, store := m })
          ∧ (∀ p : Word, mirror = some p → a.fld (F.HST_RING_CFG.DISC n.val) = 3 → ∀ ahead : Word → Nat,
            (∀ y, ahead y = (y.toNat / 2 ^ 16 % 2 ^ 8 * a.ringSize n.val + y.toNat % 2 ^ 16 + 256 * a.ringSize n.val
              - a.ringPos n.val % (256 * a.ringSize n.val)) % (256 * a.ringSize n.val)) →
            Does (exec (.doorbellPoll t ⟨batch, mirror⟩ n) s)
              { s with dev := b.doorbell n.val (if ahead q < ahead p then p else q), store := m }))
        ∧ (∀ w, a.place x = .window w → a.on F.HST_STATUS.LINK_UP = false →
          Does (exec (.doorbellPoll t ⟨batch, mirror⟩ n) s) (State.ringLost n.val x false 2 { s with dev := a, store := m }))
        ∧ (a.place x = .unmapped →
          Does (exec (.doorbellPoll t ⟨batch, mirror⟩ n) s) (State.ringLost n.val x false 4 { s with dev := a, store := m })))))

/-- R167, R173, R175, R181: a write-back that is due writes the ring's block, numbers it and covers every consumption; an area that no enabled window
maps puts the ring into ERROR, with HST_RING_ERROR. An interrupt whose condition is met is signalled on each target the ring names, after the write-
back. R170, R183: a STRM buffer completes 1 ms after its first record; an event ring that dropped records writes its overflow record once a slot is
free, which counts as a record and clears the losses. -/
def Obligations.WriteBacksInterruptsAndExpiry : Prop :=
  (∀ (s : State) (t : Stamp) (n : Fin 64) (a : Dev) (x : Nat), At s t 0 a → x = a.fld (F.HST_RING_WB.WB_ADDR n.val) * 16 →
    ((a.ringRuns n.val = false ∨ (a.ring n.val).wbDue = false) → Turns (exec (.writebackWrite t n) s) s [] a a)
    ∧ (a.ringRuns n.val = true → (a.ring n.val).wbDue = true →
      (∀ (w : Nat) (b : Dev), a.place x = .window w → a.on F.HST_STATUS.LINK_UP = true → a.violation (ringAccess n.val) x true = none →
        b = a.modRing n.val (fun r => { r with wbSeq := r.wbSeq + 1, wbDue := false }) →
        Does (exec (.writebackWrite t n) s) { s with dev := b, store := { s.store with
          host := memWrite s.store.host (a.hostAddr w x) (wbBlock a n.val) } })
      ∧ (a.place x = .unmapped → Does (exec (.writebackWrite t n) s) (State.ringLost n.val x true 4 { s with dev := a })))
    ∧ (a.irqCondition n.val = false → Turns (exec (.ringInterrupt t n) s) s [] a a)
    ∧ (a.irqCondition n.val = true → (a.ring n.val).wbDue = false → ∃ d, Turns (exec (.ringInterrupt t n) s) s [] a d
        ∧ (d.ring n.val).unsig = 0 ∧ (d.ring n.val).irqDue = false
        ∧ ((a.fld (F.HST_RING_CFG.TARGET n.val)).testBit 0 = true → a.ringSecure n.val = true →
          (if a.worlds.serveS.getLsbD (n.val + 1) then d.worlds.againS else d.worlds.plicS).getLsbD (n.val + 1) = true)
        ∧ ((a.fld (F.HST_RING_CFG.TARGET n.val)).testBit 0 = true → a.ringSecure n.val = false →
          (if a.worlds.serveN.getLsbD (n.val + 1) then d.worlds.againN else d.worlds.plicN).getLsbD (n.val + 1) = true)
        ∧ ((a.fld (F.HST_RING_CFG.TARGET n.val)).testBit 1 = true → a.on F.HST_STATUS.MSIX_EN = true →
          if a.worlds.msixMask.getLsbD (a.fld (F.HST_RING_IRQ.VECTOR n.val)) = true
          then d.worlds.msixPend.getLsbD (a.fld (F.HST_RING_IRQ.VECTOR n.val)) = true
          else .msix (a.fld (F.HST_RING_IRQ.VECTOR n.val)) ∈ d.out.irqs))
    ∧ (∀ (u y : State) (e : Nat), e < 16 → y = u.ringFail n.val e → y.dev.fld (F.HST_RING_CTRL.STATE n.val) = 3
        ∧ y.dev.fld (F.HST_RING_CTRL.ERR n.val) = e ∧ (y.dev.ring n.val).buf = none ∧ ∃ r ∈ y.dev.evq, r.ev = .hstRingError)) ∧
  (∀ (s : State) (t : Stamp) (n : Fin 64) (a : Dev), At s t 0 a →
    ((a.ring n.val).buf = none → Turns (exec (.strmBufferComplete t n) s) s [] a a)
    ∧ (∀ b, (a.ring n.val).buf = some b → (a.fld (F.HST_RING_CFG.TYPE n.val) ≠ 2 ∨ b.used = 0 ∨ a.now.since b.first < 1000) →
      Turns (exec (.strmBufferComplete t n) s) s [] a a)
    ∧ (∀ b, (a.ring n.val).buf = some b → a.fld (F.HST_RING_CFG.TYPE n.val) = 2 → 0 < b.used → 1000 ≤ a.now.since b.first →
      Does (exec (.strmBufferComplete t n) s) (State.bufDone n.val 0 0 true b.first { s with dev := a }))
    ∧ ((a.ringRuns n.val = false ∨ a.fld (F.HST_RING_CFG.TYPE n.val) ≠ 1 ∨ (a.ring n.val).lost = 0) →
      Turns (exec (.hstEvtOverflow t n) s) s [] a a)
    ∧ (a.ringRuns n.val = true → a.fld (F.HST_RING_CFG.TYPE n.val) = 1 → 0 < (a.ring n.val).lost → 0 < a.ringAvail n.val →
      (∃ k, a.place (a.ringDesc n.val) = .sram k) → a.violation (ringAccess n.val) (a.ringDesc n.val) true = none →
      a.stalled (a.ringDesc n.val) = a →
      (∀ r < 64, a.ringRuns r = true → a.fld (F.HST_RING_CFG.DISC r) = 0 → a.fld (F.HST_RING_DB.DB_ADDR r) * 4 < a.ringDesc n.val
        ∨ a.ringDesc n.val + 32 ≤ a.fld (F.HST_RING_DB.DB_ADDR r) * 4) →
      ∃ u : State, Does (exec (.hstEvtOverflow t n) s) u
        ∧ u.store.mem = memWrite s.store.mem (a.ringDesc n.val) ((overflowRec a n.val).bytes (a.ring n.val).evSeq.toNat)
        ∧ (u.dev.ring n.val).lost = 0 ∧ (u.dev.ring n.val).evSeq = (a.ring n.val).evSeq + 1
        ∧ sameRegsBut ((F.HST_RING_IDX.DIDX n.val).place :: eventRegs 0) a u.dev))

/-- R185 to R188: losing the link clears its status, counts, and stops every ring with an area in a host window; a link that was not up loses nothing.
It comes up at the lower of the partner's and the configured speed and width, not in HOLD. A failed request through a window counts, and answers a
core with a fault. -/
def Obligations.PcieLink : Prop :=
  ∀ (s : State) (t : Stamp) (a : Dev), At s t 0 a →
    (a.on F.HST_STATUS.LINK_UP = false → Turns (exec (.pcieLinkDown t) s) s [] a a)
    ∧ (a.on F.HST_STATUS.LINK_UP = true → ∀ b : Dev,
        b = ((a.linkReset.setFld F.HST_LINK_FLAG.LINK_LOST 1).inc F.HST_LINK_CNT.LOSSES).note .hstLinkLost (.ring 64) →
        b.on F.HST_STATUS.LINK_UP = false ∧ b.on F.HST_STATUS.MSIX_EN = false
        ∧ ((∀ n < 64, (b.on (F.HST_RING_CTRL.ENABLE n) && b.ringInWindow n) = false) →
          Turns (exec (.pcieLinkDown t) s) s
            ([F.HST_STATUS.LINK_UP.place, F.HST_LINK_FLAG.LINK_LOST.place, F.HST_LINK_CNT.LOSSES.place] ++ eventRegs 0) a b))
    ∧ (∀ (gen : Fin 6) (width : Fin 3) (msix : Bool),
        ((a.on F.HST_STATUS.LINK_UP = true ∨ a.fld F.PWR_STATE.STATE = 2 ∨ a.islandHeld 0 = true) →
          Turns (exec (.pcieLinkUp t gen width msix) s) s [] a a)
        ∧ (a.on F.HST_STATUS.LINK_UP = false → a.fld F.PWR_STATE.STATE ≠ 2 → a.islandHeld 0 = false → ∃ d,
          Turns (exec (.pcieLinkUp t gen width msix) s) s (F.HST_STATUS.LINK_UP.place :: eventRegs 0) a d
          ∧ d.on F.HST_STATUS.LINK_UP = true ∧ d.on F.HST_STATUS.MSIX_EN = msix
          ∧ d.fld F.HST_STATUS.SPEED = min gen.val (a.fld F.HST_PCIE_CFG.MAX_SPEED)
          ∧ d.fld F.HST_STATUS.WIDTH = min width.val (a.fld F.HST_PCIE_CFG.MAX_WIDTH)
          ∧ ∃ e ∈ d.evq, e.ev = .hstLinkUp ∧ e.stamp = a.now))
    ∧ (∀ (acc : Access) (x us : BitVec 32) (error buffer : Bool) (w : Nat), a.place x.toNat = .window w →
        ((a.on F.HST_STATUS.LINK_UP = false ∨ (error = false ∧ us.toNat ≤ a.fld F.HST_PCIE_CFG.CPL_TO_MS * 1000)) →
          Turns (exec (.pcieCompletionTimeout t acc x us error buffer) s) s [] a a)
        ∧ (a.on F.HST_STATUS.LINK_UP = true → (error = true ∨ a.fld F.HST_PCIE_CFG.CPL_TO_MS * 1000 < us.toNat) → acc.master.val < 6 →
          Turns (exec (.pcieCompletionTimeout t acc x us error buffer) s) s [F.HST_LINK_FLAG.CPL_ERR.place, F.HST_LINK_CNT.CPL_ERRORS.place] a
            (((a.setFld F.HST_LINK_FLAG.CPL_ERR 1).inc F.HST_LINK_CNT.CPL_ERRORS).reply 0 .loadFault)))

/-! ### Supplies, resets, power states -/

/-- R8, R76, R77, R79, R103 (Table PWR-8): a reset event that a boot follows leaves, in every register but those of the causes, the outage log and the
supplies, each field at its Reset value, or as it was where its Kept-by column names the event; G keeps nothing. Nothing of an engine's working state
stays. -/
def Obligations.ResetEventsKeepWhatIsKept : Prop :=
  ∀ (s : State) (e : Rst) (also : Nat) (mode : PMode) (u : State), u = s.fullReset e also mode →
    (∀ b off i j r, findReg off (regDefs b) = some (r, i, j) → (b, off) ∉ [F.PWR_RESET_CAUSE.EVENT.place, F.PWR_OUTLOG_IDX.NEXT.place,
        F.PWR_RAIL_STAT.IN_WINDOW.place, F.PWR_STATE.VMAIN_OK.place] →
      (e = .g → u.dev.reg b off = resetAt s.dev.part b off)
      ∧ (e ≠ .g → u.dev.reg b off = r.after (resetAt s.dev.part b off) (s.dev.reg b off) (fun f => !f.keep.testBit e.bit)))
    ∧ u.dev.power.mode = mode ∧ u.dev.now = 0 ∧ u.dev.causes = [] ∧ u.dev.evq = [] ∧ u.dev.rings = [] ∧ u.dev.boot = {}
    ∧ u.store.otp = s.store.otp ∧ u.store.host = s.store.host
    ∧ ∀ x, ¬ (retBase ≤ x ∧ x < retBase + 0x1000) → memByte u.store.mem x = 0

/-- Table PWR-8, R97: the reset commands. All power lost is G, from which the next release boots; a release with its rails in window boots from nothing
after G, goes on after B and X with the letters that fall together with it, is P where GLOW went over to VBAT meanwhile, and the Y of a BOOT wake; rails
that are not in window release nothing, and while RST_N is low no boot begins. A rail below its threshold is B, which holds the evaluator; RST_N low is
X, and holds it until it rises, in STANDBY too; the watchdog's expiry is W, and boots. That an X in STANDBY leaves a BOOT wake pending is the model's
reading (log 165). -/
def Obligations.ResetCommands : Prop :=
  ∀ (s : State) (t : Stamp) (a : Dev), AtPower s t a →
    exec (.allPowerLost t) s = .next (State.fullReset .g 0 .off { s with dev := a }).after
    ∧ (exec (.standbyPowerOff t) s = .next (if a.power.mode = .standby then State.fullReset .g 0 .off { s with dev := a } else { s with dev := a }).after)
    ∧ (∀ (cycles : BitVec 48) (sel : Fin 4) (rails : BitVec 17) (vmain : Bool) (also : BitVec 9) (b : Dev),
        b = ({ a.rtcTick cycles.toNat with power := { a.power with sel := sel.val } }).setRails rails vmain →
        ((rails.toNat % 128 ≠ 127 ∨ a.power.mode = .on ∨ (a.power.mode = .standby ∧ a.power.wakeOn = false)) →
          exec (.powerOnResetRelease t cycles sel rails vmain also) s = .next (State.after { s with dev := a }))
        ∧ (rails.toNat % 128 = 127 → ∀ u : State,
          ((a.power.mode = .held ∧ a.power.fell = false ∧ topRst also.toNat = none ∧ u = { s with dev := b.recordReset also.toNat })
            ∨ (∃ e, a.power.mode = .held ∧ a.power.fell = false ∧ topRst also.toNat = some e
              ∧ u = State.fullReset e also.toNat .held { s with dev := b })
            ∨ (a.power.mode = .held ∧ a.power.fell = true ∧ u = State.fullReset .p also.toNat .held { s with dev := b })
            ∨ (a.power.mode = .standby ∧ a.power.wakeOn = true ∧ u = State.fullReset .y also.toNat .held { s with dev := b })) →
          (a.power.rst = false → exec (.powerOnResetRelease t cycles sel rails vmain also) s = .next (State.bootBegin u false 0).after)
          ∧ (a.power.rst = true → exec (.powerOnResetRelease t cycles sel rails vmain also) s = .next u ∧ u.dev.power.mode ≠ .on))
        ∧ (rails.toNat % 128 = 127 → a.power.mode = .off →
          (a.power.rst = false → exec (.powerOnResetRelease t cycles sel rails vmain also) s
            = .next (State.bootBegin { s with dev := b } true also.toNat).after)
          ∧ (a.power.rst = true → exec (.powerOnResetRelease t cycles sel rails vmain also) s
            = .next { s with dev := { b with power := { b.power with letters := also.toNat ||| 2 ^ Rst.x.bit } } })))
    ∧ (∀ (rails : BitVec 17) (also : BitVec 9), rails.toNat % 128 ≠ 127 → (a.power.mode = .on ∨ a.power.mode = .held) →
        ∃ u, exec (.brownOut t rails also) s = .next u ∧ u.dev.power.mode = .held
          ∧ u.store = (State.fullReset .b also.toNat .held { s with dev := a }).store
          ∧ u.dev.fld F.PWR_RAIL_STAT.IN_WINDOW = rails.toNat % 512 ∧ u.dev.power.fell = (a.power.fell || (u.dev.on F.PWR_GLOW_STAT.ON_VBAT && !rails.getLsbD 4))
          ∧ sameRegsBut [F.PWR_RAIL_STAT.IN_WINDOW.place, F.PWR_STATE.VMAIN_OK.place] (State.fullReset .b also.toNat .held { s with dev := a }).dev u.dev)
    ∧ (∀ (also : BitVec 9) (m : PMode), m = (if a.power.mode = .standby then .standby else .held) →
        (a.power.mode ≠ .off → ∃ u, exec (.externalReset t also) s = .next u ∧ u.dev.power.mode = m
          ∧ u.dev.power.rst = true ∧ u.store = (State.fullReset .x also.toNat m { s with dev := a }).store
          ∧ sameRegsBut [] (State.fullReset .x also.toNat m { s with dev := a }).dev u.dev
          ∧ (m = .held → u.dev.power.fell = a.power.fell) ∧ (m = .standby → u.dev.power.wakeOn = a.power.wakeOn))
        ∧ (a.power.mode = .off → exec (.externalReset t also) s = .next { s with dev := { a with power := { a.power with rst := true } } }))
    ∧ (∀ (cycles : BitVec 48) (b : Dev), b = { a with power := { a.power with rst := false } } →
        (a.power.mode = .held → a.power.fell = false → (b.rtcTick cycles.toNat).railsOk = true →
          exec (.rstNRise t cycles) s = .next (State.bootBegin { s with dev := b.rtcTick cycles.toNat } false 0).after)
        ∧ (a.power.mode = .off → b.railsOk = true →
          exec (.rstNRise t cycles) s = .next (State.bootBegin { s with dev := b } true a.power.letters).after)
        ∧ (a.power.mode = .held → ((b.rtcTick cycles.toNat).railsOk = false ∨ a.power.fell = true) → exec (.rstNRise t cycles) s
          = .next (State.after { s with dev := b.rtcTick cycles.toNat }))
        ∧ ((a.power.mode = .standby ∨ (a.power.mode = .off ∧ b.railsOk = false)) → exec (.rstNRise t cycles) s = .next { s with dev := b }))
    ∧ (∀ also : BitVec 9, a.power.mode = .on →
        (a.fld F.PWR_WDT_CFG.TIMEOUT_MS ≤ a.wdtMs → Does (exec (.watchdogExpiry t also) s)
          ((State.fullReset .w also.toNat .held { s with dev := a }).bootBegin false 0))
        ∧ (a.wdtMs < a.fld F.PWR_WDT_CFG.TIMEOUT_MS → Turns (exec (.watchdogExpiry t also) s) s [] a a))

/-- R78 to R80: VFIELD out of range, a bank's supply lost and restored: the rail's flags, the fault and its end. The battery's low flag, its tamper
bit and VBAT_LOW; GLOW's supply. -/
def Obligations.SupplyMonitors : Prop :=
  (∀ (s : State) (t : Stamp) (a : Dev), At s t 0 a →
    (∀ high : Bool, Turns (exec (.vfieldRange t high) s) s ([F.PWR_RAIL_STAT.IN_WINDOW.place, F.PWR_RAIL_FLAG.OUT_SEEN.place]
        ++ faultRegs (evClass .vfieldRange)) a
      (((a.setBitOf F.PWR_RAIL_STAT.IN_WINDOW 7 false).setBitOf F.PWR_RAIL_FLAG.OUT_SEEN 7 true).fault .vfieldRange (.pwr 0) 0 0
        (leBytes 1 high.toNat)))
    ∧ (∀ b : Fin 8,
        (a.part.hasBank b.val = false → Turns (exec (.vsensLow t b) s) s [] a a)
        ∧ (a.part.hasBank b.val = true → Turns (exec (.vsensLow t b) s) s ([F.PWR_RAIL_STAT.IN_WINDOW.place, F.PWR_RAIL_FLAG.OUT_SEEN.place]
            ++ faultRegs (evClass .vsensLow)) a
          (((a.setBitOf F.PWR_RAIL_STAT.VSENS_OK b.val false).setBitOf F.PWR_RAIL_FLAG.OUT_SEEN (9 + b.val) true).fault .vsensLow (.pwr b.val)))
        ∧ Turns (exec (.vsensRestored t b) s) s [F.PWR_RAIL_STAT.IN_WINDOW.place] a
          ((a.setBitOf F.PWR_RAIL_STAT.VSENS_OK b.val true).clear .vsensLow (.pwr b.val))))
  ∧ (∀ (s : State) (t : Stamp) (a : Dev), AtPower s t a →
    (∃ d, exec (.vbatLow t) s = .next (State.after { s with dev := d }) ∧ d.on F.PWR_GLOW_STAT.VBAT_LOW = true
      ∧ d.on F.PWR_TAMPER.VBAT_LOW_SEEN = true ∧ d.bitOf F.PWR_RAIL_STAT.IN_WINDOW 8 = false
      ∧ (a.power.mode = .on → d.bitOf F.PWR_RAIL_FLAG.OUT_SEEN 8 = true ∧ ∃ e ∈ d.evq, e.ev = .vbatLow ∧ e.stamp = a.now)
      ∧ sameRegsBut ([F.PWR_GLOW_STAT.VBAT_LOW.place, F.PWR_TAMPER.VBAT_LOW_SEEN.place, F.PWR_RAIL_STAT.IN_WINDOW.place,
        F.PWR_RAIL_FLAG.OUT_SEEN.place] ++ eventRegs 0) a d)
    ∧ (∃ d, exec (.vbatRestored t) s = .next (State.after { s with dev := d }) ∧ d.on F.PWR_GLOW_STAT.VBAT_LOW = false
      ∧ d.bitOf F.PWR_RAIL_STAT.IN_WINDOW 8 = true ∧ sameRegsBut [F.PWR_GLOW_STAT.VBAT_LOW.place, F.PWR_RAIL_STAT.IN_WINDOW.place] a d)
    ∧ (∀ onVbat : Bool, ∃ d, exec (.glowSupplySwitchover t onVbat) s = .next (State.after { s with dev := d })
      ∧ d.on F.PWR_GLOW_STAT.ON_VBAT = onVbat ∧ sameRegsBut [F.PWR_GLOW_STAT.ON_VBAT.place] a d
      ∧ d.power.fell = (a.power.fell || (onVbat && decide (a.power.mode = .held)))))

/-- R81 to R86, R99: DOZE is entered while every core that runs waits and no interrupt does, and ends when one does; HOLD is entered from RUN or DOZE,
and stops the ports but the twin's, at once or, with an S in progress, when its engines start; it is left with the supply's return, or ends after its
budget in STANDBY with the snapshot's cause 1, an outage entry, and every vital output safe; an N that waited is then performed. In STANDBY a wake
source sets its flag, WAKE_CMP_1 the door's too, and a LOG wake writes an entry where a BOOT wake asks for the rails; a BOOT wake whose rails fail
returns to STANDBY. -/
def Obligations.PowerStates : Prop :=
  (∀ (s : State) (t : Stamp) (a : Dev), At s t 0 a →
    (∀ waiting : BitVec 6,
      (a.fld F.PWR_STATE.STATE = 0 → a.on F.PWR_DOZE_CFG.ENABLE = true → a.coresRun ≠ 0 → a.coresRun &&& waiting.toNat = a.coresRun →
        a.irqWaits = false → Turns (exec (.dozeEntry t waiting) s) s [F.PWR_STATE.STATE.place] a ((a.setFld F.PWR_STATE.STATE 1).pend 68))
      ∧ ((a.fld F.PWR_STATE.STATE ≠ 0 ∨ a.on F.PWR_DOZE_CFG.ENABLE = false ∨ a.irqWaits = true) →
        Turns (exec (.dozeEntry t waiting) s) s [] a a))
    ∧ (a.fld F.PWR_STATE.STATE = 1 → (a.irqWaits = true ∨ a.coresRun = 0) →
        Turns (exec (.dozeExit t) s) s [F.PWR_STATE.STATE.place] a (((a.setFld F.PWR_STATE.STATE 0).pend 68).ungate [6, 7]))
    ∧ ((a.fld F.PWR_STATE.STATE ≠ 1 ∨ (a.irqWaits = false ∧ a.coresRun ≠ 0)) → Turns (exec (.dozeExit t) s) s [] a a)
    ∧ (2 ≤ a.fld F.PWR_STATE.STATE → Turns (exec (.holdEntry t) s) s [] a a)
    ∧ (a.fld F.PWR_STATE.STATE < 2 → a.on F.HST_STATUS.LINK_UP = false → ∃ d, Does (exec (.holdEntry t) s) { s with dev := d }
        ∧ d.fld F.PWR_STATE.STATE = 2 ∧ d.on F.PWR_STATE.VMAIN_OK = false ∧ d.power.since = a.now
        ∧ (∃ e ∈ d.evq, e.ev = .pwrHoldEnter ∧ e.stamp = a.now)
        ∧ d.power.holdDue = (a.boot.startDue && a.boot.byS)
        ∧ ((a.boot.startDue && a.boot.byS) = false →
          ∀ n < 4, a.on (F.NET_CFG.ENABLE n) = true → a.netRole n ≠ 0 → d.on (F.NET_STAT.LINK_UP n) = false))
    ∧ ((a.fld F.PWR_STATE.STATE ≠ 2 ∨ a.budgetOver = true) → Turns (exec (.holdExit t) s) s [] a a)
    ∧ (a.fld F.PWR_STATE.STATE = 2 → a.budgetOver = false → a.power.waitS = false → a.power.waitN = false → ∃ d,
        Does (exec (.holdExit t) s) { s with dev := d } ∧ d.fld F.PWR_STATE.STATE = 0 ∧ d.on F.PWR_STATE.VMAIN_OK = true
        ∧ (∃ e ∈ d.evq, e.ev = .pwrHoldExit ∧ e.stamp = a.now)
        ∧ d.power.holdDue = false
        ∧ (a.power.holdDue = false → ∀ n < 4, a.on (F.NET_CFG.ENABLE n) = true → a.netRole n ≠ 0 → d.on (F.NET_FLAG.SYNC_LOST n) = true))
    ∧ ((a.fld F.PWR_STATE.STATE ≠ 2 ∨ a.budgetOver = false) → Turns (exec (.orderlyShutdown t) s) s [] a a)
    ∧ (a.fld F.PWR_STATE.STATE = 2 → a.budgetOver = true → ∃ u, Does (exec (.orderlyShutdown t) s) u ∧ u.dev.fld F.PWR_STATE.STATE = 3
        ∧ u.dev.power.mode = .standby ∧ u.dev.power.waitS = false ∧ u.dev.power.waitN = false ∧ u.dev.logq = []
        ∧ u.dev.safeLine = true ∧ u.dev.evaluating = false
        ∧ (a.boot.inHold = false → u.dev.on F.PWR_GLOW_STAT.SNAP_VALID = true)))
  ∧ (∀ (s : State) (t : Stamp) (cycles : BitVec 48) (a : Dev), AtPower s t a →
    (∀ (source : Fin 4) (rising : Bool), (a.power.mode ≠ .standby ∧ a.power.mode ≠ .held →
        exec (.wakeSource t cycles source rising) s = .next (State.after { s with dev := a }))
      ∧ (a.power.mode = .standby → ∀ b c : Dev, b = a.rtcTick cycles.toNat →
        c = (if source.val = 2 then (b.setBitOf F.PWR_WAKE_SRC.SEEN 2 true).setFld F.PWR_TAMPER.DOOR 1
          else b.setBitOf F.PWR_WAKE_SRC.SEEN source.val true) → ∀ mode, b.fld F.PWR_WAKE_CFG.MODE / 2 ^ (2 * source.val) % 4 = mode →
        ((mode = 0 ∨ (source.val = 2 ∧ rising = false ∧ b.on F.PWR_WAKE_CFG.CMP_1_BOTH = false)
            ∨ (source.val = 3 ∧ b.fld F.PWR_RTC_SEC.SEC ≠ b.fld F.PWR_RTC_ALARM.ALARM)) →
          exec (.wakeSource t cycles source rising) s = .next { s with dev := b })
        ∧ ((source.val < 2 ∨ (source.val = 2 ∧ (rising = true ∨ b.on F.PWR_WAKE_CFG.CMP_1_BOTH = true))
            ∨ (source.val = 3 ∧ b.fld F.PWR_RTC_SEC.SEC = b.fld F.PWR_RTC_ALARM.ALARM)) →
          (mode = 1 → exec (.wakeSource t cycles source rising) s = .next (State.glow { s with dev := c.logOutage 10 }))
          ∧ (2 ≤ mode → exec (.wakeSource t cycles source rising) s
            = .next { s with dev := { c with power := { c.power with wakeOn := true } } }))))
    ∧ (a.power.mode = .standby → a.power.wakeOn = true → ∀ b : Dev,
        b = ((a.rtcTick cycles.toNat).setFld F.PWR_TAMPER.WAKE_FAIL 1).logOutage 11 → exec (.wakeFail t cycles) s
          = .next (State.glow { s with dev := { b with power := { b.power with wakeOn := false } } }))
    ∧ (a.power.mode = .standby → a.power.wakeOn = false → exec (.wakeFail t cycles) s = .next { s with dev := a.rtcTick cycles.toNat }))

/-! ### Boot, the seal, the start of the engines -/

/-- R107 to R109, R115, R116: the source in turn is applied if no reason of Table BOT-5 refuses it, else refused with its reason, noted in its register
and in BOOT_IMAGE_REFUSED; what an 8D-8D-8D read delivers counts if it begins with MAGIC, else what a 1S-1S-1S read does; the next source follows, and
with none left the boot fails. A PCIe source that has brought no image 10 s after the release is refused with reason 10. R119, R120, R125, R414: a scan
keeps its words; the counters of UART_7 count valid and invalid reads; an invalid read counts, and the third in a row raises SEAL_SCAN_FAULT. In
operation a scan is made 1 s after the last periodic one, and again 10 ms after an invalid read, twice at most; a valid read that differs from the seal
in force raises SEAL_CHANGED, whose cause goes with one that matches. In a boot the first valid read, or the second repeat, ends the scan, and the
sources follow; one that differs from a non-zero PWR_SEAL_LAST raises SEAL_CHANGED_OFFLINE (R127). -/
def Obligations.BootSourcesAndSealScans : Prop :=
  ((∀ (s : State) (t : Stamp) (a : Dev), At s t 0 a →
    (∀ (octal : Option (List Byte)) (image : List Byte),
      ((a.boot.running = false ∨ a.boot.scanned = false ∨ a.boot.sources = [] ∨ a.boot.sources.head? = some 2) →
        Turns (exec (.bootSourceTry t octal image) s) s [] a a)
      ∧ (∀ src rest, a.boot.running = true → a.boot.scanned = true → a.boot.sources = src :: rest → src ≠ 2 →
        ∀ (mode : Bool) (l : List Byte) (r : Nat), ((∃ x, octal = some x ∧ hasMagic x = true ∧ mode = true ∧ l = x)
          ∨ ((∀ x, octal = some x → hasMagic x = false) ∧ mode = false ∧ l = image)) → r = imgReason a.part s.store.otp l →
        (r = 0 → Does (exec (.bootSourceTry t octal image) s) (State.applyImage src mode l { s with dev := a }))
        ∧ (r ≠ 0 → Does (exec (.bootSourceTry t octal image) s) (State.bootRefuse src r { s with dev := a }))))
    ∧ (∀ rest, a.boot.running = true → a.boot.scanned = true → a.boot.sources = 2 :: rest →
      (10000000 ≤ a.now.since a.boot.since → Does (exec (.pcieTimeout t) s)
        (State.bootRefuse 2 10 { s with dev := { a with boot := { a.boot with taken := true } } }))
      ∧ (a.now.since a.boot.since < 10000000 → Turns (exec (.pcieTimeout t) s) s [] a a))
    ∧ ((a.boot.running = false ∨ a.boot.scanned = false ∨ a.boot.sources.head? ≠ some 2) → Turns (exec (.pcieTimeout t) s) s [] a a))
  ∧ ∀ (s : State) (src reason : Nat) (rest : List Nat), reason < 16 → src < 3 → s.dev.boot.sources = src :: rest → rest.head? ≠ some 2 →
    ∃ u, s.bootRefuse src reason = u ∧ u.store = s.store
      ∧ u.dev.fld (if src = 0 then F.BOT_STATUS.REASON_A else if src = 1 then F.BOT_STATUS.REASON_B else F.BOT_STATUS.REASON_PCIE) = reason
      ∧ (∃ e ∈ u.dev.evq, e.ev = .bootImageRefused ∧ e.stamp = s.dev.now)
      ∧ u.dev.boot.sources = rest
      ∧ (rest ≠ [] → u.dev.fld F.BOT_STATUS.PHASE = 1)
      ∧ (rest = [] → u.dev.fld F.BOT_STATUS.PHASE = 6 ∧ u.dev.boot.running = false ∧ u.dev.fld F.FLT_STATE.DEV_STATE = 5)) ∧
  ((∀ (d : Dev) (w : BitVec 64) (x c : Word), w.extractLsb' 32 32 = x → w.extractLsb' 0 32 = c →
    (d.sealRead w).1.fld F.BOT_SEAL_RAW_T.TRUE = x.toNat ∧ (d.sealRead w).1.fld F.BOT_SEAL_RAW_C.COMPL = c.toNat
    ∧ (d.sealRead w).1.boot.scanAt = d.now
    ∧ (c = ~~~ x → (d.sealRead w).2 = some x ∧ (d.sealRead w).1.boot.invalid = 0
      ∧ (d.sealRead w).1.fld (F.SER_RX_CNT_LO.V 7) = (d.fld (F.SER_RX_CNT_LO.V 7) + 1) % 2 ^ 32
      ∧ sameRegsBut [F.BOT_SEAL_RAW_T.TRUE.place, F.BOT_SEAL_RAW_C.COMPL.place, (F.SER_RX_CNT_LO.V 7).place, (F.SER_RX_CNT_HI.V 7).place]
          d (d.sealRead w).1)
    ∧ (c ≠ ~~~ x → (d.sealRead w).2 = none ∧ (d.sealRead w).1.boot.invalid = d.boot.invalid + 1
      ∧ (d.sealRead w).1.on F.BOT_SEAL_FLAG.READ_FAULT = true
      ∧ (d.sealRead w).1.fld (F.SER_ERR_CNT.FRAME_ERRS 7) = min (d.fld (F.SER_ERR_CNT.FRAME_ERRS 7) + 1) 65535
      ∧ (∃ e ∈ (d.sealRead w).1.evq, e.ev = .sealReadFault ∧ e.stamp = d.now)
      ∧ (2 ≤ d.boot.invalid → (d.sealRead w).1.has .sealScanFault .bot = true)))
  ∧ ∀ (s : State) (t : Stamp) (w : BitVec 64) (a : Dev), At s t 0 a →
    ((a.boot.running = false ∨ a.boot.scanned = true) → a.now.since a.boot.periodAt < 1000000 → Turns (exec (.sealScan t w) s) s [] a a)
    ∧ (a.boot.running = true → a.boot.scanned = false → a.boot.repeats ≠ 0 → Turns (exec (.sealScan t w) s) s [] a a)
    ∧ ((a.boot.repeats = 0 ∨ a.now.since a.boot.scanAt < 10000) → Turns (exec (.sealScanRetry t w) s) s [] a a)
    ∧ (∀ (i : Instr) (c r b : Dev) (code : Option Word) (left : Nat),
        ((i = .sealScan t w ∧ c = { a with boot := { a.boot with periodAt := a.now } } ∧ left = 2
            ∧ (if a.boot.running && !a.boot.scanned then a.boot.repeats = 0 else 1000000 ≤ a.now.since a.boot.periodAt))
          ∨ (i = .sealScanRetry t w ∧ c = a ∧ a.boot.repeats = left + 1 ∧ 10000 ≤ a.now.since a.boot.scanAt)) →
        c.sealRead w = (r, code) → b = { r with boot := { r.boot with repeats := if code.isSome then 0 else left } } →
        (a.boot.running = false →
          (code = none → Does (exec i s) { s with dev := b })
          ∧ (∀ x : Word, code = some x →
            (b.fld F.BOT_STATUS.PHASE ≠ 4 → Does (exec i s) { s with dev := b })
            ∧ (b.fld F.BOT_STATUS.PHASE = 4 → x.toNat = b.fld F.BOT_SEAL_IN_FORCE.CODE → Does (exec i s) { s with dev := b.clear .sealChanged .bot })
            ∧ (b.fld F.BOT_STATUS.PHASE = 4 → x.toNat ≠ b.fld F.BOT_SEAL_IN_FORCE.CODE → b.has .sealChanged .bot = true →
              Does (exec i s) { s with dev := b.setFld F.PWR_TAMPER.SEAL_CHANGED 1 })
            ∧ (b.fld F.BOT_STATUS.PHASE = 4 → x.toNat ≠ b.fld F.BOT_SEAL_IN_FORCE.CODE → b.has .sealChanged .bot = false → ∃ d : Dev,
              Does (exec i s) { s with dev := d } ∧ d.has .sealChanged .bot = true ∧ d.on F.PWR_TAMPER.SEAL_CHANGED = true
              ∧ d.on F.BOT_SEAL_FLAG.CHANGED = true ∧ (d.boot.inHold = true ↔ b.fld F.PWR_STATE.STATE = 2)
              ∧ ∃ e ∈ d.evq, e.ev = .sealChanged ∧ e.stamp = b.now)))
        ∧ (a.boot.running = true →
          (code = none → (a.boot.scanned = true ∨ left ≠ 0) → Does (exec i s) { s with dev := b })
          ∧ (code = none → a.boot.scanned = false → left = 0 →
            Does (exec i s) (State.bootNext { s with dev := { b with boot := { b.boot with scanned := true } } }))
          ∧ (∀ (x : Word) (e : Dev), code = some x → e = { b with boot := { b.boot with valid := some x } } → ∀ f : Dev,
            f = (if b.fld F.PWR_SEAL_LAST.CODE ≠ 0 ∧ x.toNat ≠ b.fld F.PWR_SEAL_LAST.CODE then
                if b.boot.valid ≠ some x then (e.setFld F.PWR_TAMPER.SEAL_CHANGED 1).note .sealChangedOffline .bot 0 (leBytes 4 x.toNat)
                else e.setFld F.PWR_TAMPER.SEAL_CHANGED 1 else e) →
            (a.boot.scanned = true → Does (exec i s) { s with dev := f })
            ∧ (a.boot.scanned = false → Does (exec i s) (State.bootNext { s with dev := { f with boot := { f.boot with scanned := true } } }))))))

/-- R21, R26, R99, R501, R504, R505, R515: the engines start once boot has ended and the twin lets them; the device state leaves STARTUP for RUN, or for
the state of the worst cause that is present (and no lower than the safe state noted at a boot failure); records held since reset are routed, already
while the twin holds the engines. A HOLD that an S has held back then stops its islands. When LOCK_WAIT_MS has passed without pairing, the evaluator is
to start ALONE if its loops have been quiet for PROMOTE_US, else ISOLATED. -/
def Obligations.EngineStart : Prop :=
  ∀ (s : State) (t : Stamp) (a : Dev), At s t 0 a → (a.boot.started = false ∨ a.power.holdDue = false) →
    (a.boot.startDue = false → Turns (exec (.engineStart t) s) s [] a a)
    ∧ (a.boot.startDue = true → a.twinLets = false → ∃ u, Does (exec (.engineStart t) s) u ∧ u = State.flushStart { s with dev := a }
        ∧ u.dev.startq = [] ∧ u.dev.fld F.EVT_START.START_QUEUE = 0 ∧ u.dev.boot.started = a.boot.started
        ∧ u.dev.fld F.FLT_STATE.DEV_STATE = a.fld F.FLT_STATE.DEV_STATE)
    ∧ (∀ (worst : Nat) (d : Dev) (v : State), a.boot.startDue = true → a.twinLets = true → worst = a.causes.foldl (fun m c => max m c.cls) a.boot.worst →
        d = { a.setFld F.FLT_STATE.DEV_STATE (if 4 ≤ worst then worst else 1) with boot := { a.boot with startDue := false, started := true } } →
        v = ((State.snapOffer { s with dev := d }).map Dev.twinStarted).flushStart →
        (a.power.holdDue = false → Does (exec (.engineStart t) s) v) ∧ (a.power.holdDue = true → Does (exec (.engineStart t) s) v.holdStop)
        ∧ (worst < 6 → a.twin.held = false → v.dev.fld F.FLT_STATE.DEV_STATE = (if 4 ≤ worst then worst else 1) ∧ v.dev.boot.started = true
          ∧ v.dev.boot.startDue = false ∧ v.dev.startq = []))
    ∧ (a.twin.held = true → a.twin.startAt = none → a.fld F.TWN_CFG.LOCK_WAIT_MS * 1000 ≤ a.now.since a.twin.heldAt → ∀ b d : Dev,
        b = a.modTwin (fun w => { w with startAt := some a.now, trims := 0 }) →
        d = (if a.loopsQuiet (a.now - BitVec.ofNat 48 (a.fld F.TWN_TIME.PROMOTE_US)) then
          (b.setFld F.TWN_STAT.ROLE 0).setFld F.TWN_STAT.STATE 4 else (b.setFld F.TWN_STAT.ROLE 1).setFld F.TWN_STAT.STATE 5) →
        d.twinLets = true ∧ Does (exec (.lockWaitExpiry t) s) (State.enginesStart { s with dev := d })
        ∧ (a.boot.startDue = false → Turns (exec (.lockWaitExpiry t) s) s [F.TWN_STAT.STATE.place] a d))
    ∧ ((a.twin.held = false ∨ a.twin.startAt ≠ none ∨ a.now.since a.twin.heldAt < a.fld F.TWN_CFG.LOCK_WAIT_MS * 1000) →
        Does (exec (.lockWaitExpiry t) s) (State.enginesStart { s with dev := a })
        ∧ (a.boot.startDue = false → Turns (exec (.lockWaitExpiry t) s) s [] a a))

/-- R56, R61, R62, R65: sample time wraps from 2^48 - 1 to 0. At a multiple of 1,000 no step has displaced, a mapping pair is captured from sample
time and the clock of the port that ISL_PTP_SRC names, and at a multiple of 1,000,000 also recorded when the tick closes without a step of that port. R63, R64, R68 to R73: a gated clock's monitor is
suspended, the first gate after a start only measures; a clock in window clears its causes; one more than 6 % off, or stopped, sets its flag, and
raises CLK_WINDOW_VITAL if it is vital, CLK_WINDOW_CORE with every core held if it is a core's, else it resets its island. The die-to-die link's loss
is raised with its reason, and ends with valid words. -/
def Obligations.SampleTimePairsAndClockMonitors : Prop :=
  ((∀ s : State, Runs s → s.dev.now = 0xFFFFFFFFFFFF#48 → Does (exec .sampleTimeWrap s) { s with dev := s.dev.arrive 0 0 }
    ∧ (s.dev.arrive 0 0).now = 0)
  ∧ (∀ s : State, Runs s → s.dev.now ≠ 0xFFFFFFFFFFFF#48 → Does (exec .sampleTimeWrap s) { s with dev := s.dev.arrive s.dev.now 0 }
    ∧ (s.dev.arrive s.dev.now 0).now = s.dev.now)
  ∧ ∀ (s : State) (t : Stamp) (a : Dev), At s t 0 a →
    (a.on F.ISL_PTP_SRC.ENABLE = false → Turns (exec (.mappingPairCapture t) s) s [] a a)
    ∧ (a.clocks.mapDue = none → a.now.toNat % 1000 ≠ 0 → Turns (exec (.mappingPairCapture t) s) s [] a a)
    ∧ (a.on F.ISL_PTP_SRC.ENABLE = true → a.clocks.mapDue = none → a.now.toNat % 1000 = 0 → ∃ d,
      Turns (exec (.mappingPairCapture t) s) s [F.ISL_MAP_ST_LO.V.place, F.ISL_MAP_ST_HI.V.place, F.ISL_MAP_SEC_LO.V.place,
        F.ISL_MAP_SEC_HI.V.place, F.ISL_MAP_NS.NS.place] a d
      ∧ d.fld F.ISL_MAP_ST_LO.V + 2 ^ 32 * d.fld F.ISL_MAP_ST_HI.V = a.now.toNat
      ∧ d.fld F.ISL_MAP_SEC_LO.V = a.fld (F.NET_PTP_SEC_LO.V (a.fld F.ISL_PTP_SRC.PORT))
      ∧ d.fld F.ISL_MAP_SEC_HI.V = a.fld (F.NET_PTP_SEC_HI.V (a.fld F.ISL_PTP_SRC.PORT))
      ∧ d.fld F.ISL_MAP_NS.NS = a.fld (F.NET_PTP_NS.NS (a.fld F.ISL_PTP_SRC.PORT))
      ∧ d.evq = a.evq ∧ d.mapClose.clocks.mapPair = none
      ∧ (a.now.toNat % 1000000 ≠ 0 → d.mapClose.evq = a.evq)
      ∧ (a.now.toNat % 1000000 = 0 → ∃ r, d.mapClose.evq = a.evq ++ [r] ∧ r.ev = .timeMap ∧ r.stamp = a.now)
      ∧ ∀ (k : Nat) (x : Int), a.fld F.ISL_PTP_SRC.PORT = k →
        let e := d.ptpStep k x
        e.clocks.mapPair = none ∧ e.clocks.mapDue = some (a.now.plus 1)
          ∧ e.fld F.ISL_MAP_ST_LO.V = a.fld F.ISL_MAP_ST_LO.V ∧ e.fld F.ISL_MAP_NS.NS = a.fld F.ISL_MAP_NS.NS)) ∧
  (∀ (s : State) (t : Stamp) (i : Fin 13) (count : BitVec 24) (stopped : Bool) (a b : Dev), At s t 0 a →
    b = a.setFld (F.ISL_CLK_MEAS.COUNT i.val) count.toNat →
    (a.clockGated i.val = true → Turns (exec (.clockMonitorGate t i count stopped) s) s [] a a)
    ∧ (a.clockGated i.val = false → (i.val < 9 ∨ a.part.hasPort (i.val - 9) = true) →
        (i.val < 8 ∨ a.clockVital i.val = true ∨ a.islandHeld (clockIsland i.val) = false) →
      (a.clocks.judging.testBit i.val = false → Turns (exec (.clockMonitorGate t i count stopped) s) s [(F.ISL_CLK_MEAS.COUNT i.val).place] a
        { b with clocks := { b.clocks with judging := setMask b.clocks.judging i.val (!stopped) } })
      ∧ (a.clocks.judging.testBit i.val = true → stopped = false → b.clockOff i.val count.toNat = 0 →
        Turns (exec (.clockMonitorGate t i count stopped) s) s [(F.ISL_CLK_MEAS.COUNT i.val).place, F.ISL_CLK_OK.IN_WINDOW.place] a
          (((b.setBitOf F.ISL_CLK_OK.IN_WINDOW i.val true).clear .clkWindowVital (.clock i.val)).clear .clkWindowCore (.clock i.val)))
      ∧ (a.clocks.judging.testBit i.val = true → (stopped = true ∨ b.clockOff i.val count.toNat = 2) → ∀ d : Dev,
          d = ((b.setBitOf F.ISL_CLK_OK.IN_WINDOW i.val false).setBitOf F.ISL_CLK_FLAG.OUT_SEEN i.val true).pend 69 →
          (a.clockVital i.val = true → Turns (exec (.clockMonitorGate t i count stopped) s) s ([(F.ISL_CLK_MEAS.COUNT i.val).place,
              F.ISL_CLK_OK.IN_WINDOW.place, F.ISL_CLK_FLAG.OUT_SEEN.place] ++ faultRegs (evClass .clkWindowVital)) a
            (if d.has .clkWindowVital (.clock i.val) then d else (d.fault .clkWindowVital (.clock i.val) 0 0 (leBytes 4 count.toNat)).clockFirst i.val))
          ∧ (a.clockVital i.val = false → i.val < 8 → ∃ e, Turns (exec (.clockMonitorGate t i count stopped) s) s
            ([(F.ISL_CLK_MEAS.COUNT i.val).place, F.ISL_CLK_OK.IN_WINDOW.place, F.ISL_CLK_FLAG.OUT_SEEN.place]
              ++ faultRegs (evClass .clkWindowCore)) a e ∧ e.clocks.coresHeld = true ∧ e.worlds.apRunning = 0
            ∧ e.has .clkWindowCore (.clock i.val) = true)
          ∧ (a.clockVital i.val = false → 8 ≤ i.val → Does (exec (.clockMonitorGate t i count stopped) s) (State.clockIslandReset i.val
            { s with dev := d.note .clkWindowIsland (.clock i.val) 0 (leBytes 4 count.toNat) }))))
    ∧ (∀ (silent : Bool) (bad : BitVec 16) (d : Dev), d = a.inc F.ISL_D2D_STAT.CRC_ERR bad.toNat →
      ((silent = true ∨ 3 ≤ bad.toNat) → Turns (exec (.d2dLinkLost t silent bad) s) s (F.ISL_D2D_STAT.CRC_ERR.place
          :: faultRegs (evClass .d2dLinkLost)) a (d.fault .d2dLinkLost (.clock 0) 0 0 (leBytes 1 (if silent then 1 else 2))))
      ∧ (silent = false → bad.toNat < 3 → Turns (exec (.d2dLinkLost t silent bad) s) s [F.ISL_D2D_STAT.CRC_ERR.place] a
          (d.clear .d2dLinkLost (.clock 0)))))

/-! ### The wheel-sensor front end -/

/-- R194, R196 to R199, R201, R204: the records of an aperture or gate that ends at a multiple of its length reach the twin and the heads, those of
any other stamp do not exist; where no head and no twin follow them, the channel's registers are all they change. A code is the nearest multiple of
20 µV, over-range beyond ±32,766. A record that nothing blanks carries its own code, a blanked one repeats the latest unblanked code and tag. A gate
counts the periods up to its last crossing before its end; the one that ends at 0 lasts 6 µs; a lost carrier shows in its channel. -/
def Obligations.FrontEndRecords : Prop :=
  (∀ nv : Int, (sampleCode nv).2 = false →
    (20000 * (sampleCode nv).1 - nv).natAbs ≤ 10000 ∧ (sampleCode nv).1.natAbs ≤ 32766)
  ∧ (∀ nv : Int, (sampleCode nv).2 = true → 20000 * 32766 + 10000 ≤ nv.natAbs ∧ ((sampleCode nv).1 = 32767 ∧ 0 < nv ∨ (sampleCode nv).1 = -32768 ∧ nv < 0))
  ∧ (∀ (s : State) (t : Stamp) (a d : Dev) (rs : List ChanRec), At s t 0 a →
    (∀ records : List (Fin 64 × Int × Bool), a.now.toNat % 10 = 0 →
      records.foldl (fun x e => ((x.1.chanSample e.1.val e.2.1 e.2.2).1, x.2 ++ (x.1.chanSample e.1.val e.2.1 e.2.2).2)) (a, []) = (d, rs) →
      Does (exec (.sampleRecord t records) s) { s with dev := d.digestOwn.recordsReach rs })
    ∧ (∀ records : List (Fin 64 × Int × Bool), a.now.toNat % 10 ≠ 0 → Turns (exec (.sampleRecord t records) s) s [] a a)
    ∧ (∀ words : List (Fin 64 × BitVec 16 × BitVec 16 × Bool × Int × Bool), a.now.toNat % 50 = 0 →
      words.foldl (fun x e => ((x.1.chanWord e.1.val e.2.1.toNat e.2.2.1.toNat e.2.2.2.1 e.2.2.2.2.1 e.2.2.2.2.2).1,
        x.2 ++ (x.1.chanWord e.1.val e.2.1.toNat e.2.2.1.toNat e.2.2.2.1 e.2.2.2.2.1 e.2.2.2.2.2).2)) (a, []) = (d, rs) →
      Does (exec (.frequencyWord t words) s) { s with dev := d.recordsReach rs })
    ∧ (∀ words : List (Fin 64 × BitVec 16 × BitVec 16 × Bool × Int × Bool), a.now.toNat % 50 ≠ 0 →
      Turns (exec (.frequencyWord t words) s) s [] a a)
    ∧ (∀ (c : Fin 64) (nv : Int) (limit : Bool), a.twinOn = false → (a.evaluating = false ∨ (a.sysOfChan c.val = none ∧ a.headsWait = [])) →
      (a.now.toNat % 10 = 0 → (a.modeNow c.val = 1 ∨ a.modeNow c.val = 3) → ∃ (e : Dev) (r : ChanRec), a.chanSample c.val nv limit = (e, [r])
        ∧ r.limit = limit ∧ e.reg .haz (F.HAZ_CH_SAMPLE.RECORD c.val).off
            = recordWord (if (a.chan c.val).moved = some a.now then 4 - a.modeNow c.val else a.modeNow c.val) (a.now.toNat / 10) r
        ∧ e.on (F.HAZ_CH_STAT.LIMIT c.val) = limit
        ∧ Turns (exec (.sampleRecord t [(c, nv, limit)]) s) s [(F.HAZ_CH_SAMPLE.RECORD c.val).place, (F.HAZ_CH_STAT.OVR c.val).place,
            (F.HAZ_CH_FLAG.OVR_SEEN c.val).place, (F.HAZ_CH_CNT.OVR_EPISODES c.val).place, (F.HAZ_CH_REC_LO.V c.val).place,
            (F.HAZ_CH_REC_HI.V c.val).place, (F.HAZ_CH_BLANKED.BLANKED c.val).place, (F.HAZ_CH_PEAK.MIN c.val).place] a e)
      ∧ (a.now.toNat % 50 = 0 → a.modeNow c.val = 2 → ∀ (n before : BitVec 16) (onEnd : Bool) (x : Nat), (a.chan c.val).cross = some x → n ≠ 0 →
          before.toNat < x + (if a.now = 0 then 3840 else 32000) → ∃ e : Dev,
        Turns (exec (.frequencyWord t [(c, n, before, onEnd, nv, limit)]) s) s [(F.HAZ_CH_SAMPLE.RECORD c.val).place,
            (F.HAZ_CH_STAT.OVR c.val).place, (F.HAZ_CH_FLAG.OVR_SEEN c.val).place, (F.HAZ_CH_CNT.OVR_EPISODES c.val).place,
            (F.HAZ_CH_REC_LO.V c.val).place, (F.HAZ_CH_REC_HI.V c.val).place, (F.HAZ_CH_BLANKED.BLANKED c.val).place,
            (F.HAZ_CH_PEAK.MIN c.val).place, (F.HAZ_CH_FRAW.N c.val).place, (F.HAZ_CH_MEAN.CODE c.val).place] a e
          ∧ e.fld (F.HAZ_CH_FRAW.N c.val) = n.toNat % 2 ^ 8
          ∧ e.fld (F.HAZ_CH_FRAW.T c.val) = (x + (if a.now = 0 then 3840 else 32000) - before.toNat) % 2 ^ 24
          ∧ e.on (F.HAZ_CH_STAT.CARRIER_LOST c.val) = false
          ∧ (e.chan c.val).cross = some (if onEnd then 0 else before.toNat))))
  ∧ (∀ (d d' : Dev) (c : Nat) (nv : Int) (limit : Bool) (rs : List ChanRec), c < 64 → d.chanSample c nv limit = (d', rs) →
    (d.modeNow c ≠ 1 → d.modeNow c ≠ 3 → d' = d ∧ rs = [])
    ∧ ((d.modeNow c = 1 ∨ d.modeNow c = 3) → ∃ r : ChanRec, rs = [r] ∧ r.chan = c ∧ r.limit = limit
      ∧ d'.reg .haz (F.HAZ_CH_SAMPLE.RECORD c).off
        = recordWord (if (d.chan c).moved = some d.now then 4 - d.modeNow c else d.modeNow c) (d.now.toNat / 10) r
      ∧ d'.fld (F.HAZ_CH_REC_LO.V c) + 2 ^ 32 * d'.fld (F.HAZ_CH_REC_HI.V c)
        = (d.fld (F.HAZ_CH_REC_LO.V c) + 2 ^ 32 * d.fld (F.HAZ_CH_REC_HI.V c) + 1) % 2 ^ (32 + (F.HAZ_CH_REC_HI.V c).w)
      ∧ (d.bankOverlaps (c / 8) (apertureStart 10 d.now) d.now = false → (d.chan c).settle = 0 → d.selftestTags c false d.now = false →
          d.now ≠ 0 → (d.chan c).moved ≠ some (apertureStart 10 d.now) →
          r.blanked = false ∧ r.code = (sampleCode nv).1 ∧ r.ovr = ((sampleCode nv).2 || ((d.chan c).ovr && decide ((d.chan c).run + 1 < 12))))
      ∧ ((d.bankOverlaps (c / 8) (apertureStart 10 d.now) d.now = true ∨ 0 < (d.chan c).settle ∨ d.now = 0
            ∨ d.selftestTags c false d.now = true ∨ (d.chan c).moved = some (apertureStart 10 d.now)) →
          r.blanked = true ∧ r.code = (d.chan c).code ∧ r.ovr = (d.chan c).codeOvr)))
  ∧ (∀ (d d' : Dev) (c n before : Nat) (onEnd : Bool) (nv : Int) (limit : Bool) (rs : List ChanRec), c < 64 → d.modeNow c = 2 →
    d.chanWord c n before onEnd nv limit = (d', rs) →
    (n = 0 → d'.on (F.HAZ_CH_STAT.CARRIER_LOST c) = true ∧ d'.on (F.HAZ_CH_FLAG.CARRIER_LOST c) = true
      ∧ d'.fld (F.HAZ_CH_FRAW.N c) = 0 ∧ d'.fld (F.HAZ_CH_FRAW.T c) = 0)
    ∧ (∀ x p : Nat, n ≠ 0 → (d.chan c).cross = some x → p = x + (if d.now = 0 then 3840 else 32000) - before → 0 < p →
      d.bankOverlaps (c / 8) (apertureStart 50 d.now) d.now = false → (d.chan c).settle = 0 → d.selftestTags c true d.now = false →
      d.now ≠ 0 → (d.chan c).moved ≠ some (apertureStart 50 d.now) → ∃ r : ChanRec, rs = [r] ∧ r.blanked = false
        ∧ r.code = (freqCode (d.fld (F.HAZ_CH_FREF.F_REF_HZ c)) n p).1))

/-- R195, R200 to R203, R206, R208, R209, R211: the events of the front end: a switch in current limit opens and closes again 1 s later, a blank pin's
edge, a command blank's end, a blank that lasts too long and the end of the hold it leads to, the clamp, auxiliary conversions and references, self-
tests. -/
def Obligations.FrontEndEvents : Prop :=
  (∀ (s : State) (t : Stamp) (a : Dev), At s t 0 a →
    (∀ c : Fin 64,
      (a.on (F.HAZ_CH_STAT.SWITCH_ON c.val) = false → Turns (exec (.currentLimitTrip t c) s) s [] a a)
      ∧ (a.on (F.HAZ_CH_STAT.SWITCH_ON c.val) = true → ∀ b : Dev,
        b = (((((a.setFld (F.HAZ_CH_STAT.SWITCH_ON c.val) 0).setFld (F.HAZ_CH_STAT.OPENED c.val) 1).setFld (F.HAZ_CH_STAT.LIMIT c.val) 0).inc
          (F.HAZ_CH_CNT.LIMIT_TRIPS c.val)).setFld (F.HAZ_CH_FLAG.LIMIT_TRIP c.val) 1).modChan c.val (fun k => { k with openedAt := some a.now }) →
        (b.evaluating = false ∨ b.sysOfChan c.val = none → Turns (exec (.currentLimitTrip t c) s) s
          [(F.HAZ_CH_STAT.SWITCH_ON c.val).place, (F.HAZ_CH_CNT.LIMIT_TRIPS c.val).place, (F.HAZ_CH_FLAG.LIMIT_TRIP c.val).place] a b)
        ∧ (∀ h x, b.evaluating = true → b.sysOfChan c.val = some (h, x) →
          Does (exec (.currentLimitTrip t c) s) { s with dev := b.sysFault h x .senSupplyShort }))
      ∧ ((a.on (F.HAZ_CH_STAT.OPENED c.val) = false ∨ heldFor a.now 1000000 (a.chan c.val).openedAt = false) →
        Turns (exec (.switchReclose t c) s) s [] a a)
      ∧ (a.on (F.HAZ_CH_STAT.OPENED c.val) = true → heldFor a.now 1000000 (a.chan c.val).openedAt = true → ∃ d,
        Turns (exec (.switchReclose t c) s) s [(F.HAZ_CH_STAT.SWITCH_ON c.val).place] a d ∧ d.on (F.HAZ_CH_STAT.SWITCH_ON c.val) = true
        ∧ d.on (F.HAZ_CH_STAT.OPENED c.val) = false
        ∧ (d.chan c.val).settle = (if a.modeNow c.val = 2 then 2 else 5) ∧ (d.chan c.val).openedAt = none)
      ∧ ((a.chan c.val).beyond = true → Turns (exec (.bankClamp t c) s) s [] a a)
      ∧ ((a.chan c.val).beyond = false → ∀ b : Dev, b = a.modChan c.val (fun k => { k with
          beyond := true, clampFrom := if k.clampFrom.isSome && k.clampTo.later a.now then k.clampFrom else some a.now }) →
        (a.on (F.HAZ_BANK_STAT.CLAMP (c.val / 8)) = true → Turns (exec (.bankClamp t c) s) s [] a b)
        ∧ (a.on (F.HAZ_BANK_STAT.CLAMP (c.val / 8)) = false → Turns (exec (.bankClamp t c) s) s
          ([(F.HAZ_BANK_STAT.CLAMP (c.val / 8)).place, (F.HAZ_BANK_FLAG.CLAMP_SEEN (c.val / 8)).place, (F.HAZ_BANK_CNT.CLAMPS (c.val / 8)).place]
            ++ eventRegs 0) a
          ((((b.setFld (F.HAZ_BANK_STAT.CLAMP (c.val / 8)) 1).setFld (F.HAZ_BANK_FLAG.CLAMP_SEEN (c.val / 8)) 1).inc
            (F.HAZ_BANK_CNT.CLAMPS (c.val / 8))).note .bankClamp (.chan c.val))))
      ∧ ((a.chan c.val).beyond = false → Turns (exec (.bankClampRelease t c) s) s [] a a)
      ∧ ((a.chan c.val).beyond = true → ∀ b : Dev, b = a.modChan c.val (fun k => { k with beyond := false, clampTo := a.now.plus 25 }) →
        Turns (exec (.bankClampRelease t c) s) s [(F.HAZ_BANK_STAT.CLAMP (c.val / 8)).place] a
          (b.setBit (F.HAZ_BANK_STAT.CLAMP (c.val / 8)) ((List.range 8).any (fun i => (b.chan (8 * (c.val / 8) + i)).beyond))))
      ∧ (∀ code : BitVec 16, (a.selftestPass c.val (apNum a.now) = none → Turns (exec (.hazSelftest t c code) s) s [] a a)
        ∧ (∀ odd b, a.selftestPass c.val (apNum a.now) = some odd →
          b = a.setSFld (if odd then F.HAZ_CH_ST_RESULT.REF_CODE c.val else F.HAZ_CH_ST_RESULT.ZERO_CODE c.val) code.toInt →
          (selftestGood (a.modeNow c.val) (a.fld (F.HAZ_CH_FREF.F_REF_HZ c.val)) odd code.toInt = false →
            Turns (exec (.hazSelftest t c code) s) s ([(F.HAZ_CH_ST_RESULT.REF_CODE c.val).place, (F.HAZ_CH_FLAG.SELFTEST_FAIL c.val).place]
              ++ faultRegs (evClass .hazSelftestFail)) a
              (((b.setFld (F.HAZ_CH_FLAG.SELFTEST_FAIL c.val) 1).modChan c.val (fun k => { k with need := 3 })).fault .hazSelftestFail
                (.chan c.val) 0 0 ([BitVec.ofNat 8 odd.toNat, 0] ++ leBytes 2 (unsgn 16 code.toInt))))
          ∧ (selftestGood (a.modeNow c.val) (a.fld (F.HAZ_CH_FREF.F_REF_HZ c.val)) odd code.toInt = true → ∃ d,
            Turns (exec (.hazSelftest t c code) s) s [(F.HAZ_CH_ST_RESULT.REF_CODE c.val).place] a d
            ∧ (d.chan c.val).need = setMask (a.chan c.val).need odd.toNat false
            ∧ ((d.chan c.val).need = 0 → d.has .hazSelftestFail (.chan c.val) = false)))))
    ∧ (∀ b : Fin 8,
      ((∀ e, (a.bank b.val).cmdEnd = some e → a.now.reached e = false) → Turns (exec (.blankCommandEnd t b) s) s [] a a)
      ∧ (∀ e, (a.bank b.val).cmdEnd = some e → a.now.reached e = true →
        Does (exec (.blankCommandEnd t b) s) { s with dev := (a.modBank b.val (fun k => { k with cmdEnd := none })).bankEval b.val })
      ∧ ((∀ x, (a.bank b.val).since = some x → a.now.since x < a.fld (F.HAZ_BANK_BLANK_T.LIMIT_US b.val)) →
        Turns (exec (.blankOverlong t b) s) s [] a a)
      ∧ (∀ x, (a.bank b.val).since = some x → a.fld (F.HAZ_BANK_BLANK_T.LIMIT_US b.val) ≤ a.now.since x → ∃ d,
        Turns (exec (.blankOverlong t b) s) s ([(F.HAZ_BANK_STAT.HELD b.val).place, (F.HAZ_BANK_BLANK_MAX.MAX_US b.val).place,
          (F.HAZ_BANK_FLAG.OVERLONG b.val).place] ++ faultRegs (evClass .blankOverlong)) a d
        ∧ d.on (F.HAZ_BANK_STAT.HELD b.val) = true ∧ d.on (F.HAZ_BANK_STAT.BLANKED b.val) = false
        ∧ d.on (F.HAZ_BANK_FLAG.OVERLONG b.val) = true ∧ (d.bank b.val).since = none ∧ d.has .blankOverlong (.bank b.val) = true)
      ∧ ((a.on (F.HAZ_BANK_STAT.HELD b.val) = false ∨ heldFor a.now 1000 (a.bank b.val).quiet = false) →
        Turns (exec (.bankHoldEnd t b) s) s [] a a)
      ∧ (a.on (F.HAZ_BANK_STAT.HELD b.val) = true → heldFor a.now 1000 (a.bank b.val).quiet = true → ∀ c : Dev,
        c = (a.setFld (F.HAZ_BANK_STAT.HELD b.val) 0).modBank b.val (fun k => { k with quiet := none }) →
        Does (exec (.bankHoldEnd t b) s) { s with dev := (c.clear .blankOverlong (.bank b.val)).bankEval b.val }))
    ∧ (∀ (n : Fin 16) (even odd nv : Int) (beyond : Bool),
      (a.auxRunning n.val = false → Turns (exec (.auxResult t n even odd beyond) s) s [] a a)
      ∧ (a.auxRunning n.val = true → (a.auxOf n.val).refs.length ≠ 8 → ∃ d, Turns (exec (.auxResult t n even odd beyond) s) s
          ([(F.HAZ_AUX_STAT.OPEN n.val).place, (F.HAZ_AUX_FLAG.OPEN n.val).place] ++ faultRegs (evClass .auxOpen)) a d
          ∧ d.on (F.HAZ_AUX_STAT.OPEN n.val) = beyond ∧ d.has .auxOpen (.aux n.val) = beyond)
      ∧ (a.auxRunning n.val = true → (a.auxOf n.val).refs.length = 8 → (a.auxOf n.val).refSum ≠ 0 → ∀ code ovr w, (code, ovr) = ratioCode
          (if a.on (F.HAZ_AUX_CFG.SWAP n.val) then (if a.fld (F.HAZ_AUX_CFG.WIRES n.val) = 3 then even - odd else even + odd) else 2 * even) 2
          (a.auxOf n.val).refSum (Config.freeRatio a.freeCtr) →
        w = unsgn 24 code + ovr.toNat * 2 ^ 24 + beyond.toNat * 2 ^ 25 + (a.auxOf n.val).refBad.toNat * 2 ^ 26
          + (a.on (F.HAZ_AUX_CFG.SWAP n.val)).toNat * 2 ^ 27 + (a.fld (F.HAZ_AUX_CNT_LO.V n.val) + 1) % 16 * 2 ^ 28 →
        ∃ d, Does (exec (.auxResult t n even odd beyond) s) { s with dev := d }
          ∧ d.reg .haz (F.HAZ_AUX_RESULT.RECORD n.val).off = BitVec.ofNat 32 w
          ∧ d.fld (F.HAZ_AUX_TIME_LO.V n.val) + 2 ^ 32 * d.fld (F.HAZ_AUX_TIME_HI.V n.val) = a.now.toNat
          ∧ d.on (F.HAZ_AUX_STAT.OPEN n.val) = beyond)
      ∧ (a.auxRunning n.val = false → Turns (exec (.referenceSlot t n nv beyond) s) s [] a a)
      ∧ (a.auxRunning n.val = true → ∃ d, Does (exec (.referenceSlot t n nv beyond) s) { s with dev := d }
          ∧ (d.auxOf n.val).refs = (nv :: (a.auxOf n.val).refs).take 8 ∧ (d.auxOf n.val).refOver = beyond
          ∧ d.on (F.HAZ_AUX_STAT.REF_FAULT n.val) = (d.auxOf n.val).refBad)))
  ∧ (∀ (d : Dev) (b : Nat), b < 8 → d.on (F.HAZ_BANK_STAT.HELD b) = false →
      (d.bankSource b = true → (d.bank b).since = none → (d.bankEval b).on (F.HAZ_BANK_STAT.BLANKED b) = true
        ∧ ((d.bankEval b).bank b).since = some d.now)
      ∧ (d.bankSource b = false → ∀ x, (d.bank b).since = some x → (d.bankEval b).on (F.HAZ_BANK_STAT.BLANKED b) = false
        ∧ ((d.bankEval b).bank b).since = none ∧ min 16777215 (d.now.since x) ≤ (d.bankEval b).fld (F.HAZ_BANK_BLANK_MAX.MAX_US b)))
  ∧ ∀ (s : State) (t : Stamp) (ns : Fin 1000) (p : Fin 4) (level : Bool) (held : BitVec 16) (a : Dev), At s t ns.val a →
    (held.toNat < 50 → Turns (exec (.blankPinEdge t ns p ⟨level, held⟩) s) s [] a a)
    ∧ (50 ≤ held.toNat → Does (exec (.blankPinEdge t ns p ⟨level, held⟩) s) { s with dev := ({ a with pins := setMask a.pins p.val level }).bankEvalAll })
    ∧ (50 ≤ held.toNat → ∀ b : Fin 8, (a.fld (F.HAZ_BANK_BLANK.PIN_MASK b.val)).testBit p.val = true →
        (a.fld (F.HAZ_BANK_BLANK.PIN_POL b.val)).testBit p.val = level → a.on (F.HAZ_BANK_STAT.HELD b.val) = false → (a.bank b.val).since = none →
      ∃ d, Does (exec (.blankPinEdge t ns p ⟨level, held⟩) s) { s with dev := d } ∧ d.pins.testBit p.val = level
        ∧ d.on (F.HAZ_BANK_STAT.BLANKED b.val) = true ∧ (d.bank b.val).since = some a.now)

/-! ### Heads and sections -/

/-- R239, R256, R258 and Table HED-2: how wheels are counted. A lifetime counter counts modulo 2^32 with its sticky WRAP bit. A section's count is
held within ±4,095; a negative count and one at MAX_COUNT raise their faults, which end with the condition, and disturb the section when they are
raised: it goes DISTURBED when the sections are evaluated, after every head (R12, R260). The pattern of a head on two systems, where no gambit is open, moves by Table HED-2 as its systems are damped and released. -/
def Obligations.WheelsAreCounted : Prop :=
  (∀ (d : Dev) (h : Nat), h < 64 →
    (d.headCount h false).fld (F.HED_CNT_AB.COUNT h) = (d.fld (F.HED_CNT_AB.COUNT h) + 1) % 2 ^ 32
    ∧ (d.headCount h true).fld (F.HED_CNT_BA.COUNT h) = (d.fld (F.HED_CNT_BA.COUNT h) + 1) % 2 ^ 32
    ∧ ((d.headCount h false).on (F.HED_STAT_CNT.WRAP_AB h) =
        (d.on (F.HED_STAT_CNT.WRAP_AB h) || decide (d.fld (F.HED_CNT_AB.COUNT h) = 2 ^ 32 - 1)))
    ∧ ((d.headCount h true).on (F.HED_STAT_CNT.WRAP_BA h) =
        (d.on (F.HED_STAT_CNT.WRAP_BA h) || decide (d.fld (F.HED_CNT_BA.COUNT h) = 2 ^ 32 - 1))))
  ∧ (∀ (d e : Dev) (i : Nat) (c : Int), i < 64 → d.secSetCount i c = e →
    e.secCount i = clampI (-4095) 4095 c
    ∧ e.has .secCountNegative (.sec i) = decide (c < 0)
    ∧ e.has .secCountLimit (.sec i) = decide ((d.fld (F.SEC_CFG.MAX_COUNT i) : Int) ≤ c)
    ∧ (c < 0 → d.has .secCountNegative (.sec i) = false → (e.sec i).fall = true ∧ (e.fld (F.SEC_CAUSE.CAUSES i)).testBit 2 = true)
    ∧ ((d.fld (F.SEC_CFG.MAX_COUNT i) : Int) ≤ c → d.has .secCountLimit (.sec i) = false →
        (e.sec i).fall = true ∧ (e.fld (F.SEC_CAUSE.CAUSES i)).testBit 3 = true))
  ∧ (∀ (d e : Dev) (i : Nat), i < 64 → d.secState i ≠ 2 → ((d.sec i).fall = true ∨ d.secCauses i ≠ 0) → d.secEval i = e →
    e.secState i = 2 ∧ (e.sec i).fall = false ∧ (e.sec i).start = none ∧ e.fld (F.SEC_STATE.TIMING i) = 0
    ∧ ∃ r ∈ e.evq, r.ev = .secState ∧ r.src = .sec i ∧ r.stamp = d.now)
  ∧ (∀ (d : Dev) (h x e : Nat), h < 32 → x < 2 → d.fld (F.HED_STATE.ENTRY_B h) = e → d.on (F.HED_STATE.GAMBIT_OPEN h) = false →
    (d.pattern h = 0 → d.on (F.HED_CFG.GAMBIT_EN h) = false → (d.patternStep h x true).pattern h = 1
      ∧ (d.patternStep h x true).fld (F.HED_STATE.ENTRY_B h) = x)
    ∧ (d.pattern h = 1 → x = e → (d.patternStep h x false).pattern h = 0)
    ∧ (d.pattern h = 1 → x ≠ e → (d.patternStep h x true).pattern h = 2)
    ∧ (d.pattern h = 2 → (d.patternStep h x false).pattern h = if x = e then 3 else 4)
    ∧ (d.pattern h = 3 → x = e → (d.patternStep h x true).pattern h = 2)
    ∧ (d.pattern h = 3 → x ≠ e → d.patternStep h x false
        = if (d.patternWheel h).pattern h = 7 then d.patternWheel h else (d.patternWheel h).patternTo h 0)
    ∧ (d.pattern h = 4 → x = e → (d.patternStep h x false).pattern h = 0)
    ∧ (d.pattern h = 4 → x ≠ e → (d.patternStep h x true).pattern h = 2))

/-- R37, R235, R248, R261, R270, R277: what time brings to heads and sections: the gambit window's expiry, a system stuck DAMPED, an Endgame's limit,
the clear-confirm timer, the sweep's timeout, a panel's authorisation. Each acts only once its time has come. -/
def Obligations.HeadAndSectionTimers : Prop :=
  (∀ (s : State) (t : Stamp) (a : Dev), At s t 0 a →
    (∀ h : Fin 32,
      (∀ win past : Nat, win = a.fld (F.HED_GEOM.GAMBIT_WIN_MS h.val) * 1000 → past = a.now.since (a.head h.val).gAt →
        ((a.evaluating = false ∨ a.headEnabled h.val = false ∨ past < win) → Turns (exec (.gambitWindowExpiry t h) s) s [] a a)
        ∧ (a.evaluating = true → a.headEnabled h.val = true → past = win → (a.head h.val).seen ≠ some a.now →
          Turns (exec (.gambitWindowExpiry t h) s) s [] a (a.modHead h.val (fun x => { x with winOver := true })))
        ∧ ((a.pattern h.val ≠ 1 ∨ a.on (F.HED_STATE.GAMBIT_OPEN h.val) = false ∨ a.on (F.HED_STATE.CONFIRMED h.val) = true) →
            (past ≠ win ∨ (a.head h.val).seen = some a.now) → Turns (exec (.gambitWindowExpiry t h) s) s [] a a)
        ∧ (a.evaluating = true → a.headEnabled h.val = true → a.pattern h.val = 1 → a.on (F.HED_STATE.GAMBIT_OPEN h.val) = true →
            a.on (F.HED_STATE.CONFIRMED h.val) = false → win ≤ past → (past ≠ win ∨ (a.head h.val).seen = some a.now) → ∃ d,
          Does (exec (.gambitWindowExpiry t h) s) { s with dev := d } ∧ d = (a.headCancel h.val 4).headStrike h.val .headPattern
          ∧ d.pattern h.val = 7 ∧ d.on (F.HED_STATE.GAMBIT_OPEN h.val) = false
          ∧ d.fld (F.HED_STAT_CNT.PATTERNS h.val) = min (2 ^ (F.HED_STAT_CNT.PATTERNS h.val).w - 1) (a.fld (F.HED_STAT_CNT.PATTERNS h.val) + 1)
          ∧ ∃ e ∈ d.evq, e.ev = .headPattern ∧ e.src = .head h.val ∧ e.stamp = a.now))
      ∧ (∀ stuck : Nat → Bool, stuck = (fun x => ((a.head h.val).sys x).st = 1
            && a.fld (F.HED_LIMIT.T_STUCK h.val) * 1000000 ≤ a.now.since ((a.head h.val).sys x).dampedAt
            && !a.sysFaulty h.val x && !a.sysHeld h.val x) →
        ((a.evaluating = false ∨ a.headEnabled h.val = false ∨ (stuck 0 = false ∧ stuck 1 = false)) →
          Turns (exec (.headSysStuck t h) s) s [] a a)
        ∧ (∀ b d : Dev, a.evaluating = true → a.headEnabled h.val = true → b = (if stuck 0 then a.headFault h.val .headSysStuck 0 else a) →
          d = (if stuck 1 then b.headFault h.val .headSysStuck 1 else b) → Does (exec (.headSysStuck t h) s) { s with dev := d }
          ∧ (∀ x < 2, stuck x = true → d.has .headSysStuck (.head h.val) x = true)
          ∧ (∀ x < 2, stuck x = true → a.has .headSysStuck (.head h.val) x = false → d.pattern h.val = 7
            ∧ d.on (F.HED_STATE.GAMBIT_OPEN h.val) = false))))
    ∧ ((∀ e ∈ a.egExpiry, a.now.reached e.2 = false) → Turns (exec (.endgameExpiry t) s) s [] a a)
    ∧ (∀ k e cause obj, a.egExpiry = [(k, e)] → a.now.reached e = true → k < 16 → a.fld (F.FLT_EG_SLOT_A.CAUSE k) = cause →
        a.fld (F.FLT_EG_SLOT_A.OBJECT k) = obj → 1 ≤ cause → cause ≤ 3 → (cause = 1 → obj < 32) → (cause = 2 → obj < 48) → ∃ d,
      Does (exec (.endgameExpiry t) s) { s with dev := d } ∧ d = a.egExpire k 1 ∧ d.egExpiry = [] ∧ d.fld (F.FLT_EG_SLOT_A.CAUSE k) = 0
      ∧ d.egLocked cause obj = true ∧ ∃ r ∈ d.evq, r.ev = .endgameExpired ∧ r.src = .slot k ∧ r.stamp = a.now)
    ∧ (∀ (i : Fin 64),
      ((a.evaluating = false ∨ a.secEnabled i.val = false ∨ a.secWaits i.val = false ∨ a.secReady i.val = false
          ∨ a.secConfirmed i.val = false ∨ a.secCauses i.val ≠ 0) → Turns (exec (.clearConfirmExpiry t i) s) s [] a a)
      ∧ (a.evaluating = true → a.secEnabled i.val = true → a.secWaits i.val = true → a.secReady i.val = true → a.secConfirmed i.val = true →
          a.secCauses i.val = 0 → ∃ d, Does (exec (.clearConfirmExpiry t i) s) { s with dev := d }
        ∧ d.secState i.val = (if a.on (F.SEC_STATE.IN_SCOPE i.val) then 4 else 0) ∧ (d.sec i.val).start = none
        ∧ d.fld (F.SEC_STATE.TIMING i.val) = 0 ∧ ∃ e ∈ d.evq, e.ev = .secState ∧ e.src = .sec i.val ∧ e.stamp = a.now)
      ∧ (∀ lim, lim = a.fld (F.SEC_RESET.SWEEP_TIMEOUT_S i.val) →
        ((a.evaluating = false ∨ a.secEnabled i.val = false ∨ a.secState i.val ≠ 3 ∨ a.on (F.SEC_STATE.ENTERED i.val) = true ∨ lim = 0
            ∨ a.now.since (a.sec i.val).prepared < lim * 1000000) → Turns (exec (.secSweepTimeout t i) s) s [] a a)
        ∧ (a.evaluating = true → a.secEnabled i.val = true → a.secState i.val = 3 → a.on (F.SEC_STATE.ENTERED i.val) = false → lim ≠ 0 →
            lim * 1000000 ≤ a.now.since (a.sec i.val).prepared → ∃ d, Does (exec (.secSweepTimeout t i) s) { s with dev := d }
          ∧ (d.sec i.val).fall = true ∧ (d.fld (F.SEC_CAUSE.CAUSES i.val)).testBit 5 = true
          ∧ ∃ e ∈ d.evq, e.ev = .secSweepTimeout ∧ e.src = .sec i.val ∧ e.stamp = a.now)))
    ∧ (∀ f : Fin 16,
      ((a.evaluating = false ∨ ∀ x, (a.fb f.val).auth = some x → a.now.later x = false) → Turns (exec (.panelAuthorisation t f) s) s [] a a)
      ∧ (∀ x b, a.evaluating = true → (a.fb f.val).auth = some x → a.now.later x = true → b = a.modFb f.val (fun y => { y with auth := none }) →
        ∃ d : Dev, Does (exec (.panelAuthorisation t f) s) { s with dev := d }
          ∧ d = forL ((List.range 64).filter (fun i => b.on (F.SEC_RESET.AUTH_PANEL i) && b.fld (F.SEC_RESET.PANEL_FB i) = f.val))
            (fun i d => (d.secAuthorise i (d.fld (F.SEC_RESET.PANEL_PROC i)) 1 true 0x81 0).1) b
          ∧ (d.fb f.val).auth = none
          ∧ ∀ i : Fin 64, a.on (F.SEC_RESET.AUTH_PANEL i.val) = true → a.fld (F.SEC_RESET.PANEL_FB i.val) = f.val →
            d.fld (F.SEC_LAST_RESET.SOURCE i.val) = 1 ∧ d.fld (F.SEC_LAST_RESET.PROC i.val) = a.fld (F.SEC_RESET.PANEL_PROC i.val)
            ∧ ∃ e ∈ d.evq, (e.ev = .secResetDone ∨ e.ev = .secResetRefused) ∧ e.src = .sec i.val ∧ e.stamp = a.now)))
  ∧ ∀ (d e : Dev) (k how cause obj : Nat), k < 16 → d.fld (F.FLT_EG_SLOT_A.CAUSE k) = cause → d.fld (F.FLT_EG_SLOT_A.OBJECT k) = obj →
    1 ≤ cause → cause ≤ 3 → (cause = 1 → obj < 32) → (cause = 2 → obj < 48) → d.egExpire k how = e →
    e.fld (F.FLT_EG_SLOT_A.CAUSE k) = 0 ∧ e.egLocked cause obj = true ∧ (∀ x ∈ e.egExpiry, x.1 ≠ k) ∧ e.egDirty = true
    ∧ (cause = 3 → e.fld F.FLT_STATE.F3_GROUPS = 255) ∧ ∃ r ∈ e.evq, r.ev = .endgameExpired ∧ r.src = .slot k ∧ r.stamp = d.now

/-! ### Window monitors, generators, lamps -/

/-- R281, R282, R284 to R287, R291 to R295, R308 to R310, R338, R343: what a comparator's input, a timer or a boundary brings to monitors, generators and
lamps. The comparators of an enabled monitor follow its input with hysteresis; an output that becomes qualified is remembered for its latch, which
it sets 5 ns later, and makes a boundary of the generators in SYNC on it. A disabled monitor, a generator without an instant due and an engine that has
not started do nothing. -/
def Obligations.MonitorsAndGenerators : Prop :=
  (∀ (s : State) (t : Stamp) (ns : Fin 1000) (m : Fin 128) (a : Dev), At s t ns.val a →
    (∀ (mv : BitVec 12) (frac : BitVec 4) (level : Nat), level = 16 * mv.toNat + frac.toNat →
      (a.winOn m.val = false → ∃ d, Turns (exec (.comparatorChange t ns m mv frac) s) s [(F.WIN_STAT.HI m.val).place] a d
        ∧ d.winLevel m.val = level ∧ d.on (F.WIN_STAT.HI m.val) = false ∧ d.on (F.WIN_STAT.LO m.val) = false)
      ∧ (∀ u l v h : Int, a.winOn m.val = true → v = level → h = 16 * a.hyst m.val →
          u = 25 * (a.fld (F.WIN_THR.UPPER m.val) + (a.mon m.val).offUp) → l = 25 * (a.fld (F.WIN_THR.LOWER m.val) + (a.mon m.val).offLo) → ∃ d,
        Does (exec (.comparatorChange t ns m mv frac) s) { s with dev := d } ∧ d.winLevel m.val = level
        ∧ d.on (F.WIN_STAT.HI m.val) = (if a.on (F.WIN_STAT.HI m.val) then decide (u - h ≤ v) else decide (u < v))
        ∧ d.on (F.WIN_STAT.LO m.val) = (if a.on (F.WIN_STAT.LO m.val) then decide (v ≤ l + h) else decide (v < l))
        ∧ (a.winBlanked m.val = false → a.on (F.WIN_STAT.HI m.val) = false → a.fld (F.WIN_CFG.QUAL_HI m.val) = 0 → (a.mon m.val).actHi = none →
            u < v → (d.mon m.val).actHi = some a.moment
          ∧ ∀ k : Fin 64, (a.gen k.val).started = true → (F.PGN_CFG.SYNC_EN k.val).of (a.gen k.val).cfg = 1 → 112 ≤ m.val →
              (F.PGN_CFG.SYNC_WM k.val).of (a.gen k.val).cfg = m.val - 112 → (d.gen k.val).sync = some a.moment)))
    ∧ ((∀ e, (a.mon m.val).settle = some e → a.past e = false) → Turns (exec (.settlingEnd t ns m) s) s [] a a)
    ∧ (∀ e, (a.mon m.val).settle = some e → a.past e = true → ∃ d, Does (exec (.settlingEnd t ns m) s) { s with dev := d }
        ∧ (d.mon m.val).settle = none ∧ d.on (F.WIN_STAT.SETTLING m.val) = false)
    ∧ (∀ outs : List (Bool × Bool),
      (a.testWaits m.val = none → Turns (exec (.winSelftest t ns m outs) s) s [] a a ∧ Turns (exec (.winSelftestMissed t ns m outs) s) s [] a a)
      ∧ (∀ k, a.testWaits m.val = some k →
        (a.blankQualifies m.val k = false → Turns (exec (.winSelftest t ns m outs) s) s [] a a)
        ∧ (a.blankQualifies m.val k = true → ∃ d, Does (exec (.winSelftest t ns m outs) s) { s with dev := d } ∧ d = a.winTest m.val k outs
          ∧ d.fld F.WIN_ST_LAST.MONITOR = m.val ∧ (d.mon m.val).testEnd = some (a.after 1100))
        ∧ (a.now.since k < a.testPeriod / 2 → Turns (exec (.winSelftestMissed t ns m outs) s) s [] a a)
        ∧ (a.testPeriod / 2 ≤ a.now.since k → a.on F.WIN_ST_CFG.INSERT_EN = true → ∃ d,
          Does (exec (.winSelftestMissed t ns m outs) s) { s with dev := d } ∧ d = (a.winTimed m.val 1100 false).winTest m.val k outs
          ∧ d.winBlanked m.val = true ∧ d.fld F.WIN_ST_LAST.MONITOR = m.val ∧ (d.mon m.val).testEnd = some (a.after 1100))
        ∧ (a.testPeriod / 2 ≤ a.now.since k → a.on F.WIN_ST_CFG.INSERT_EN = false → Turns (exec (.winSelftestMissed t ns m outs) s) s
          (F.WIN_ST_FLAG.MISSED.place :: eventRegs 0) a
          (((a.testServed m.val k).setFld F.WIN_ST_FLAG.MISSED 1).note .winSelftestMissed (.wm m.val))))))
  ∧ (∀ (d e : Dev) (m step : Nat) (k : Stamp) (outs : List (Bool × Bool)), m < 128 →
    step = selftestStep (d.fld (F.WIN_THR.UPPER m)) (d.fld (F.WIN_THR.LOWER m)) (d.hyst m) outs → e = d.winTest m k outs →
    (e.mon m).owed = none ∧ ((d.mon m).owed = none → (e.mon m).served = some k) ∧ e.fld F.WIN_ST_LAST.MONITOR = m
    ∧ e.fld F.WIN_ST_LAST.STEP = step ∧ e.on F.WIN_ST_LAST.PASS = decide (step = 0)
    ∧ (step ≠ 0 → e.has .winSelftestFail (.wm m) = true ∧ e.on (F.WIN_FLAG.ST_FAIL m) = true ∧ (e.mon m).passes = 0))
  ∧ (∀ (d : Dev) (m : Nat) (x : Stamp × Nat), m < 128 → (d.mon m).actHi = some x →
    (d.past (x.1.plus ((x.2 + 5) / 1000), (x.2 + 5) % 1000) = true → (d.winHeld m true).on (F.WIN_FLAG.LATCH_HI m) = true)
    ∧ (d.past (x.1.plus ((x.2 + 5) / 1000), (x.2 + 5) % 1000) = false → d.winHeld m true = d))
  ∧ ∀ (s : State) (t : Stamp) (a : Dev), At s t 0 a →
    (∀ m : Fin 128,
      ((a.boot.started = false ∨ (a.mon m.val).due = []) → Turns (exec (.periodVerdict t m) s) s [] a a)
      ∧ (∀ v r, a.boot.started = true → (a.mon m.val).due = v :: r → v.whole = true → 112 ≤ m.val →
        Turns (exec (.periodVerdict t m) s) s [(F.WIN_STAT.VERDICT m.val).place] a
          ({ a.modMon m.val (fun x => { x with due := r }) with decAt := some v.end_ }.setFld (F.WIN_STAT.VERDICT m.val) v.bits))
      ∧ (∀ v r b, a.boot.started = true → (a.mon m.val).due = v :: r →
        b = (if v.whole then { a.modMon m.val (fun x => { x with due := r }) with decAt := some v.end_ }.setFld (F.WIN_STAT.VERDICT m.val) v.bits
          else { a.modMon m.val (fun x => { x with due := r }) with decAt := some v.end_ }) → ∃ d,
        Does (exec (.periodVerdict t m) s) { s with dev := d } ∧ (d.mon m.val).due = r
        ∧ d.fld (F.WIN_STAT.VERDICT m.val) = (if v.whole then v.bits % 2 ^ 10 else a.fld (F.WIN_STAT.VERDICT m.val))
        ∧ (m.val < 48 → d = if b.lampOn m.val = false then b else if v.whole then b.lampUnlit m.val v else b.lampLit m.val v)
        ∧ (48 ≤ m.val → m.val < 96 → v.whole = true → b.lampOn (m.val - 48) = true → d = b.lampNode (m.val - 48) v)
        ∧ (96 ≤ m.val → m.val < 112 → v.whole = true → d = b.ssoVerdict (m.val - 96) v)))
    ∧ (∀ code : BitVec 10,
      ((a.on F.WIN_ST_CFG.READBACK_EN = false ∨ a.nextDac = none) → Turns (exec (.dacReadback t code) s) s [] a a)
      ∧ (∀ c, a.on F.WIN_ST_CFG.READBACK_EN = true → a.nextDac = some c → ∃ d, Does (exec (.dacReadback t code) s) { s with dev := d }
        ∧ d.dacNext = (c + 1) % 256 ∧ d.fld F.WIN_DAC_LAST.MONITOR = c / 2 ∧ d.fld F.WIN_DAC_LAST.CODE = code.toNat
        ∧ d.on F.WIN_DAC_LAST.UPPER = decide (c % 2 = 0)
        ∧ (c % 2 = 0 → (d.mon (c / 2)).offUp = (code.toNat : Int) - a.fld (F.WIN_THR.UPPER (c / 2)))
        ∧ ((a.fld F.WIN_DAC_TOL.DAC_TOL < ((code.toNat : Int) - a.fld (F.WIN_THR.UPPER (c / 2))).natAbs) → c % 2 = 0 → 1 ≤ (a.mon (c / 2)).badUp →
          d.has .winDacFail (.wm (c / 2)) = true)))
    ∧ (∀ k : Fin 48,
      (a.boot.started = false → Turns (exec (.provingPulse t k) s) s [] a a)
      ∧ (a.boot.started = true → a.lampOn k.val = true → a.on (F.LMP_CFG.PROVE_EN k.val) = true → a.fld (F.LMP_CFG.MODE k.val) ≠ 3 →
          a.lampServes k.val = true → a.lampLitNow k.val = false → a.now.toNat % (a.fld (F.LMP_CFG.PROVE_PERIOD k.val) * 100000) = k.val * 2000 →
          ∀ period, period = max 1 (a.fld (F.PGN_PERIOD.PERIOD k.val)) →
        Turns (exec (.provingPulse t k) s) s [(F.LMP_CNT.PROVES k.val).place] a ((a.incWrap (F.LMP_CNT.PROVES k.val)).modGen k.val
          (fun g => { g with prove := (2000 * a.fld (F.LMP_CFG.PROVE_US k.val) + period - 1) / period }))))
    ∧ (∀ i : Fin 16,
      ((a.boot.started = false ∨ a.sigOn i.val = false) → Turns (exec (.flashPhaseChange t i) s) s [] a a)
      ∧ (a.boot.started = true → a.sigOn i.val = true → ∃ d, Does (exec (.flashPhaseChange t i) s) { s with dev := d } ∧ d = a.sigEval i.val
        ∧ d.on (F.LMP_SIG_STAT.FLASH_ON i.val) = a.flashOn i.val ∧ d.fld (F.LMP_SIG_STAT.REASON i.val) = (a.sigShows i.val).1
        ∧ d.fld (F.LMP_SIG_STAT.SHOWN i.val) = (a.sigShows i.val).2.1 ∧ d.on (F.LMP_SIG_STAT.DARK i.val) = (a.sigShows i.val).2.2.1))
    ∧ (∀ (ns : Fin 1000) (k : Fin 64) (cyc : BitVec 64) (b : Dev) (n : Nat), At s t ns.val b → n = ((cyc.toNat : Int) + b.twin.genAdj).toNat →
      ((b.gen k.val).sched = [] → Turns (exec (.scheduledEdge t ns k cyc) s) s [] b b)
      ∧ (∀ p x r, (b.gen k.val).sched = (p, x) :: r →
        ((b.pgOn k.val = false ∨ (b.gen k.val).started = false ∨ (b.gen k.val).at_ + p ≠ n ∨ (b.gen k.val).period ≤ p) →
          Turns (exec (.scheduledEdge t ns k cyc) s) s [] b b)
        ∧ (b.pgOn k.val = true → (b.gen k.val).started = true → (b.gen k.val).at_ + p = n → p < (b.gen k.val).period → ∃ d,
          Does (exec (.scheduledEdge t ns k cyc) s) { s with dev := d } ∧ d = (b.pgRun k.val p (r.length + 1)).pgShow k.val
          ∧ ((∀ y ∈ r, p < y.1) → x = .onRise → (d.gen k.val).on_ = true ∧ (d.gen k.val).sched = r
            ∧ d.on (F.PGN_STAT.ON_GATE k.val) = (decide (b.pgState k.val = 1) && !b.safeLine && !((b.gen k.val).hand.getD b.pinsHeld)))))
      ∧ Turns (exec (.pgPeriodBoundary t ns k cyc true) s) s [] b b
      ∧ ((b.pgOn k.val = false ∨ b.boot.started = false) → Turns (exec (.pgPeriodBoundary t ns k cyc false) s) s [] b b)
      ∧ ((b.gen k.val).started = true → n ≠ (b.gen k.val).at_ + (b.gen k.val).period → Turns (exec (.pgPeriodBoundary t ns k cyc false) s) s [] b b)
      ∧ (b.pgOn k.val = true → b.boot.started = true → ((b.gen k.val).started = true → n = (b.gen k.val).at_ + (b.gen k.val).period) →
          ((b.gen k.val).started = false → n % max 1 (if k.val < 48 then b.fld (F.PGN_PERIOD.PERIOD k.val)
            else (b.ssoTiming (k.val - 48) (b.ssoLevel (k.val - 48))).1) = 0) → ∃ d,
        Does (exec (.pgPeriodBoundary t ns k cyc false) s) { s with dev := d } ∧ d = b.pgTake k.val n false
        ∧ (d.gen k.val).at_ = n ∧ (d.gen k.val).started = true ∧ (d.gen k.val).sync = none
        ∧ (k.val < 48 → (d.gen k.val).period = b.fld (F.PGN_PERIOD.PERIOD k.val)
          ∧ d.fld (F.PGN_ON.T k.val) = min (b.gen k.val).req (b.fld (F.PGN_PERIOD.PERIOD k.val)))))

/-! ### Safety inputs, functions and outputs -/

/-- R364 to R370: an input's voltage gives its raw level, held between the OFF and ON levels of its type; samples exist at multiples of 10 µs, and a
sample in a window of the input's own source does not move its level, which follows a level that has held for FILTER; a pulse starts at its source's phase 0 with the pin low and opens its window; it ends after
WIDTH_US with the pin high, and three correct ones in a row end TP_FAULT; a pin that reads high in a pulse, or low for 1 ms outside one, raises it; a
window ends after WIDTH_US and ECHO_US. Two missed pulses in a row raise SI_TESTPULSE, three good windows end it. -/
def Obligations.SafetyInputsAndTestPulses : Prop :=
  (∀ (s : State) (t : Stamp) (a : Dev), At s t 0 a →
    (∀ (l : List (Fin 32 × Int)) (b : Dev), b = a.siLevels (l.map (fun e => (e.1.val, e.2))) →
      ((a.evaluating = false ∨ a.now.toNat % 10 ≠ 0) → Turns (exec (.siFilterChange t l) s) s [] a b)
      ∧ (a.evaluating = true → a.now.toNat % 10 = 0 → ∃ d, Does (exec (.siFilterChange t l) s) { s with dev := d } ∧ d = b.siSamples
        ∧ ∀ n : Fin 32, a.siOn n.val = true → d.on (F.SAF_SI_STAT.RAW n.val) = b.siRaw n.val
          ∧ d.on (F.SAF_SI_STAT.IN_WINDOW n.val) = a.ownWindow n.val a.now
          ∧ ((a.ownWindow n.val a.now = true ∨ b.siRaw n.val = a.level n.val) → d.level n.val = a.level n.val)
          ∧ (a.siTp n.val = none → b.siRaw n.val ≠ a.level n.val → (a.si n.val).base = b.siRaw n.val →
            d.level n.val = (if a.fld (F.SAF_SI_CFG.FILTER n.val) * 100 ≤ a.now.since (a.si n.val).run then b.siRaw n.val else a.level n.val)))
      ∧ (∀ (n : Fin 32) (mv : Int), l = [(n, mv)] → b.siRaw n.val =
          if (if a.on (F.SAF_SI_CFG.TYPE n.val) then 11000 else 15000) ≤ mv then true else if mv ≤ 5000 then false else (a.si n.val).raw))
    ∧ (∀ p : Fin 8,
      ((a.evaluating = false ∨ a.tpOn p.val = false ∨ a.tpPhase p.val a.now ≠ 0) → Turns (exec (.testPulseStart t p) s) s [] a a)
      ∧ (a.evaluating = true → a.tpOn p.val = true → a.tpPhase p.val a.now = 0 → ∃ d, Does (exec (.testPulseStart t p) s) { s with dev := d }
          ∧ d.on (F.SAF_TP_STAT.PIN p.val) = false ∧ (d.tp p.val).pulse = true ∧ (d.tp p.val).window = true
          ∧ ∀ n < 32, a.siOn n = true → a.siTp n = some p.val → d.on (F.SAF_SI_STAT.IN_WINDOW n) = true)
      ∧ (∀ high : Bool,
        ((a.evaluating = false ∨ a.tpOn p.val = false ∨ (a.tp p.val).pulse = false ∨ a.tpPhase p.val a.now < a.fld (F.SAF_TP_CFG.WIDTH_US p.val)) →
          Turns (exec (.testPulseEnd t p high) s) s [] a a)
        ∧ (a.evaluating = true → a.tpOn p.val = true → (a.tp p.val).pulse = true → a.fld (F.SAF_TP_CFG.WIDTH_US p.val) ≤ a.tpPhase p.val a.now →
            ∀ b : Dev, b = (a.modTp p.val (fun x => { x with pulse := false, good := x.good + 1 })).setFld (F.SAF_TP_STAT.PIN p.val) 1 →
          (high = true → Does (exec (.testPulseEnd t p high) s) { s with dev := b.tpFail p.val })
          ∧ (high = false → (b.tp p.val).good < 3 → Turns (exec (.testPulseEnd t p high) s) s [(F.SAF_TP_STAT.PIN p.val).place] a b)
          ∧ (high = false → 3 ≤ (b.tp p.val).good → Turns (exec (.testPulseEnd t p high) s) s [(F.SAF_TP_STAT.PIN p.val).place] a
            ((b.clear .tpFault (.tp p.val)).setFld (F.SAF_TP_STAT.FAULT p.val) 0))))
      ∧ ((a.evaluating = false ∨ a.tpOn p.val = false ∨ (a.tp p.val).window = false ∨ a.tpPhase p.val a.now < a.tpSpan p.val) →
          Turns (exec (.testWindowEnd t p) s) s [] a a)
      ∧ (a.evaluating = true → a.tpOn p.val = true → (a.tp p.val).window = true → a.tpSpan p.val ≤ a.tpPhase p.val a.now →
          (∀ n < 32, a.siOn n = true → a.siTp n = none) →
          Turns (exec (.testWindowEnd t p) s) s [] a (a.modTp p.val (fun x => { x with window := false })))
      ∧ (a.evaluating = true → a.tpOn p.val = true → (a.tp p.val).window = true → a.tpSpan p.val ≤ a.tpPhase p.val a.now → ∃ d,
          Does (exec (.testWindowEnd t p) s) { s with dev := d } ∧ (d.tp p.val).window = false
          ∧ ∀ n < 32, a.siOn n = true → a.siTp n = some p.val → d.on (F.SAF_SI_STAT.IN_WINDOW n) = false
            ∧ (d.si n).missed = (if (a.tp p.val).before.testBit n && !(a.tp p.val).low.testBit n then (a.si n).missed + 1 else 0))
      ∧ (∀ (level : Bool) (us : BitVec 32),
        ((a.evaluating = false ∨ a.tpOn p.val = false) → Turns (exec (.tpFault t p level us) s) s [] a a)
        ∧ (a.evaluating = true → a.tpOn p.val = true →
          (((level && (a.tp p.val).pulse) || (!level && !(a.tp p.val).pulse && decide (1000 ≤ us.toNat))) = false →
            Turns (exec (.tpFault t p level us) s) s [(F.SAF_TP_STAT.PIN p.val).place] a (a.setBit (F.SAF_TP_STAT.PIN p.val) level))
          ∧ (((level && (a.tp p.val).pulse) || (!level && !(a.tp p.val).pulse && decide (1000 ≤ us.toNat))) = true → ∃ d,
            Turns (exec (.tpFault t p level us) s) s ((F.SAF_TP_STAT.PIN p.val).place :: faultRegs (evClass .tpFault)) a d
            ∧ d.has .tpFault (.tp p.val) = true ∧ (d.tp p.val).good = 0)))))
  ∧ ∀ (d : Dev) (n : Nat), n < 32 →
    (1 ≤ (d.si n).missed → (d.siOwnPulse n true).has .siTestpulse (.si n) = true)
    ∧ (2 ≤ (d.si n).good → (d.siOwnPulse n false).has .siTestpulse (.si n) = false ∧ (d.siOwnPulse n false).has .siCross (.si n) = false)
    ∧ (∀ u < 8, (d.siCrossed n u).has .siCross (.si n) = true)

/-- R372, R375, R376, R378, R381, R386, R389: what time brings to safety functions and outputs: a discrepancy, an OSSD input without pulses, a panel's
hold, the end of HOLD_S, a reset input or button that is stuck, and the feedback of a safe output, filtered with 1 ms, that does not follow its
command. A function or output that is not enabled does nothing. -/
def Obligations.SafetyFunctionsAndOutputs : Prop :=
  ∀ (s : State) (t : Stamp) (a : Dev), At s t 0 a →
    (∀ f : Fin 16,
      ((a.evaluating = false ∨ a.fbOn f.val = false) → ∀ i ∈ [Instr.fbDiscrepancy t f, .fbOssdNopulse t f, .panelHoldComplete t f,
          .fbButtonStuck t f, .fbResetStuck t f], Turns (exec i s) s [] a a)
      ∧ (a.evaluating = true → a.fbOn f.val = true → a.fbState f.val ≠ 6 → (a.fb f.val).disc1 = none → ∀ x, (a.fb f.val).disc0 = some x →
        (a.now.since x < a.fld (F.SAF_FB_TIME.DISC_MS f.val) * 1000 → Turns (exec (.fbDiscrepancy t f) s) s [] a a)
        ∧ (a.fld (F.SAF_FB_TIME.DISC_MS f.val) * 1000 ≤ a.now.since x → a.has .fbDiscrepancy (.fb f.val) = false →
          Turns (exec (.fbDiscrepancy t f) s) s ((F.SAF_FB_STAT.DISCREPANCY f.val).place :: faultRegs (evClass .fbDiscrepancy)) a
            (((a.setFld (F.SAF_FB_STAT.DISCREPANCY f.val) 1).fault .fbDiscrepancy (.fb f.val)).modFb f.val
              (fun y => { y with dflag := true, shown := false }))))
      ∧ (a.evaluating = true → a.fbOn f.val = true → a.fbState f.val ≠ 6 → a.fbType f.val = 3 → a.on (F.SAF_FB_CFG.OSSD_CHECK f.val) = true →
          ∀ p q, p = a.fld (F.SAF_FB_IN.IN_A f.val) → q = a.fld (F.SAF_FB_IN.IN_B f.val) →
        ((∃ x, (a.fb f.val).begun = some x ∧ a.now.since x < a.fld (F.SAF_FB_LIM.OSSD_CHECK_S f.val) * 1000000) →
          Turns (exec (.fbOssdNopulse t f) s) s [] a a)
        ∧ ((∃ x y, (a.si p).pulseAt = some x ∧ (a.si q).pulseAt = some y ∧ a.now.since x < a.fld (F.SAF_FB_LIM.OSSD_CHECK_S f.val) * 1000000
            ∧ a.now.since y < a.fld (F.SAF_FB_LIM.OSSD_CHECK_S f.val) * 1000000) → Turns (exec (.fbOssdNopulse t f) s) s [] a a)
        ∧ ((∀ x, (a.si p).pulseAt = some x → a.fld (F.SAF_FB_LIM.OSSD_CHECK_S f.val) * 1000000 ≤ a.now.since x) →
            (∀ x, (a.fb f.val).begun = some x → a.fld (F.SAF_FB_LIM.OSSD_CHECK_S f.val) * 1000000 ≤ a.now.since x) →
            (∃ y, (a.si q).pulseAt = some y ∧ a.now.since y < a.fld (F.SAF_FB_LIM.OSSD_CHECK_S f.val) * 1000000) →
            a.has .fbOssdNopulse (.fb f.val) = false →
          Turns (exec (.fbOssdNopulse t f) s) s ((F.SAF_FB_STAT.OSSD_NOPULSE f.val).place :: faultRegs (evClass .fbOssdNopulse)) a
            ((a.setFld (F.SAF_FB_STAT.OSSD_NOPULSE f.val) 1).fault .fbOssdNopulse (.fb f.val))))
      ∧ ((a.fb f.val).act = none → Turns (exec (.panelHoldComplete t f) s) s [] a a)
      ∧ (∀ x, a.evaluating = true → a.fbOn f.val = true → a.fbType f.val = 4 → a.fbState f.val = 1 → (a.fb f.val).issued = false →
          (a.fb f.val).act = some x → a.fld (F.SAF_FB_TIME.PANEL_HOLD f.val) * 10000 ≤ a.now.since x →
        Turns (exec (.panelHoldComplete t f) s) s [] a (a.modFb f.val (fun y => { y with issued := true, auth := some a.now })))
      ∧ ((a.evaluating = false ∨ ∀ x, (a.fb f.val).hold = some x → a.now.reached x = false) → Turns (exec (.speedHoldExpiry t f) s) s [] a a)
      ∧ (∀ x, a.evaluating = true → (a.fb f.val).hold = some x → a.now.reached x = true →
        Turns (exec (.speedHoldExpiry t f) s) s [] a (a.modFb f.val (fun y => { y with hold := none })))
      ∧ (a.on (F.SAF_FB_CFG.RST_SI f.val) = false → Turns (exec (.fbResetStuck t f) s) s [] a a)
      ∧ (∀ n x, a.evaluating = true → a.fbOn f.val = true → a.on (F.SAF_FB_CFG.RST_SI f.val) = true → n = a.fld (F.SAF_FB_CFG.RESET_SI f.val) →
          (a.si n).rise = some x → a.level n = true → (a.fb f.val).stuck = false →
        (5000000 < a.now.since x → Turns (exec (.fbResetStuck t f) s) s ((F.SAF_FB_STAT.RESET_STUCK f.val).place :: eventRegs 0) a
          (((a.modFb f.val (fun y => { y with stuck := true })).setFld (F.SAF_FB_STAT.RESET_STUCK f.val) 1).note .fbResetStuck (.fb f.val) 0
            (leBytes 1 n)))
        ∧ (a.now.since x ≤ 5000000 → Turns (exec (.fbResetStuck t f) s) s [] a a))
      ∧ (∀ x, a.evaluating = true → a.fbOn f.val = true → (a.fbType f.val = 2 ∨ a.fbType f.val = 4) → (a.fb f.val).hand1.alone = none →
          (a.fb f.val).hand0.alone = some x → (a.fb f.val).hand0.told = false →
        (a.fld (F.SAF_FB_TIME.STUCK_S f.val) * 1000000 ≤ a.now.since x → Turns (exec (.fbButtonStuck t f) s) s
          ((F.SAF_FB_STAT.BUTTON_STUCK f.val).place :: eventRegs 0) a
          (((a.setFld (F.SAF_FB_STAT.BUTTON_STUCK f.val) 1).note .fbButtonStuck (.fb f.val) 0 (leBytes 1 0)).modFb f.val
            (fun y => { y with hand0 := { y.hand0 with told := true } })))
        ∧ (a.now.since x < a.fld (F.SAF_FB_TIME.STUCK_S f.val) * 1000000 → Turns (exec (.fbButtonStuck t f) s) s [] a a)))
    ∧ (∀ (o : Fin 8) (level : Bool) (b : Dev) (raw : Bool × Stamp), b = a.soRead o.val level → raw = tabGet (false, 0) a.soFb o.val →
      tabGet (false, 0) b.soFb o.val = (if raw.1 = level then raw else (level, a.now))
      ∧ b.on (F.SAF_SO_STAT.FB o.val) = (if 1000 ≤ a.now.since raw.2 then raw.1 else a.on (F.SAF_SO_STAT.FB o.val))
      ∧ ((a.evaluating = false ∨ a.soOn o.val = false) → Turns (exec (.soFeedback t o level) s) s [] a a ∧ Turns (exec (.soStuckOff t o level) s) s [] a a)
      ∧ (a.evaluating = true → a.soOn o.val = true →
        ((b.on (F.SAF_SO_STAT.FB o.val) = false ∨ a.on (F.SAF_SO_STAT.CMD o.val) = true
            ∨ a.now.since (tabGet 0 a.soAt o.val) ≤ a.fld (F.SAF_SO_CFG.FB_OFF_MS o.val) * 1000 ∨ b.has .soFeedback (.so o.val) = true) →
          Turns (exec (.soFeedback t o level) s) s [(F.SAF_SO_STAT.FB o.val).place] a b)
        ∧ (b.on (F.SAF_SO_STAT.FB o.val) = true → a.on (F.SAF_SO_STAT.CMD o.val) = false →
            a.fld (F.SAF_SO_CFG.FB_OFF_MS o.val) * 1000 < a.now.since (tabGet 0 a.soAt o.val) → b.has .soFeedback (.so o.val) = false →
          Turns (exec (.soFeedback t o level) s) s ([(F.SAF_SO_STAT.FB o.val).place, (F.SAF_SO_FLAG.FEEDBACK o.val).place,
              (F.SAF_SO_CNT.FAULTS o.val).place] ++ faultRegs (evClass .soFeedback)) a
            (((b.setFld (F.SAF_SO_FLAG.FEEDBACK o.val) 1).inc (F.SAF_SO_CNT.FAULTS o.val)).fault .soFeedback (.so o.val)))
        ∧ ((b.on (F.SAF_SO_STAT.FB o.val) = true ∨ a.on (F.SAF_SO_STAT.CMD o.val) = false
            ∨ a.now.since (tabGet 0 a.soAt o.val) ≤ a.fld (F.SAF_SO_CFG.FB_ON_MS o.val) * 1000 ∨ b.has .soStuckOff (.so o.val) = true) →
          Turns (exec (.soStuckOff t o level) s) s [(F.SAF_SO_STAT.FB o.val).place] a b)
        ∧ (b.on (F.SAF_SO_STAT.FB o.val) = false → a.on (F.SAF_SO_STAT.CMD o.val) = true →
            a.fld (F.SAF_SO_CFG.FB_ON_MS o.val) * 1000 < a.now.since (tabGet 0 a.soAt o.val) → b.has .soStuckOff (.so o.val) = false →
          Turns (exec (.soStuckOff t o level) s) s ([(F.SAF_SO_STAT.FB o.val).place, (F.SAF_SO_FLAG.STUCK_OFF o.val).place,
              (F.SAF_SO_CNT.FAULTS o.val).place] ++ faultRegs (evClass .soStuckOff)) a
            (((b.setFld (F.SAF_SO_FLAG.STUCK_OFF o.val) 1).inc (F.SAF_SO_CNT.FAULTS o.val)).fault .soStuckOff (.so o.val)))))

/-! ### Serial and network ports -/

/-- R397 to R408, R410 to R413, R417: a port that is not enabled does nothing. A character is decided by the majority of its samples; the word that is
stored carries its value and its errors; a character whose start reads high is a glitch, one without a high bit a break; an armed receiver measures a
character that begins after it was armed. A stored word waits in the FIFO, or is lost and counted when the FIFO is full. Idle lines, receive timeouts,
cards and transmitted characters. -/
def Obligations.SerialPorts : Prop :=
  (∀ (s : State) (t : Stamp) (n : Fin 7) (c : LineChar) (a : Dev), At s t 0 a →
    (a.serRuns n.val = false → ∀ (smp : List Bool) (early late : BitVec 9) (x high : Bool) (y : Option Stamp) (us : BitVec 32),
      ∀ i ∈ [Instr.characterReceived t n c, .startGlitch t n smp, .autobaudQuiet t n y, .lineIdle t n, .rxTimeoutFlush t n,
        .transmitCharacter t n ⟨early, late⟩ x, .serCardInserted t ⟨n, high, us⟩, .serCardRemoved t ⟨n, high, us⟩], Turns (exec i s) s [] a a)
    ∧ (∀ (mode bits par stopPos value : Nat) (inv armed back stop badPar : Bool) (raw : Nat → Bool) (b : Dev), a.serRuns n.val = true →
        a.serMode n.val = mode → (mode = 1 ∨ mode = 2) → a.serData n.val = bits → a.serParity n.val = par →
        stopPos = bits + 1 + (if par = 0 then 0 else 1) → back = (decide (mode = 2) && a.on (F.SER_STAT.INVERSE n.val)) →
        inv = (decide (mode = 1) && a.on (F.SER_CFG.INVERT n.val)) →
        armed = (decide (mode = 1) && decide (a.fld (F.SER_STAT.AB_STATE n.val) = 1) && !(a.ser n.val).armAt.later c.first) →
        raw = bitAt c.samples inv (if mode = 2 ∨ 1024 ≤ a.serDiv n.val then 16 else 8) →
        value = serValue bits (back || (decide (mode = 1) && a.on (F.SER_CFG.MSB_FIRST n.val))) (fun k => raw k ^^ back) → stop = raw stopPos →
        badPar = (decide (par ≠ 0) && ((raw (bits + 1) ^^ back) != parityBit par bits value)) →
        b = (a.modSer n.val (fun q => { q with lastStop := a.now })).setBit (F.SER_STAT.LINE n.val) stop →
        (mode = 2 → a.on (F.SER_STAT.CARD_ACTIVE n.val) = true) →
      (raw 0 = true → armed = false →
        Turns (exec (.characterReceived t n c) s) s [(F.SER_ERR_CNT2.GLITCHES n.val).place] a (a.inc (F.SER_ERR_CNT2.GLITCHES n.val)))
      ∧ ((raw 0 = false ∨ armed = true) → mode = 1 → (a.ser n.val).quiet = true → Turns (exec (.characterReceived t n c) s) s [] a a)
      ∧ (armed = true → (a.ser n.val).quiet = false →
          Does (exec (.characterReceived t n c) s) (State.abMeasure n.val c { s with dev := b }))
      ∧ (raw 0 = false → mode = 2 → (a.ser n.val).ts = true →
          Does (exec (.characterReceived t n c) s) (State.serTs n.val c raw { s with dev := b }))
      ∧ (raw 0 = false → armed = false → (mode = 1 → (a.ser n.val).quiet = false) → (mode = 2 → (a.ser n.val).ts = false) →
        ((∀ k ≤ stopPos, raw k = false) → ∀ e : Dev, e = (((b.inc (F.SER_ERR_CNT2.BREAKS n.val)).inc (F.SER_ERR_CNT.FRAME_ERRS n.val)).serFlag n.val 2).serFlag n.val 1 →
          Does (exec (.characterReceived t n c) s) (State.serStore n.val (2 ^ 11 + 2 ^ 10) c.first { s with dev := e }))
        ∧ (∀ k ≤ stopPos, raw k = true → badPar = false → stop = true → ∃ u,
          Does (exec (.characterReceived t n c) s) u ∧ u = State.serStore n.val value c.first { s with dev := b }
          ∧ (a.boundRing 5 n.val = none → (a.ser n.val).fifo.length < 64 → (u.dev.ser n.val).fifo = (a.ser n.val).fifo
              ++ [⟨value + (if (a.ser n.val).idle then 2 ^ 12 else 0) + (if (a.ser n.val).mark then 2 ^ 13 else 0) + 2 ^ 15, c.first, (a.ser n.val).lost⟩]))
        ∧ (∀ k ≤ stopPos, raw k = true → badPar = true → stop = true → mode = 1 → ∀ e : Dev,
          e = (b.inc (F.SER_ERR_CNT.PARITY_ERRS n.val)).serFlag n.val 0 →
          Does (exec (.characterReceived t n c) s) (State.serStore n.val (value + 2 ^ 9) c.first { s with dev := e }))
        ∧ (∀ k ≤ stopPos, raw k = true → badPar = false → stop = false → ∀ e : Dev,
          e = (b.inc (F.SER_ERR_CNT.FRAME_ERRS n.val)).serFlag n.val 1 →
          Does (exec (.characterReceived t n c) s) (State.serStore n.val (value + 2 ^ 10) c.first { s with dev := e }))))
    ∧ (∀ (smp : List Bool) (high : Bool), a.serRuns n.val = true → (a.serMode n.val = 1 ∨ a.serMode n.val = 2) →
        high = bitAt smp (decide (a.serMode n.val = 1) && a.on (F.SER_CFG.INVERT n.val))
          (if a.serMode n.val = 2 ∨ 1024 ≤ a.serDiv n.val then 16 else 8) 0 →
      (high = true → Turns (exec (.startGlitch t n smp) s) s [(F.SER_ERR_CNT2.GLITCHES n.val).place] a (a.inc (F.SER_ERR_CNT2.GLITCHES n.val)))
      ∧ (high = false → Turns (exec (.startGlitch t n smp) s) s [] a a))
    ∧ (∀ y : Option Stamp, a.serRuns n.val = true → a.serMode n.val = 1 →
      (∀ x, y = some x → a.fld (F.SER_STAT.AB_STATE n.val) = 1 → ∀ u : State, State.abFail n.val 0 x { s with dev := a } = u →
        Does (exec (.autobaudQuiet t n y) s) { u with dev := if (u.dev.ser n.val).quiet then u.dev.abArm n.val else u.dev })
      ∧ ((y = none ∨ a.fld (F.SER_STAT.AB_STATE n.val) ≠ 1) →
        ((a.ser n.val).quiet = true → ∃ d, Turns (exec (.autobaudQuiet t n y) s) s [(F.SER_STAT.AB_STATE n.val).place] a d
          ∧ d.fld (F.SER_STAT.AB_STATE n.val) = 1 ∧ (d.ser n.val).quiet = false ∧ (d.ser n.val).armAt = a.now)
        ∧ ((a.ser n.val).quiet = false → Turns (exec (.autobaudQuiet t n y) s) s [] a a)))
    ∧ ((a.on (F.SER_STAT.RX_IDLE n.val) = true ∨ a.serPast n.val 1 (a.ser n.val).lastStop = false) → Turns (exec (.lineIdle t n) s) s [] a a)
    ∧ (a.serRuns n.val = true → (a.serMode n.val = 1 ∨ a.serMode n.val = 2) → a.on (F.SER_STAT.RX_IDLE n.val) = false →
        a.serPast n.val 1 (a.ser n.val).lastStop = true → ∃ d,
        Turns (exec (.lineIdle t n) s) s [(F.SER_STAT.RX_IDLE n.val).place, (F.SER_FLAG.PARITY n.val).place] a d
        ∧ d.on (F.SER_STAT.RX_IDLE n.val) = true ∧ d.on (F.SER_STAT.LINE n.val) = true ∧ (d.ser n.val).idle = true
        ∧ (d.reg .ser (F.SER_FLAG.PARITY n.val).off).getLsbD 13 = true)
    ∧ (∀ past : Bool, a.serRuns n.val = true → past = a.serPast n.val (a.fld (F.SER_RXCFG.RX_TIMEOUT n.val)) (a.ser n.val).lastStop →
      ((past = false ∨ a.boundRing 5 n.val = none) → Turns (exec (.rxTimeoutFlush t n) s) s [] a a)
      ∧ (∀ r, past = true → a.boundRing 5 n.val = some r → ∃ u, Does (exec (.rxTimeoutFlush t n) s) u ∧ u = State.bufFlush r { s with dev := a }
        ∧ (∀ b, (a.ring r).buf = some b → 0 < b.used → a.ringBar (a.ringDesc r) = none → (u.dev.ring r).buf = none)))
    ∧ (∀ (early late : BitVec 9) (err : Bool), a.serRuns n.val = true → a.serMode n.val ≠ 0 →
      ((a.boundRing 6 n.val = none ∨ (a.serMode n.val = 2 ∧ a.on (F.SER_STAT.CARD_ACTIVE n.val) = false)) →
        Turns (exec (.transmitCharacter t n ⟨early, late⟩ err) s) s [] a a)
      ∧ (∀ (r w : Nat) (u v : State), State.serNext n.val { s with dev := a } = (some (r, w), u) →
          v = { u with dev := { u.dev with out := { u.dev.out with serTx := u.dev.out.serTx ++ [(n.val, u.dev.serFrame n.val w)] } } } →
          (a.serMode n.val = 2 → a.on (F.SER_STAT.CARD_ACTIVE n.val) = true) →
        ((v.serSent n.val r).dev.fld (F.SER_TX_CNT_LO.V n.val) + 2 ^ 32 * (v.serSent n.val r).dev.fld (F.SER_TX_CNT_HI.V n.val)
          = (u.dev.fld (F.SER_TX_CNT_LO.V n.val) + 2 ^ 32 * u.dev.fld (F.SER_TX_CNT_HI.V n.val) + 1) % 2 ^ (32 + (F.SER_TX_CNT_HI.V n.val).w))
        ∧ (a.serMode n.val = 1 → Does (exec (.transmitCharacter t n ⟨early, late⟩ err) s) (v.serSent n.val r))
        ∧ (a.serMode n.val = 2 → (err = false ∨ u.dev.on (F.SER_RXCFG.ERR_SIG n.val) = false) →
          Does (exec (.transmitCharacter t n ⟨early, late⟩ err) s) (v.serSent n.val r))
        ∧ (a.serMode n.val = 2 → err = true → u.dev.on (F.SER_RXCFG.ERR_SIG n.val) = true →
            (u.dev.ser n.val).tries < u.dev.fld (F.SER_RXCFG.TX_RETRIES n.val) → ∀ d : Dev,
            d = (v.dev.modSer n.val (fun q => { q with tries := q.tries + 1 })).inc (F.SER_CARD_CNT.REPEATS n.val) →
          Does (exec (.transmitCharacter t n ⟨early, late⟩ err) s) { v with dev := d })
        ∧ (a.serMode n.val = 2 → err = true → u.dev.on (F.SER_RXCFG.ERR_SIG n.val) = true →
            u.dev.fld (F.SER_RXCFG.TX_RETRIES n.val) ≤ (u.dev.ser n.val).tries → ∀ x : State, x = v.bufDone r 5 2 true (v.dev.ser n.val).sentAt →
          Does (exec (.transmitCharacter t n ⟨early, late⟩ err) s)
            (x.map (fun d => ((d.modSer n.val (fun q => { q with tries := 0 })).serFlag n.val 10).note .serCardTxerr (.uart n.val))))
        ∧ (a.serMode n.val = 3 → ∀ (x y : State) (q : SerSt) (bits value : Nat), x = v.serSent n.val r → q = x.dev.ser n.val →
            bits = x.dev.serData n.val → value = serValue bits (x.dev.on (F.SER_CFG.MSB_FIRST n.val)) (fun k =>
              (if x.dev.on (F.SER_CFG.SAMPLE_LATE n.val) then late else early).getLsbD (k - 1) ^^ x.dev.on (F.SER_CFG.INVERT n.val)) →
            y = x.map (fun d => d.setSer n.val { q with
              idle := false, mark := false, last := w.testBit (if x.dev.on (F.SER_CFG.MSB_FIRST n.val) then 0 else bits - 1) }) →
            x.dev.serMode n.val = 3 →
          Does (exec (.transmitCharacter t n ⟨early, late⟩ err) s) ((State.serStore n.val value y.dev.now y).map
            (fun d => d.modSer n.val (fun p => { p with idle := q.idle, mark := q.mark || p.mark, lastStop := d.now }))))))
    ∧ (∀ (high : Bool) (us : BitVec 32), a.serRuns n.val = true →
      ((a.serMode n.val ≠ 2 ∨ a.on (F.SER_STAT.CARD_PRESENT n.val) = true ∨ high ≠ a.on (F.SER_CARD_CFG.DET_POL n.val) ∨ us.toNat < 10000) →
        Turns (exec (.serCardInserted t ⟨n, high, us⟩) s) s [] a a)
      ∧ ((a.serMode n.val ≠ 2 ∨ a.on (F.SER_STAT.CARD_PRESENT n.val) = false ∨ high = a.on (F.SER_CARD_CFG.DET_POL n.val) ∨ us.toNat < 100) →
        Turns (exec (.serCardRemoved t ⟨n, high, us⟩) s) s [] a a)
      ∧ (a.serMode n.val = 2 → a.on (F.SER_STAT.CARD_PRESENT n.val) = false → high = a.on (F.SER_CARD_CFG.DET_POL n.val) → 10000 ≤ us.toNat →
        Turns (exec (.serCardInserted t ⟨n, high, us⟩) s) s
        ([(F.SER_STAT.CARD_PRESENT n.val).place, (F.SER_CARD_CNT.INSERTS n.val).place, (F.SER_FLAG.PARITY n.val).place] ++ eventRegs 0) a
        ((((a.setFld (F.SER_STAT.CARD_PRESENT n.val) 1).inc (F.SER_CARD_CNT.INSERTS n.val)).serFlag n.val 7).note .serCardInserted (.uart n.val)))
      ∧ (a.serMode n.val = 2 → a.on (F.SER_STAT.CARD_PRESENT n.val) = true → high ≠ a.on (F.SER_CARD_CFG.DET_POL n.val) → 100 ≤ us.toNat → ∀ b : Dev,
          b = (((((a.setFld (F.SER_STAT.CARD_PRESENT n.val) 0).inc (F.SER_CARD_CNT.REMOVALS n.val)).serFlag n.val 8).note .serCardRemoved
            (.uart n.val)).cardStop n.val).modSer n.val (fun q => { q with gone := true }) → a.boundRing 5 n.val = none → a.boundRing 6 n.val = none →
        Turns (exec (.serCardRemoved t ⟨n, high, us⟩) s) s
          ([(F.SER_STAT.CARD_PRESENT n.val).place, (F.SER_CARD_CNT.REMOVALS n.val).place, (F.SER_FLAG.PARITY n.val).place] ++ eventRegs 0) a b)))
  ∧ (∀ (s : State) (n word : Nat) (stamp : Stamp), n < 7 → s.dev.boundRing 5 n = none →
    ((s.dev.ser n).fifo.length < 64 → ∀ w q, w = word + (if (s.dev.ser n).idle then 2 ^ 12 else 0) + (if (s.dev.ser n).mark then 2 ^ 13 else 0) + 2 ^ 15 →
        q = (s.serStore n word stamp).dev.ser n →
      q.fifo = (s.dev.ser n).fifo ++ [⟨w, stamp, (s.dev.ser n).lost⟩] ∧ q.lost = 0 ∧ q.mark = false ∧ q.idle = false
      ∧ (s.serStore n word stamp).dev.fld (F.SER_LAST_RX.WORD n) = w % 2 ^ (F.SER_LAST_RX.WORD n).w
      ∧ (s.serStore n word stamp).dev.on (F.SER_STAT.RX_IDLE n) = false ∧ (s.serStore n word stamp).store = s.store)
    ∧ (64 ≤ (s.dev.ser n).fifo.length → ∀ q, q = (s.serStore n word stamp).dev.ser n →
      q.fifo = (s.dev.ser n).fifo ∧ q.lost = (s.dev.ser n).lost + 1 ∧ q.mark = true
      ∧ (s.serStore n word stamp).dev.fld (F.SER_LOST_CNT.LOST n) = min (s.dev.fld (F.SER_LOST_CNT.LOST n) + 1) (2 ^ (F.SER_LOST_CNT.LOST n).w - 1)
      ∧ ((s.serStore n word stamp).dev.reg .ser (F.SER_FLAG.PARITY n).off).getLsbD 3 = true))
  ∧ ∀ (s : State) (n p t div bits par stop value : Nat) (inv badPar : Bool) (c : LineChar) (ps edges : List Nat) (level : Nat → Bool), n < 7 →
    s.dev.serInvert n = inv → charEdges c inv = edges → s.dev.abEdges n = ps → ps.getLast?.getD 0 = p →
    (edges.take ps.length).getLast?.getD 0 = t → 0 < p → ps.length ≤ edges.length → div = (128 * t + p) / (2 * p) →
    s.dev.serData n = bits → s.dev.serParity n = par → stop = bits + 1 + (if par = 0 then 0 else 1) →
    level = bitAt c.samples inv (if 1024 ≤ div then 16 else 8) → value = serValue bits (s.dev.serMsb n) level →
    badPar = (decide (par ≠ 0) && (level (bits + 1) != parityBit par bits value)) →
    ((∀ e ∈ ps.zip edges, 4 * ((e.2 * p : Nat) - (e.1 * t : Nat) : Int).natAbs ≤ t) → charHighAt c inv ((2 * stop + 1) * t) (2 * p) = true →
        12000 * t ≤ p * 1000000000 → 100 * p ≤ 3 * t → ∀ b d : Dev,
        b = (((s.dev.setFld (F.SER_AB_LAST.BIT_DIV n) (min div (2 ^ 25 - 1))).setFld (F.SER_RATE.BIT_DIV n) div).inc
          (F.SER_AB_CNT.PASSES n)).serFlag n 4 →
        d = ((if badPar then (b.inc (F.SER_ERR_CNT.PARITY_ERRS n)).serFlag n 0 else b).setFld (F.SER_STAT.AB_STATE n) 2).modSer n
          (fun q => { q with fails := 0 }) →
      s.abMeasure n c = State.serStore n (2 ^ 14 + value + badPar.toNat * 2 ^ 9) c.first { s with dev := d })
    ∧ ((charHighAt c inv ((2 * stop + 1) * t) (2 * p) = false ∨ (∃ e ∈ ps.zip edges, t < 4 * ((e.2 * p : Nat) - (e.1 * t : Nat) : Int).natAbs)) →
        ∀ d : Dev, d = s.dev.setFld (F.SER_AB_LAST.BIT_DIV n) (min div (2 ^ 25 - 1)) →
      s.abMeasure n c = State.abFail n div c.first { s with dev := d })

/-- R26, R427 to R433, R436, R439, R442, R443: a link is declared up once it has been good for LINK_UP_MS, and down when it ceases to be good; too many
downs hold the port. In F5 a port sends nothing. A frame counts under its first failing condition, or goes where Table NET-2 sends it. A port sends its KVT frames first; a frame
cut off by the loss of the link is dropped. -/
def Obligations.NetworkPorts : Prop :=
  (∀ (s : State) (t : Stamp) (n : Fin 4) (a : Dev), At s t 0 a →
    (∀ lane : BitVec 5,
      (a.netRuns n.val = false → (∀ us, Turns (exec (.linkUp t n lane us) s) s [] a a)
        ∧ ((a.twinOn = false ∨ a.twinLossCase = 0) → Turns (exec (.linkDown t n lane) s) s [] a a))
      ∧ (∀ b : Dev, a.netRuns n.val = true → a.netRole n.val ≠ 0 → b = a.setLane n.val lane →
        (∀ us : BitVec 32,
          ((b.netGood n.val = false ∨ us.toNat < a.fld (F.NET_LINK_CFG.LINK_UP_MS n.val) * 1000
              ∨ a.now.since (a.net n.val).trainAt < a.fld (F.NET_LINK_CFG.LINK_UP_MS n.val) * 1000
              ∨ (a.fld (F.NET_STAT.STATE n.val) ≠ 1 ∧ a.fld (F.NET_STAT.STATE n.val) ≠ 3)) →
            Turns (exec (.linkUp t n lane us) s) s [(F.NET_STAT.STATE n.val).place] a b)
          ∧ (b.netGood n.val = true → (a.fld (F.NET_STAT.STATE n.val) = 1 ∨ a.fld (F.NET_STAT.STATE n.val) = 3) →
              a.fld (F.NET_LINK_CFG.LINK_UP_MS n.val) * 1000 ≤ us.toNat →
              a.fld (F.NET_LINK_CFG.LINK_UP_MS n.val) * 1000 ≤ a.now.since (a.net n.val).trainAt →
              (a.on (F.KVT_PCFG.ENABLE n.val) = false ∨ a.fld (F.KVT_STAT.STATE n.val) ≠ 0) → ∀ e : Dev,
              e = ((b.setFld (F.NET_STAT.LINK_UP n.val) 1).setFld (F.NET_STAT.STATE n.val) 2).setFld (F.NET_FLAG.UP n.val) 1 →
            Turns (exec (.linkUp t n lane us) s) s ([(F.NET_STAT.STATE n.val).place, (F.NET_FLAG.UP n.val).place] ++ eventRegs 0) a
              ((e.pend (78 + n.val) (e.portNs n.val)).netNote .netLinkUp n.val)))
        ∧ (∀ c : Dev, c = (if b.netGood n.val then b else b.modNet n.val (fun x => { x with trainAt := a.now })) →
          ((a.netUp n.val = false ∨ b.netGood n.val = true) → (c.twinOn = false ∨ c.twinLossCase = 0) →
            Turns (exec (.linkDown t n lane) s) s [(F.NET_STAT.STATE n.val).place] a c)
          ∧ (a.netUp n.val = true → b.netGood n.val = false → (c.twinOn = false ∨ (c.netDown n.val).twinLossCase = 0) → ∃ d,
            Does (exec (.linkDown t n lane) s) { s with dev := d } ∧ d = c.netDown n.val ∧ d.netUp n.val = false
            ∧ ∃ r ∈ d.evq, r.ev = .netLinkDown ∧ r.src = .port n.val ∧ r.stamp = a.now)))))
  ∧ (∀ (d e : Dev) (n k : Nat), n < 4 → d.netDown n = e →
      k = ((d.net n).downs.filter (fun t => d.now.since t ≤ d.fld (F.NET_LINK_CFG.FLAP_WINDOW_S n) * 1000000)).length →
    e.netUp n = false ∧ e.on (F.NET_FLAG.DOWN n) = true ∧ tabGet [] e.kvtTx n = [] ∧ e.fld (F.KVT_STAT.STATE n) ≠ 1
    ∧ e.fld (F.NET_STAT.STATE n) = (if d.fld (F.NET_LINK_CFG.FLAP_MAX n) ≤ k then 4 else 3)
    ∧ (d.fld (F.NET_LINK_CFG.FLAP_MAX n) ≤ k → e.on (F.NET_FLAG.HELD n) = true)
    ∧ (e.net n).downs.length = k + 1)
  ∧ (∀ (s : State) (t : Stamp) (ns : Fin 1000) (n : Fin 4) (a : Dev), At s t ns.val a →
    (∀ (raw : List Byte) (ok : Bool) (corr unc : BitVec 16),
      ((a.netRuns n.val = false ∨ a.netUp n.val = false ∨ a.netRole n.val = 0) →
        Turns (exec (.frameReceived t ns n raw ok corr unc) s) s [] a a)
      ∧ (∀ b : Dev, a.netRuns n.val = true → a.netUp n.val = true → a.netRole n.val ≠ 0 → b = a.netFecCount n.val corr.toNat unc.toNat →
        (∀ c, b.netReject n.val raw ok = some c → Does (exec (.frameReceived t ns n raw ok corr unc) s) { s with dev := b.inc c })
        ∧ (∀ (e : Dev) (f : Frame), b.netReject n.val raw ok = none → f = readFrame raw →
            e = b.incPair (F.NET_RX_FRAMES_LO.V n.val) (F.NET_RX_FRAMES_HI.V n.val) →
          (a.netRole n.val = 3 → Does (exec (.frameReceived t ns n raw ok corr unc) s) (State.rxpFrame n.val f raw { s with dev := e }))
          ∧ (a.netRole n.val ≠ 3 → f.etype = a.fld F.KVT_ETYPE.KVT_ETYPE →
            Does (exec (.frameReceived t ns n raw ok corr unc) s) { s with dev := e.kvtReceive n.val f.body })
          ∧ (a.netRole n.val ≠ 3 → f.etype ≠ a.fld F.KVT_ETYPE.KVT_ETYPE → a.on (F.NET_CFG.RX_OTHER n.val) = true →
            Does (exec (.frameReceived t ns n raw ok corr unc) s) (State.rxpFrame n.val f raw { s with dev := e }))
          ∧ (a.netRole n.val ≠ 3 → f.etype ≠ a.fld F.KVT_ETYPE.KVT_ETYPE → a.on (F.NET_CFG.RX_OTHER n.val) = false →
            Does (exec (.frameReceived t ns n raw ok corr unc) s) { s with dev := e.inc (F.NET_RX_DROP2.NO_RING n.val) }))))
    ∧ (∀ cut : Bool,
      (a.netRole n.val ≠ 0 → (a.netRuns n.val = false ∨ a.netUp n.val = false ∨ a.fld F.FLT_STATE.DEV_STATE = 5) → Turns (exec (.frameTransmit t ns n cut) s) s [] a a)
      ∧ (a.netRole n.val = 0 → Does (exec (.frameTransmit t ns n cut) s) (State.txpSend n.val false { s with dev := a }))
      ∧ (a.netRole n.val ≠ 0 → a.netRuns n.val = true → a.netUp n.val = true → a.fld F.FLT_STATE.DEV_STATE ≠ 5 →
        (tabGet [] a.kvtTx n.val = [] → Does (exec (.frameTransmit t ns n cut) s) (State.txpSend n.val cut { s with dev := a }))
        ∧ (∀ (f : KvtFrame) (rest : List KvtFrame) (b : Dev), tabGet [] a.kvtTx n.val = f :: rest → b = { a with kvtTx := tabPut [] a.kvtTx n.val rest } →
          (cut = true → Turns (exec (.frameTransmit t ns n cut) s) s [(F.NET_TX_DROP.LINK_DROP n.val).place] a
            (b.inc (F.NET_TX_DROP.LINK_DROP n.val)))
          ∧ (cut = false → ∃ d, Turns (exec (.frameTransmit t ns n cut) s) s [(F.NET_TX_FRAMES_LO.V n.val).place, (F.NET_TX_FRAMES_HI.V n.val).place] a d
            ∧ d.out.frames = a.out.frames ++ [(n.val, a.kvtWire n.val (a.kvtBytes n.val f))] ∧ tabGet [] d.kvtTx n.val = rest)))))
  ∧ ∀ (d : Dev) (n : Nat) (raw : List Byte), n < 4 →
    (d.netReject n raw false = some (F.NET_RX_ERR.FCS n))
    ∧ ((raw.length < 60 ∨ 9212 < raw.length) → d.netReject n raw true = some (F.NET_RX_ERR.LENGTH n))
    ∧ (∀ f, f = readFrame raw → 60 ≤ raw.length → raw.length ≤ 9212 →
      (f.dst ≠ d.ownMac n → d.on (F.NET_CFG.BCAST_EN n) = false → d.on (F.NET_CFG.PTP_MC_EN n) = false →
        d.netReject n raw true = some (F.NET_RX_DROP.ADDRESS n))
      ∧ (f.dst = d.ownMac n → f.tci = none → d.on (F.NET_CFG.TAG_MODE n) = true → d.netReject n raw true = some (F.NET_RX_DROP.TAG n))
      ∧ (f.dst = d.ownMac n → f.tci = none → d.on (F.NET_CFG.TAG_MODE n) = false → d.on (F.NET_CFG.LOCK_EN n) = true → f.src ≠ d.partnerMac n →
        d.netReject n raw true = some (F.NET_RX_DROP2.SOURCE n))
      ∧ (f.dst = d.ownMac n → f.tci = none → d.on (F.NET_CFG.TAG_MODE n) = false → f.src = d.partnerMac n → d.netReject n raw true = none))

/-! ### Krytgo Vital Transport -/

/-- R26, R452 to R455, R457, R458, R460, R465 and Tables KVT-2, KVT-3: a frame of any type reaches KVT only on a running, linked KVT port; the first
check that fails counts it. A frame of the OPEN session is judged by its age and its number; a message takes effect by its type and the role of the
port. -/
def Obligations.KvtFramesReceived : Prop :=
  (∀ (s : State) (t : Stamp) (p : Fin 4) (f : KvtFrame) (crcOk tagOk : Bool) (a : Dev), At s t 0 a →
    ∀ x ∈ [(Instr.kvtHeartbeatRx t p f crcOk tagOk, { f with type := 1, syn := false }), (.kvtSynRx t p f crcOk tagOk, { f with type := 1, syn := true }),
      (.kvtHeadEventRx t p f crcOk tagOk, { f with type := 2 }), (.kvtGambitRx t p f crcOk tagOk, { f with type := 3 }),
      (.kvtGambitConfirmRx t p f crcOk tagOk, { f with type := 4 }), (.kvtGambitCancelRx t p f crcOk tagOk, { f with type := 5 }),
      (.kvtSectionStateRx t p f crcOk tagOk, { f with type := 6 }), (.kvtAspectRequestRx t p f crcOk tagOk, { f with type := 7 }),
      (.kvtAspectFallbackRx t p f crcOk tagOk, { f with type := 8 }), (.kvtLampStatusRx t p f crcOk tagOk, { f with type := 9 }),
      (.resetPermit t p f crcOk tagOk, { f with type := 10 }), (.kvtSafetyStateRx t p f crcOk tagOk, { f with type := 11 }),
      (.kvtAppRx t p f crcOk tagOk, { f with type := 12 }), (.kvtAckRx t p f crcOk tagOk, { f with type := 15 })],
      ((a.netRuns p.val = false ∨ a.netUp p.val = false ∨ a.netRole p.val = 0 ∨ a.netRole p.val = 3 ∨ a.on (F.KVT_PCFG.ENABLE p.val) = false
          ∨ a.fld F.FLT_STATE.DEV_STATE = 5) → Turns (exec x.1 s) s [] a a)
      ∧ (a.netRuns p.val = true → a.netUp p.val = true → (a.netRole p.val = 1 ∨ a.netRole p.val = 2) → a.on (F.KVT_PCFG.ENABLE p.val) = true →
          a.fld F.FLT_STATE.DEV_STATE ≠ 5 →
        (kvtLenOk x.2.type f.payload.length = false →
          Turns (exec x.1 s) s [(F.KVT_ERR2.FORM_ERR p.val).place] a (a.inc (F.KVT_ERR2.FORM_ERR p.val)))
        ∧ (kvtLenOk x.2.type f.payload.length = true → crcOk = false → Does (exec x.1 s) { s with dev := a.kvtInteg p.val (F.KVT_ERR.CRC_ERR p.val) })
        ∧ (kvtLenOk x.2.type f.payload.length = true → crcOk = true → tagOk = false → a.on (F.KVT_PCFG.AUTH_EN p.val) = true →
          Does (exec x.1 s) { s with dev := a.kvtInteg p.val (F.KVT_ERR.TAG_ERR p.val) })
        ∧ (kvtLenOk x.2.type f.payload.length = true → crcOk = true → (tagOk = true ∨ a.on (F.KVT_PCFG.AUTH_EN p.val) = false) →
          Does (exec x.1 s) { s with dev := a.kvtSession p.val x.2 }
          ∧ (a.fld (F.KVT_STAT.STATE p.val) = 0 →
            Turns (exec x.1 s) s [(F.KVT_ERR2.WRONG_SID p.val).place] a (a.inc (F.KVT_ERR2.WRONG_SID p.val)))
          ∧ (a.fld (F.KVT_STAT.STATE p.val) = 1 → x.2.syn = true → x.2.type = 1 → a.kvtOfLink p.val f.sid = true → ∃ d,
            Does (exec x.1 s) { s with dev := d } ∧ d.fld (F.KVT_PEER_SID.PEER_SID p.val) = f.sid % 2 ^ 32)
          ∧ (a.fld (F.KVT_STAT.STATE p.val) = 2 → f.sid = a.fld (F.KVT_PEER_SID.PEER_SID p.val) → (x.2.syn = false ∨ x.2.type ≠ 1) →
              a.kvtD f - a.dref p.val ≤ ((a.fld (F.KVT_TIME2.MAX_AGE_MS p.val) * 1000 : Nat) : Int) →
              (x.2.type ≠ 15 → f.seq = a.fld (F.KVT_SEQ_E.SEQ p.val) ∧ (a.kv p.val).held = []) → ∃ d,
            Does (exec x.1 s) { s with dev := d } ∧ (d.kv p.val).lastValid = a.now
            ∧ (x.2.type ≠ 15 → d.fld (F.KVT_SEQ_E.SEQ p.val) = (a.fld (F.KVT_SEQ_E.SEQ p.val) + 1) % 2 ^ 32)))))
  ∧ (∀ (d : Dev) (p : Nat) (f : KvtFrame), p < 4 →
    (d.fld (F.KVT_STAT.STATE p) = 0 → d.kvtSession p f = d.inc (F.KVT_ERR2.WRONG_SID p))
    ∧ (d.fld (F.KVT_STAT.STATE p) = 3 → (f.syn = false ∨ f.type ≠ 1 ∨ d.kvtOfLink p f.sid = false) →
        d.kvtSession p f = d.inc (F.KVT_ERR2.WRONG_SID p))
    ∧ (d.fld (F.KVT_STAT.STATE p) = 3 → f.syn = true → f.type = 1 → d.kvtOfLink p f.sid = true → d.kvtSession p f = (d.kvtEnter p).kvtTake p f)
    ∧ (d.fld (F.KVT_STAT.STATE p) = 1 → f.syn = true → f.type = 1 → d.kvtOfLink p f.sid = true → d.kvtSession p f = d.kvtTake p f)
    ∧ (d.fld (F.KVT_STAT.STATE p) = 2 → f.sid ≠ d.fld (F.KVT_PEER_SID.PEER_SID p) → (f.syn = false ∨ f.type ≠ 1 ∨ d.kvtOfLink p f.sid = false) →
        d.kvtSession p f = d.inc (F.KVT_ERR2.WRONG_SID p))
    ∧ (d.fld (F.KVT_STAT.STATE p) = 2 → f.syn = true → f.type = 1 → d.kvtOfLink p f.sid = true →
        (f.sid ≠ d.fld (F.KVT_PEER_SID.PEER_SID p) ∨ namedSid f ≠ d.ownSid p) → d.kvtSession p f = ((d.kvtLose p 3).kvtEnter p).kvtTake p f)
    ∧ (d.fld (F.KVT_STAT.STATE p) = 2 → f.sid = d.fld (F.KVT_PEER_SID.PEER_SID p) → (f.syn = false ∨ f.type ≠ 1) →
      (((d.fld (F.KVT_TIME2.MAX_AGE_MS p) * 1000 : Nat) : Int) < d.kvtD f - d.dref p → ∀ e, d.kvtSession p f = e →
        e.dref p = d.dref p ∧ e.fld (F.KVT_SEQ_E.SEQ p) = d.fld (F.KVT_SEQ_E.SEQ p)
        ∧ e.fld (F.KVT_ERR2.AGED p) = min (d.fld (F.KVT_ERR2.AGED p) + 1) (2 ^ (F.KVT_ERR2.AGED p).w - 1))
      ∧ (d.kvtD f - d.dref p ≤ ((d.fld (F.KVT_TIME2.MAX_AGE_MS p) * 1000 : Nat) : Int) → ∀ r,
        r = min (d.kvtD f) (d.dref p + (d.now.since (d.kv p).drefAt / 5000 : Nat)) → d.kvtSession p f = (d.setDref p r).kvtSequence p f)))
  ∧ (∀ (d : Dev) (p : Nat) (f : KvtFrame) (e : Nat) (v : Dev), p < 4 → d.fld (F.KVT_SEQ_E.SEQ p) = e → f.seq < 2 ^ 32 →
      v = d.modKv p (fun k => { k with lastValid := d.now }) →
    (f.type = 15 → d.kvtSequence p f = v.kvtAcked p f.ack)
    ∧ (f.type ≠ 15 → f.seq = e → d.kvtSequence p f = ((v.kvtDeliver p f).kvtDeliverHeld p 64).kvtAcked p f.ack)
    ∧ (f.type ≠ 15 → (∃ k, 1 ≤ k ∧ k ≤ 63 ∧ f.seq = (e + k) % 2 ^ 32) → ((d.kv p).held.any (fun g => g.seq = f.seq)) = false → ∃ w : Dev,
        w = v.modKv p (fun k => { k with held := k.held ++ [f] }) ∧ d.kvtSequence p f = w.kvtAcked p f.ack)
    ∧ (f.type ≠ 15 → (∃ k, 1 ≤ k ∧ k ≤ 64 ∧ (f.seq + k) % 2 ^ 32 = e) →
        d.kvtSequence p f = ((v.inc (F.KVT_ERR3.DUP_RX p)).kvtAck p true).kvtAcked p f.ack)
    ∧ (f.type ≠ 15 → (∃ k, 65 ≤ k ∧ k ≤ 2 ^ 31 ∧ (f.seq + k) % 2 ^ 32 = e) → d.kvtSequence p f = d.inc (F.KVT_ERR3.STALE p))
    ∧ (f.type ≠ 15 → (∃ k, 64 ≤ k ∧ k < 2 ^ 31 ∧ f.seq = (e + k) % 2 ^ 32) → d.kvtSequence p f = d.inc (F.KVT_ERR2.OUT_OF_WINDOW p)))
  ∧ ∀ (d : Dev) (p : Nat) (f : KvtFrame) (b : Nat → Nat → Nat), p < 4 → b = (fun i n => ofBe ((f.payload.drop i).take n)) →
    (f.type = 1 → d.kvtEffect p f = d)
    ∧ ((f.type = 6 ∨ f.type = 9 ∨ f.type = 11) → d.kvtEffect p f = d.inc (F.KVT_ERR3.UNUSED p))
    ∧ (2 ≤ f.type → f.type ≤ 5 → d.remoteOf p (b 0 1) = [] → d.kvtEffect p f = d.inc (F.KVT_ERR3.UNUSED p))
    ∧ (∀ h, 2 ≤ f.type → f.type ≤ 5 → d.remoteOf p (b 0 1) = [h] → d.kvtEffect p f = d.remoteRecord h (readHead f.type b))
    ∧ ((f.type = 7 ∨ f.type = 10) → d.netRole p ≠ 2 → d.kvtEffect p f = d.inc (F.KVT_ERR3.ROLE_REJ p))
    ∧ (f.type = 7 → d.netRole p = 2 → b 0 1 < 16 →
        d.kvtEffect p f = (d.aspectRequest (b 0 1) (b 1 1) ((b 2 1).testBit 0) true 0xC0 (b 4 4)).1)
    ∧ (f.type = 10 → d.netRole p = 2 → b 0 1 < 64 →
        d.kvtEffect p f = (d.secAuthorise (b 0 1) (b 1 1) 3 (d.on (F.SEC_RESET.AUTH_PERMIT (b 0 1))) 0x83 (b 4 4)).1)
    ∧ (f.type = 8 → b 1 1 < 16 → d.kvtEffect p f = d.fallbackRx p (b 0 1) (b 1 1) (b 2 1 = 1))
    ∧ (∀ r, f.type = 12 → d.boundRing 4 p = some r → d.ringSecure r = true → (d.kvtEffect p f).appq = d.appq ++ [(p, f.payload)] ∧ sameRegsBut [] d (d.kvtEffect p f))
    ∧ (f.type = 12 → (∀ r, d.boundRing 4 p = some r → d.ringSecure r = false) → d.kvtEffect p f = d.inc (F.KVT_ERR3.UNUSED p))

/-- R26, R450, R451, R454 to R460, R469: a port's timers act once their time has come, while F5 does not stop it; one that expires with the very tick of
its command acts when the tick is over, unless a frame of that tick has prevented it: unacknowledged frames are sent again as
first sent, or the session is lost by RETRY; a SYN, a HEARTBEAT or an ACK is sent; TIMEOUT loses the session; a lost session reopens with a new epoch.
At most 64 frames are unacknowledged and 256 messages wait, a further one loses the session by OVERRUN. A loss discards what waits and is recorded and
raised. -/
def Obligations.KvtSessionsAndTimers : Prop :=
  (∀ (s : State) (t : Stamp) (p : Fin 4) (a : Dev), At s t 0 a →
    (a.fld F.FLT_STATE.DEV_STATE = 5 → ∀ i ∈ [Instr.kvtRetransmit t p, .kvtSynResend t p, .kvtHeartbeatSend t p, .kvtAckDelay t p, .kvtTimeout t p,
      .kvtReopen t p], Turns (exec i s) s [] a a)
    ∧ (a.fld F.FLT_STATE.DEV_STATE ≠ 5 → ∀ (k : KvtSt) (rto : Nat), k = a.kv p.val → rto = a.fld (F.KVT_TIME.RTO_MS p.val) * 1000 →
      ((k.unacked = [] ∨ a.kvtOpen p.val = false ∨ (∀ x ∈ k.unacked, a.now.since x.at_ < rto)) → Turns (exec (.kvtRetransmit t p) s) s [] a a)
      ∧ (∀ x l, k.unacked = x :: l → a.kvtOpen p.val = true → a.now.since x.at_ = rto → Turns (exec (.kvtRetransmit t p) s) s
          [(F.KVT_STAT.STATE p.val).place] a (a.modKv p.val (fun y => { y with expires := y.expires ++ [.rto] })))
      ∧ (∀ x l, k.unacked = x :: l → a.kvtOpen p.val = true → rto < a.now.since x.at_ →
        ((∃ y ∈ k.unacked, rto ≤ a.now.since y.at_ ∧ a.fld (F.KVT_TIME.RETRIES p.val) + 1 ≤ y.times) →
          Does (exec (.kvtRetransmit t p) s) { s with dev := a.kvtLose p.val 2 })
        ∧ ((∀ y ∈ k.unacked, rto ≤ a.now.since y.at_ → y.times ≤ a.fld (F.KVT_TIME.RETRIES p.val)) → a.on (F.NET_STAT.LINK_UP p.val) = true → ∃ d,
          Turns (exec (.kvtRetransmit t p) s) s [(F.KVT_STAT.STATE p.val).place] a d
          ∧ tabGet [] d.kvtTx p.val = tabGet [] a.kvtTx p.val ++ k.unacked.map (fun y => y.frame)
          ∧ (d.kv p.val).unacked = k.unacked.map (fun y => { y with at_ := a.now, times := y.times + 1 })
          ∧ (d.kv p.val).retx = k.retx + k.unacked.length))
      ∧ ((a.fld (F.KVT_STAT.STATE p.val) ≠ 1 ∨ a.now.since k.synAt < rto) → Turns (exec (.kvtSynResend t p) s) s [] a a)
      ∧ (a.fld (F.KVT_STAT.STATE p.val) = 1 → rto ≤ a.now.since k.synAt → ∃ d, Does (exec (.kvtSynResend t p) s) { s with dev := d }
        ∧ d = a.kvtSyn p.val ∧ (d.kv p.val).synAt = a.now
        ∧ (a.on (F.NET_STAT.LINK_UP p.val) = true → ∃ f : KvtFrame, tabGet [] d.kvtTx p.val = tabGet [] a.kvtTx p.val ++ [f]
          ∧ f.type = 1 ∧ f.syn = true ∧ f.seq = 0 ∧ f.sid = a.ownSid p.val))
      ∧ ((a.kvtOpen p.val = false ∨ a.now.since k.lastSeq < a.fld (F.KVT_TIME.HB_MS p.val) * 1000) →
        Turns (exec (.kvtHeartbeatSend t p) s) s [] a a)
      ∧ (a.kvtOpen p.val = true → a.fld (F.KVT_TIME.HB_MS p.val) * 1000 ≤ a.now.since k.lastSeq →
        ∃ d, Does (exec (.kvtHeartbeatSend t p) s) { s with dev := d } ∧ d = a.kvtSend p.val 1 (heartbeatPayload a p.val)
        ∧ (k.unacked.length < 64 → k.queue = [] → (d.kv p.val).lastSeq = a.now ∧ (d.kv p.val).unacked.length = k.unacked.length + 1))
      ∧ ((a.kvtOpen p.val = false ∨ ∀ x, k.ackDue = some x → a.now.reached x = false) → Turns (exec (.kvtAckDelay t p) s) s [] a a)
      ∧ (∀ x, a.kvtOpen p.val = true → k.ackDue = some x → a.now.reached x = true →
        ∃ d, Does (exec (.kvtAckDelay t p) s) { s with dev := d } ∧ d = a.kvtAck p.val false ∧ (d.kv p.val).ackDue = none)
      ∧ ((a.kvtOpen p.val = false ∨ a.now.since k.lastValid < a.fld (F.KVT_TIME2.TIMEOUT_MS p.val) * 1000) →
        Turns (exec (.kvtTimeout t p) s) s [] a a)
      ∧ (a.kvtOpen p.val = true → a.now.since k.lastValid = a.fld (F.KVT_TIME2.TIMEOUT_MS p.val) * 1000 → Turns (exec (.kvtTimeout t p) s) s
          [(F.KVT_STAT.STATE p.val).place] a (a.modKv p.val (fun y => { y with expires := y.expires ++ [.timeout] })))
      ∧ (a.kvtOpen p.val = true → a.fld (F.KVT_TIME2.TIMEOUT_MS p.val) * 1000 < a.now.since k.lastValid → ∃ d,
        Does (exec (.kvtTimeout t p) s) { s with dev := d } ∧ d = a.kvtLose p.val 1 ∧ d.fld (F.KVT_STAT.STATE p.val) = 3
        ∧ d.fld (F.KVT_LAST_LOSS.REASON p.val) = 1)
      ∧ ((a.fld (F.KVT_STAT.STATE p.val) ≠ 3 ∨ a.now.since k.lostAt < a.fld (F.KVT_PCFG.REOPEN p.val) * 10000) →
        Turns (exec (.kvtReopen t p) s) s [] a a)
      ∧ (a.fld (F.KVT_STAT.STATE p.val) = 3 → a.fld (F.KVT_PCFG.REOPEN p.val) * 10000 ≤ a.now.since k.lostAt →
        (a.netUp p.val = true → ∃ d, Does (exec (.kvtReopen t p) s) { s with dev := d } ∧ d = (a.kvtEnter p.val).kvtSyn p.val
          ∧ d.fld (F.KVT_STAT.STATE p.val) = 1)
        ∧ (a.netUp p.val = false → ∃ d, Does (exec (.kvtReopen t p) s) { s with dev := d } ∧ d.fld (F.KVT_STAT.STATE p.val) = 0
          ∧ (k.epochSet = true → d.fld (F.KVT_SID.EPOCH p.val) = (a.fld (F.KVT_SID.EPOCH p.val) + 1) % 65536)))))
  ∧ (∀ (d : Dev) (p : Nat), p < 4 → d.kvtOpen p = true → (d.kv p).expires = [.timeout] →
    (d.now.since (d.kv p).lastValid < d.fld (F.KVT_TIME2.TIMEOUT_MS p) * 1000 → d.kvtTickEnd.kvtOpen p = true)
    ∧ (d.fld (F.KVT_TIME2.TIMEOUT_MS p) * 1000 ≤ d.now.since (d.kv p).lastValid → d.kvtTickEnd.fld (F.KVT_STAT.STATE p) = 3))
  ∧ ∀ (d : Dev) (p : Nat), p < 4 →
    ((d.kvtEnter p).fld (F.KVT_STAT.STATE p) = 1 ∧ (d.kvtEnter p).fld (F.KVT_PEER_SID.PEER_SID p) = 0
      ∧ ((d.kv p).epochSet = true → (d.kvtEnter p).fld (F.KVT_SID.EPOCH p) = (d.fld (F.KVT_SID.EPOCH p) + 1) % 65536)
      ∧ ((d.kvtEnter p).kv p).key = (d.kv p).committed)
    ∧ (∀ type payload, (d.kvtOpen p = false ∨ d.fld F.FLT_STATE.DEV_STATE = 5) → d.kvtSend p type payload = d)
    ∧ (∀ type payload, d.kvtOpen p = true → d.fld F.FLT_STATE.DEV_STATE ≠ 5 →
      ((d.kv p).unacked.length < 64 → (d.kv p).queue = [] → ∀ (e : Dev) (f : KvtFrame), d.kvtSend p type payload = e →
          f = { type := type, sid := d.ownSid p, seq := d.fld (F.KVT_SEQ_TX.SEQ p), ack := d.kvtAckSeq p, stamp := d.now.toNat, payload := payload } →
        (e.kv p).unacked = (d.kv p).unacked ++ [⟨f, d.now, 1⟩] ∧ e.fld (F.KVT_SEQ_TX.SEQ p) = (d.fld (F.KVT_SEQ_TX.SEQ p) + 1) % 2 ^ 32
        ∧ (d.on (F.NET_STAT.LINK_UP p) = true → tabGet [] e.kvtTx p = tabGet [] d.kvtTx p ++ [f]) ∧ (e.kv p).ackDue = none)
      ∧ ((64 ≤ (d.kv p).unacked.length ∨ (d.kv p).queue ≠ []) → (d.kv p).queue.length < 256 →
        ((d.kvtSend p type payload).kv p).queue = (d.kv p).queue ++ [⟨type, payload⟩])
      ∧ (256 ≤ (d.kv p).queue.length → d.kvtSend p type payload = d.kvtLose p 5))
    ∧ (∀ reason e, reason < 8 → d.kvtLose p reason = e → e.fld (F.KVT_STAT.STATE p) = 3 ∧ e.fld (F.KVT_LAST_LOSS.REASON p) = reason
        ∧ (e.kv p).unacked = [] ∧ (e.kv p).queue = [] ∧ (e.kv p).held = [] ∧ (e.kv p).ackDue = none ∧ p ∈ e.kvtLost
        ∧ ∃ r ∈ e.evq, r.ev = .kvtSessionLost ∧ r.src = .kvt p ∧ r.stamp = d.now)
    ∧ (∀ dup, (d.kv p).ackSub < 65535 → ∀ (e : Dev) (f : KvtFrame), d.kvtAck p dup = e → ∀ last : Nat, last = (d.fld (F.KVT_SEQ_TX.SEQ p) + (2 ^ 32 - 1)) % 2 ^ 32 →
      f = { type := 15, dup := dup, sid := d.ownSid p, seq := last, ack := d.kvtAckSeq p, stamp := d.now.toNat, sub := (d.kv p).ackSub + 1, payload := [] } →
      (d.on (F.NET_STAT.LINK_UP p) = true → d.fld F.FLT_STATE.DEV_STATE ≠ 5 → tabGet [] e.kvtTx p = tabGet [] d.kvtTx p ++ [f])
      ∧ (e.kv p).ackDue = none ∧ (e.kv p).ackSub = (d.kv p).ackSub + 1)

/-! ### Twin operation -/

/-- R476 to R482, R495 to R498, R502: codewords, time marks, and the loss of the partner. A codeword that decodes with the marker and the next counter
is good: four in a row lock the lane, three bad ones unlock it. A lost one is counted and no record is judged up to the next multiple of 1,000. A mark
is sent at each multiple of 10 and has 64 bytes; a received one is shown, judged by Table TWN-7, and steers a Mirror. A partner that is lost leaves a
Lead with its reaction; a Mirror watches its loops and then promotes or isolates itself; a twin that is not PAIRED waits again. -/
def Obligations.TwinLaneAndMarks : Prop :=
  (∀ (s : State) (t : Stamp) (a : Dev), At s t 0 a →
    (∀ (decodes corrected : Bool) (marker : BitVec 4) (ctr : BitVec 16),
      (a.twinPort = none → Turns (exec (.codewordReceived t decodes corrected marker ctr) s) s [] a a)
      ∧ (∀ n, a.twinPort = some n → decodes = true → corrected = false → marker = 10 →
          (∀ c, a.twin.ctr = some c → ctr.toNat = (c + 1) % 65536) → ∀ (b e : Dev) (run : Nat), run = min 4 (a.twin.goodRun + 1) →
          b = (a.incPair F.TWN_CW_LO.V F.TWN_CW_HI.V).modTwin (fun w => { w with ctr := some ctr.toNat, goodRun := run, badRun := 0, lastCw := a.now }) →
          (4 ≤ run → a.laneLock = none → e = { b with laneLock := some a.now }) → ((run < 4 ∨ a.laneLock ≠ none) → e = b) →
          (e.twinOn = false ∨ e.twinLossCase = 0) →
        Turns (exec (.codewordReceived t decodes corrected marker ctr) s) s [F.TWN_CW_LO.V.place, F.TWN_CW_HI.V.place] a e)
      ∧ (∀ n, a.twinPort = some n → decodes = false → a.laneLock = none → ∀ b e : Dev,
          b = ((a.incPair F.TWN_CW_LO.V F.TWN_CW_HI.V).inc F.TWN_CNT_LINK.UNCORRECTABLE).inc (F.NET_FEC_UNCORR.UNCORRECTABLE n) →
          e = b.modTwin (fun w => { w with ctr := w.ctr.map (fun c => (c + 1) % 65536), goodRun := 0, badRun := min 3 (w.badRun + 1) }) →
          (e.twinOn = false ∨ e.twinLossCase = 0) →
        Turns (exec (.codewordReceived t decodes corrected marker ctr) s) s
          [F.TWN_CW_LO.V.place, F.TWN_CW_HI.V.place, F.TWN_CNT_LINK.UNCORRECTABLE.place, (F.NET_FEC_UNCORR.UNCORRECTABLE n).place] a e))
    ∧ (∀ (cyc : BitVec 64) (ofs : BitVec 32),
      ((a.twinOn = false ∨ a.now.toNat % 10 ≠ 0 ∨ a.fld F.FLT_STATE.DEV_STATE = 5) → Turns (exec (.timeMarkSend t cyc ofs) s) s [] a a)
      ∧ (a.twinOn = true → a.now.toNat % 10 = 0 → a.fld F.FLT_STATE.DEV_STATE ≠ 5 → ∃ d, Turns (exec (.timeMarkSend t cyc ofs) s) s [] a d
        ∧ d.out.blocks = a.out.blocks ++ [a.markBlock (a.genCycles cyc.toNat) ofs.toNat]
        ∧ (a.markBlock (a.genCycles cyc.toNat) ofs.toNat).length = 64))
    ∧ (∀ (k : Mark) (ps : BitVec 32) (cyc : BitVec 64),
      ((a.twinOn = false ∨ a.laneLock = none ∨ a.netUp (a.fld F.TWN_CFG.PORT) = false ∨ a.fld F.FLT_STATE.DEV_STATE = 5) → Turns (exec (.timeMarkRx t k ps cyc) s) s [] a a)
      ∧ (∀ (m : Int) (b : Dev), a.twinOn = true → a.laneLock ≠ none → a.netUp (a.fld F.TWN_CFG.PORT) = true → a.fld F.FLT_STATE.DEV_STATE ≠ 5 →
          m = sgn 48 ((a.now.toNat + 2 ^ 48 - k.stamp.toNat) % 2 ^ 48) * 1000000 + ps.toNat - k.txOfs.toNat →
          b = ((a.modTwin (fun w => { w with mark := some k, m := some m })).setFld F.TWN_PARTNER_SEAL.SEAL k.sealCode.toNat).setFld F.TWN_PARTNER_STAT.MARK
            (k.state.toNat + k.devState.toNat * 256 + k.vsens.toNat * 65536) →
        ((a.twinState = 0 ∨ 5 ≤ a.twinState ∨ (a.twinState = 4 ∧ a.twinRunning = false) ∨ (a.twinState = 3 ∧ a.twin.watch ≠ none)) →
          Turns (exec (.timeMarkRx t k ps cyc) s) s [F.TWN_PARTNER_SEAL.SEAL.place, F.TWN_PARTNER_STAT.MARK.place] a b)
        ∧ ((a.twinState = 1 ∨ a.twinState = 2 ∨ (a.twinState = 4 ∧ a.twinRunning = true)) → b.pairRefusal k ≠ 0 →
          Does (exec (.timeMarkRx t k ps cyc) s) { s with dev := b.pairRefuse (b.pairRefusal k) })
        ∧ (a.twinState = 4 → a.twinRunning = true → b.pairRefusal k = 0 → a.twin.held = false → ∀ e : Dev,
            e = (b.setFld F.TWN_STAT.ROLE 0).setBit F.TWN_STAT.LOCKED (k.state.getLsbD 4) →
          Does (exec (.timeMarkRx t k ps cyc) s) { s with dev := if k.state.getLsbD 5 && k.state.getLsbD 4 then e.twinPair else e })
        ∧ (a.twinState = 3 → a.twin.watch = none → a.isMirror = true → ∀ (e : Dev) (th : Int), e = b.genAlign cyc.toNat k.gen.toNat →
            e.theta k = some th → Does (exec (.timeMarkRx t k ps cyc) s) { s with dev := e.thetaApply th })
        ∧ (a.twinState = 3 → a.twin.watch = none → a.isMirror = true → ∀ th : Int, (b.genAlign cyc.toNat k.gen.toNat).theta k = some th →
            (a.twinLocked = false ∨ th.natAbs ≤ 50000) → ∃ d, Does (exec (.timeMarkRx t k ps cyc) s) { s with dev := d }
            ∧ d.twin.mark = some k ∧ d.twin.m = some m ∧ d.twinState = 3 ∧ d.isMirror = true ∧ d.twin.slips = 0
            ∧ d.twin.locks = (if th.natAbs ≤ 25000 then min 100 (a.twin.locks + 1) else 0)
            ∧ d.twin.trims = (if 0 ≤ th then ((min 8 ((th.natAbs + 2500) / 12500) : Nat) : Int) else -((min 8 ((th.natAbs + 2500) / 12500) : Nat) : Int)))
        ∧ (a.twinState = 3 → a.twin.watch = none → a.isMirror = false → (k.stamp.later a.twin.heldAt = false ∨
            (k.state.getLsbD 4 = true ∧ k.state.toNat % 8 = 3)) →
          Turns (exec (.timeMarkRx t k ps cyc) s) s [F.TWN_PARTNER_SEAL.SEAL.place, F.TWN_PARTNER_STAT.MARK.place] a b)
        ∧ (a.twinState = 3 → a.twin.watch = none → a.isMirror = false → k.stamp.later a.twin.heldAt = true →
            (k.state.getLsbD 4 = false ∨ k.state.toNat % 8 ≠ 3) → Does (exec (.timeMarkRx t k ps cyc) s) { s with dev := b.twinLose 3 }
            ∧ ((∀ p, a.twin.plan = some p → p.acked = false ∨ a.now.reached p.b = false) →
              (b.twinLose 3).twinState = 4 ∧ (b.twinLose 3).isMirror = false ∧ (b.twinLose 3).twinLocked = false))))
    ∧ ((a.fld F.FLT_STATE.DEV_STATE = 5 ∨ a.twinLossCase = 0 ∨ a.twinOn = false ∨ a.twinState = 0 ∨ 5 ≤ a.twinState ∨
        (a.twinState = 3 ∧ a.twin.watch ≠ none ∧ a.twinLocked = false)) → Turns (exec (.twinPartnerLoss t) s) s [] a a)
    ∧ (a.fld F.FLT_STATE.DEV_STATE ≠ 5 → a.twinLossCase ≠ 0 → a.twinOn = true →
      (a.twinState = 4 → Turns (exec (.twinPartnerLoss t) s) s [F.TWN_STAT.STATE.place] a (a.setFld F.TWN_STAT.LOCKED 0))
      ∧ (a.twin.held = true → (a.twinState = 1 ∨ a.twinState = 2) → Turns (exec (.twinPartnerLoss t) s) s [F.TWN_STAT.STATE.place] a
          (((a.setFld F.TWN_STAT.STATE 1).setFld F.TWN_STAT.LOCKED 0).modTwin
            (fun w => { w with startAt := none, locks := 0, slips := 0, trims := 0 }))))
    ∧ (∀ why b, a.fld F.FLT_STATE.DEV_STATE ≠ 5 → a.twinLossCase = why → why ≠ 0 → a.twinOn = true → a.twinState = 3 → a.twin.watch = none →
        (∀ p, a.twin.plan = some p → p.acked = false ∨ a.now.reached p.b = false) →
        b = (a.castleAbort.setFld F.TWN_STAT.LOCKED 0).modTwin (fun w => { w with locks := 0, slips := 0, trims := 0, mine := [], theirs := [] }) →
      (a.isMirror = false → Does (exec (.twinPartnerLoss t) s) { s with dev := b.twinLostReact why }
        ∧ (b.twinLostReact why).twinState = 4 ∧ (b.twinLostReact why).on F.TWN_FLAG.LOST = true ∧ (b.twinLostReact why).isMirror = false
        ∧ (b.twinLostReact why).twinLocked = false ∧ (b.twinLostReact why).twin.plan = none)
      ∧ (a.isMirror = true → Does (exec (.twinPartnerLoss t) s) { s with dev := b.modTwin (fun w => { w with watch := some a.now, lostWhy := why }) }))
    ∧ ((a.fld F.FLT_STATE.DEV_STATE = 5 ∨ ∀ x, a.twin.watch = some x → a.now.since x < a.fld F.TWN_TIME.PROMOTE_US) →
        Turns (exec (.promoteJudge t) s) s [] a a)
    ∧ (∀ x b, a.fld F.FLT_STATE.DEV_STATE ≠ 5 → a.twin.watch = some x → a.fld F.TWN_TIME.PROMOTE_US ≤ a.now.since x →
        b = a.modTwin (fun w => { w with watch := none }) →
      (b.loopsQuiet x = true → Does (exec (.promoteJudge t) s) { s with dev := b.twinPromote a.twin.lostWhy }
        ∧ (b.twinPromote a.twin.lostWhy).twinState = 4 ∧ (b.twinPromote a.twin.lostWhy).isMirror = false
        ∧ (b.twinPromote a.twin.lostWhy).twin.watch = none ∧ (b.twinPromote a.twin.lostWhy).twin.trims = 0)
      ∧ (b.loopsQuiet x = false → Does (exec (.promoteJudge t) s) { s with dev := b.twinIsolate }
        ∧ b.twinIsolate.twinState = 5 ∧ b.twinIsolate.isMirror = a.isMirror ∧ b.twinIsolate.twin.watch = none)))
  ∧ ∀ d : Dev,
    (∀ n e, d.lostCodewords n = e → e.twin.noJudge = some (ceilStamp 1000 (d.now + 1))
      ∧ e.fld F.TWN_CNT_LINK.LOST_CW = min (d.fld F.TWN_CNT_LINK.LOST_CW + n) (2 ^ F.TWN_CNT_LINK.LOST_CW.w - 1))
    ∧ (∀ (th : Int) (e : Dev), d.thetaApply th = e → (d.twinLocked = false ∨ th.natAbs ≤ 50000) →
      e.twin.trims.natAbs ≤ 8 ∧ e.twin.slips = 0 ∧ (25000 < th.natAbs → e.twin.locks = 0)
      ∧ (th.natAbs ≤ 25000 → 99 ≤ d.twin.locks → e.twinLocked = true))
    ∧ (∀ (cyc lead : Nat) (e : Dev), d.genAlign cyc lead = e →
      (d.twin.held = true → e.genCycles cyc = lead)
      ∧ (d.twin.held = false → d.twinLocked = false → e = d)
      ∧ (d.twin.held = false → d.twinLocked = true → 0 ≤ (cyc : Int) + d.twin.genAdj →
          (lead < d.genCycles cyc → e.genCycles cyc + 1 = d.genCycles cyc) ∧ (d.genCycles cyc < lead → e.genCycles cyc = d.genCycles cyc + 1)
          ∧ (d.genCycles cyc = lead → e = d)))
    ∧ (∀ k : Mark, (d.fld F.TWN_PAIR_ID.PAIR_ID ≠ k.pairId.toNat → d.pairRefusal k = 1)
      ∧ (d.pairRefusal k = 0 → d.fld F.TWN_PAIR_ID.PAIR_ID = k.pairId.toNat ∧ d.parallel = k.state.getLsbD 6
        ∧ (d.twinRunning = false ∨ k.state.getLsbD 5 = false)))
    ∧ (∀ why, (d.twinPromote why).twinState = 4 ∧ (d.twinPromote why).isMirror = false ∧ (d.twinPromote why).on F.TWN_FLAG.PROMOTED = true)
    ∧ (d.twinIsolate.twinState = 5 ∧ d.twinIsolate.isMirror = d.isMirror ∧ d.twinIsolate.has .twinIsolated .twn = true)

/-- R26, R483 to R485, R489, R490: castling and comparison. A Mirror answers a PLAN with an ACK, or with an ABORT when it comes too late or its supply
is missing; a Lead takes the ACK, or aborts at B - 100 µs; at B an acknowledged plan exchanges the roles. Digests, decisions and section hashes are
compared while the twin is PAIRED and LOCKED, and never otherwise; three unequal hashes in a row raise TWIN_DISAGREE, an equal one ends it. -/
def Obligations.TwinCastlingAndComparison : Prop :=
  (∀ (s : State) (t : Stamp) (a : Dev), At s t 0 a →
    ((a.fld F.FLT_STATE.DEV_STATE = 5 ∨ a.compares = false) → ∀ (st b : Stamp) (reason : Fin 3) (r : Decision) (part : Fin 5) (ws : List Word) (h mask : BitVec 64),
      ∀ i ∈ [Instr.castlePlanRx t b reason, .castleSwitch t, .decisionRx t r, .digestRx t st part ws, .hashRx t st h mask],
      Turns (exec i s) s [] a a)
    ∧ ((a.fld F.FLT_STATE.DEV_STATE = 5 ∨ (a.compares = false ∧ a.headsWait = [])) → Turns (exec (.hashSend t) s) s [] a a)
    ∧ ((a.fld F.FLT_STATE.DEV_STATE = 5 ∨ a.twin.plan = none) → ∀ b : Stamp, ∀ i ∈ [Instr.castleAckRx t b, .castleAbortRx t b, .castleAckDeadline t,
        .castleSwitch t], Turns (exec i s) s [] a a)
    ∧ (a.fld F.FLT_STATE.DEV_STATE ≠ 5 →
      (a.compares = true → ∀ (b : Stamp) (reason : Fin 3), (a.isMirror = false → Turns (exec (.castlePlanRx t b reason) s) s [] a a)
        ∧ (a.isMirror = true →
          (b.later a.now = true → 200 ≤ b.since a.now → (∀ c ∈ a.sharedChans, a.bitOf F.PWR_RAIL_STAT.VSENS_OK (c / 8) = true) → ∃ d,
            Turns (exec (.castlePlanRx t b reason) s) s [F.TWN_CASTLE_B_LO.V.place, F.TWN_CASTLE_B_HI.V.place, F.TWN_STAT.CASTLING.place] a d
            ∧ d.on F.TWN_STAT.CASTLING = true ∧ d.twin.plan = some ⟨b, reason.val, true⟩
            ∧ d.out.blocks = a.out.blocks ++ [aqBlock 2 2 a.now (beBytes 6 b.toNat ++ leBytes 1 reason.val)])
          ∧ ((b.later a.now = false ∨ b.since a.now < 200 ∨ ∃ c ∈ a.sharedChans, a.bitOf F.PWR_RAIL_STAT.VSENS_OK (c / 8) = false) → ∃ d,
            Turns (exec (.castlePlanRx t b reason) s) s ([F.TWN_CASTLE_B_LO.V.place, F.TWN_CASTLE_B_HI.V.place, F.TWN_STAT.CASTLING.place,
              F.TWN_FLAG.CASTLE_ABORTED.place] ++ eventRegs 0) a d
            ∧ d.on F.TWN_STAT.CASTLING = false ∧ d.twin.plan = none ∧ d.isMirror = true
            ∧ d.out.blocks = a.out.blocks ++ [aqBlock 2 3 a.now (beBytes 6 b.toNat ++ leBytes 1 reason.val)])))
      ∧ (∀ p : CastlePlan, a.twin.plan = some p →
        (∀ b : Stamp, ((p.b ≠ b ∨ a.isMirror = true) → Turns (exec (.castleAckRx t b) s) s [] a a)
          ∧ (p.b = b → a.isMirror = false →
            Turns (exec (.castleAckRx t b) s) s [] a (a.modTwin (fun w => { w with plan := some { p with acked := true } })))
          ∧ (p.b ≠ b → Turns (exec (.castleAbortRx t b) s) s [] a a)
          ∧ (p.b = b → Turns (exec (.castleAbortRx t b) s) s ([F.TWN_STAT.CASTLING.place, F.TWN_FLAG.CASTLE_ABORTED.place] ++ eventRegs 0) a a.castleAbort))
        ∧ ((p.acked = true ∨ a.isMirror = true ∨ a.now.reached (p.b - 100) = false) → Turns (exec (.castleAckDeadline t) s) s [] a a)
        ∧ (p.acked = false → a.isMirror = false → a.now.reached (p.b - 100) = true → a.twinOn = true → ∃ d,
          Turns (exec (.castleAckDeadline t) s) s ([F.TWN_STAT.CASTLING.place, F.TWN_FLAG.CASTLE_ABORTED.place] ++ eventRegs 0) a d
          ∧ d.twin.plan = none ∧ d.isMirror = false ∧ d.on F.TWN_STAT.CASTLING = false
          ∧ d.out.blocks = a.out.blocks ++ [aqBlock 2 3 a.now (beBytes 6 p.b.toNat ++ leBytes 1 p.reason)])
        ∧ ((p.acked = false ∨ a.now.reached p.b = false) → Turns (exec (.castleSwitch t) s) s [] a a)
        ∧ (p.acked = true → a.now.reached p.b = true → a.compares = true → ∃ d, Does (exec (.castleSwitch t) s) { s with dev := d }
          ∧ d.isMirror = (!a.isMirror) ∧ d.twin.plan = none ∧ d.on F.TWN_STAT.CASTLING = false ∧ d.on F.TWN_FLAG.CASTLED = true
          ∧ ∃ e ∈ d.evq, e.ev = .twinCastled ∧ e.stamp = a.now))
      ∧ (a.compares = true →
        (∀ r : Decision, (matchedKind r = false → Turns (exec (.decisionRx t r) s) s [] a a)
          ∧ (matchedKind r = true → Turns (exec (.decisionRx t r) s) s [] a
              (a.modTwin (fun w => { w with theirs := w.theirs ++ [⟨r, a.ownServes r && a.partnerServes r, false⟩] }))))
        ∧ (∀ (st : Stamp) (part : Fin 5) (ws : List Word),
          (∀ own, a.twin.own.find? (fun e => e.1 = st) = some own →
            Does (exec (.digestRx t st part ws) s) { s with dev := a.compareDigest part.val ws own.2 }
            ∧ ((∀ i < 14, ∀ e ∈ own.2, e.1 = 14 * part.val + i → ws.getD i 0 = e.2) → ∃ d, Turns (exec (.digestRx t st part ws) s) s [] a d
              ∧ d.evq = a.evq ∧ ∀ h c, a.has .twinSampleMismatch (.head h) c = false → d.has .twinSampleMismatch (.head h) c = false))
          ∧ (a.twin.own.find? (fun e => e.1 = st) = none → a.twin.digests.length < 32 → Turns (exec (.digestRx t st part ws) s) s [] a
              (a.modTwin (fun w => { w with digests := a.twin.digests ++ [(st, part.val, ws)] }))))
        ∧ (∀ p, a.twin.plan = some p → p.acked = true → a.now.reached p.b = true → ∀ (st : Stamp) (h mask : BitVec 64),
          (∃ d, Does (exec (.hashRx t st h mask) s) { s with dev := d } ∧ d.isMirror = (!a.isMirror) ∧ d.twin.plan = none ∧ d.on F.TWN_FLAG.CASTLED = true)
          ∧ (a.headsWait = [] → ∃ d, Does (exec (.hashSend t) s) { s with dev := d } ∧ d.isMirror = (!a.isMirror) ∧ d.twin.plan = none
            ∧ d.on F.TWN_FLAG.CASTLED = true))
        ∧ ((∀ p, a.twin.plan = some p → p.acked = false ∨ a.now.reached p.b = false) →
        (a.headsWait = [] → a.now.toNat % 1000 ≠ 0 → Turns (exec (.hashSend t) s) s [] a a)
        ∧ (a.headsWait = [] → a.now.toNat % 1000 = 0 → a.twin.hash = none → ∀ own b, own = a.secHash 0 →
            b = a.aqSend (aqBlock 5 0 a.now (beBytes 8 own ++ beBytes 8 a.hashMask)) →
          Turns (exec (.hashSend t) s) s [] a (b.modTwin (fun w => { w with mine64 := some (a.now, own) })))
        ∧ (∀ h m own b, a.headsWait = [] → a.now.toNat % 1000 = 0 → a.twin.hash = some (a.now, h, m) → own = a.secHash (a.hashMask &&& a.twin.mask) →
            b = (a.aqSend (aqBlock 5 0 a.now (beBytes 8 own ++ beBytes 8 a.hashMask))).modTwin (fun w => { w with mine64 := some (a.now, own) }) →
          Does (exec (.hashSend t) s) { s with dev := b.hashJudge own h }
          ∧ (own = h → (b.hashJudge own h).fld F.TWN_STAT.HASH_UNEQUAL = 0 ∧ (b.hashJudge own h).has .twinDisagree .twn = false)
          ∧ (own ≠ h → a.fld F.TWN_STAT.HASH_UNEQUAL < 2 → (b.hashJudge own h).fld F.TWN_STAT.HASH_UNEQUAL = a.fld F.TWN_STAT.HASH_UNEQUAL + 1))
        ∧ (∀ (st : Stamp) (h mask : BitVec 64) (b : Dev),
            b = a.modTwin (fun w => { w with hash := some (st, h.toNat, mask.toNat), mask := match a.twin.hash with | some x => x.2.2 | none => 0 }) →
          ((∀ own, a.twin.mine64 ≠ some (st, own)) → Turns (exec (.hashRx t st h mask) s) s [] a b)
          ∧ (∀ own, a.twin.mine64 = some (st, own) → Does (exec (.hashRx t st h mask) s) { s with dev := b.hashJudge own h.toNat }
            ∧ (own = h.toNat → (b.hashJudge own h.toNat).fld F.TWN_STAT.HASH_UNEQUAL = 0)
            ∧ (own ≠ h.toNat → a.fld F.TWN_STAT.HASH_UNEQUAL < 2 →
              (b.hashJudge own h.toNat).fld F.TWN_STAT.HASH_UNEQUAL = a.fld F.TWN_STAT.HASH_UNEQUAL + 1)))))
      ∧ (a.twin.mine = [] → a.twin.theirs = [] → Turns (exec (.decisionJudge t) s) s [] a a)
      ∧ (∀ x : TwinRec, a.twin.mine = [x] → a.twin.theirs = [] → a.now.reached (x.what.stamp.plus (a.fld F.TWN_CMP.SLACK_US + 10)) = false →
          a.now.since x.what.stamp ≤ 1000 → Turns (exec (.decisionJudge t) s) s [] a a)
      ∧ (∀ x y : TwinRec, a.twin.mine = [x] → a.twin.theirs = [y] → sameKind x.what y.what = true →
          min (x.what.stamp.since y.what.stamp) (y.what.stamp.since x.what.stamp) ≤ a.fld F.TWN_CMP.SLACK_US →
          a.now.reached (x.what.stamp.plus (a.fld F.TWN_CMP.SLACK_US + 10)) = true → a.now.reached (y.what.stamp.plus (a.fld F.TWN_CMP.SLACK_US + 10)) = true →
          a.now.since x.what.stamp ≤ 1000 → a.now.since y.what.stamp ≤ 1000 →
        Turns (exec (.decisionJudge t) s) s [] a (a.modTwin (fun w => { w with mine := [{ x with judged := true }], theirs := [{ y with judged := true }] })))
      ∧ (∀ x : TwinRec, a.twin.mine = [x] → a.twin.theirs = [] → x.judged = false → x.what.src.code = 8 → a.compares = true →
          a.now.reached (x.what.stamp.plus (a.fld F.TWN_CMP.SLACK_US + 10)) = true → a.now.reached x.what.stamp = true → a.twin.noJudge = none → a.ownServes x.what = true →
          a.partnerServes x.what = true → ∀ b : Dev, b = a.decisionMismatch x.what →
          b.twin.mine = a.twin.mine → b.twin.theirs = a.twin.theirs →
        Does (exec (.decisionJudge t) s) { s with dev := b.modTwin (fun w => { w with
          mine := if 1000 < a.now.since x.what.stamp then [] else [{ x with judged := true }] }) })))
  ∧ ∀ d : Dev,
    (∀ p, d.twin.plan = some p → d.castleAbort.twin.plan = none ∧ d.castleAbort.isMirror = d.isMirror ∧ d.castleAbort.on F.TWN_STAT.CASTLING = false
      ∧ d.castleAbort.on F.TWN_FLAG.CASTLE_ABORTED = true)
    ∧ (∀ a b : Nat, a ≠ b → d.fld F.TWN_STAT.HASH_UNEQUAL < 2 → d.hashJudge a b = (d.inc F.TWN_STAT.HASH_UNEQUAL).inc F.TWN_CNT_HASH.UNEQUAL)
    ∧ (∀ a b : Nat, a ≠ b → d.fld F.TWN_STAT.HASH_UNEQUAL = 2 → (d.hashJudge a b).has .twinDisagree .twn = true ∧ (d.hashJudge a b).on F.TWN_FLAG.DISAGREE = true)
    ∧ (∀ a : Nat, (d.hashJudge a a).has .twinDisagree .twn = false ∧ (d.hashJudge a a).fld F.TWN_STAT.HASH_UNEQUAL = 0)
    ∧ (∀ (c : Nat) (x y : Word), x.getLsbD 16 = false → x.getLsbD 17 = false → x.getLsbD 18 = false → y.getLsbD 16 = false → y.getLsbD 17 = false →
        y.getLsbD 18 = false → y.toNat / 2 ^ 20 % 4 ≠ 0 → ∀ e, d.compareChan c x y = e →
      ((sgn 16 x.toNat - sgn 16 y.toNat).natAbs ≤ d.fld F.TWN_CMP.TOL → tabGet 0 e.twin.agr c = min 100 (tabGet 0 d.twin.agr c + 1)
        ∧ tabGet 0 e.twin.dis c = 0)
      ∧ (d.fld F.TWN_CMP.TOL < (sgn 16 x.toNat - sgn 16 y.toNat).natAbs → tabGet 0 d.twin.dis c + 1 < min 16 (d.fld F.TWN_CMP.DIGEST_CONFIRM) →
        tabGet 0 e.twin.dis c = tabGet 0 d.twin.dis c + 1 ∧ tabGet 0 e.twin.agr c = 0 ∧ (e.has .twinSampleMismatch) = d.has .twinSampleMismatch))

/-! ### Faults and records -/

/-- R22, R25, R32, R34, R38, R509, R510, Table FLT-1: a fault whose cause is present is not raised again; else its cause is kept and one record of its
class is raised. F3 puts groups under it; F4 and F5 move the device state and record the first cause. An F2 cause takes the lowest free slot and
starts an Endgame when it is enabled and not locked; else it takes the class of its expiry, and the refusal names its reason. -/
def Obligations.FaultReactions : Prop :=
  (∀ (d e : Dev) (ev : Ev) (src : Src) (sub related : Nat) (detail : List Byte) (cls : Nat), evClass ev = cls → d.fault ev src sub related detail = e →
    (d.has ev src sub = true → e = d)
    ∧ (d.has ev src sub = false → e.has ev src sub = true
      ∧ (∃ r : EvRec, e.evq = d.evq ++ [r] ∧ r.ev = ev ∧ r.src = src ∧ r.stamp = d.now ∧ r.pay.length = 20 ∧ r.pay.headD 0 = BitVec.ofNat 8 cls)
      ∧ (cls = 3 → groupsFor d src < 256 → e.fld F.FLT_STATE.F3_GROUPS = d.fld F.FLT_STATE.F3_GROUPS ||| groupsFor d src)
      ∧ (cls ≤ 3 → e.fld F.FLT_STATE.DEV_STATE = d.fld F.FLT_STATE.DEV_STATE ∧ e.fld F.FLT_FIRST_CAUSE.CODE = d.fld F.FLT_FIRST_CAUSE.CODE)
      ∧ (4 ≤ cls → d.fld F.FLT_STATE.DEV_STATE ≠ 0 → e.fld F.FLT_STATE.DEV_STATE = max (d.fld F.FLT_STATE.DEV_STATE) cls ∧ e.safeLine = true)
      ∧ (4 ≤ cls → d.fld F.FLT_STATE.DEV_STATE = 0 → e.fld F.FLT_STATE.DEV_STATE = 0)
      ∧ (4 ≤ cls → d.fld F.FLT_FIRST_CAUSE.CODE = 0 → e.fld F.FLT_FIRST_CAUSE.CODE = evCode ev
        ∧ e.fld F.FLT_FIRST_TIME_LO.TIME_LO + 2 ^ 32 * e.fld F.FLT_FIRST_TIME_HI.TIME_HI = d.now.toNat)
      ∧ (4 ≤ cls → d.fld F.FLT_FIRST_CAUSE.CODE ≠ 0 → e.fld F.FLT_FIRST_CAUSE.CODE = d.fld F.FLT_FIRST_CAUSE.CODE)
      ∧ e.fld (F.FLT_CLASS_CNT.COUNT cls) = min (d.fld (F.FLT_CLASS_CNT.COUNT cls) + 1) (2 ^ (F.FLT_CLASS_CNT.COUNT cls).w - 1)))
  ∧ (∀ (d e : Dev) (ev : Ev) (cause obj sys related : Nat) (detail : List Byte) (src : Src), egCauseOf ev = cause → 1 ≤ cause → cause ≤ 3 →
      (cause = 1 → obj < 32) → (cause = 2 → obj < 48) → (cause = 3 → obj = 0) → sys < 2 → egObject cause obj = src → d.has ev src 0 = false →
      d.egFind cause obj = none → d.fault2 ev obj 0 sys related detail = e →
    (∀ k, d.egRefusal cause obj = 0 → d.egFree = some k →
      e.fld (F.FLT_EG_SLOT_A.CAUSE k) = cause ∧ e.fld (F.FLT_EG_SLOT_A.OBJECT k) = obj ∧ e.fld (F.FLT_EG_SLOT_A.AXLES_USED k) = 0
      ∧ e.egFind cause obj = some k ∧ (∀ j < k, d.fld (F.FLT_EG_SLOT_A.CAUSE j) ≠ 0)
      ∧ (k, d.now.plus (d.fld (F.FLT_EG_TIME.LIMIT_S (cause - 1)) * 1000000)) ∈ e.egExpiry ∧ e.has ev src 0 = true
      ∧ ∃ r ∈ e.evq, r.ev = .endgameEnter ∧ r.src = .slot k ∧ r.stamp = d.now)
    ∧ (∀ x, d.egRefusal cause obj = x → x ≠ 0 → e.egFind cause obj = none ∧ e.egExpiry = d.egExpiry ∧ e.has ev src 0 = true
      ∧ (cause = 3 → e.fld F.FLT_STATE.F3_GROUPS = 255)
      ∧ (∃ r ∈ e.evq, r.ev = ev ∧ r.src = src ∧ r.pay.headD 0 = (if cause = 3 then 3#8 else 1#8))
      ∧ ∃ r ∈ e.evq, r.ev = .endgameRefused ∧ r.stamp = d.now))
  ∧ (∀ (d : Dev) (obj : Nat), obj < 32 →
    (d.on F.FLT_EG_ENABLE.HEAD_SINGLE = false → d.egRefusal 1 obj = 1)
    ∧ (d.on F.FLT_EG_ENABLE.HEAD_SINGLE = true → d.egLocked 1 obj = true → d.egRefusal 1 obj = 2)
    ∧ (d.on F.FLT_EG_ENABLE.HEAD_SINGLE = true → d.egLocked 1 obj = false → d.egFree = none → d.egRefusal 1 obj = 3)
    ∧ (d.on F.FLT_EG_ENABLE.HEAD_SINGLE = true → d.egLocked 1 obj = false → d.egFree ≠ none → d.egRefusal 1 obj = 0))
  ∧ ∀ (d : Dev) (k : Nat), d.safeLine = true → (∀ o, d.soCmd o = false)
    ∧ (k < 40 → (d.pgShow k).on (F.PGN_STAT.ON_GATE k) = false ∧ (d.pgShow k).on (F.PGN_STAT.COMP_GATE k) = false)

/-- R511, R512, R515: a record is written to the secure ring, and a copy where the routing of its block sends it. A copy for a non-secure ring whose
source may not be seen there is counted in EVT_WORLD_DROP and leaves memory alone; one without an enabled EVT ring in NO_RING. Before routing applies
up to 64 records are held in the start queue, further ones are counted in DROP.START with START_LOST; they are routed in order once routing applies.
-/
def Obligations.RecordsAreRouted : Prop :=
  (∀ (s : State) (r : EvRec) (k : Nat), k = r.src.code - 1 → s.dev.on F.EVT_CFG.SEC_EN = false →
    ((s.dev.on (F.EVT_ROUTE.EN k) = false ∨ s.dev.bitOf (F.EVT_ROUTE.CLASS_MASK k) (evClass r.ev) = false) → s.route r = s)
    ∧ (s.dev.on (F.EVT_ROUTE.EN k) = true → s.dev.bitOf (F.EVT_ROUTE.CLASS_MASK k) (evClass r.ev) = true → ∀ n, n = s.dev.fld (F.EVT_ROUTE.RING k) →
      (s.dev.ringSecure n = false → s.dev.mayLeave r = false → s.route r = { s with dev := (s.dev.inc F.EVT_WORLD_DROP.V).setFld F.EVT_FLAG.WORLD 1 })
      ∧ ((s.dev.ringSecure n = true ∨ s.dev.mayLeave r = true) → s.dev.evtRing n = false →
        s.route r = { s with dev := (s.dev.inc F.EVT_DROP.NO_RING).setFld F.EVT_FLAG.NO_RING 1 })
      ∧ ((s.dev.ringSecure n = true ∨ s.dev.mayLeave r = true) → s.dev.evtRing n = true → s.route r = s.evtPut n r)))
  ∧ (∀ (s : State) (r : EvRec) (n : Nat), s.dev.on F.EVT_CFG.SEC_EN = true → n = s.dev.fld F.EVT_CFG.SEC_RING →
      s.dev.on (F.EVT_ROUTE.EN (r.src.code - 1)) = false → 1 ≤ r.src.code → r.src.code ≤ 18 →
    (s.dev.evtRing n = true → s.dev.ringSecure n = true → (s.evtPut n r).dev.on (F.EVT_ROUTE.EN (r.src.code - 1)) = false → s.route r = s.evtPut n r)
    ∧ ((s.dev.evtRing n = false ∨ s.dev.ringSecure n = false) →
      s.route r = { s with dev := (s.dev.inc F.EVT_DROP.NO_RING).setFld F.EVT_FLAG.NO_RING 1 }))
  ∧ (∀ (d : Dev) (r : EvRec), evCode r.ev / 256 = 5 → d.mayLeave r = false)
  ∧ (∀ (d : Dev) (r : EvRec),
    (d.startq.length < 64 → (d.hold r).startq = d.startq ++ [r] ∧ (d.hold r).fld F.EVT_START.START_QUEUE = d.startq.length + 1)
    ∧ (64 ≤ d.startq.length → (d.hold r).startq = d.startq ∧ (d.hold r).on F.EVT_FLAG.START_LOST = true
      ∧ (d.hold r).fld F.EVT_DROP.START = min (d.fld F.EVT_DROP.START + 1) (2 ^ F.EVT_DROP.START.w - 1)))
  ∧ ∀ s : State, (s.dev.boot.started = false → s.dev.boot.step6 = false →
      s.deliver = { s with dev := s.dev.evq.foldl (fun d r => d.hold r) { s.dev with evq := [] } })
    ∧ ((s.dev.boot.started = true ∨ s.dev.boot.step6 = true) →
      s.deliver = s.dev.evq.foldl (fun u r => u.route r) { s with dev := { s.dev with evq := [] } })
    ∧ (∀ d : Dev, d = ({ s.dev with startq := [], boot := { s.dev.boot with step6 := true } }.setFld F.EVT_START.START_QUEUE 0) →
      s.flushStart = s.dev.startq.foldl (fun u r => u.route r) { s with dev := d })
end

