-- ==== Sys2Proof/Laws/Tab.lean ====
section
/-! SUPPORT. Laws/Tab.lean: the laws of tables and memories: a read after a write, and that every write keeps the canonical form. -/

namespace Sys2Proof.Machine

variable {α : Type}

/-! ### Reading what was written -/

theorem tabGet_tabIns_same (d : α) (t : Tab α) (n : Nat) (x : α) : tabGet d (tabIns t n x) n = x := by
  induction t with
  | nil => simp [tabIns, tabGet]
  | cons e r ih =>
    obtain ⟨k, v⟩ := e
    simp only [tabIns]
    split_ifs with h1 h2
    · simp [tabGet]
    · simp [tabGet]
    · simp [tabGet, h1, ih]

theorem tabGet_tabIns_ne (d : α) (t : Tab α) {n m : Nat} (x : α) (h : m ≠ n) : tabGet d (tabIns t n x) m = tabGet d t m := by
  induction t with
  | nil => simp [tabIns, tabGet, Ne.symm h]
  | cons e r ih =>
    obtain ⟨k, v⟩ := e
    simp only [tabIns]
    split_ifs with h1 h2
    · subst h1; simp [tabGet, Ne.symm h]
    · simp [tabGet, Ne.symm h]
    · simp only [tabGet, ih]

theorem tabGet_tabDel_same (d : α) (t : Tab α) (n : Nat) : tabGet d (tabDel t n) n = d := by
  induction t with
  | nil => rfl
  | cons e r ih =>
    obtain ⟨k, v⟩ := e
    by_cases h : k = n
    · simpa [tabDel, h] using ih
    · simp only [tabDel, ne_eq, h, not_false_eq_true, decide_true, List.filter_cons_of_pos, tabGet, if_false]
      exact ih

theorem tabGet_tabDel_ne (d : α) (t : Tab α) {n m : Nat} (h : m ≠ n) : tabGet d (tabDel t n) m = tabGet d t m := by
  induction t with
  | nil => rfl
  | cons e r ih =>
    obtain ⟨k, v⟩ := e
    by_cases hk : k = n
    · subst hk
      simp only [tabDel, ne_eq, not_true_eq_false, decide_false, Bool.false_eq_true, not_false_eq_true, List.filter_cons_of_neg,
        tabGet, Ne.symm h, if_false]
      exact ih
    · simp only [tabDel, ne_eq, hk, not_false_eq_true, decide_true, List.filter_cons_of_pos, tabGet]
      split_ifs
      · rfl
      · exact ih

variable [DecidableEq α]

/-- A read of an index gives the value written there. -/
@[simp] theorem tabGet_tabPut_same (d : α) (t : Tab α) (n : Nat) (x : α) : tabGet d (tabPut d t n x) n = x := by
  unfold tabPut
  split_ifs with h
  · rw [h, tabGet_tabDel_same]
  · exact tabGet_tabIns_same d t n x

/-- A write leaves every other index as it was, whatever an unlisted one reads as. -/
theorem tabGet_tabPut_ne (d e : α) (t : Tab α) {n m : Nat} (x : α) (h : m ≠ n) : tabGet e (tabPut d t n x) m = tabGet e t m := by
  unfold tabPut
  split_ifs
  · exact tabGet_tabDel_ne e t h
  · exact tabGet_tabIns_ne e t x h

/-! ### The canonical form -/

omit [DecidableEq α] in
theorem tabSorted_iff (t : Tab α) : tabSorted t = true ↔ (t.map Prod.fst).Pairwise (· < ·) := by
  induction t with
  | nil => simp [tabSorted]
  | cons e r ih =>
    cases r with
    | nil => simp [tabSorted]
    | cons e' r' =>
      obtain ⟨a, x⟩ := e
      obtain ⟨b, y⟩ := e'
      simp only [tabSorted, Bool.and_eq_true, decide_eq_true_eq, ih]
      simp only [List.map_cons, List.pairwise_cons, List.mem_cons, forall_eq_or_imp]
      constructor
      · rintro ⟨hab, hb, hr⟩
        exact ⟨⟨hab, fun k hk => lt_trans hab (hb k hk)⟩, hb, hr⟩
      · rintro ⟨⟨hab, _⟩, hb, hr⟩
        exact ⟨hab, hb, hr⟩

theorem tabWf_iff (d : α) (t : Tab α) :
    tabWf d t = true ↔ (t.map Prod.fst).Pairwise (· < ·) ∧ ∀ e ∈ t, e.2 ≠ d := by
  simp [tabWf, tabSorted_iff, List.all_eq_true]

theorem tabWf_nil (d : α) : tabWf d ([] : Tab α) = true := rfl

/-- Leaving out entries keeps the canonical form. -/
theorem tabWf_filter (d : α) (t : Tab α) (p : Nat × α → Bool) (h : tabWf d t = true) : tabWf d (t.filter p) = true := by
  rw [tabWf_iff] at h ⊢
  refine ⟨?_, fun e he => h.2 e (List.mem_of_mem_filter he)⟩
  exact h.1.sublist (List.Sublist.map _ List.filter_sublist)

omit [DecidableEq α] in
theorem keys_tabIns {t : Tab α} {n : Nat} {x : α} {k : Nat} (h : k ∈ (tabIns t n x).map Prod.fst) : k = n ∨ k ∈ t.map Prod.fst := by
  induction t with
  | nil => simpa [tabIns] using h
  | cons e r ih =>
    obtain ⟨a, v⟩ := e
    simp only [tabIns] at h
    split_ifs at h with h1 h2
    · simp only [List.map_cons, List.mem_cons] at h ⊢; tauto
    · simp only [List.map_cons, List.mem_cons] at h ⊢; tauto
    · simp only [List.map_cons, List.mem_cons] at h ⊢
      rcases h with h | h
      · exact .inr (.inl h)
      · rcases ih h with h | h <;> tauto

theorem tabWf_tabIns (d : α) (t : Tab α) (n : Nat) (x : α) (hx : x ≠ d) (h : tabWf d t = true) : tabWf d (tabIns t n x) = true := by
  induction t with
  | nil => simp [tabIns, tabWf, tabSorted, hx]
  | cons e r ih =>
    obtain ⟨a, v⟩ := e
    rw [tabWf_iff] at h
    simp only [List.map_cons, List.pairwise_cons, List.mem_cons, forall_eq_or_imp] at h
    obtain ⟨⟨ha, hr⟩, hv, hm⟩ := h
    have hr' : tabWf d r = true := (tabWf_iff d r).2 ⟨hr, hm⟩
    simp only [tabIns]
    split_ifs with h1 h2
    · subst h1
      rw [tabWf_iff]
      simp only [List.map_cons, List.pairwise_cons, List.mem_cons, forall_eq_or_imp]
      exact ⟨⟨ha, hr⟩, hx, hm⟩
    · rw [tabWf_iff]
      simp only [List.map_cons, List.pairwise_cons, List.mem_cons, forall_eq_or_imp]
      exact ⟨⟨⟨h2, fun k hk => lt_trans h2 (ha k hk)⟩, ha, hr⟩, hx, hv, hm⟩
    · have hi := (tabWf_iff d _).1 (ih hr')
      rw [tabWf_iff]
      simp only [List.map_cons, List.pairwise_cons, List.mem_cons, forall_eq_or_imp]
      refine ⟨⟨fun k hk => ?_, hi.1⟩, hv, hi.2⟩
      rcases keys_tabIns hk with hk | hk
      · omega
      · exact ha k hk

/-- Every write of a table keeps its canonical form. -/
theorem tabWf_tabPut (d : α) (t : Tab α) (n : Nat) (x : α) (h : tabWf d t = true) : tabWf d (tabPut d t n x) = true := by
  unfold tabPut
  split_ifs with hx
  · exact tabWf_filter d t _ h
  · exact tabWf_tabIns d t n x hx h

/-! ### Memory -/

/-- Bytes written in a row keep the canonical form of a memory. -/
theorem memWf_memWrite (m : List Host.Cell) (a : Nat) (l : List Byte) (h : Mem.wf m = true) : Mem.wf (memWrite m a l) = true := by
  induction l generalizing m a with
  | nil => exact h
  | cons b r ih => exact ih _ _ (tabWf_tabPut 0 m a b h)

/-- Zeroing a range keeps the canonical form of a memory. -/
theorem memWf_memZero (m : List Host.Cell) (a n : Nat) (h : Mem.wf m = true) : Mem.wf (memZero m a n) = true :=
  tabWf_filter 0 m _ h

/-- A write leaves every byte outside the written ones as it was. -/
theorem memByte_memWrite_out (m : List Host.Cell) (a : Nat) (l : List Byte) (x : Nat) (h : x < a ∨ a + l.length ≤ x) :
    memByte (memWrite m a l) x = memByte m x := by
  induction l generalizing m a with
  | nil => rfl
  | cons b r ih =>
    simp only [List.length_cons] at h
    rw [memWrite, ih _ _ (by omega)]
    exact tabGet_tabPut_ne 0 0 m b (by omega)

/-- A written byte reads as it was written. -/
theorem memByte_memWrite_in (m : List Host.Cell) (a : Nat) (l : List Byte) (i : Nat) (h : i < l.length) :
    memByte (memWrite m a l) (a + i) = l[i] := by
  induction l generalizing m a i with
  | nil => simp at h
  | cons b r ih =>
    cases i with
    | zero =>
      rw [memWrite, memByte_memWrite_out _ _ _ _ (by omega)]
      simp [memByte]
    | succ j =>
      have h' : j < r.length := by simpa using h
      have := ih (tabPut 0 m a b) (a + 1) j h'
      rw [memWrite, show a + (j + 1) = a + 1 + j by omega, this]
      simp

end Sys2Proof.Machine
end

