-- ==== Sys2Proof/Laws/Regs.lean ====
section
/-! SUPPORT. Laws/Regs.lean: the laws of the register file: a field reads as it was set, and setting it leaves every other field and
register as it was. -/

namespace Sys2Proof.Machine

theorem Regs.tab_setTab_same (r : Regs) (t : Tab Word) (b : Blk) : (r.setTab t b).tab b = t := by cases b <;> rfl

theorem Regs.tab_setTab_ne (r : Regs) (t : Tab Word) {b b' : Blk} (h : b' ≠ b) : (r.setTab t b).tab b' = r.tab b' := by
  cases b <;> cases b' <;> first | rfl | exact absurd rfl h

/-- A register reads as it was stored. -/
@[simp] theorem Dev.reg_setReg_same (d : Dev) (b : Blk) (off : Nat) (v : Word) : (d.setReg b off v).reg b off = v := by
  simp [Dev.reg, Dev.setReg, Regs.tab_setTab_same]

/-- Storing a register leaves every other register as it was. -/
theorem Dev.reg_setReg_ne (d : Dev) {b b' : Blk} {off off' : Nat} (v : Word) (h : (b', off') ≠ (b, off)) :
    (d.setReg b off v).reg b' off' = d.reg b' off' := by
  by_cases hb : b' = b
  · subst hb
    have ho : off' ≠ off := fun e => h (by rw [e])
    simp only [Dev.reg, Dev.setReg, Regs.tab_setTab_same]
    exact tabGet_tabPut_ne _ _ _ _ ho
  · simp only [Dev.reg, Dev.setReg, Regs.tab_setTab_ne _ _ hb]

/-! ### Fields -/

theorem Fld.getLsbD_bits (f : Fld) (v i : Nat) (h : f.lo + f.w ≤ 32) :
    (f.bits v).getLsbD i = (decide (f.lo ≤ i) && decide (i < f.lo + f.w) && v.testBit (i - f.lo)) := by
  simp only [Fld.bits, BitVec.getLsbD_shiftLeft, BitVec.getLsbD_setWidth, BitVec.getLsbD_ofNat]
  by_cases h1 : f.lo ≤ i <;> by_cases h2 : i < f.lo + f.w
  · have e1 : ¬ i < f.lo := by omega
    have e2 : i - f.lo < f.w := by omega
    have e3 : i < 32 := by omega
    have e4 : i - f.lo < 32 := by omega
    simp [h1, h2, e1, e2, e3, e4]
  · have e2 : ¬ i - f.lo < f.w := by omega
    simp [h2, e2]
  · have e1 : i < f.lo := by omega
    simp [h1, e1]
  · simp [h1]

theorem Fld.getLsbD_splice (f : Fld) (r : Word) (v i : Nat) (h : f.lo + f.w ≤ 32) :
    (f.splice r v).getLsbD i = if f.lo ≤ i ∧ i < f.lo + f.w then v.testBit (i - f.lo) else r.getLsbD i := by
  simp only [Fld.splice, BitVec.getLsbD_or, BitVec.getLsbD_and, BitVec.getLsbD_not, Fld.getLsbD_bits _ _ _ h]
  by_cases h1 : f.lo ≤ i <;> by_cases h2 : i < f.lo + f.w
  · have e : i - f.lo < f.w := by omega
    simp [h1, h2, Nat.testBit_two_pow_sub_one, e]
  all_goals
    simp [h1, h2]
    intro hx
    exact BitVec.lt_of_getLsbD hx

theorem Fld.extract_splice_same (f : Fld) (r : Word) (v : Nat) (h : f.lo + f.w ≤ 32) :
    ((f.splice r v).extractLsb' f.lo f.w).toNat = v % 2 ^ f.w := by
  have e : (f.splice r v).extractLsb' f.lo f.w = BitVec.ofNat f.w v := by
    apply BitVec.eq_of_getLsbD_eq
    intro i hi
    simp only [BitVec.getLsbD_extractLsb', BitVec.getLsbD_ofNat, Fld.getLsbD_splice _ _ _ _ h]
    have e1 : f.lo ≤ f.lo + i ∧ f.lo + i < f.lo + f.w := by omega
    simp [hi, e1]
  rw [e, BitVec.toNat_ofNat]

/-- Two fields share no bit. -/
def Fld.apart (f g : Fld) : Bool := f.place ≠ g.place || f.lo + f.w ≤ g.lo || g.lo + g.w ≤ f.lo

theorem Fld.extract_splice_apart (f g : Fld) (r : Word) (v : Nat) (h : f.lo + f.w ≤ 32) (h' : f.lo + f.w ≤ g.lo ∨ g.lo + g.w ≤ f.lo) :
    (f.splice r v).extractLsb' g.lo g.w = r.extractLsb' g.lo g.w := by
  apply BitVec.eq_of_getLsbD_eq
  intro i hi
  simp only [BitVec.getLsbD_extractLsb', Fld.getLsbD_splice _ _ _ _ h]
  have e1 : ¬ (f.lo ≤ g.lo + i ∧ g.lo + i < f.lo + f.w) := by omega
  simp [e1]

/-- A field reads as it was set, but for the high bits that do not fit. -/
theorem Dev.fld_setFld_same (d : Dev) (f : Fld) (v : Nat) (h : f.lo + f.w ≤ 32) : (d.setFld f v).fld f = v % 2 ^ f.w := by
  simp only [Dev.fld, Dev.setFld, Dev.reg_setReg_same, Fld.extract_splice_same _ _ _ h]

/-- Setting a field leaves every field that shares no bit with it as it was. -/
theorem Dev.fld_setFld_apart (d : Dev) (f g : Fld) (v : Nat) (h : f.lo + f.w ≤ 32) (hfg : f.apart g = true) :
    (d.setFld f v).fld g = d.fld g := by
  by_cases hp : g.place = f.place
  · have e : g.blk = f.blk ∧ g.off = f.off := by simpa [Fld.place] using hp
    have hd : f.lo + f.w ≤ g.lo ∨ g.lo + g.w ≤ f.lo := by
      simp only [Fld.apart, hp] at hfg
      simpa using hfg
    simp only [Dev.fld, Dev.setFld, e.1, e.2, Dev.reg_setReg_same, Fld.extract_splice_apart _ _ _ _ h hd]
  · simp only [Dev.fld, Dev.setFld]
    rw [Dev.reg_setReg_ne]
    exact fun e => hp (by simpa [Fld.place] using e)

/-- Setting a field leaves every other register as it was. -/
theorem Dev.reg_setFld_ne (d : Dev) (f : Fld) (v : Nat) {b : Blk} {off : Nat} (h : (b, off) ≠ f.place) :
    (d.setFld f v).reg b off = d.reg b off := Dev.reg_setReg_ne _ _ h

theorem Dev.fld_congr {d d' : Dev} {f : Fld} (h : d'.reg f.blk f.off = d.reg f.blk f.off) : d'.fld f = d.fld f := by
  simp only [Dev.fld, h]

/-! ### Frames of registers -/

theorem sameRegsBut.refl (l : List (Blk × Nat)) (d : Dev) : sameRegsBut l d d := fun _ _ _ => rfl

theorem sameRegsBut.trans {l : List (Blk × Nat)} {d d' d'' : Dev} (h : sameRegsBut l d d') (h' : sameRegsBut l d' d'') :
    sameRegsBut l d d'' := fun b off hx => (h' b off hx).trans (h b off hx)

theorem sameRegsBut.mono {l l' : List (Blk × Nat)} {d d' : Dev} (h : sameRegsBut l d d') (hl : l ⊆ l') : sameRegsBut l' d d' :=
  fun b off hx => h b off (fun hm => hx (hl hm))

theorem sameRegsBut_setReg (l : List (Blk × Nat)) (d : Dev) (b : Blk) (off : Nat) (v : Word) (h : (b, off) ∈ l) :
    sameRegsBut l d (d.setReg b off v) :=
  fun _ _ hx => Dev.reg_setReg_ne _ _ (fun e => hx (e ▸ h))

theorem sameRegsBut_setFld (l : List (Blk × Nat)) (d : Dev) (f : Fld) (v : Nat) (h : f.place ∈ l) : sameRegsBut l d (d.setFld f v) :=
  sameRegsBut_setReg l d _ _ _ h

/-- Nothing but the register file and the part decides what registers read as. -/
theorem sameRegsBut_of_regs {l : List (Blk × Nat)} {d d' : Dev} (h : d'.regs = d.regs) (hp : d'.part = d.part) : sameRegsBut l d d' :=
  fun b off _ => by simp only [Dev.reg, h, hp]

end Sys2Proof.Machine
end

