-- ==== Sys2Proof/Laws/State.lean ====
section
/-! SUPPORT. Laws/State.lean: for each named update of the device or the state, what it leaves every field as, so that no later proof
unfolds a record update. -/

namespace Sys2Proof.Machine

/-! ### The state -/

@[simp] theorem State.map_dev (s : State) (f : Dev → Dev) : (s.map f).dev = f s.dev := rfl
@[simp] theorem State.map_store (s : State) (f : Dev → Dev) : (s.map f).store = s.store := rfl
@[simp] theorem State.map_pending (s : State) (f : Dev → Dev) : (s.map f).pending = s.pending := rfl

/-! ### Registers and fields -/

@[simp] theorem Dev.setReg_part (d : Dev) (b : Blk) (off : Nat) (v : Word) : (d.setReg b off v).part = d.part := rfl
@[simp] theorem Dev.setReg_now (d : Dev) (b : Blk) (off : Nat) (v : Word) : (d.setReg b off v).now = d.now := rfl
@[simp] theorem Dev.setReg_shadow (d : Dev) (b : Blk) (off : Nat) (v : Word) : (d.setReg b off v).shadow = d.shadow := rfl
@[simp] theorem Dev.setReg_causes (d : Dev) (b : Blk) (off : Nat) (v : Word) : (d.setReg b off v).causes = d.causes := rfl
@[simp] theorem Dev.setReg_egExpiry (d : Dev) (b : Blk) (off : Nat) (v : Word) : (d.setReg b off v).egExpiry = d.egExpiry := rfl
@[simp] theorem Dev.setReg_egDirty (d : Dev) (b : Blk) (off : Nat) (v : Word) : (d.setReg b off v).egDirty = d.egDirty := rfl
@[simp] theorem Dev.setReg_evq (d : Dev) (b : Blk) (off : Nat) (v : Word) : (d.setReg b off v).evq = d.evq := rfl
@[simp] theorem Dev.setReg_startq (d : Dev) (b : Blk) (off : Nat) (v : Word) : (d.setReg b off v).startq = d.startq := rfl
@[simp] theorem Dev.setReg_clocks (d : Dev) (b : Blk) (off : Nat) (v : Word) : (d.setReg b off v).clocks = d.clocks := rfl
@[simp] theorem Dev.setReg_power (d : Dev) (b : Blk) (off : Nat) (v : Word) : (d.setReg b off v).power = d.power := rfl
@[simp] theorem Dev.setReg_boot (d : Dev) (b : Blk) (off : Nat) (v : Word) : (d.setReg b off v).boot = d.boot := rfl
@[simp] theorem Dev.setReg_worlds (d : Dev) (b : Blk) (off : Nat) (v : Word) : (d.setReg b off v).worlds = d.worlds := rfl
@[simp] theorem Dev.setReg_rings (d : Dev) (b : Blk) (off : Nat) (v : Word) : (d.setReg b off v).rings = d.rings := rfl
@[simp] theorem Dev.setReg_vectors (d : Dev) (b : Blk) (off : Nat) (v : Word) : (d.setReg b off v).vectors = d.vectors := rfl
@[simp] theorem Dev.setReg_freeCtr (d : Dev) (b : Blk) (off : Nat) (v : Word) : (d.setReg b off v).freeCtr = d.freeCtr := rfl
@[simp] theorem Dev.setReg_logq (d : Dev) (b : Blk) (off : Nat) (v : Word) : (d.setReg b off v).logq = d.logq := rfl
@[simp] theorem Dev.setReg_kvt (d : Dev) (b : Blk) (off : Nat) (v : Word) : (d.setReg b off v).kvt = d.kvt := rfl
@[simp] theorem Dev.setReg_kvtLost (d : Dev) (b : Blk) (off : Nat) (v : Word) : (d.setReg b off v).kvtLost = d.kvtLost := rfl
@[simp] theorem Dev.setReg_kvtTx (d : Dev) (b : Blk) (off : Nat) (v : Word) : (d.setReg b off v).kvtTx = d.kvtTx := rfl
@[simp] theorem Dev.setReg_secs (d : Dev) (b : Blk) (off : Nat) (v : Word) : (d.setReg b off v).secs = d.secs := rfl
@[simp] theorem Dev.setReg_heads (d : Dev) (b : Blk) (off : Nat) (v : Word) : (d.setReg b off v).heads = d.heads := rfl
@[simp] theorem Dev.setReg_decq (d : Dev) (b : Blk) (off : Nat) (v : Word) : (d.setReg b off v).decq = d.decq := rfl
@[simp] theorem Dev.setReg_fine (d : Dev) (b : Blk) (off : Nat) (v : Word) : (d.setReg b off v).fine = d.fine := rfl
@[simp] theorem Dev.setReg_chans (d : Dev) (b : Blk) (off : Nat) (v : Word) : (d.setReg b off v).chans = d.chans := rfl
@[simp] theorem Dev.setReg_auxs (d : Dev) (b : Blk) (off : Nat) (v : Word) : (d.setReg b off v).auxs = d.auxs := rfl
@[simp] theorem Dev.setReg_banks (d : Dev) (b : Blk) (off : Nat) (v : Word) : (d.setReg b off v).banks = d.banks := rfl
@[simp] theorem Dev.setReg_pins (d : Dev) (b : Blk) (off : Nat) (v : Word) : (d.setReg b off v).pins = d.pins := rfl
@[simp] theorem Dev.setReg_strmq (d : Dev) (b : Blk) (off : Nat) (v : Word) : (d.setReg b off v).strmq = d.strmq := rfl
@[simp] theorem Dev.setReg_recs (d : Dev) (b : Blk) (off : Nat) (v : Word) : (d.setReg b off v).recs = d.recs := rfl
@[simp] theorem Dev.setReg_recsAt (d : Dev) (b : Blk) (off : Nat) (v : Word) : (d.setReg b off v).recsAt = d.recsAt := rfl
@[simp] theorem Dev.setReg_mons (d : Dev) (b : Blk) (off : Nat) (v : Word) : (d.setReg b off v).mons = d.mons := rfl
@[simp] theorem Dev.setReg_winIn (d : Dev) (b : Blk) (off : Nat) (v : Word) : (d.setReg b off v).winIn = d.winIn := rfl
@[simp] theorem Dev.setReg_gens (d : Dev) (b : Blk) (off : Nat) (v : Word) : (d.setReg b off v).gens = d.gens := rfl
@[simp] theorem Dev.setReg_ssos (d : Dev) (b : Blk) (off : Nat) (v : Word) : (d.setReg b off v).ssos = d.ssos := rfl
@[simp] theorem Dev.setReg_lineOff (d : Dev) (b : Blk) (off : Nat) (v : Word) : (d.setReg b off v).lineOff = d.lineOff := rfl
@[simp] theorem Dev.setReg_dacNext (d : Dev) (b : Blk) (off : Nat) (v : Word) : (d.setReg b off v).dacNext = d.dacNext := rfl
@[simp] theorem Dev.setReg_tripq (d : Dev) (b : Blk) (off : Nat) (v : Word) : (d.setReg b off v).tripq = d.tripq := rfl
@[simp] theorem Dev.setReg_lamps (d : Dev) (b : Blk) (off : Nat) (v : Word) : (d.setReg b off v).lamps = d.lamps := rfl
@[simp] theorem Dev.setReg_forced (d : Dev) (b : Blk) (off : Nat) (v : Word) : (d.setReg b off v).forced = d.forced := rfl
@[simp] theorem Dev.setReg_sigDirty (d : Dev) (b : Blk) (off : Nat) (v : Word) : (d.setReg b off v).sigDirty = d.sigDirty := rfl
@[simp] theorem Dev.setReg_decAt (d : Dev) (b : Blk) (off : Nat) (v : Word) : (d.setReg b off v).decAt = d.decAt := rfl
@[simp] theorem Dev.setReg_headq (d : Dev) (b : Blk) (off : Nat) (v : Word) : (d.setReg b off v).headq = d.headq := rfl
@[simp] theorem Dev.setReg_sis (d : Dev) (b : Blk) (off : Nat) (v : Word) : (d.setReg b off v).sis = d.sis := rfl
@[simp] theorem Dev.setReg_tps (d : Dev) (b : Blk) (off : Nat) (v : Word) : (d.setReg b off v).tps = d.tps := rfl
@[simp] theorem Dev.setReg_fbs (d : Dev) (b : Blk) (off : Nat) (v : Word) : (d.setReg b off v).fbs = d.fbs := rfl
@[simp] theorem Dev.setReg_soAt (d : Dev) (b : Blk) (off : Nat) (v : Word) : (d.setReg b off v).soAt = d.soAt := rfl
@[simp] theorem Dev.setReg_soFb (d : Dev) (b : Blk) (off : Nat) (v : Word) : (d.setReg b off v).soFb = d.soFb := rfl
@[simp] theorem Dev.setReg_siMv (d : Dev) (b : Blk) (off : Nat) (v : Word) : (d.setReg b off v).siMv = d.siMv := rfl
@[simp] theorem Dev.setReg_safeSent (d : Dev) (b : Blk) (off : Nat) (v : Word) : (d.setReg b off v).safeSent = d.safeSent := rfl
@[simp] theorem Dev.setReg_sers (d : Dev) (b : Blk) (off : Nat) (v : Word) : (d.setReg b off v).sers = d.sers := rfl
@[simp] theorem Dev.setReg_nets (d : Dev) (b : Blk) (off : Nat) (v : Word) : (d.setReg b off v).nets = d.nets := rfl
@[simp] theorem Dev.setReg_laneLock (d : Dev) (b : Blk) (off : Nat) (v : Word) : (d.setReg b off v).laneLock = d.laneLock := rfl
@[simp] theorem Dev.setReg_appq (d : Dev) (b : Blk) (off : Nat) (v : Word) : (d.setReg b off v).appq = d.appq := rfl
@[simp] theorem Dev.setReg_twin (d : Dev) (b : Blk) (off : Nat) (v : Word) : (d.setReg b off v).twin = d.twin := rfl
@[simp] theorem Dev.setReg_out (d : Dev) (b : Blk) (off : Nat) (v : Word) : (d.setReg b off v).out = d.out := rfl


@[simp] theorem Dev.setFld_part (d : Dev) (f : Fld) (v : Nat) : (d.setFld f v).part = d.part := rfl
@[simp] theorem Dev.setFld_now (d : Dev) (f : Fld) (v : Nat) : (d.setFld f v).now = d.now := rfl
@[simp] theorem Dev.setFld_shadow (d : Dev) (f : Fld) (v : Nat) : (d.setFld f v).shadow = d.shadow := rfl
@[simp] theorem Dev.setFld_causes (d : Dev) (f : Fld) (v : Nat) : (d.setFld f v).causes = d.causes := rfl
@[simp] theorem Dev.setFld_egExpiry (d : Dev) (f : Fld) (v : Nat) : (d.setFld f v).egExpiry = d.egExpiry := rfl
@[simp] theorem Dev.setFld_egDirty (d : Dev) (f : Fld) (v : Nat) : (d.setFld f v).egDirty = d.egDirty := rfl
@[simp] theorem Dev.setFld_evq (d : Dev) (f : Fld) (v : Nat) : (d.setFld f v).evq = d.evq := rfl
@[simp] theorem Dev.setFld_startq (d : Dev) (f : Fld) (v : Nat) : (d.setFld f v).startq = d.startq := rfl
@[simp] theorem Dev.setFld_clocks (d : Dev) (f : Fld) (v : Nat) : (d.setFld f v).clocks = d.clocks := rfl
@[simp] theorem Dev.setFld_power (d : Dev) (f : Fld) (v : Nat) : (d.setFld f v).power = d.power := rfl
@[simp] theorem Dev.setFld_boot (d : Dev) (f : Fld) (v : Nat) : (d.setFld f v).boot = d.boot := rfl
@[simp] theorem Dev.setFld_worlds (d : Dev) (f : Fld) (v : Nat) : (d.setFld f v).worlds = d.worlds := rfl
@[simp] theorem Dev.setFld_rings (d : Dev) (f : Fld) (v : Nat) : (d.setFld f v).rings = d.rings := rfl
@[simp] theorem Dev.setFld_vectors (d : Dev) (f : Fld) (v : Nat) : (d.setFld f v).vectors = d.vectors := rfl
@[simp] theorem Dev.setFld_freeCtr (d : Dev) (f : Fld) (v : Nat) : (d.setFld f v).freeCtr = d.freeCtr := rfl
@[simp] theorem Dev.setFld_logq (d : Dev) (f : Fld) (v : Nat) : (d.setFld f v).logq = d.logq := rfl
@[simp] theorem Dev.setFld_kvt (d : Dev) (f : Fld) (v : Nat) : (d.setFld f v).kvt = d.kvt := rfl
@[simp] theorem Dev.setFld_kvtLost (d : Dev) (f : Fld) (v : Nat) : (d.setFld f v).kvtLost = d.kvtLost := rfl
@[simp] theorem Dev.setFld_kvtTx (d : Dev) (f : Fld) (v : Nat) : (d.setFld f v).kvtTx = d.kvtTx := rfl
@[simp] theorem Dev.setFld_secs (d : Dev) (f : Fld) (v : Nat) : (d.setFld f v).secs = d.secs := rfl
@[simp] theorem Dev.setFld_heads (d : Dev) (f : Fld) (v : Nat) : (d.setFld f v).heads = d.heads := rfl
@[simp] theorem Dev.setFld_decq (d : Dev) (f : Fld) (v : Nat) : (d.setFld f v).decq = d.decq := rfl
@[simp] theorem Dev.setFld_fine (d : Dev) (f : Fld) (v : Nat) : (d.setFld f v).fine = d.fine := rfl
@[simp] theorem Dev.setFld_chans (d : Dev) (f : Fld) (v : Nat) : (d.setFld f v).chans = d.chans := rfl
@[simp] theorem Dev.setFld_auxs (d : Dev) (f : Fld) (v : Nat) : (d.setFld f v).auxs = d.auxs := rfl
@[simp] theorem Dev.setFld_banks (d : Dev) (f : Fld) (v : Nat) : (d.setFld f v).banks = d.banks := rfl
@[simp] theorem Dev.setFld_pins (d : Dev) (f : Fld) (v : Nat) : (d.setFld f v).pins = d.pins := rfl
@[simp] theorem Dev.setFld_strmq (d : Dev) (f : Fld) (v : Nat) : (d.setFld f v).strmq = d.strmq := rfl
@[simp] theorem Dev.setFld_recs (d : Dev) (f : Fld) (v : Nat) : (d.setFld f v).recs = d.recs := rfl
@[simp] theorem Dev.setFld_recsAt (d : Dev) (f : Fld) (v : Nat) : (d.setFld f v).recsAt = d.recsAt := rfl
@[simp] theorem Dev.setFld_mons (d : Dev) (f : Fld) (v : Nat) : (d.setFld f v).mons = d.mons := rfl
@[simp] theorem Dev.setFld_winIn (d : Dev) (f : Fld) (v : Nat) : (d.setFld f v).winIn = d.winIn := rfl
@[simp] theorem Dev.setFld_gens (d : Dev) (f : Fld) (v : Nat) : (d.setFld f v).gens = d.gens := rfl
@[simp] theorem Dev.setFld_ssos (d : Dev) (f : Fld) (v : Nat) : (d.setFld f v).ssos = d.ssos := rfl
@[simp] theorem Dev.setFld_lineOff (d : Dev) (f : Fld) (v : Nat) : (d.setFld f v).lineOff = d.lineOff := rfl
@[simp] theorem Dev.setFld_dacNext (d : Dev) (f : Fld) (v : Nat) : (d.setFld f v).dacNext = d.dacNext := rfl
@[simp] theorem Dev.setFld_tripq (d : Dev) (f : Fld) (v : Nat) : (d.setFld f v).tripq = d.tripq := rfl
@[simp] theorem Dev.setFld_lamps (d : Dev) (f : Fld) (v : Nat) : (d.setFld f v).lamps = d.lamps := rfl
@[simp] theorem Dev.setFld_forced (d : Dev) (f : Fld) (v : Nat) : (d.setFld f v).forced = d.forced := rfl
@[simp] theorem Dev.setFld_sigDirty (d : Dev) (f : Fld) (v : Nat) : (d.setFld f v).sigDirty = d.sigDirty := rfl
@[simp] theorem Dev.setFld_decAt (d : Dev) (f : Fld) (v : Nat) : (d.setFld f v).decAt = d.decAt := rfl
@[simp] theorem Dev.setFld_headq (d : Dev) (f : Fld) (v : Nat) : (d.setFld f v).headq = d.headq := rfl
@[simp] theorem Dev.setFld_sis (d : Dev) (f : Fld) (v : Nat) : (d.setFld f v).sis = d.sis := rfl
@[simp] theorem Dev.setFld_tps (d : Dev) (f : Fld) (v : Nat) : (d.setFld f v).tps = d.tps := rfl
@[simp] theorem Dev.setFld_fbs (d : Dev) (f : Fld) (v : Nat) : (d.setFld f v).fbs = d.fbs := rfl
@[simp] theorem Dev.setFld_soAt (d : Dev) (f : Fld) (v : Nat) : (d.setFld f v).soAt = d.soAt := rfl
@[simp] theorem Dev.setFld_soFb (d : Dev) (f : Fld) (v : Nat) : (d.setFld f v).soFb = d.soFb := rfl
@[simp] theorem Dev.setFld_siMv (d : Dev) (f : Fld) (v : Nat) : (d.setFld f v).siMv = d.siMv := rfl
@[simp] theorem Dev.setFld_safeSent (d : Dev) (f : Fld) (v : Nat) : (d.setFld f v).safeSent = d.safeSent := rfl
@[simp] theorem Dev.setFld_sers (d : Dev) (f : Fld) (v : Nat) : (d.setFld f v).sers = d.sers := rfl
@[simp] theorem Dev.setFld_nets (d : Dev) (f : Fld) (v : Nat) : (d.setFld f v).nets = d.nets := rfl
@[simp] theorem Dev.setFld_laneLock (d : Dev) (f : Fld) (v : Nat) : (d.setFld f v).laneLock = d.laneLock := rfl
@[simp] theorem Dev.setFld_appq (d : Dev) (f : Fld) (v : Nat) : (d.setFld f v).appq = d.appq := rfl
@[simp] theorem Dev.setFld_twin (d : Dev) (f : Fld) (v : Nat) : (d.setFld f v).twin = d.twin := rfl
@[simp] theorem Dev.setFld_out (d : Dev) (f : Fld) (v : Nat) : (d.setFld f v).out = d.out := rfl

@[simp] theorem Dev.inc_part (d : Dev) (f : Fld) (n : Nat) : (d.inc f n).part = d.part := rfl
@[simp] theorem Dev.inc_now (d : Dev) (f : Fld) (n : Nat) : (d.inc f n).now = d.now := rfl
@[simp] theorem Dev.inc_shadow (d : Dev) (f : Fld) (n : Nat) : (d.inc f n).shadow = d.shadow := rfl
@[simp] theorem Dev.inc_causes (d : Dev) (f : Fld) (n : Nat) : (d.inc f n).causes = d.causes := rfl
@[simp] theorem Dev.inc_egExpiry (d : Dev) (f : Fld) (n : Nat) : (d.inc f n).egExpiry = d.egExpiry := rfl
@[simp] theorem Dev.inc_egDirty (d : Dev) (f : Fld) (n : Nat) : (d.inc f n).egDirty = d.egDirty := rfl
@[simp] theorem Dev.inc_evq (d : Dev) (f : Fld) (n : Nat) : (d.inc f n).evq = d.evq := rfl
@[simp] theorem Dev.inc_startq (d : Dev) (f : Fld) (n : Nat) : (d.inc f n).startq = d.startq := rfl
@[simp] theorem Dev.inc_clocks (d : Dev) (f : Fld) (n : Nat) : (d.inc f n).clocks = d.clocks := rfl
@[simp] theorem Dev.inc_power (d : Dev) (f : Fld) (n : Nat) : (d.inc f n).power = d.power := rfl
@[simp] theorem Dev.inc_boot (d : Dev) (f : Fld) (n : Nat) : (d.inc f n).boot = d.boot := rfl
@[simp] theorem Dev.inc_worlds (d : Dev) (f : Fld) (n : Nat) : (d.inc f n).worlds = d.worlds := rfl
@[simp] theorem Dev.inc_rings (d : Dev) (f : Fld) (n : Nat) : (d.inc f n).rings = d.rings := rfl
@[simp] theorem Dev.inc_vectors (d : Dev) (f : Fld) (n : Nat) : (d.inc f n).vectors = d.vectors := rfl
@[simp] theorem Dev.inc_freeCtr (d : Dev) (f : Fld) (n : Nat) : (d.inc f n).freeCtr = d.freeCtr := rfl
@[simp] theorem Dev.inc_logq (d : Dev) (f : Fld) (n : Nat) : (d.inc f n).logq = d.logq := rfl
@[simp] theorem Dev.inc_kvt (d : Dev) (f : Fld) (n : Nat) : (d.inc f n).kvt = d.kvt := rfl
@[simp] theorem Dev.inc_kvtLost (d : Dev) (f : Fld) (n : Nat) : (d.inc f n).kvtLost = d.kvtLost := rfl
@[simp] theorem Dev.inc_kvtTx (d : Dev) (f : Fld) (n : Nat) : (d.inc f n).kvtTx = d.kvtTx := rfl
@[simp] theorem Dev.inc_secs (d : Dev) (f : Fld) (n : Nat) : (d.inc f n).secs = d.secs := rfl
@[simp] theorem Dev.inc_heads (d : Dev) (f : Fld) (n : Nat) : (d.inc f n).heads = d.heads := rfl
@[simp] theorem Dev.inc_decq (d : Dev) (f : Fld) (n : Nat) : (d.inc f n).decq = d.decq := rfl
@[simp] theorem Dev.inc_fine (d : Dev) (f : Fld) (n : Nat) : (d.inc f n).fine = d.fine := rfl
@[simp] theorem Dev.inc_chans (d : Dev) (f : Fld) (n : Nat) : (d.inc f n).chans = d.chans := rfl
@[simp] theorem Dev.inc_auxs (d : Dev) (f : Fld) (n : Nat) : (d.inc f n).auxs = d.auxs := rfl
@[simp] theorem Dev.inc_banks (d : Dev) (f : Fld) (n : Nat) : (d.inc f n).banks = d.banks := rfl
@[simp] theorem Dev.inc_pins (d : Dev) (f : Fld) (n : Nat) : (d.inc f n).pins = d.pins := rfl
@[simp] theorem Dev.inc_strmq (d : Dev) (f : Fld) (n : Nat) : (d.inc f n).strmq = d.strmq := rfl
@[simp] theorem Dev.inc_recs (d : Dev) (f : Fld) (n : Nat) : (d.inc f n).recs = d.recs := rfl
@[simp] theorem Dev.inc_recsAt (d : Dev) (f : Fld) (n : Nat) : (d.inc f n).recsAt = d.recsAt := rfl
@[simp] theorem Dev.inc_mons (d : Dev) (f : Fld) (n : Nat) : (d.inc f n).mons = d.mons := rfl
@[simp] theorem Dev.inc_winIn (d : Dev) (f : Fld) (n : Nat) : (d.inc f n).winIn = d.winIn := rfl
@[simp] theorem Dev.inc_gens (d : Dev) (f : Fld) (n : Nat) : (d.inc f n).gens = d.gens := rfl
@[simp] theorem Dev.inc_ssos (d : Dev) (f : Fld) (n : Nat) : (d.inc f n).ssos = d.ssos := rfl
@[simp] theorem Dev.inc_lineOff (d : Dev) (f : Fld) (n : Nat) : (d.inc f n).lineOff = d.lineOff := rfl
@[simp] theorem Dev.inc_dacNext (d : Dev) (f : Fld) (n : Nat) : (d.inc f n).dacNext = d.dacNext := rfl
@[simp] theorem Dev.inc_tripq (d : Dev) (f : Fld) (n : Nat) : (d.inc f n).tripq = d.tripq := rfl
@[simp] theorem Dev.inc_lamps (d : Dev) (f : Fld) (n : Nat) : (d.inc f n).lamps = d.lamps := rfl
@[simp] theorem Dev.inc_forced (d : Dev) (f : Fld) (n : Nat) : (d.inc f n).forced = d.forced := rfl
@[simp] theorem Dev.inc_sigDirty (d : Dev) (f : Fld) (n : Nat) : (d.inc f n).sigDirty = d.sigDirty := rfl
@[simp] theorem Dev.inc_decAt (d : Dev) (f : Fld) (n : Nat) : (d.inc f n).decAt = d.decAt := rfl
@[simp] theorem Dev.inc_headq (d : Dev) (f : Fld) (n : Nat) : (d.inc f n).headq = d.headq := rfl
@[simp] theorem Dev.inc_sis (d : Dev) (f : Fld) (n : Nat) : (d.inc f n).sis = d.sis := rfl
@[simp] theorem Dev.inc_tps (d : Dev) (f : Fld) (n : Nat) : (d.inc f n).tps = d.tps := rfl
@[simp] theorem Dev.inc_fbs (d : Dev) (f : Fld) (n : Nat) : (d.inc f n).fbs = d.fbs := rfl
@[simp] theorem Dev.inc_soAt (d : Dev) (f : Fld) (n : Nat) : (d.inc f n).soAt = d.soAt := rfl
@[simp] theorem Dev.inc_soFb (d : Dev) (f : Fld) (n : Nat) : (d.inc f n).soFb = d.soFb := rfl
@[simp] theorem Dev.inc_siMv (d : Dev) (f : Fld) (n : Nat) : (d.inc f n).siMv = d.siMv := rfl
@[simp] theorem Dev.inc_safeSent (d : Dev) (f : Fld) (n : Nat) : (d.inc f n).safeSent = d.safeSent := rfl
@[simp] theorem Dev.inc_sers (d : Dev) (f : Fld) (n : Nat) : (d.inc f n).sers = d.sers := rfl
@[simp] theorem Dev.inc_nets (d : Dev) (f : Fld) (n : Nat) : (d.inc f n).nets = d.nets := rfl
@[simp] theorem Dev.inc_laneLock (d : Dev) (f : Fld) (n : Nat) : (d.inc f n).laneLock = d.laneLock := rfl
@[simp] theorem Dev.inc_appq (d : Dev) (f : Fld) (n : Nat) : (d.inc f n).appq = d.appq := rfl
@[simp] theorem Dev.inc_twin (d : Dev) (f : Fld) (n : Nat) : (d.inc f n).twin = d.twin := rfl
@[simp] theorem Dev.inc_out (d : Dev) (f : Fld) (n : Nat) : (d.inc f n).out = d.out := rfl

@[simp] theorem Dev.incPair_part (d : Dev) (lo hi : Fld) (n : Nat) : (d.incPair lo hi n).part = d.part := rfl
@[simp] theorem Dev.incPair_now (d : Dev) (lo hi : Fld) (n : Nat) : (d.incPair lo hi n).now = d.now := rfl
@[simp] theorem Dev.incPair_shadow (d : Dev) (lo hi : Fld) (n : Nat) : (d.incPair lo hi n).shadow = d.shadow := rfl
@[simp] theorem Dev.incPair_causes (d : Dev) (lo hi : Fld) (n : Nat) : (d.incPair lo hi n).causes = d.causes := rfl
@[simp] theorem Dev.incPair_egExpiry (d : Dev) (lo hi : Fld) (n : Nat) : (d.incPair lo hi n).egExpiry = d.egExpiry := rfl
@[simp] theorem Dev.incPair_egDirty (d : Dev) (lo hi : Fld) (n : Nat) : (d.incPair lo hi n).egDirty = d.egDirty := rfl
@[simp] theorem Dev.incPair_evq (d : Dev) (lo hi : Fld) (n : Nat) : (d.incPair lo hi n).evq = d.evq := rfl
@[simp] theorem Dev.incPair_startq (d : Dev) (lo hi : Fld) (n : Nat) : (d.incPair lo hi n).startq = d.startq := rfl
@[simp] theorem Dev.incPair_clocks (d : Dev) (lo hi : Fld) (n : Nat) : (d.incPair lo hi n).clocks = d.clocks := rfl
@[simp] theorem Dev.incPair_power (d : Dev) (lo hi : Fld) (n : Nat) : (d.incPair lo hi n).power = d.power := rfl
@[simp] theorem Dev.incPair_boot (d : Dev) (lo hi : Fld) (n : Nat) : (d.incPair lo hi n).boot = d.boot := rfl
@[simp] theorem Dev.incPair_worlds (d : Dev) (lo hi : Fld) (n : Nat) : (d.incPair lo hi n).worlds = d.worlds := rfl
@[simp] theorem Dev.incPair_rings (d : Dev) (lo hi : Fld) (n : Nat) : (d.incPair lo hi n).rings = d.rings := rfl
@[simp] theorem Dev.incPair_vectors (d : Dev) (lo hi : Fld) (n : Nat) : (d.incPair lo hi n).vectors = d.vectors := rfl
@[simp] theorem Dev.incPair_freeCtr (d : Dev) (lo hi : Fld) (n : Nat) : (d.incPair lo hi n).freeCtr = d.freeCtr := rfl
@[simp] theorem Dev.incPair_logq (d : Dev) (lo hi : Fld) (n : Nat) : (d.incPair lo hi n).logq = d.logq := rfl
@[simp] theorem Dev.incPair_kvt (d : Dev) (lo hi : Fld) (n : Nat) : (d.incPair lo hi n).kvt = d.kvt := rfl
@[simp] theorem Dev.incPair_kvtLost (d : Dev) (lo hi : Fld) (n : Nat) : (d.incPair lo hi n).kvtLost = d.kvtLost := rfl
@[simp] theorem Dev.incPair_kvtTx (d : Dev) (lo hi : Fld) (n : Nat) : (d.incPair lo hi n).kvtTx = d.kvtTx := rfl
@[simp] theorem Dev.incPair_secs (d : Dev) (lo hi : Fld) (n : Nat) : (d.incPair lo hi n).secs = d.secs := rfl
@[simp] theorem Dev.incPair_heads (d : Dev) (lo hi : Fld) (n : Nat) : (d.incPair lo hi n).heads = d.heads := rfl
@[simp] theorem Dev.incPair_decq (d : Dev) (lo hi : Fld) (n : Nat) : (d.incPair lo hi n).decq = d.decq := rfl
@[simp] theorem Dev.incPair_fine (d : Dev) (lo hi : Fld) (n : Nat) : (d.incPair lo hi n).fine = d.fine := rfl
@[simp] theorem Dev.incPair_chans (d : Dev) (lo hi : Fld) (n : Nat) : (d.incPair lo hi n).chans = d.chans := rfl
@[simp] theorem Dev.incPair_auxs (d : Dev) (lo hi : Fld) (n : Nat) : (d.incPair lo hi n).auxs = d.auxs := rfl
@[simp] theorem Dev.incPair_banks (d : Dev) (lo hi : Fld) (n : Nat) : (d.incPair lo hi n).banks = d.banks := rfl
@[simp] theorem Dev.incPair_pins (d : Dev) (lo hi : Fld) (n : Nat) : (d.incPair lo hi n).pins = d.pins := rfl
@[simp] theorem Dev.incPair_strmq (d : Dev) (lo hi : Fld) (n : Nat) : (d.incPair lo hi n).strmq = d.strmq := rfl
@[simp] theorem Dev.incPair_recs (d : Dev) (lo hi : Fld) (n : Nat) : (d.incPair lo hi n).recs = d.recs := rfl
@[simp] theorem Dev.incPair_recsAt (d : Dev) (lo hi : Fld) (n : Nat) : (d.incPair lo hi n).recsAt = d.recsAt := rfl
@[simp] theorem Dev.incPair_mons (d : Dev) (lo hi : Fld) (n : Nat) : (d.incPair lo hi n).mons = d.mons := rfl
@[simp] theorem Dev.incPair_winIn (d : Dev) (lo hi : Fld) (n : Nat) : (d.incPair lo hi n).winIn = d.winIn := rfl
@[simp] theorem Dev.incPair_gens (d : Dev) (lo hi : Fld) (n : Nat) : (d.incPair lo hi n).gens = d.gens := rfl
@[simp] theorem Dev.incPair_ssos (d : Dev) (lo hi : Fld) (n : Nat) : (d.incPair lo hi n).ssos = d.ssos := rfl
@[simp] theorem Dev.incPair_lineOff (d : Dev) (lo hi : Fld) (n : Nat) : (d.incPair lo hi n).lineOff = d.lineOff := rfl
@[simp] theorem Dev.incPair_dacNext (d : Dev) (lo hi : Fld) (n : Nat) : (d.incPair lo hi n).dacNext = d.dacNext := rfl
@[simp] theorem Dev.incPair_tripq (d : Dev) (lo hi : Fld) (n : Nat) : (d.incPair lo hi n).tripq = d.tripq := rfl
@[simp] theorem Dev.incPair_lamps (d : Dev) (lo hi : Fld) (n : Nat) : (d.incPair lo hi n).lamps = d.lamps := rfl
@[simp] theorem Dev.incPair_forced (d : Dev) (lo hi : Fld) (n : Nat) : (d.incPair lo hi n).forced = d.forced := rfl
@[simp] theorem Dev.incPair_sigDirty (d : Dev) (lo hi : Fld) (n : Nat) : (d.incPair lo hi n).sigDirty = d.sigDirty := rfl
@[simp] theorem Dev.incPair_decAt (d : Dev) (lo hi : Fld) (n : Nat) : (d.incPair lo hi n).decAt = d.decAt := rfl
@[simp] theorem Dev.incPair_headq (d : Dev) (lo hi : Fld) (n : Nat) : (d.incPair lo hi n).headq = d.headq := rfl
@[simp] theorem Dev.incPair_sis (d : Dev) (lo hi : Fld) (n : Nat) : (d.incPair lo hi n).sis = d.sis := rfl
@[simp] theorem Dev.incPair_tps (d : Dev) (lo hi : Fld) (n : Nat) : (d.incPair lo hi n).tps = d.tps := rfl
@[simp] theorem Dev.incPair_fbs (d : Dev) (lo hi : Fld) (n : Nat) : (d.incPair lo hi n).fbs = d.fbs := rfl
@[simp] theorem Dev.incPair_soAt (d : Dev) (lo hi : Fld) (n : Nat) : (d.incPair lo hi n).soAt = d.soAt := rfl
@[simp] theorem Dev.incPair_soFb (d : Dev) (lo hi : Fld) (n : Nat) : (d.incPair lo hi n).soFb = d.soFb := rfl
@[simp] theorem Dev.incPair_siMv (d : Dev) (lo hi : Fld) (n : Nat) : (d.incPair lo hi n).siMv = d.siMv := rfl
@[simp] theorem Dev.incPair_safeSent (d : Dev) (lo hi : Fld) (n : Nat) : (d.incPair lo hi n).safeSent = d.safeSent := rfl
@[simp] theorem Dev.incPair_sers (d : Dev) (lo hi : Fld) (n : Nat) : (d.incPair lo hi n).sers = d.sers := rfl
@[simp] theorem Dev.incPair_nets (d : Dev) (lo hi : Fld) (n : Nat) : (d.incPair lo hi n).nets = d.nets := rfl
@[simp] theorem Dev.incPair_laneLock (d : Dev) (lo hi : Fld) (n : Nat) : (d.incPair lo hi n).laneLock = d.laneLock := rfl
@[simp] theorem Dev.incPair_appq (d : Dev) (lo hi : Fld) (n : Nat) : (d.incPair lo hi n).appq = d.appq := rfl
@[simp] theorem Dev.incPair_twin (d : Dev) (lo hi : Fld) (n : Nat) : (d.incPair lo hi n).twin = d.twin := rfl
@[simp] theorem Dev.incPair_out (d : Dev) (lo hi : Fld) (n : Nat) : (d.incPair lo hi n).out = d.out := rfl

/-! ### Causes -/

@[simp] theorem Dev.clear_part (d : Dev) (ev : Ev) (src : Src) (sub : Nat) : (d.clear ev src sub).part = d.part := rfl
@[simp] theorem Dev.clear_now (d : Dev) (ev : Ev) (src : Src) (sub : Nat) : (d.clear ev src sub).now = d.now := rfl
@[simp] theorem Dev.clear_regs (d : Dev) (ev : Ev) (src : Src) (sub : Nat) : (d.clear ev src sub).regs = d.regs := rfl
@[simp] theorem Dev.clear_shadow (d : Dev) (ev : Ev) (src : Src) (sub : Nat) : (d.clear ev src sub).shadow = d.shadow := rfl
@[simp] theorem Dev.clear_egExpiry (d : Dev) (ev : Ev) (src : Src) (sub : Nat) : (d.clear ev src sub).egExpiry = d.egExpiry := rfl
@[simp] theorem Dev.clear_egDirty (d : Dev) (ev : Ev) (src : Src) (sub : Nat) : (d.clear ev src sub).egDirty = d.egDirty := rfl
@[simp] theorem Dev.clear_evq (d : Dev) (ev : Ev) (src : Src) (sub : Nat) : (d.clear ev src sub).evq = d.evq := rfl
@[simp] theorem Dev.clear_startq (d : Dev) (ev : Ev) (src : Src) (sub : Nat) : (d.clear ev src sub).startq = d.startq := rfl
@[simp] theorem Dev.clear_clocks (d : Dev) (ev : Ev) (src : Src) (sub : Nat) : (d.clear ev src sub).clocks = d.clocks := rfl
@[simp] theorem Dev.clear_power (d : Dev) (ev : Ev) (src : Src) (sub : Nat) : (d.clear ev src sub).power = d.power := rfl
@[simp] theorem Dev.clear_boot (d : Dev) (ev : Ev) (src : Src) (sub : Nat) : (d.clear ev src sub).boot = d.boot := rfl
@[simp] theorem Dev.clear_worlds (d : Dev) (ev : Ev) (src : Src) (sub : Nat) : (d.clear ev src sub).worlds = d.worlds := rfl
@[simp] theorem Dev.clear_rings (d : Dev) (ev : Ev) (src : Src) (sub : Nat) : (d.clear ev src sub).rings = d.rings := rfl
@[simp] theorem Dev.clear_vectors (d : Dev) (ev : Ev) (src : Src) (sub : Nat) : (d.clear ev src sub).vectors = d.vectors := rfl
@[simp] theorem Dev.clear_freeCtr (d : Dev) (ev : Ev) (src : Src) (sub : Nat) : (d.clear ev src sub).freeCtr = d.freeCtr := rfl
@[simp] theorem Dev.clear_logq (d : Dev) (ev : Ev) (src : Src) (sub : Nat) : (d.clear ev src sub).logq = d.logq := rfl
@[simp] theorem Dev.clear_kvt (d : Dev) (ev : Ev) (src : Src) (sub : Nat) : (d.clear ev src sub).kvt = d.kvt := rfl
@[simp] theorem Dev.clear_kvtLost (d : Dev) (ev : Ev) (src : Src) (sub : Nat) : (d.clear ev src sub).kvtLost = d.kvtLost := rfl
@[simp] theorem Dev.clear_kvtTx (d : Dev) (ev : Ev) (src : Src) (sub : Nat) : (d.clear ev src sub).kvtTx = d.kvtTx := rfl
@[simp] theorem Dev.clear_secs (d : Dev) (ev : Ev) (src : Src) (sub : Nat) : (d.clear ev src sub).secs = d.secs := rfl
@[simp] theorem Dev.clear_heads (d : Dev) (ev : Ev) (src : Src) (sub : Nat) : (d.clear ev src sub).heads = d.heads := rfl
@[simp] theorem Dev.clear_decq (d : Dev) (ev : Ev) (src : Src) (sub : Nat) : (d.clear ev src sub).decq = d.decq := rfl
@[simp] theorem Dev.clear_fine (d : Dev) (ev : Ev) (src : Src) (sub : Nat) : (d.clear ev src sub).fine = d.fine := rfl
@[simp] theorem Dev.clear_chans (d : Dev) (ev : Ev) (src : Src) (sub : Nat) : (d.clear ev src sub).chans = d.chans := rfl
@[simp] theorem Dev.clear_auxs (d : Dev) (ev : Ev) (src : Src) (sub : Nat) : (d.clear ev src sub).auxs = d.auxs := rfl
@[simp] theorem Dev.clear_banks (d : Dev) (ev : Ev) (src : Src) (sub : Nat) : (d.clear ev src sub).banks = d.banks := rfl
@[simp] theorem Dev.clear_pins (d : Dev) (ev : Ev) (src : Src) (sub : Nat) : (d.clear ev src sub).pins = d.pins := rfl
@[simp] theorem Dev.clear_strmq (d : Dev) (ev : Ev) (src : Src) (sub : Nat) : (d.clear ev src sub).strmq = d.strmq := rfl
@[simp] theorem Dev.clear_recs (d : Dev) (ev : Ev) (src : Src) (sub : Nat) : (d.clear ev src sub).recs = d.recs := rfl
@[simp] theorem Dev.clear_recsAt (d : Dev) (ev : Ev) (src : Src) (sub : Nat) : (d.clear ev src sub).recsAt = d.recsAt := rfl
@[simp] theorem Dev.clear_mons (d : Dev) (ev : Ev) (src : Src) (sub : Nat) : (d.clear ev src sub).mons = d.mons := rfl
@[simp] theorem Dev.clear_winIn (d : Dev) (ev : Ev) (src : Src) (sub : Nat) : (d.clear ev src sub).winIn = d.winIn := rfl
@[simp] theorem Dev.clear_gens (d : Dev) (ev : Ev) (src : Src) (sub : Nat) : (d.clear ev src sub).gens = d.gens := rfl
@[simp] theorem Dev.clear_ssos (d : Dev) (ev : Ev) (src : Src) (sub : Nat) : (d.clear ev src sub).ssos = d.ssos := rfl
@[simp] theorem Dev.clear_lineOff (d : Dev) (ev : Ev) (src : Src) (sub : Nat) : (d.clear ev src sub).lineOff = d.lineOff := rfl
@[simp] theorem Dev.clear_dacNext (d : Dev) (ev : Ev) (src : Src) (sub : Nat) : (d.clear ev src sub).dacNext = d.dacNext := rfl
@[simp] theorem Dev.clear_tripq (d : Dev) (ev : Ev) (src : Src) (sub : Nat) : (d.clear ev src sub).tripq = d.tripq := rfl
@[simp] theorem Dev.clear_lamps (d : Dev) (ev : Ev) (src : Src) (sub : Nat) : (d.clear ev src sub).lamps = d.lamps := rfl
@[simp] theorem Dev.clear_forced (d : Dev) (ev : Ev) (src : Src) (sub : Nat) : (d.clear ev src sub).forced = d.forced := rfl
@[simp] theorem Dev.clear_sigDirty (d : Dev) (ev : Ev) (src : Src) (sub : Nat) : (d.clear ev src sub).sigDirty = d.sigDirty := rfl
@[simp] theorem Dev.clear_decAt (d : Dev) (ev : Ev) (src : Src) (sub : Nat) : (d.clear ev src sub).decAt = d.decAt := rfl
@[simp] theorem Dev.clear_headq (d : Dev) (ev : Ev) (src : Src) (sub : Nat) : (d.clear ev src sub).headq = d.headq := rfl
@[simp] theorem Dev.clear_sis (d : Dev) (ev : Ev) (src : Src) (sub : Nat) : (d.clear ev src sub).sis = d.sis := rfl
@[simp] theorem Dev.clear_tps (d : Dev) (ev : Ev) (src : Src) (sub : Nat) : (d.clear ev src sub).tps = d.tps := rfl
@[simp] theorem Dev.clear_fbs (d : Dev) (ev : Ev) (src : Src) (sub : Nat) : (d.clear ev src sub).fbs = d.fbs := rfl
@[simp] theorem Dev.clear_soAt (d : Dev) (ev : Ev) (src : Src) (sub : Nat) : (d.clear ev src sub).soAt = d.soAt := rfl
@[simp] theorem Dev.clear_soFb (d : Dev) (ev : Ev) (src : Src) (sub : Nat) : (d.clear ev src sub).soFb = d.soFb := rfl
@[simp] theorem Dev.clear_siMv (d : Dev) (ev : Ev) (src : Src) (sub : Nat) : (d.clear ev src sub).siMv = d.siMv := rfl
@[simp] theorem Dev.clear_safeSent (d : Dev) (ev : Ev) (src : Src) (sub : Nat) : (d.clear ev src sub).safeSent = d.safeSent := rfl
@[simp] theorem Dev.clear_sers (d : Dev) (ev : Ev) (src : Src) (sub : Nat) : (d.clear ev src sub).sers = d.sers := rfl
@[simp] theorem Dev.clear_nets (d : Dev) (ev : Ev) (src : Src) (sub : Nat) : (d.clear ev src sub).nets = d.nets := rfl
@[simp] theorem Dev.clear_laneLock (d : Dev) (ev : Ev) (src : Src) (sub : Nat) : (d.clear ev src sub).laneLock = d.laneLock := rfl
@[simp] theorem Dev.clear_appq (d : Dev) (ev : Ev) (src : Src) (sub : Nat) : (d.clear ev src sub).appq = d.appq := rfl
@[simp] theorem Dev.clear_twin (d : Dev) (ev : Ev) (src : Src) (sub : Nat) : (d.clear ev src sub).twin = d.twin := rfl
@[simp] theorem Dev.clear_out (d : Dev) (ev : Ev) (src : Src) (sub : Nat) : (d.clear ev src sub).out = d.out := rfl

@[simp] theorem Dev.keep_part (d : Dev) (c : Cause) : (d.keep c).part = d.part := rfl
@[simp] theorem Dev.keep_now (d : Dev) (c : Cause) : (d.keep c).now = d.now := rfl
@[simp] theorem Dev.keep_regs (d : Dev) (c : Cause) : (d.keep c).regs = d.regs := rfl
@[simp] theorem Dev.keep_shadow (d : Dev) (c : Cause) : (d.keep c).shadow = d.shadow := rfl
@[simp] theorem Dev.keep_egExpiry (d : Dev) (c : Cause) : (d.keep c).egExpiry = d.egExpiry := rfl
@[simp] theorem Dev.keep_egDirty (d : Dev) (c : Cause) : (d.keep c).egDirty = d.egDirty := rfl
@[simp] theorem Dev.keep_evq (d : Dev) (c : Cause) : (d.keep c).evq = d.evq := rfl
@[simp] theorem Dev.keep_startq (d : Dev) (c : Cause) : (d.keep c).startq = d.startq := rfl
@[simp] theorem Dev.keep_clocks (d : Dev) (c : Cause) : (d.keep c).clocks = d.clocks := rfl
@[simp] theorem Dev.keep_power (d : Dev) (c : Cause) : (d.keep c).power = d.power := rfl
@[simp] theorem Dev.keep_boot (d : Dev) (c : Cause) : (d.keep c).boot = d.boot := rfl
@[simp] theorem Dev.keep_worlds (d : Dev) (c : Cause) : (d.keep c).worlds = d.worlds := rfl
@[simp] theorem Dev.keep_rings (d : Dev) (c : Cause) : (d.keep c).rings = d.rings := rfl
@[simp] theorem Dev.keep_vectors (d : Dev) (c : Cause) : (d.keep c).vectors = d.vectors := rfl
@[simp] theorem Dev.keep_freeCtr (d : Dev) (c : Cause) : (d.keep c).freeCtr = d.freeCtr := rfl
@[simp] theorem Dev.keep_logq (d : Dev) (c : Cause) : (d.keep c).logq = d.logq := rfl
@[simp] theorem Dev.keep_kvt (d : Dev) (c : Cause) : (d.keep c).kvt = d.kvt := rfl
@[simp] theorem Dev.keep_kvtLost (d : Dev) (c : Cause) : (d.keep c).kvtLost = d.kvtLost := rfl
@[simp] theorem Dev.keep_kvtTx (d : Dev) (c : Cause) : (d.keep c).kvtTx = d.kvtTx := rfl
@[simp] theorem Dev.keep_secs (d : Dev) (c : Cause) : (d.keep c).secs = d.secs := rfl
@[simp] theorem Dev.keep_heads (d : Dev) (c : Cause) : (d.keep c).heads = d.heads := rfl
@[simp] theorem Dev.keep_decq (d : Dev) (c : Cause) : (d.keep c).decq = d.decq := rfl
@[simp] theorem Dev.keep_fine (d : Dev) (c : Cause) : (d.keep c).fine = d.fine := rfl
@[simp] theorem Dev.keep_chans (d : Dev) (c : Cause) : (d.keep c).chans = d.chans := rfl
@[simp] theorem Dev.keep_auxs (d : Dev) (c : Cause) : (d.keep c).auxs = d.auxs := rfl
@[simp] theorem Dev.keep_banks (d : Dev) (c : Cause) : (d.keep c).banks = d.banks := rfl
@[simp] theorem Dev.keep_pins (d : Dev) (c : Cause) : (d.keep c).pins = d.pins := rfl
@[simp] theorem Dev.keep_strmq (d : Dev) (c : Cause) : (d.keep c).strmq = d.strmq := rfl
@[simp] theorem Dev.keep_recs (d : Dev) (c : Cause) : (d.keep c).recs = d.recs := rfl
@[simp] theorem Dev.keep_recsAt (d : Dev) (c : Cause) : (d.keep c).recsAt = d.recsAt := rfl
@[simp] theorem Dev.keep_mons (d : Dev) (c : Cause) : (d.keep c).mons = d.mons := rfl
@[simp] theorem Dev.keep_winIn (d : Dev) (c : Cause) : (d.keep c).winIn = d.winIn := rfl
@[simp] theorem Dev.keep_gens (d : Dev) (c : Cause) : (d.keep c).gens = d.gens := rfl
@[simp] theorem Dev.keep_ssos (d : Dev) (c : Cause) : (d.keep c).ssos = d.ssos := rfl
@[simp] theorem Dev.keep_lineOff (d : Dev) (c : Cause) : (d.keep c).lineOff = d.lineOff := rfl
@[simp] theorem Dev.keep_dacNext (d : Dev) (c : Cause) : (d.keep c).dacNext = d.dacNext := rfl
@[simp] theorem Dev.keep_tripq (d : Dev) (c : Cause) : (d.keep c).tripq = d.tripq := rfl
@[simp] theorem Dev.keep_lamps (d : Dev) (c : Cause) : (d.keep c).lamps = d.lamps := rfl
@[simp] theorem Dev.keep_forced (d : Dev) (c : Cause) : (d.keep c).forced = d.forced := rfl
@[simp] theorem Dev.keep_sigDirty (d : Dev) (c : Cause) : (d.keep c).sigDirty = d.sigDirty := rfl
@[simp] theorem Dev.keep_decAt (d : Dev) (c : Cause) : (d.keep c).decAt = d.decAt := rfl
@[simp] theorem Dev.keep_headq (d : Dev) (c : Cause) : (d.keep c).headq = d.headq := rfl
@[simp] theorem Dev.keep_sis (d : Dev) (c : Cause) : (d.keep c).sis = d.sis := rfl
@[simp] theorem Dev.keep_tps (d : Dev) (c : Cause) : (d.keep c).tps = d.tps := rfl
@[simp] theorem Dev.keep_fbs (d : Dev) (c : Cause) : (d.keep c).fbs = d.fbs := rfl
@[simp] theorem Dev.keep_soAt (d : Dev) (c : Cause) : (d.keep c).soAt = d.soAt := rfl
@[simp] theorem Dev.keep_soFb (d : Dev) (c : Cause) : (d.keep c).soFb = d.soFb := rfl
@[simp] theorem Dev.keep_siMv (d : Dev) (c : Cause) : (d.keep c).siMv = d.siMv := rfl
@[simp] theorem Dev.keep_safeSent (d : Dev) (c : Cause) : (d.keep c).safeSent = d.safeSent := rfl
@[simp] theorem Dev.keep_sers (d : Dev) (c : Cause) : (d.keep c).sers = d.sers := rfl
@[simp] theorem Dev.keep_nets (d : Dev) (c : Cause) : (d.keep c).nets = d.nets := rfl
@[simp] theorem Dev.keep_laneLock (d : Dev) (c : Cause) : (d.keep c).laneLock = d.laneLock := rfl
@[simp] theorem Dev.keep_appq (d : Dev) (c : Cause) : (d.keep c).appq = d.appq := rfl
@[simp] theorem Dev.keep_twin (d : Dev) (c : Cause) : (d.keep c).twin = d.twin := rfl
@[simp] theorem Dev.keep_out (d : Dev) (c : Cause) : (d.keep c).out = d.out := rfl

/-! ### Interrupts and records -/

@[simp] theorem Dev.pend_part (d : Dev) (n : Nat) (ns : Bool) : (d.pend n ns).part = d.part := by cases ns <;> rfl
@[simp] theorem Dev.pend_now (d : Dev) (n : Nat) (ns : Bool) : (d.pend n ns).now = d.now := by cases ns <;> rfl
@[simp] theorem Dev.pend_regs (d : Dev) (n : Nat) (ns : Bool) : (d.pend n ns).regs = d.regs := by cases ns <;> rfl
@[simp] theorem Dev.pend_shadow (d : Dev) (n : Nat) (ns : Bool) : (d.pend n ns).shadow = d.shadow := by cases ns <;> rfl
@[simp] theorem Dev.pend_causes (d : Dev) (n : Nat) (ns : Bool) : (d.pend n ns).causes = d.causes := by cases ns <;> rfl
@[simp] theorem Dev.pend_egExpiry (d : Dev) (n : Nat) (ns : Bool) : (d.pend n ns).egExpiry = d.egExpiry := by cases ns <;> rfl
@[simp] theorem Dev.pend_egDirty (d : Dev) (n : Nat) (ns : Bool) : (d.pend n ns).egDirty = d.egDirty := by cases ns <;> rfl
@[simp] theorem Dev.pend_evq (d : Dev) (n : Nat) (ns : Bool) : (d.pend n ns).evq = d.evq := by cases ns <;> rfl
@[simp] theorem Dev.pend_startq (d : Dev) (n : Nat) (ns : Bool) : (d.pend n ns).startq = d.startq := by cases ns <;> rfl
@[simp] theorem Dev.pend_clocks (d : Dev) (n : Nat) (ns : Bool) : (d.pend n ns).clocks = d.clocks := by cases ns <;> rfl
@[simp] theorem Dev.pend_power (d : Dev) (n : Nat) (ns : Bool) : (d.pend n ns).power = d.power := by cases ns <;> rfl
@[simp] theorem Dev.pend_boot (d : Dev) (n : Nat) (ns : Bool) : (d.pend n ns).boot = d.boot := by cases ns <;> rfl
@[simp] theorem Dev.pend_rings (d : Dev) (n : Nat) (ns : Bool) : (d.pend n ns).rings = d.rings := by cases ns <;> rfl
@[simp] theorem Dev.pend_vectors (d : Dev) (n : Nat) (ns : Bool) : (d.pend n ns).vectors = d.vectors := by cases ns <;> rfl
@[simp] theorem Dev.pend_freeCtr (d : Dev) (n : Nat) (ns : Bool) : (d.pend n ns).freeCtr = d.freeCtr := by cases ns <;> rfl
@[simp] theorem Dev.pend_logq (d : Dev) (n : Nat) (ns : Bool) : (d.pend n ns).logq = d.logq := by cases ns <;> rfl
@[simp] theorem Dev.pend_kvt (d : Dev) (n : Nat) (ns : Bool) : (d.pend n ns).kvt = d.kvt := by cases ns <;> rfl
@[simp] theorem Dev.pend_kvtLost (d : Dev) (n : Nat) (ns : Bool) : (d.pend n ns).kvtLost = d.kvtLost := by cases ns <;> rfl
@[simp] theorem Dev.pend_kvtTx (d : Dev) (n : Nat) (ns : Bool) : (d.pend n ns).kvtTx = d.kvtTx := by cases ns <;> rfl
@[simp] theorem Dev.pend_secs (d : Dev) (n : Nat) (ns : Bool) : (d.pend n ns).secs = d.secs := by cases ns <;> rfl
@[simp] theorem Dev.pend_heads (d : Dev) (n : Nat) (ns : Bool) : (d.pend n ns).heads = d.heads := by cases ns <;> rfl
@[simp] theorem Dev.pend_decq (d : Dev) (n : Nat) (ns : Bool) : (d.pend n ns).decq = d.decq := by cases ns <;> rfl
@[simp] theorem Dev.pend_fine (d : Dev) (n : Nat) (ns : Bool) : (d.pend n ns).fine = d.fine := by cases ns <;> rfl
@[simp] theorem Dev.pend_chans (d : Dev) (n : Nat) (ns : Bool) : (d.pend n ns).chans = d.chans := by cases ns <;> rfl
@[simp] theorem Dev.pend_auxs (d : Dev) (n : Nat) (ns : Bool) : (d.pend n ns).auxs = d.auxs := by cases ns <;> rfl
@[simp] theorem Dev.pend_banks (d : Dev) (n : Nat) (ns : Bool) : (d.pend n ns).banks = d.banks := by cases ns <;> rfl
@[simp] theorem Dev.pend_pins (d : Dev) (n : Nat) (ns : Bool) : (d.pend n ns).pins = d.pins := by cases ns <;> rfl
@[simp] theorem Dev.pend_strmq (d : Dev) (n : Nat) (ns : Bool) : (d.pend n ns).strmq = d.strmq := by cases ns <;> rfl
@[simp] theorem Dev.pend_recs (d : Dev) (n : Nat) (ns : Bool) : (d.pend n ns).recs = d.recs := by cases ns <;> rfl
@[simp] theorem Dev.pend_recsAt (d : Dev) (n : Nat) (ns : Bool) : (d.pend n ns).recsAt = d.recsAt := by cases ns <;> rfl
@[simp] theorem Dev.pend_mons (d : Dev) (n : Nat) (ns : Bool) : (d.pend n ns).mons = d.mons := by cases ns <;> rfl
@[simp] theorem Dev.pend_winIn (d : Dev) (n : Nat) (ns : Bool) : (d.pend n ns).winIn = d.winIn := by cases ns <;> rfl
@[simp] theorem Dev.pend_gens (d : Dev) (n : Nat) (ns : Bool) : (d.pend n ns).gens = d.gens := by cases ns <;> rfl
@[simp] theorem Dev.pend_ssos (d : Dev) (n : Nat) (ns : Bool) : (d.pend n ns).ssos = d.ssos := by cases ns <;> rfl
@[simp] theorem Dev.pend_lineOff (d : Dev) (n : Nat) (ns : Bool) : (d.pend n ns).lineOff = d.lineOff := by cases ns <;> rfl
@[simp] theorem Dev.pend_dacNext (d : Dev) (n : Nat) (ns : Bool) : (d.pend n ns).dacNext = d.dacNext := by cases ns <;> rfl
@[simp] theorem Dev.pend_tripq (d : Dev) (n : Nat) (ns : Bool) : (d.pend n ns).tripq = d.tripq := by cases ns <;> rfl
@[simp] theorem Dev.pend_lamps (d : Dev) (n : Nat) (ns : Bool) : (d.pend n ns).lamps = d.lamps := by cases ns <;> rfl
@[simp] theorem Dev.pend_forced (d : Dev) (n : Nat) (ns : Bool) : (d.pend n ns).forced = d.forced := by cases ns <;> rfl
@[simp] theorem Dev.pend_sigDirty (d : Dev) (n : Nat) (ns : Bool) : (d.pend n ns).sigDirty = d.sigDirty := by cases ns <;> rfl
@[simp] theorem Dev.pend_decAt (d : Dev) (n : Nat) (ns : Bool) : (d.pend n ns).decAt = d.decAt := by cases ns <;> rfl
@[simp] theorem Dev.pend_headq (d : Dev) (n : Nat) (ns : Bool) : (d.pend n ns).headq = d.headq := by cases ns <;> rfl
@[simp] theorem Dev.pend_sis (d : Dev) (n : Nat) (ns : Bool) : (d.pend n ns).sis = d.sis := by cases ns <;> rfl
@[simp] theorem Dev.pend_tps (d : Dev) (n : Nat) (ns : Bool) : (d.pend n ns).tps = d.tps := by cases ns <;> rfl
@[simp] theorem Dev.pend_fbs (d : Dev) (n : Nat) (ns : Bool) : (d.pend n ns).fbs = d.fbs := by cases ns <;> rfl
@[simp] theorem Dev.pend_soAt (d : Dev) (n : Nat) (ns : Bool) : (d.pend n ns).soAt = d.soAt := by cases ns <;> rfl
@[simp] theorem Dev.pend_soFb (d : Dev) (n : Nat) (ns : Bool) : (d.pend n ns).soFb = d.soFb := by cases ns <;> rfl
@[simp] theorem Dev.pend_siMv (d : Dev) (n : Nat) (ns : Bool) : (d.pend n ns).siMv = d.siMv := by cases ns <;> rfl
@[simp] theorem Dev.pend_safeSent (d : Dev) (n : Nat) (ns : Bool) : (d.pend n ns).safeSent = d.safeSent := by cases ns <;> rfl
@[simp] theorem Dev.pend_sers (d : Dev) (n : Nat) (ns : Bool) : (d.pend n ns).sers = d.sers := by cases ns <;> rfl
@[simp] theorem Dev.pend_nets (d : Dev) (n : Nat) (ns : Bool) : (d.pend n ns).nets = d.nets := by cases ns <;> rfl
@[simp] theorem Dev.pend_laneLock (d : Dev) (n : Nat) (ns : Bool) : (d.pend n ns).laneLock = d.laneLock := by cases ns <;> rfl
@[simp] theorem Dev.pend_appq (d : Dev) (n : Nat) (ns : Bool) : (d.pend n ns).appq = d.appq := by cases ns <;> rfl
@[simp] theorem Dev.pend_twin (d : Dev) (n : Nat) (ns : Bool) : (d.pend n ns).twin = d.twin := by cases ns <;> rfl

@[simp] theorem Dev.raiseAt_part (d : Dev) (st : Stamp) (ev : Ev) (src : Src) (cls : Nat) (pay : List Byte) : (d.raiseAt st ev src cls pay).part = d.part := by unfold Dev.raiseAt; split <;> rfl
@[simp] theorem Dev.raiseAt_now (d : Dev) (st : Stamp) (ev : Ev) (src : Src) (cls : Nat) (pay : List Byte) : (d.raiseAt st ev src cls pay).now = d.now := by unfold Dev.raiseAt; split <;> rfl
@[simp] theorem Dev.raiseAt_shadow (d : Dev) (st : Stamp) (ev : Ev) (src : Src) (cls : Nat) (pay : List Byte) : (d.raiseAt st ev src cls pay).shadow = d.shadow := by unfold Dev.raiseAt; split <;> rfl
@[simp] theorem Dev.raiseAt_causes (d : Dev) (st : Stamp) (ev : Ev) (src : Src) (cls : Nat) (pay : List Byte) : (d.raiseAt st ev src cls pay).causes = d.causes := by unfold Dev.raiseAt; split <;> rfl
@[simp] theorem Dev.raiseAt_egExpiry (d : Dev) (st : Stamp) (ev : Ev) (src : Src) (cls : Nat) (pay : List Byte) : (d.raiseAt st ev src cls pay).egExpiry = d.egExpiry := by unfold Dev.raiseAt; split <;> rfl
@[simp] theorem Dev.raiseAt_egDirty (d : Dev) (st : Stamp) (ev : Ev) (src : Src) (cls : Nat) (pay : List Byte) : (d.raiseAt st ev src cls pay).egDirty = d.egDirty := by unfold Dev.raiseAt; split <;> rfl
@[simp] theorem Dev.raiseAt_startq (d : Dev) (st : Stamp) (ev : Ev) (src : Src) (cls : Nat) (pay : List Byte) : (d.raiseAt st ev src cls pay).startq = d.startq := by unfold Dev.raiseAt; split <;> rfl
@[simp] theorem Dev.raiseAt_clocks (d : Dev) (st : Stamp) (ev : Ev) (src : Src) (cls : Nat) (pay : List Byte) : (d.raiseAt st ev src cls pay).clocks = d.clocks := by unfold Dev.raiseAt; split <;> rfl
@[simp] theorem Dev.raiseAt_power (d : Dev) (st : Stamp) (ev : Ev) (src : Src) (cls : Nat) (pay : List Byte) : (d.raiseAt st ev src cls pay).power = d.power := by unfold Dev.raiseAt; split <;> rfl
@[simp] theorem Dev.raiseAt_boot (d : Dev) (st : Stamp) (ev : Ev) (src : Src) (cls : Nat) (pay : List Byte) : (d.raiseAt st ev src cls pay).boot = d.boot := by unfold Dev.raiseAt; split <;> rfl
@[simp] theorem Dev.raiseAt_rings (d : Dev) (st : Stamp) (ev : Ev) (src : Src) (cls : Nat) (pay : List Byte) : (d.raiseAt st ev src cls pay).rings = d.rings := by unfold Dev.raiseAt; split <;> rfl
@[simp] theorem Dev.raiseAt_vectors (d : Dev) (st : Stamp) (ev : Ev) (src : Src) (cls : Nat) (pay : List Byte) : (d.raiseAt st ev src cls pay).vectors = d.vectors := by unfold Dev.raiseAt; split <;> rfl
@[simp] theorem Dev.raiseAt_freeCtr (d : Dev) (st : Stamp) (ev : Ev) (src : Src) (cls : Nat) (pay : List Byte) : (d.raiseAt st ev src cls pay).freeCtr = d.freeCtr := by unfold Dev.raiseAt; split <;> rfl
@[simp] theorem Dev.raiseAt_logq (d : Dev) (st : Stamp) (ev : Ev) (src : Src) (cls : Nat) (pay : List Byte) : (d.raiseAt st ev src cls pay).logq = d.logq := by unfold Dev.raiseAt; split <;> rfl
@[simp] theorem Dev.raiseAt_kvt (d : Dev) (st : Stamp) (ev : Ev) (src : Src) (cls : Nat) (pay : List Byte) : (d.raiseAt st ev src cls pay).kvt = d.kvt := by unfold Dev.raiseAt; split <;> rfl
@[simp] theorem Dev.raiseAt_kvtLost (d : Dev) (st : Stamp) (ev : Ev) (src : Src) (cls : Nat) (pay : List Byte) : (d.raiseAt st ev src cls pay).kvtLost = d.kvtLost := by unfold Dev.raiseAt; split <;> rfl
@[simp] theorem Dev.raiseAt_kvtTx (d : Dev) (st : Stamp) (ev : Ev) (src : Src) (cls : Nat) (pay : List Byte) : (d.raiseAt st ev src cls pay).kvtTx = d.kvtTx := by unfold Dev.raiseAt; split <;> rfl
@[simp] theorem Dev.raiseAt_secs (d : Dev) (st : Stamp) (ev : Ev) (src : Src) (cls : Nat) (pay : List Byte) : (d.raiseAt st ev src cls pay).secs = d.secs := by unfold Dev.raiseAt; split <;> rfl
@[simp] theorem Dev.raiseAt_heads (d : Dev) (st : Stamp) (ev : Ev) (src : Src) (cls : Nat) (pay : List Byte) : (d.raiseAt st ev src cls pay).heads = d.heads := by unfold Dev.raiseAt; split <;> rfl
@[simp] theorem Dev.raiseAt_decq (d : Dev) (st : Stamp) (ev : Ev) (src : Src) (cls : Nat) (pay : List Byte) : (d.raiseAt st ev src cls pay).decq = d.decq := by unfold Dev.raiseAt; split <;> rfl
@[simp] theorem Dev.raiseAt_fine (d : Dev) (st : Stamp) (ev : Ev) (src : Src) (cls : Nat) (pay : List Byte) : (d.raiseAt st ev src cls pay).fine = d.fine := by unfold Dev.raiseAt; split <;> rfl
@[simp] theorem Dev.raiseAt_chans (d : Dev) (st : Stamp) (ev : Ev) (src : Src) (cls : Nat) (pay : List Byte) : (d.raiseAt st ev src cls pay).chans = d.chans := by unfold Dev.raiseAt; split <;> rfl
@[simp] theorem Dev.raiseAt_auxs (d : Dev) (st : Stamp) (ev : Ev) (src : Src) (cls : Nat) (pay : List Byte) : (d.raiseAt st ev src cls pay).auxs = d.auxs := by unfold Dev.raiseAt; split <;> rfl
@[simp] theorem Dev.raiseAt_banks (d : Dev) (st : Stamp) (ev : Ev) (src : Src) (cls : Nat) (pay : List Byte) : (d.raiseAt st ev src cls pay).banks = d.banks := by unfold Dev.raiseAt; split <;> rfl
@[simp] theorem Dev.raiseAt_pins (d : Dev) (st : Stamp) (ev : Ev) (src : Src) (cls : Nat) (pay : List Byte) : (d.raiseAt st ev src cls pay).pins = d.pins := by unfold Dev.raiseAt; split <;> rfl
@[simp] theorem Dev.raiseAt_strmq (d : Dev) (st : Stamp) (ev : Ev) (src : Src) (cls : Nat) (pay : List Byte) : (d.raiseAt st ev src cls pay).strmq = d.strmq := by unfold Dev.raiseAt; split <;> rfl
@[simp] theorem Dev.raiseAt_recs (d : Dev) (st : Stamp) (ev : Ev) (src : Src) (cls : Nat) (pay : List Byte) : (d.raiseAt st ev src cls pay).recs = d.recs := by unfold Dev.raiseAt; split <;> rfl
@[simp] theorem Dev.raiseAt_recsAt (d : Dev) (st : Stamp) (ev : Ev) (src : Src) (cls : Nat) (pay : List Byte) : (d.raiseAt st ev src cls pay).recsAt = d.recsAt := by unfold Dev.raiseAt; split <;> rfl
@[simp] theorem Dev.raiseAt_mons (d : Dev) (st : Stamp) (ev : Ev) (src : Src) (cls : Nat) (pay : List Byte) : (d.raiseAt st ev src cls pay).mons = d.mons := by unfold Dev.raiseAt; split <;> rfl
@[simp] theorem Dev.raiseAt_winIn (d : Dev) (st : Stamp) (ev : Ev) (src : Src) (cls : Nat) (pay : List Byte) : (d.raiseAt st ev src cls pay).winIn = d.winIn := by unfold Dev.raiseAt; split <;> rfl
@[simp] theorem Dev.raiseAt_gens (d : Dev) (st : Stamp) (ev : Ev) (src : Src) (cls : Nat) (pay : List Byte) : (d.raiseAt st ev src cls pay).gens = d.gens := by unfold Dev.raiseAt; split <;> rfl
@[simp] theorem Dev.raiseAt_ssos (d : Dev) (st : Stamp) (ev : Ev) (src : Src) (cls : Nat) (pay : List Byte) : (d.raiseAt st ev src cls pay).ssos = d.ssos := by unfold Dev.raiseAt; split <;> rfl
@[simp] theorem Dev.raiseAt_lineOff (d : Dev) (st : Stamp) (ev : Ev) (src : Src) (cls : Nat) (pay : List Byte) : (d.raiseAt st ev src cls pay).lineOff = d.lineOff := by unfold Dev.raiseAt; split <;> rfl
@[simp] theorem Dev.raiseAt_dacNext (d : Dev) (st : Stamp) (ev : Ev) (src : Src) (cls : Nat) (pay : List Byte) : (d.raiseAt st ev src cls pay).dacNext = d.dacNext := by unfold Dev.raiseAt; split <;> rfl
@[simp] theorem Dev.raiseAt_tripq (d : Dev) (st : Stamp) (ev : Ev) (src : Src) (cls : Nat) (pay : List Byte) : (d.raiseAt st ev src cls pay).tripq = d.tripq := by unfold Dev.raiseAt; split <;> rfl
@[simp] theorem Dev.raiseAt_lamps (d : Dev) (st : Stamp) (ev : Ev) (src : Src) (cls : Nat) (pay : List Byte) : (d.raiseAt st ev src cls pay).lamps = d.lamps := by unfold Dev.raiseAt; split <;> rfl
@[simp] theorem Dev.raiseAt_forced (d : Dev) (st : Stamp) (ev : Ev) (src : Src) (cls : Nat) (pay : List Byte) : (d.raiseAt st ev src cls pay).forced = d.forced := by unfold Dev.raiseAt; split <;> rfl
@[simp] theorem Dev.raiseAt_sigDirty (d : Dev) (st : Stamp) (ev : Ev) (src : Src) (cls : Nat) (pay : List Byte) : (d.raiseAt st ev src cls pay).sigDirty = d.sigDirty := by unfold Dev.raiseAt; split <;> rfl
@[simp] theorem Dev.raiseAt_decAt (d : Dev) (st : Stamp) (ev : Ev) (src : Src) (cls : Nat) (pay : List Byte) : (d.raiseAt st ev src cls pay).decAt = d.decAt := by unfold Dev.raiseAt; split <;> rfl
@[simp] theorem Dev.raiseAt_headq (d : Dev) (st : Stamp) (ev : Ev) (src : Src) (cls : Nat) (pay : List Byte) : (d.raiseAt st ev src cls pay).headq = d.headq := by unfold Dev.raiseAt; split <;> rfl
@[simp] theorem Dev.raiseAt_sis (d : Dev) (st : Stamp) (ev : Ev) (src : Src) (cls : Nat) (pay : List Byte) : (d.raiseAt st ev src cls pay).sis = d.sis := by unfold Dev.raiseAt; split <;> rfl
@[simp] theorem Dev.raiseAt_tps (d : Dev) (st : Stamp) (ev : Ev) (src : Src) (cls : Nat) (pay : List Byte) : (d.raiseAt st ev src cls pay).tps = d.tps := by unfold Dev.raiseAt; split <;> rfl
@[simp] theorem Dev.raiseAt_fbs (d : Dev) (st : Stamp) (ev : Ev) (src : Src) (cls : Nat) (pay : List Byte) : (d.raiseAt st ev src cls pay).fbs = d.fbs := by unfold Dev.raiseAt; split <;> rfl
@[simp] theorem Dev.raiseAt_soAt (d : Dev) (st : Stamp) (ev : Ev) (src : Src) (cls : Nat) (pay : List Byte) : (d.raiseAt st ev src cls pay).soAt = d.soAt := by unfold Dev.raiseAt; split <;> rfl
@[simp] theorem Dev.raiseAt_soFb (d : Dev) (st : Stamp) (ev : Ev) (src : Src) (cls : Nat) (pay : List Byte) : (d.raiseAt st ev src cls pay).soFb = d.soFb := by unfold Dev.raiseAt; split <;> rfl
@[simp] theorem Dev.raiseAt_siMv (d : Dev) (st : Stamp) (ev : Ev) (src : Src) (cls : Nat) (pay : List Byte) : (d.raiseAt st ev src cls pay).siMv = d.siMv := by unfold Dev.raiseAt; split <;> rfl
@[simp] theorem Dev.raiseAt_safeSent (d : Dev) (st : Stamp) (ev : Ev) (src : Src) (cls : Nat) (pay : List Byte) : (d.raiseAt st ev src cls pay).safeSent = d.safeSent := by unfold Dev.raiseAt; split <;> rfl
@[simp] theorem Dev.raiseAt_sers (d : Dev) (st : Stamp) (ev : Ev) (src : Src) (cls : Nat) (pay : List Byte) : (d.raiseAt st ev src cls pay).sers = d.sers := by unfold Dev.raiseAt; split <;> rfl
@[simp] theorem Dev.raiseAt_nets (d : Dev) (st : Stamp) (ev : Ev) (src : Src) (cls : Nat) (pay : List Byte) : (d.raiseAt st ev src cls pay).nets = d.nets := by unfold Dev.raiseAt; split <;> rfl
@[simp] theorem Dev.raiseAt_laneLock (d : Dev) (st : Stamp) (ev : Ev) (src : Src) (cls : Nat) (pay : List Byte) : (d.raiseAt st ev src cls pay).laneLock = d.laneLock := by unfold Dev.raiseAt; split <;> rfl
@[simp] theorem Dev.raiseAt_appq (d : Dev) (st : Stamp) (ev : Ev) (src : Src) (cls : Nat) (pay : List Byte) : (d.raiseAt st ev src cls pay).appq = d.appq := by unfold Dev.raiseAt; split <;> rfl
@[simp] theorem Dev.raiseAt_twin (d : Dev) (st : Stamp) (ev : Ev) (src : Src) (cls : Nat) (pay : List Byte) : (d.raiseAt st ev src cls pay).twin = d.twin := by unfold Dev.raiseAt; split <;> rfl

@[simp] theorem Dev.raise_part (d : Dev) (ev : Ev) (src : Src) (pay : List Byte) : (d.raise ev src pay).part = d.part := by simp [Dev.raise]
@[simp] theorem Dev.raise_now (d : Dev) (ev : Ev) (src : Src) (pay : List Byte) : (d.raise ev src pay).now = d.now := by simp [Dev.raise]
@[simp] theorem Dev.raise_shadow (d : Dev) (ev : Ev) (src : Src) (pay : List Byte) : (d.raise ev src pay).shadow = d.shadow := by simp [Dev.raise]
@[simp] theorem Dev.raise_causes (d : Dev) (ev : Ev) (src : Src) (pay : List Byte) : (d.raise ev src pay).causes = d.causes := by simp [Dev.raise]
@[simp] theorem Dev.raise_egExpiry (d : Dev) (ev : Ev) (src : Src) (pay : List Byte) : (d.raise ev src pay).egExpiry = d.egExpiry := by simp [Dev.raise]
@[simp] theorem Dev.raise_egDirty (d : Dev) (ev : Ev) (src : Src) (pay : List Byte) : (d.raise ev src pay).egDirty = d.egDirty := by simp [Dev.raise]
@[simp] theorem Dev.raise_startq (d : Dev) (ev : Ev) (src : Src) (pay : List Byte) : (d.raise ev src pay).startq = d.startq := by simp [Dev.raise]
@[simp] theorem Dev.raise_clocks (d : Dev) (ev : Ev) (src : Src) (pay : List Byte) : (d.raise ev src pay).clocks = d.clocks := by simp [Dev.raise]
@[simp] theorem Dev.raise_power (d : Dev) (ev : Ev) (src : Src) (pay : List Byte) : (d.raise ev src pay).power = d.power := by simp [Dev.raise]
@[simp] theorem Dev.raise_boot (d : Dev) (ev : Ev) (src : Src) (pay : List Byte) : (d.raise ev src pay).boot = d.boot := by simp [Dev.raise]
@[simp] theorem Dev.raise_rings (d : Dev) (ev : Ev) (src : Src) (pay : List Byte) : (d.raise ev src pay).rings = d.rings := by simp [Dev.raise]
@[simp] theorem Dev.raise_vectors (d : Dev) (ev : Ev) (src : Src) (pay : List Byte) : (d.raise ev src pay).vectors = d.vectors := by simp [Dev.raise]
@[simp] theorem Dev.raise_freeCtr (d : Dev) (ev : Ev) (src : Src) (pay : List Byte) : (d.raise ev src pay).freeCtr = d.freeCtr := by simp [Dev.raise]
@[simp] theorem Dev.raise_logq (d : Dev) (ev : Ev) (src : Src) (pay : List Byte) : (d.raise ev src pay).logq = d.logq := by simp [Dev.raise]
@[simp] theorem Dev.raise_kvt (d : Dev) (ev : Ev) (src : Src) (pay : List Byte) : (d.raise ev src pay).kvt = d.kvt := by simp [Dev.raise]
@[simp] theorem Dev.raise_kvtLost (d : Dev) (ev : Ev) (src : Src) (pay : List Byte) : (d.raise ev src pay).kvtLost = d.kvtLost := by simp [Dev.raise]
@[simp] theorem Dev.raise_kvtTx (d : Dev) (ev : Ev) (src : Src) (pay : List Byte) : (d.raise ev src pay).kvtTx = d.kvtTx := by simp [Dev.raise]
@[simp] theorem Dev.raise_secs (d : Dev) (ev : Ev) (src : Src) (pay : List Byte) : (d.raise ev src pay).secs = d.secs := by simp [Dev.raise]
@[simp] theorem Dev.raise_heads (d : Dev) (ev : Ev) (src : Src) (pay : List Byte) : (d.raise ev src pay).heads = d.heads := by simp [Dev.raise]
@[simp] theorem Dev.raise_decq (d : Dev) (ev : Ev) (src : Src) (pay : List Byte) : (d.raise ev src pay).decq = d.decq := by simp [Dev.raise]
@[simp] theorem Dev.raise_fine (d : Dev) (ev : Ev) (src : Src) (pay : List Byte) : (d.raise ev src pay).fine = d.fine := by simp [Dev.raise]
@[simp] theorem Dev.raise_chans (d : Dev) (ev : Ev) (src : Src) (pay : List Byte) : (d.raise ev src pay).chans = d.chans := by simp [Dev.raise]
@[simp] theorem Dev.raise_auxs (d : Dev) (ev : Ev) (src : Src) (pay : List Byte) : (d.raise ev src pay).auxs = d.auxs := by simp [Dev.raise]
@[simp] theorem Dev.raise_banks (d : Dev) (ev : Ev) (src : Src) (pay : List Byte) : (d.raise ev src pay).banks = d.banks := by simp [Dev.raise]
@[simp] theorem Dev.raise_pins (d : Dev) (ev : Ev) (src : Src) (pay : List Byte) : (d.raise ev src pay).pins = d.pins := by simp [Dev.raise]
@[simp] theorem Dev.raise_strmq (d : Dev) (ev : Ev) (src : Src) (pay : List Byte) : (d.raise ev src pay).strmq = d.strmq := by simp [Dev.raise]
@[simp] theorem Dev.raise_recs (d : Dev) (ev : Ev) (src : Src) (pay : List Byte) : (d.raise ev src pay).recs = d.recs := by simp [Dev.raise]
@[simp] theorem Dev.raise_recsAt (d : Dev) (ev : Ev) (src : Src) (pay : List Byte) : (d.raise ev src pay).recsAt = d.recsAt := by simp [Dev.raise]
@[simp] theorem Dev.raise_mons (d : Dev) (ev : Ev) (src : Src) (pay : List Byte) : (d.raise ev src pay).mons = d.mons := by simp [Dev.raise]
@[simp] theorem Dev.raise_winIn (d : Dev) (ev : Ev) (src : Src) (pay : List Byte) : (d.raise ev src pay).winIn = d.winIn := by simp [Dev.raise]
@[simp] theorem Dev.raise_gens (d : Dev) (ev : Ev) (src : Src) (pay : List Byte) : (d.raise ev src pay).gens = d.gens := by simp [Dev.raise]
@[simp] theorem Dev.raise_ssos (d : Dev) (ev : Ev) (src : Src) (pay : List Byte) : (d.raise ev src pay).ssos = d.ssos := by simp [Dev.raise]
@[simp] theorem Dev.raise_lineOff (d : Dev) (ev : Ev) (src : Src) (pay : List Byte) : (d.raise ev src pay).lineOff = d.lineOff := by simp [Dev.raise]
@[simp] theorem Dev.raise_dacNext (d : Dev) (ev : Ev) (src : Src) (pay : List Byte) : (d.raise ev src pay).dacNext = d.dacNext := by simp [Dev.raise]
@[simp] theorem Dev.raise_tripq (d : Dev) (ev : Ev) (src : Src) (pay : List Byte) : (d.raise ev src pay).tripq = d.tripq := by simp [Dev.raise]
@[simp] theorem Dev.raise_lamps (d : Dev) (ev : Ev) (src : Src) (pay : List Byte) : (d.raise ev src pay).lamps = d.lamps := by simp [Dev.raise]
@[simp] theorem Dev.raise_forced (d : Dev) (ev : Ev) (src : Src) (pay : List Byte) : (d.raise ev src pay).forced = d.forced := by simp [Dev.raise]
@[simp] theorem Dev.raise_sigDirty (d : Dev) (ev : Ev) (src : Src) (pay : List Byte) : (d.raise ev src pay).sigDirty = d.sigDirty := by simp [Dev.raise]
@[simp] theorem Dev.raise_decAt (d : Dev) (ev : Ev) (src : Src) (pay : List Byte) : (d.raise ev src pay).decAt = d.decAt := by simp [Dev.raise]
@[simp] theorem Dev.raise_headq (d : Dev) (ev : Ev) (src : Src) (pay : List Byte) : (d.raise ev src pay).headq = d.headq := by simp [Dev.raise]
@[simp] theorem Dev.raise_sis (d : Dev) (ev : Ev) (src : Src) (pay : List Byte) : (d.raise ev src pay).sis = d.sis := by simp [Dev.raise]
@[simp] theorem Dev.raise_tps (d : Dev) (ev : Ev) (src : Src) (pay : List Byte) : (d.raise ev src pay).tps = d.tps := by simp [Dev.raise]
@[simp] theorem Dev.raise_fbs (d : Dev) (ev : Ev) (src : Src) (pay : List Byte) : (d.raise ev src pay).fbs = d.fbs := by simp [Dev.raise]
@[simp] theorem Dev.raise_soAt (d : Dev) (ev : Ev) (src : Src) (pay : List Byte) : (d.raise ev src pay).soAt = d.soAt := by simp [Dev.raise]
@[simp] theorem Dev.raise_soFb (d : Dev) (ev : Ev) (src : Src) (pay : List Byte) : (d.raise ev src pay).soFb = d.soFb := by simp [Dev.raise]
@[simp] theorem Dev.raise_siMv (d : Dev) (ev : Ev) (src : Src) (pay : List Byte) : (d.raise ev src pay).siMv = d.siMv := by simp [Dev.raise]
@[simp] theorem Dev.raise_safeSent (d : Dev) (ev : Ev) (src : Src) (pay : List Byte) : (d.raise ev src pay).safeSent = d.safeSent := by simp [Dev.raise]
@[simp] theorem Dev.raise_sers (d : Dev) (ev : Ev) (src : Src) (pay : List Byte) : (d.raise ev src pay).sers = d.sers := by simp [Dev.raise]
@[simp] theorem Dev.raise_nets (d : Dev) (ev : Ev) (src : Src) (pay : List Byte) : (d.raise ev src pay).nets = d.nets := by simp [Dev.raise]
@[simp] theorem Dev.raise_laneLock (d : Dev) (ev : Ev) (src : Src) (pay : List Byte) : (d.raise ev src pay).laneLock = d.laneLock := by simp [Dev.raise]
@[simp] theorem Dev.raise_appq (d : Dev) (ev : Ev) (src : Src) (pay : List Byte) : (d.raise ev src pay).appq = d.appq := by simp [Dev.raise]
@[simp] theorem Dev.raise_twin (d : Dev) (ev : Ev) (src : Src) (pay : List Byte) : (d.raise ev src pay).twin = d.twin := by simp [Dev.raise]

@[simp] theorem Dev.note_part (d : Dev) (ev : Ev) (src : Src) (rel : Nat) (pay : List Byte) : (d.note ev src rel pay).part = d.part := by simp [Dev.note]
@[simp] theorem Dev.note_now (d : Dev) (ev : Ev) (src : Src) (rel : Nat) (pay : List Byte) : (d.note ev src rel pay).now = d.now := by simp [Dev.note]
@[simp] theorem Dev.note_shadow (d : Dev) (ev : Ev) (src : Src) (rel : Nat) (pay : List Byte) : (d.note ev src rel pay).shadow = d.shadow := by simp [Dev.note]
@[simp] theorem Dev.note_causes (d : Dev) (ev : Ev) (src : Src) (rel : Nat) (pay : List Byte) : (d.note ev src rel pay).causes = d.causes := by simp [Dev.note]
@[simp] theorem Dev.note_egExpiry (d : Dev) (ev : Ev) (src : Src) (rel : Nat) (pay : List Byte) : (d.note ev src rel pay).egExpiry = d.egExpiry := by simp [Dev.note]
@[simp] theorem Dev.note_egDirty (d : Dev) (ev : Ev) (src : Src) (rel : Nat) (pay : List Byte) : (d.note ev src rel pay).egDirty = d.egDirty := by simp [Dev.note]
@[simp] theorem Dev.note_startq (d : Dev) (ev : Ev) (src : Src) (rel : Nat) (pay : List Byte) : (d.note ev src rel pay).startq = d.startq := by simp [Dev.note]
@[simp] theorem Dev.note_clocks (d : Dev) (ev : Ev) (src : Src) (rel : Nat) (pay : List Byte) : (d.note ev src rel pay).clocks = d.clocks := by simp [Dev.note]
@[simp] theorem Dev.note_power (d : Dev) (ev : Ev) (src : Src) (rel : Nat) (pay : List Byte) : (d.note ev src rel pay).power = d.power := by simp [Dev.note]
@[simp] theorem Dev.note_boot (d : Dev) (ev : Ev) (src : Src) (rel : Nat) (pay : List Byte) : (d.note ev src rel pay).boot = d.boot := by simp [Dev.note]
@[simp] theorem Dev.note_rings (d : Dev) (ev : Ev) (src : Src) (rel : Nat) (pay : List Byte) : (d.note ev src rel pay).rings = d.rings := by simp [Dev.note]
@[simp] theorem Dev.note_vectors (d : Dev) (ev : Ev) (src : Src) (rel : Nat) (pay : List Byte) : (d.note ev src rel pay).vectors = d.vectors := by simp [Dev.note]
@[simp] theorem Dev.note_freeCtr (d : Dev) (ev : Ev) (src : Src) (rel : Nat) (pay : List Byte) : (d.note ev src rel pay).freeCtr = d.freeCtr := by simp [Dev.note]
@[simp] theorem Dev.note_logq (d : Dev) (ev : Ev) (src : Src) (rel : Nat) (pay : List Byte) : (d.note ev src rel pay).logq = d.logq := by simp [Dev.note]
@[simp] theorem Dev.note_kvt (d : Dev) (ev : Ev) (src : Src) (rel : Nat) (pay : List Byte) : (d.note ev src rel pay).kvt = d.kvt := by simp [Dev.note]
@[simp] theorem Dev.note_kvtLost (d : Dev) (ev : Ev) (src : Src) (rel : Nat) (pay : List Byte) : (d.note ev src rel pay).kvtLost = d.kvtLost := by simp [Dev.note]
@[simp] theorem Dev.note_kvtTx (d : Dev) (ev : Ev) (src : Src) (rel : Nat) (pay : List Byte) : (d.note ev src rel pay).kvtTx = d.kvtTx := by simp [Dev.note]
@[simp] theorem Dev.note_secs (d : Dev) (ev : Ev) (src : Src) (rel : Nat) (pay : List Byte) : (d.note ev src rel pay).secs = d.secs := by simp [Dev.note]
@[simp] theorem Dev.note_heads (d : Dev) (ev : Ev) (src : Src) (rel : Nat) (pay : List Byte) : (d.note ev src rel pay).heads = d.heads := by simp [Dev.note]
@[simp] theorem Dev.note_decq (d : Dev) (ev : Ev) (src : Src) (rel : Nat) (pay : List Byte) : (d.note ev src rel pay).decq = d.decq := by simp [Dev.note]
@[simp] theorem Dev.note_fine (d : Dev) (ev : Ev) (src : Src) (rel : Nat) (pay : List Byte) : (d.note ev src rel pay).fine = d.fine := by simp [Dev.note]
@[simp] theorem Dev.note_chans (d : Dev) (ev : Ev) (src : Src) (rel : Nat) (pay : List Byte) : (d.note ev src rel pay).chans = d.chans := by simp [Dev.note]
@[simp] theorem Dev.note_auxs (d : Dev) (ev : Ev) (src : Src) (rel : Nat) (pay : List Byte) : (d.note ev src rel pay).auxs = d.auxs := by simp [Dev.note]
@[simp] theorem Dev.note_banks (d : Dev) (ev : Ev) (src : Src) (rel : Nat) (pay : List Byte) : (d.note ev src rel pay).banks = d.banks := by simp [Dev.note]
@[simp] theorem Dev.note_pins (d : Dev) (ev : Ev) (src : Src) (rel : Nat) (pay : List Byte) : (d.note ev src rel pay).pins = d.pins := by simp [Dev.note]
@[simp] theorem Dev.note_strmq (d : Dev) (ev : Ev) (src : Src) (rel : Nat) (pay : List Byte) : (d.note ev src rel pay).strmq = d.strmq := by simp [Dev.note]
@[simp] theorem Dev.note_recs (d : Dev) (ev : Ev) (src : Src) (rel : Nat) (pay : List Byte) : (d.note ev src rel pay).recs = d.recs := by simp [Dev.note]
@[simp] theorem Dev.note_recsAt (d : Dev) (ev : Ev) (src : Src) (rel : Nat) (pay : List Byte) : (d.note ev src rel pay).recsAt = d.recsAt := by simp [Dev.note]
@[simp] theorem Dev.note_mons (d : Dev) (ev : Ev) (src : Src) (rel : Nat) (pay : List Byte) : (d.note ev src rel pay).mons = d.mons := by simp [Dev.note]
@[simp] theorem Dev.note_winIn (d : Dev) (ev : Ev) (src : Src) (rel : Nat) (pay : List Byte) : (d.note ev src rel pay).winIn = d.winIn := by simp [Dev.note]
@[simp] theorem Dev.note_gens (d : Dev) (ev : Ev) (src : Src) (rel : Nat) (pay : List Byte) : (d.note ev src rel pay).gens = d.gens := by simp [Dev.note]
@[simp] theorem Dev.note_ssos (d : Dev) (ev : Ev) (src : Src) (rel : Nat) (pay : List Byte) : (d.note ev src rel pay).ssos = d.ssos := by simp [Dev.note]
@[simp] theorem Dev.note_lineOff (d : Dev) (ev : Ev) (src : Src) (rel : Nat) (pay : List Byte) : (d.note ev src rel pay).lineOff = d.lineOff := by simp [Dev.note]
@[simp] theorem Dev.note_dacNext (d : Dev) (ev : Ev) (src : Src) (rel : Nat) (pay : List Byte) : (d.note ev src rel pay).dacNext = d.dacNext := by simp [Dev.note]
@[simp] theorem Dev.note_tripq (d : Dev) (ev : Ev) (src : Src) (rel : Nat) (pay : List Byte) : (d.note ev src rel pay).tripq = d.tripq := by simp [Dev.note]
@[simp] theorem Dev.note_lamps (d : Dev) (ev : Ev) (src : Src) (rel : Nat) (pay : List Byte) : (d.note ev src rel pay).lamps = d.lamps := by simp [Dev.note]
@[simp] theorem Dev.note_forced (d : Dev) (ev : Ev) (src : Src) (rel : Nat) (pay : List Byte) : (d.note ev src rel pay).forced = d.forced := by simp [Dev.note]
@[simp] theorem Dev.note_sigDirty (d : Dev) (ev : Ev) (src : Src) (rel : Nat) (pay : List Byte) : (d.note ev src rel pay).sigDirty = d.sigDirty := by simp [Dev.note]
@[simp] theorem Dev.note_decAt (d : Dev) (ev : Ev) (src : Src) (rel : Nat) (pay : List Byte) : (d.note ev src rel pay).decAt = d.decAt := by simp [Dev.note]
@[simp] theorem Dev.note_headq (d : Dev) (ev : Ev) (src : Src) (rel : Nat) (pay : List Byte) : (d.note ev src rel pay).headq = d.headq := by simp [Dev.note]
@[simp] theorem Dev.note_sis (d : Dev) (ev : Ev) (src : Src) (rel : Nat) (pay : List Byte) : (d.note ev src rel pay).sis = d.sis := by simp [Dev.note]
@[simp] theorem Dev.note_tps (d : Dev) (ev : Ev) (src : Src) (rel : Nat) (pay : List Byte) : (d.note ev src rel pay).tps = d.tps := by simp [Dev.note]
@[simp] theorem Dev.note_fbs (d : Dev) (ev : Ev) (src : Src) (rel : Nat) (pay : List Byte) : (d.note ev src rel pay).fbs = d.fbs := by simp [Dev.note]
@[simp] theorem Dev.note_soAt (d : Dev) (ev : Ev) (src : Src) (rel : Nat) (pay : List Byte) : (d.note ev src rel pay).soAt = d.soAt := by simp [Dev.note]
@[simp] theorem Dev.note_soFb (d : Dev) (ev : Ev) (src : Src) (rel : Nat) (pay : List Byte) : (d.note ev src rel pay).soFb = d.soFb := by simp [Dev.note]
@[simp] theorem Dev.note_siMv (d : Dev) (ev : Ev) (src : Src) (rel : Nat) (pay : List Byte) : (d.note ev src rel pay).siMv = d.siMv := by simp [Dev.note]
@[simp] theorem Dev.note_safeSent (d : Dev) (ev : Ev) (src : Src) (rel : Nat) (pay : List Byte) : (d.note ev src rel pay).safeSent = d.safeSent := by simp [Dev.note]
@[simp] theorem Dev.note_sers (d : Dev) (ev : Ev) (src : Src) (rel : Nat) (pay : List Byte) : (d.note ev src rel pay).sers = d.sers := by simp [Dev.note]
@[simp] theorem Dev.note_nets (d : Dev) (ev : Ev) (src : Src) (rel : Nat) (pay : List Byte) : (d.note ev src rel pay).nets = d.nets := by simp [Dev.note]
@[simp] theorem Dev.note_laneLock (d : Dev) (ev : Ev) (src : Src) (rel : Nat) (pay : List Byte) : (d.note ev src rel pay).laneLock = d.laneLock := by simp [Dev.note]
@[simp] theorem Dev.note_appq (d : Dev) (ev : Ev) (src : Src) (rel : Nat) (pay : List Byte) : (d.note ev src rel pay).appq = d.appq := by simp [Dev.note]
@[simp] theorem Dev.note_twin (d : Dev) (ev : Ev) (src : Src) (rel : Nat) (pay : List Byte) : (d.note ev src rel pay).twin = d.twin := by simp [Dev.note]

end Sys2Proof.Machine
end

