-- ==== Sys2Proof/Laws/Bus.lean ====
section
/-! SUPPORT. Laws/Bus.lean: where a register address leads, and what a full-word write of an SV pair to a register comes down to. -/

namespace Sys2Proof.Machine

/-- An address of a block's megabyte that names a register is that register's place. -/
theorem place_reg (d : Dev) (b : Blk) (off : Nat) (h4 : off % 4 = 0) (hlt : off < 0x80000)
    (hb : blkAt ((blkBase b + off) / 0x100000) = some b) (hm : (blkBase b + off) % 0x100000 = off)
    (hhole : ¬ (b = .wld ∧ O.WLD_WAT ≤ off ∧ off < O.WLD_WAT + 0x200
      ∧ ((off - O.WLD_WAT) / 4 = 47 ∨ (56 ≤ (off - O.WLD_WAT) / 4 ∧ (off - O.WLD_WAT) / 4 < 64))))
    (hf : (findReg off (regDefs b)).isSome = true) : d.place (blkBase b + off) = .reg b off := by
  have hlo : 0x10000000 ≤ blkBase b := by cases b <;> decide
  have hhi : blkBase b ≤ 0x11100000 := by cases b <;> decide
  have hret : ¬ (0x10080000 ≤ blkBase b + off ∧ blkBase b + off < 0x10081000) := by
    have : blkBase b = 0x10000000 ∨ 0x10100000 ≤ blkBase b := by cases b <;> decide
    omega
  have ho : off / 4 * 4 = off := by omega
  unfold Dev.place
  rw [if_neg (by omega), if_neg (by omega), if_neg (by omega), if_neg (by omega), if_neg (by omega), if_neg (by omega), if_neg hret,
    if_neg (by omega)]
  simp only [hb, hm, ho]
  rw [if_neg hhole]
  obtain ⟨x, hx⟩ := Option.isSome_iff_exists.1 hf
  simp only [hx]

theorem byteMask_all : (byteMask 15).toNat = 0xFFFFFFFF := by decide

/-- A full-word write of an SV pair reaches the register its address names. -/
theorem busWrite_reg (s : State) (acc : Access) (b : Blk) (off : Nat) (v : Word) (x : Aside) (hm : acc.master.val < 2)
    (hbe : acc.be = 15#4) (hp : s.dev.place (blkBase b + off) = .reg b off) (h4 : off % 4 = 0) (hlt : off < 0x80000) :
    s.busWrite acc (blkBase b + off) v x = s.regWrite true b off v.toNat 0xFFFFFFFF x := by
  have hlo : 0x10000000 ≤ blkBase b := by cases b <;> decide
  have hhi : blkBase b ≤ 0x11100000 := by cases b <;> decide
  have ha4 : (blkBase b + off) % 4 = 0 := by
    have : blkBase b % 4 = 0 := by cases b <;> decide
    omega
  have hst : s.map (fun d => d.stalled (blkBase b + off)) = s := by
    have : s.dev.stalled (blkBase b + off) = s.dev := by
      unfold Dev.stalled
      rw [if_neg (by omega)]
    simp only [State.map, this]
  have hin : inMsix acc (blkBase b + off) = false := by
    simp only [inMsix, Bool.and_eq_false_iff]
    left; left
    simp; omega
  have hone : acc.oneWord (blkBase b + off) = true := by simp [Access.oneWord, ha4, hbe]
  have hsec : s.dev.masterSecure acc = true := by simp [Dev.masterSecure, hm]
  have hmir : acc.onMirror (blkBase b + off) = false := by
    simp only [Access.onMirror, Bool.and_eq_false_iff, decide_eq_false_iff_not]
    left; left; omega
  have hmap : acc.mapped (blkBase b + off) = true := by
    have : acc.master.val ≠ 6 := by omega
    simp [Access.mapped, this]
  have hv : s.dev.violation acc (blkBase b + off) true = none := by
    simp [Dev.violation, hp, hone, hsec]
  have hen : acc.enables (blkBase b + off) = 15 := by simp [Access.enables, ha4, hbe]
  have hvl : v.toNat * 2 ^ (8 * ((blkBase b + off) % 4)) % 2 ^ 32 = v.toNat := by
    rw [ha4]
    simpa using Nat.mod_eq_of_lt v.isLt
  unfold State.busWrite
  simp only [hst, hin, hmir, hmap, Bool.not_true, Bool.false_eq_true, if_false, hv, hp, hsec, hen, hvl, byteMask_all]

/-- A full-word write that the register takes stores the word, and then what follows from it happens. -/
theorem regWrite_taken (s : State) (b : Blk) (off : Nat) (v : Word) (x : Aside) (r : RegDef) (i j : Nat)
    (hf : findReg off (regDefs b) = some (r, i, j)) (ha : absentReg s.dev.part b off = false) (hu : ¬ (b = .ser ∧ off / 0x80 = 7))
    (ht : r.touched (s.dev.writable b off v.toNat 0xFFFFFFFF) true (s.dev.on F.BOT_STATUS.LOCKED) = true) :
    s.regWrite true b off v.toNat 0xFFFFFFFF x
      = (s.map (fun d => d.storeReg r b off v.toNat (s.dev.writable b off v.toNat 0xFFFFFFFF) x.hw.toNat true)).afterWrite s.dev b off
        (r.woBits v.toNat (s.dev.writable b off v.toNat 0xFFFFFFFF)) (s.dev.writable b off v.toNat 0xFFFFFFFF) x.back := by
  have hu' : (decide (b = .ser) && decide (off / 0x80 = 7)) = false := by
    simpa [Bool.and_eq_false_iff, Decidable.not_and_iff_or_not] using hu
  unfold State.regWrite
  simp only [hf, ha, ht, Bool.false_or, Bool.not_true, Bool.or_false]
  rw [if_neg]
  simp only [Bool.not_eq_true]
  simpa using hu'

/-- A full-word write that the register does not take changes nothing. -/
theorem regWrite_untouched (s : State) (b : Blk) (off : Nat) (v : Word) (x : Aside) (r : RegDef) (i j : Nat)
    (hf : findReg off (regDefs b) = some (r, i, j))
    (ht : absentReg s.dev.part b off = true
      ∨ r.touched (s.dev.writable b off v.toNat 0xFFFFFFFF) true (s.dev.on F.BOT_STATUS.LOCKED) = false) :
    s.regWrite true b off v.toNat 0xFFFFFFFF x = s := by
  unfold State.regWrite
  simp only [hf]
  rw [if_pos]
  rcases ht with h | h
  · simp [h]
  · simp [h]

end Sys2Proof.Machine
end

