-- ==== Sys2Proof/Laws/Events.lean ====
section
/-! SUPPORT. Laws/Events.lean: frames of the shared operations that raise records and faults: which registers each may write. -/

namespace Sys2Proof.Machine

theorem sameRegsBut.setReg {l : List (Blk × Nat)} {a d : Dev} (h : sameRegsBut l a d) (b : Blk) (off : Nat) (v : Word) (hm : (b, off) ∈ l) :
    sameRegsBut l a (d.setReg b off v) := h.trans (sameRegsBut_setReg l d b off v hm)

theorem sameRegsBut.setFld {l : List (Blk × Nat)} {a d : Dev} (h : sameRegsBut l a d) (f : Fld) (v : Nat) (hm : f.place ∈ l) :
    sameRegsBut l a (d.setFld f v) := h.trans (sameRegsBut_setFld l d f v hm)

theorem sameRegsBut.setBit {l : List (Blk × Nat)} {a d : Dev} (h : sameRegsBut l a d) (f : Fld) (v : Bool) (hm : f.place ∈ l) :
    sameRegsBut l a (d.setBit f v) := h.setFld f _ hm

theorem sameRegsBut.inc {l : List (Blk × Nat)} {a d : Dev} (h : sameRegsBut l a d) (f : Fld) (n : Nat) (hm : f.place ∈ l) :
    sameRegsBut l a (d.inc f n) := h.setFld f _ hm

theorem sameRegsBut.incWrap {l : List (Blk × Nat)} {a d : Dev} (h : sameRegsBut l a d) (f : Fld) (n : Nat) (hm : f.place ∈ l) :
    sameRegsBut l a (d.incWrap f n) := h.setFld f _ hm

theorem sameRegsBut.incPair {l : List (Blk × Nat)} {a d : Dev} (h : sameRegsBut l a d) (lo hi : Fld) (n : Nat) (hlo : lo.place ∈ l)
    (hhi : hi.place ∈ l) : sameRegsBut l a (d.incPair lo hi n) := (h.setFld lo _ hlo).setFld hi _ hhi

/-- A change that leaves the register file and the part alone leaves every register alone. -/
theorem sameRegsBut.upd {l : List (Blk × Nat)} {a d d' : Dev} (h : sameRegsBut l a d) (hr : d'.regs = d.regs) (hp : d'.part = d.part) :
    sameRegsBut l a d' := h.trans (sameRegsBut_of_regs hr hp)

theorem sameRegsBut.pend {l : List (Blk × Nat)} {a d : Dev} (h : sameRegsBut l a d) (n : Nat) (x : Bool) : sameRegsBut l a (d.pend n x) := by
  cases x <;> exact h.upd rfl rfl

/-- Raising a record writes its counters alone. -/
theorem sameRegsBut.raiseAt {l : List (Blk × Nat)} {a d : Dev} (h : sameRegsBut l a d) (st : Stamp) (ev : Ev) (src : Src) (cls : Nat)
    (pay : List Byte) (hm : eventRegs cls ⊆ l) : sameRegsBut l a (d.raiseAt st ev src cls pay) := by
  unfold Dev.raiseAt
  have h1 := (h.inc (F.FLT_CLASS_CNT.COUNT cls) 1 (hm (by simp [eventRegs]))).incPair F.EVT_CNT_LO.V F.EVT_CNT_HI.V 1
    (hm (by simp [eventRegs])) (hm (by simp [eventRegs]))
  by_cases hc : cls = 0
  · simp only [hc, if_true] at h1 ⊢
    exact h1.upd rfl rfl
  · simp only [hc, if_false]
    exact (h1.pend 67 false).upd rfl rfl

theorem sameRegsBut.raise {l : List (Blk × Nat)} {a d : Dev} (h : sameRegsBut l a d) (ev : Ev) (src : Src) (pay : List Byte)
    (hm : eventRegs (evClass ev) ⊆ l) : sameRegsBut l a (d.raise ev src pay) := h.raiseAt _ _ _ _ _ hm

theorem sameRegsBut.note {l : List (Blk × Nat)} {a d : Dev} (h : sameRegsBut l a d) (ev : Ev) (src : Src) (related : Nat)
    (detail : List Byte) (hm : eventRegs (evClass ev) ⊆ l) : sameRegsBut l a (d.note ev src related detail) := h.raise _ _ _ hm

theorem sameRegsBut.underGroups {l : List (Blk × Nat)} {a d : Dev} (h : sameRegsBut l a d) (g : Nat)
    (hm : F.FLT_STATE.F3_GROUPS.place ∈ l) : sameRegsBut l a (d.underGroups g) := h.setFld _ _ hm

theorem sameRegsBut.logOutage {l : List (Blk × Nat)} {a d : Dev} (h : sameRegsBut l a d) (kind mask : Nat) :
    sameRegsBut l a (d.logOutage kind mask) := h.upd rfl rfl

theorem sameRegsBut.ite {l : List (Blk × Nat)} {a d e : Dev} {p : Prop} [Decidable p] (h : sameRegsBut l a d) (h' : sameRegsBut l a e) :
    sameRegsBut l a (if p then d else e) := by
  split
  · exact h
  · exact h'

theorem sameRegsBut.safeState {l : List (Blk × Nat)} {a d : Dev} (h : sameRegsBut l a d) (cls : Nat) (ev : Ev) (src : Src)
    (h1 : F.FLT_STATE.DEV_STATE.place ∈ l) (h2 : F.FLT_FIRST_CAUSE.CODE.place ∈ l) (h3 : F.FLT_FIRST_TIME_LO.TIME_LO.place ∈ l)
    (h4 : F.FLT_FIRST_TIME_HI.TIME_HI.place ∈ l) : sameRegsBut l a (d.safeState cls ev src) := by
  have h2' : F.FLT_FIRST_CAUSE.SOURCE.place ∈ l := h2
  unfold Dev.safeState
  refine sameRegsBut.ite (sameRegsBut.upd (sameRegsBut.ite ?_ h) rfl rfl) (sameRegsBut.setFld (sameRegsBut.upd (sameRegsBut.ite ?_ h) rfl rfl) F.FLT_STATE.DEV_STATE _ h1)
  all_goals
    exact ((((h.setFld F.FLT_FIRST_CAUSE.CODE _ h2).setFld F.FLT_FIRST_CAUSE.SOURCE _ h2').setFld F.FLT_FIRST_TIME_LO.TIME_LO _ h3).setFld
      F.FLT_FIRST_TIME_HI.TIME_HI _ h4).logOutage _ _

/-- Raising a fault writes the registers of its record and of its reaction alone. -/
theorem sameRegsBut.fault {l : List (Blk × Nat)} {a d : Dev} (h : sameRegsBut l a d) (ev : Ev) (src : Src) (sub related : Nat)
    (detail : List Byte) (st : Stamp) (hm : faultRegs (evClass ev) ⊆ l) : sameRegsBut l a (d.fault ev src sub related detail st) := by
  have he : eventRegs (evClass ev) ⊆ l := fun x hx => hm (List.mem_append_left _ hx)
  have hs : ∀ x ∈ [F.FLT_STATE.DEV_STATE.place, F.FLT_FIRST_CAUSE.CODE.place, F.FLT_FIRST_TIME_LO.TIME_LO.place,
      F.FLT_FIRST_TIME_HI.TIME_HI.place], x ∈ l := fun x hx => hm (List.mem_append_right _ hx)
  have h1 := hs _ (by simp : F.FLT_STATE.DEV_STATE.place ∈ _)
  have h2 := hs _ (by simp : F.FLT_FIRST_CAUSE.CODE.place ∈ _)
  have h3 := hs _ (by simp : F.FLT_FIRST_TIME_LO.TIME_LO.place ∈ _)
  have h4 := hs _ (by simp : F.FLT_FIRST_TIME_HI.TIME_HI.place ∈ _)
  unfold Dev.fault
  refine sameRegsBut.ite h (sameRegsBut.raiseAt ?_ _ _ _ _ _ he)
  have hk : ∀ c : Cause, sameRegsBut l a (d.keep c) := fun c => h.upd rfl rfl
  exact sameRegsBut.ite (sameRegsBut.safeState (sameRegsBut.ite ((hk _).underGroups _ h1) (hk _)) _ _ _ h1 h2 h3 h4)
    (sameRegsBut.ite ((hk _).underGroups _ h1) (hk _))

end Sys2Proof.Machine
end

