-- ==== Sys2Proof/Laws/Run.lean ====
section
/-! SUPPORT. Laws/Run.lean: the wrapping of every command: its own effect at the moment of the command, then what follows of itself. -/

namespace Sys2Proof.Machine

theorem State.run_on {s : State} (h : Runs s) (t : Stamp) (ns : Nat) (f : State → State) :
    s.run t ns f = (f (s.moment t ns)).finish := by
  unfold State.run
  exact if_pos h

theorem State.moment_eq {s : State} {t : Stamp} {ns : Nat} {a : Dev} (h : At s t ns a) : s.moment t ns = { s with dev := a } := by
  obtain ⟨-, rfl⟩ := h
  rfl

/-- A command of the running evaluator does what its effect does at the moment of the command. -/
theorem does_run {s : State} {t : Stamp} {ns : Nat} {a : Dev} (h : At s t ns a) {f : State → State} {u : State}
    (hu : f { s with dev := a } = u) : Does (.next (s.run t ns f)) u := by
  unfold Does
  rw [State.run_on h.1, State.moment_eq h, hu]

/-- A command on the device alone. -/
theorem does_runDev {s : State} {t : Stamp} {ns : Nat} {a d : Dev} (h : At s t ns a) {f : Dev → Dev} (hd : f a = d) :
    Does (.next (s.runDev t ns f)) { s with dev := d } := by
  unfold State.runDev
  refine does_run h ?_
  simp only [State.map, hd]

/-- What a command on the device alone turns it into. -/
theorem turns_runDev {s : State} {t : Stamp} {ns : Nat} {a d : Dev} {l : List (Blk × Nat)} (h : At s t ns a) {f : Dev → Dev}
    (hd : f a = d) (hl : sameRegsBut l a d) : Turns (.next (s.runDev t ns f)) s l a d :=
  ⟨does_runDev h hd, hl⟩

/-- A ring command that is taken and passes the checks of its world and of its parameters does what its engine does, and completes. -/
theorem does_runCmd {s : State} {t : Stamp} {a : Dev} {c : Cmd} {used : List Nat} (h : At s t 0 a) (hg : Granted a c used) {ok : Bool}
    (hok : ok = true) {act : State → State × Done} {u : State} {x : Done} (hu : act { s with dev := a } = (u, x)) :
    Does (.next (s.run t 0 (fun s => s.runCmd c (s.dev.secureCmds c.ring.val) ok act))) (u.complete c x.code x.detail) := by
  refine does_run h ?_
  obtain ⟨⟨h1, h2, h3⟩, h4, -⟩ := hg
  simp only [State.runCmd, h1, h2, h3, h4, hok, hu, State.finishCmd]
  rfl

/-- The same of an engine that acts on the device alone. -/
theorem ends_runCmd {s : State} {t : Stamp} {a d : Dev} {c : Cmd} {used : List Nat} {l : List (Blk × Nat)} (h : At s t 0 a)
    (hg : Granted a c used) {ok : Bool} (hok : ok = true) {f : Dev → Dev × Done} {x : Done} (hu : f a = (d, x)) (hl : sameRegsBut l a d) :
    Ends (.next (s.run t 0 (fun s => s.runCmd c (s.dev.secureCmds c.ring.val) ok (onDev f)))) s c l a d x :=
  ⟨does_runCmd h hg hok (by simp only [onDev, hu]), hl⟩

/-- A write of an SV pair reaches the register that its address names. -/
theorem sv_place {s : State} {acc : Access} {b : Blk} {off : Nat} {v : Word} {x : Aside} {r : RegDef} {i j : Nat} (hsv : Sv acc)
    (hf : findReg off (regDefs b) = some (r, i, j)) (h4 : off % 4 = 0) (hlt : off < 0x80000)
    (hb : blkAt ((blkBase b + off) / 0x100000) = some b) (hm : (blkBase b + off) % 0x100000 = off)
    (hhole : ¬ (b = .wld ∧ O.WLD_WAT ≤ off ∧ off < O.WLD_WAT + 0x200
      ∧ ((off - O.WLD_WAT) / 4 = 47 ∨ (56 ≤ (off - O.WLD_WAT) / 4 ∧ (off - O.WLD_WAT) / 4 < 64)))) :
    s.busWrite acc (blkBase b + off) v x = s.regWrite true b off v.toNat 0xFFFFFFFF x := by
  have hp := place_reg s.dev b off h4 hlt hb hm hhole (by rw [hf]; rfl)
  exact busWrite_reg s acc b off v x hsv.1 hsv.2 hp h4 hlt

/-- A write of an SV pair that the register takes. -/
theorem sv_write {s : State} {acc : Access} {b : Blk} {off : Nat} {v : Word} {x : Aside} {r : RegDef} {i j : Nat} (hsv : Sv acc)
    (hf : findReg off (regDefs b) = some (r, i, j)) (h4 : off % 4 = 0) (hlt : off < 0x80000)
    (hb : blkAt ((blkBase b + off) / 0x100000) = some b) (hm : (blkBase b + off) % 0x100000 = off)
    (hhole : ¬ (b = .wld ∧ O.WLD_WAT ≤ off ∧ off < O.WLD_WAT + 0x200
      ∧ ((off - O.WLD_WAT) / 4 = 47 ∨ (56 ≤ (off - O.WLD_WAT) / 4 ∧ (off - O.WLD_WAT) / 4 < 64))))
    (hu : ¬ (b = .ser ∧ off / 0x80 = 7)) (ha : absentReg s.dev.part b off = false)
    (ht : r.touched (s.dev.writable b off v.toNat 0xFFFFFFFF) true (s.dev.on F.BOT_STATUS.LOCKED) = true) (hx : x.hw = 0) :
    s.busWrite acc (blkBase b + off) v x
      = ({ s with dev := s.dev.stored b off v }).afterWrite s.dev b off
        (r.woBits v.toNat (s.dev.writable b off v.toNat 0xFFFFFFFF)) (s.dev.writable b off v.toNat 0xFFFFFFFF) x.back := by
  rw [sv_place hsv hf h4 hlt hb hm hhole, regWrite_taken s b off v x r i j hf ha hu ht, hx]
  simp only [State.map, Dev.stored, hf]
  rfl

/-- In a block without frozen registers and fields reserved on the part, every enabled bit is writable. -/
theorem writable_all (d : Dev) (b : Blk) (off val : Nat) (h1 : deadBits d.part b off = 0) (h2 : d.frozen b off val 0xFFFFFFFF = 0) :
    d.writable b off val 0xFFFFFFFF = 0xFFFFFFFF := by
  simp [Dev.writable, h1, h2]

end Sys2Proof.Machine
end

