-- ==== Sys2Proof/Machine/Pins.lean ====
section
/-! DEFINITION. Machine/Pins.lean: what the pins of the part show in a state (Table ELP-16, R531, R533): functions of the state, beside
the registers and `out`, that a claim about a pin can name. -/

namespace Sys2Proof.Machine

/-- The core and field logic is powered and out of reset. -/
def Dev.live (d : Dev) : Bool := d.power.mode = .on

/-- VFIELD, and VDD_FLD, are in their windows (PWR_RAIL_STAT). -/
def Dev.hasVfield (d : Dev) : Bool := d.bitOf F.PWR_RAIL_STAT.IN_WINDOW 7
def Dev.hasVddFld (d : Dev) : Bool := d.bitOf F.PWR_RAIL_STAT.IN_WINDOW 6

/-- The field outputs are driven at all: low in OFF, STANDBY and reset, and without VFIELD (R531). -/
def Dev.drives (d : Dev) : Bool := d.live && d.hasVfield

/-- LMP_k_GH, LMP_k_GL, SSO_n_DRV, SO_DRV_o, whether VEN_n carries its square wave, and TP_t. -/
def Dev.outGH (d : Dev) (k : Nat) : Bool := d.drives && d.pinGH k
def Dev.outGL (d : Dev) (k : Nat) : Bool := d.drives && d.pinGL k
def Dev.outSso (d : Dev) (n : Nat) : Bool := d.drives && d.pinSso n
def Dev.outSo (d : Dev) (o : Nat) : Bool := d.drives && d.on (F.SAF_SO_STAT.DRV o)
def Dev.outVen (d : Dev) (n : Nat) : Bool := d.drives && d.venOut.testBit n
def Dev.outTp (d : Dev) (t : Nat) : Bool := d.drives && d.on (F.SAF_TP_STAT.PIN t)

/-- The excitation switch of a channel is closed; without VDD_FLD every switch is open (R531). -/
def Dev.outExc (d : Dev) (c : Nat) : Bool := d.live && d.hasVddFld && d.on (F.HAZ_CH_STAT.SWITCH_ON c)

/-- UART_n_TXD and UART_n_SCK between characters (Table SER-1): none is high impedance of TXD, and a running card clock on SCK. In reset the
ports are disabled. -/
def Dev.outTxd (d : Dev) (n : Nat) : Option Bool := if d.live then d.serTxd n else none
def Dev.outSck (d : Dev) (n : Nat) : Option Bool := if d.live then d.serSck n else some false

/-- The transmitter of a port is on: enabled, not idle in HOLD, not off in F5; a held twin port has turned its lane off (R443). -/
def Dev.outPort (d : Dev) (n : Nat) : Bool :=
  d.live && d.netRuns n && d.fld F.FLT_STATE.DEV_STATE ≠ 5 && !(d.netRole n = 0 && d.fld (F.NET_STAT.STATE n) = 4)

/-- The PCIe transmitter is on: not in HOLD or F5. -/
def Dev.outPcie (d : Dev) : Bool := d.live && d.fld F.PWR_STATE.STATE ≠ 2 && d.fld F.FLT_STATE.DEV_STATE ≠ 5

/-- PWR_REQ (Table ELP-16). -/
def Dev.outPwrReq (d : Dev) : Bool := d.power.mode = .on || d.power.mode = .held

end Sys2Proof.Machine
end

