-- ==== Sys2Proof/WellFormed.lean ====
section
/-! DEFINITION. WellFormed.lean: what a command must satisfy beyond its operands' types: an opcode, a written bit or an instant that the
row's name fixes, lengths that a table fixes. -/

namespace Sys2Proof

/-- The opcodes of Table HST-10 but NOP. -/
def namedOpcodes : List (BitVec 16) :=
  [0x0101#16, 0x0102#16, 0x0103#16, 0x0201#16, 0x0202#16, 0x0203#16, 0x0204#16, 0x0205#16, 0x0301#16, 0x0302#16, 0x0303#16, 0x0401#16,
    0x0501#16, 0x0502#16, 0x00F0#16]

/-- Strictly rising channel numbers: at most one record per channel. -/
def rising : List Nat → Bool
  | [] => true
  | [_] => true
  | a :: b :: r => a < b && rising (b :: r)

/-- The payload fits a frame of the type (Table KVT-1). -/
def frameFits (f : KvtFrame) : Bool := f.payload.length ≤ 1024

/-- A command is well formed. -/
def Instr.wellFormed : Instr → Bool
  | .nop _ _ opcode => !namedOpcodes.contains opcode
  | .secureWorldReset _ _ v chain => v.getLsbD 16 && chain.length ≤ 3
  | .nonSecureWorldReset _ _ v flr => flr || (v.getLsbD 17 && !v.getLsbD 16)
  | .windowDisable _ _ _ v => !v.getLsbD 0
  | .headEnable _ _ _ v => v.getLsbD 0
  | .monitorEnable _ _ _ v => v.getLsbD 0
  | .lampEnable _ _ _ v => v.getLsbD 0
  | .signalEnable _ _ _ v => v.getLsbD 0
  | .functionEnable _ _ _ v => v.getLsbD 0
  | .safeOutputEnable _ _ _ v => v.getLsbD 0
  | .serialPortEnable _ _ _ v => v.getLsbD 0
  | .portEnable _ _ _ v => v.getLsbD 0
  | .kvtEnable _ _ _ v => v.getLsbD 0
  | .twinEnable _ _ v => v.getLsbD 0
  | .bootSourceTry _ octal image => image.length ≤ 4194304 && (octal.getD []).length ≤ 4194304
  | .sampleRecord t records => t.toNat % 10 = 0 && rising (records.map (fun x => x.1.val))
  | .frequencyWord t words => t.toNat % 50 = 0 && rising (words.map (fun x => x.1.val))
  | .winSelftest _ _ _ outs => outs.length = 4
  | .winSelftestMissed _ _ _ outs => outs.length = 4
  | .siFilterChange t _ => t.toNat % 10 = 0
  | .kvtHeartbeatRx _ _ f _ _ => f.type = 1 && !f.syn && frameFits f
  | .kvtSynRx _ _ f _ _ => f.type = 1 && f.syn && frameFits f
  | .kvtHeadEventRx _ _ f _ _ => f.type = 2 && frameFits f
  | .kvtGambitRx _ _ f _ _ => f.type = 3 && frameFits f
  | .kvtGambitConfirmRx _ _ f _ _ => f.type = 4 && frameFits f
  | .kvtGambitCancelRx _ _ f _ _ => f.type = 5 && frameFits f
  | .kvtSectionStateRx _ _ f _ _ => f.type = 6 && frameFits f
  | .kvtAspectRequestRx _ _ f _ _ => f.type = 7 && frameFits f
  | .kvtAspectFallbackRx _ _ f _ _ => f.type = 8 && frameFits f
  | .kvtLampStatusRx _ _ f _ _ => f.type = 9 && frameFits f
  | .resetPermit _ _ f _ _ => f.type = 10 && frameFits f
  | .kvtSafetyStateRx _ _ f _ _ => f.type = 11 && frameFits f
  | .kvtAppRx _ _ f _ _ => f.type = 12 && frameFits f
  | .kvtAckRx _ _ f _ _ => f.type = 15 && frameFits f
  | .characterReceived _ _ c => rising c.falls && rising c.rises
  | .digestRx _ _ _ words => words.length = 14
  | _ => true

end Sys2Proof
end

