-- ==== Sys2Proof/Tests/Slice0.lean ====
section
/-! SUPPORT. Tests/Slice0.lean: ill-formed commands that the check refuses, worked examples of the spec, and a witness for the hypotheses of
each statement: a small state and operands that meet them together. -/

namespace Sys2Proof.Tests

set_option Elab.async false

open Sys2Proof Sys2Proof.Machine

/-! ### Small states -/

/-- The device after reset, powered and out of reset. -/
def onDev : Dev := { State.reset.dev with power := { State.reset.dev.power with mode := .on } }

/-- That device with some fields set. -/
def dev (l : List (Fld × Nat)) : Dev := l.foldl (fun d e => d.setFld e.1 e.2) onDev

/-- The state after reset with a device of its own. -/
def st (d : Dev) : State := { State.reset with dev := d }

/-- A device that runs, has put nothing out, stands at the start of its tick and has nothing due there is the device at the moment of a command
of its own stamp. -/
theorem at_st {d : Dev} (hm : d.power.mode = .on) (ho : d.out = {}) (hf : d.fine = 0) (hd : d.decAt = none := by rfl)
    (hg : d.gens.any (fun e => e.2.sync.isSome) = false := by rfl) (hn : d.mons = [] := by rfl) : At (st d) d.now 0 d := by
  refine ⟨hm, ?_⟩
  have h1 : ({ d with out := {}, decAt := none } : Dev) = d := by rw [← ho, ← hd]
  have h2 : d.passTo d.now = d := by
    unfold Dev.passTo
    rw [if_neg]
    simp [Stamp.later, Stamp.since]
  have h3 : ({ d with fine := max d.fine (min 0 999) } : Dev) = d := by
    rw [hf]
    show ({ d with fine := 0 } : Dev) = d
    rw [← hf]
  have hw : d.winDueAll = d := by
    unfold Dev.winDueAll
    rw [hn]
    rfl
  show d.arrive d.now 0 = d
  unfold Dev.arrive
  simp only [h1, h2, h3, hw, hg]
  rfl

/-- A ring command of ring 1 with a byte at each listed place of its descriptor. -/
def cmd (l : List (Nat × Nat)) : Sys2Proof.Cmd := ⟨1, 0, 0, BitVec.ofNat 128 (l.foldl (fun m e => m + e.2 * 2 ^ (8 * (e.1 - 8))) 0)⟩

/-- A device whose ring 1 is a running command ring in SRAM with one descriptor waiting, secure and with SECURE_CMDS as given. -/
def ringDev (sc : Nat) (l : List (Fld × Nat)) : Dev :=
  (dev ([(F.HST_RING_CTRL.ENABLE 1, 1), (F.HST_RING_CTRL.STATE 1, 1), (F.HST_RING_CFG.SECURE_CMDS 1, sc), (F.HST_RING_CFG.LOG2SIZE 1, 4),
    (F.HST_RING_BASE.BASE 1, 0x200000)] ++ l)).modRing 1 (fun r => { r with hs := 1 })

/-- A full-word access of the first SV pair. -/
def sv : Access := ⟨0, 0, 15#4⟩

theorem sv_sv : Sv sv := by unfold Sv; decide

theorem ready_of {a : Dev} {c : Sys2Proof.Cmd}
    (h : (a.cmdReady c.ring.val && (a.ringBar (a.ringDesc c.ring.val) == none) && !a.on F.HST_STATUS.BOOT_RING) = true) : Ready a c := by
  simpa [Ready, and_assoc] using h

theorem granted_of {a : Dev} {c : Sys2Proof.Cmd} {used : List Nat}
    (h : (a.cmdReady c.ring.val && (a.ringBar (a.ringDesc c.ring.val) == none) && !a.on F.HST_STATUS.BOOT_RING) = true)
    (h1 : a.secureCmds c.ring.val = true) (h2 : c.reservedOk used = true) : Granted a c used := ⟨ready_of h, h1, h2⟩

theorem open_of {a : Dev} {b : Blk} {off : Nat} {v : Word} (h : absentReg a.part b off = false) (h1 : a.on F.BOT_STATUS.LOCKED = false)
    (h2 : a.frozen b off v.toNat 0xFFFFFFFF = 0) : Open a b off v := ⟨h, h1, h2⟩

/-! ### Witnesses: queue, memory, ring commands -/

theorem wit_StepRunsFront : ({ State.reset with pending := [.sampleTimeWrap] } : State).pending = .sampleTimeWrap :: [] := rfl

theorem wit_EmptyQueueTicks : (st onDev).pending = [] ∧ At (st onDev) ((st onDev).dev.now + 1) 0 (onDev.arrive 1 0) := ⟨rfl, rfl, rfl⟩

theorem wit_UnpoweredIgnores : State.reset.dev.power.mode ≠ .on ∧ supplyRow .sampleTimeWrap = false := by decide

theorem wit_StoreStaysCanonical : State.reset.store.wf = true ∧ step { State.reset with pending := [.sampleTimeWrap] } =
    .next { State.reset with dev := { State.reset.dev with out := {} } } := ⟨by decide, rfl⟩

theorem wit_OtpLowWordsFixed : 0 < 8 ∧ exec .sampleTimeWrap State.reset = .next { State.reset with dev := { State.reset.dev with out := {} } } :=
  ⟨by decide, rfl⟩

theorem wit_Nop : At (st (ringDev 1 [])) 0 0 (ringDev 1 []) ∧ Ready (ringDev 1 []) (cmd []) ∧ (cmd []).reservedOk [] = true :=
  ⟨at_st rfl rfl rfl, ready_of (by decide), by decide⟩

theorem wit_ReservedBytes : At (st (ringDev 1 [])) 0 0 (ringDev 1 []) ∧ Ready (ringDev 1 []) (cmd [(23, 1)])
    ∧ (ringDev 1 []).secureCmds 1 = true ∧ (cmd [(23, 1)]).reservedOk [] = false ∧ (cmd [(23, 1)]).reservedOk [8] = false
    ∧ (cmd [(23, 1)]).reservedOk [8, 9] = false ∧ (cmd [(23, 1)]).reservedOk [8, 9, 10] = false
    ∧ (cmd [(23, 1)]).reservedOk [8, 12, 13, 14, 15] = false :=
  ⟨at_st rfl rfl rfl, ready_of (by decide), by decide⟩

theorem wit_SecureOpcodes : At (st (ringDev 0 [])) 0 0 (ringDev 0 []) ∧ Ready (ringDev 0 []) (cmd [])
    ∧ (ringDev 0 []).secureCmds 1 = false ∧ (cmd []).byte 8 < 112 :=
  ⟨at_st rfl rfl rfl, ready_of (by decide), by decide⟩

/-- Ring 1 belongs to the non-secure world. -/
def nsRing : Dev := ringDev 0 [(F.WLD_WAT.APPLIED_NS 65, 1)]

theorem wit_OwnerOpcodes_refused : At (st nsRing) 0 0 nsRing ∧ Ready nsRing (cmd [(8, 112)]) ∧ nsRing.ringSecure 1 = false
    ∧ (cmd [(8, 112)]).byte 8 = 112 ∧ (cmd [(8, 127)]).byte 8 = 127 ∧ nsRing.monNs 112 = false ∧ nsRing.monNs 127 = false
    ∧ nsRing.streamNs 0 0 = false ∧ nsRing.serNs 0 = false :=
  ⟨at_st rfl rfl rfl, ready_of (by decide), by decide⟩

theorem wit_OwnerOpcodes_run : At (st (ringDev 0 [])) 0 0 (ringDev 0 []) ∧ Ready (ringDev 0 []) (cmd [(8, 112)])
    ∧ (ringDev 0 []).ringSecure 1 = true ∧ (cmd [(8, 112)]).reservedOk [8, 10, 11, 12, 13] = true ∧ (cmd [(8, 112)]).byte 8 < 128
    ∧ (cmd []).reservedOk [8, 9, 10, 11] = true ∧ (cmd [(8, 6)]).reservedOk [8] = true ∧ (cmd [(8, 6)]).byte 8 < 7 :=
  ⟨at_st rfl rfl rfl, ready_of (by decide), by decide⟩

theorem wit_Completion : (ringDev 1 []).place ((ringDev 1 []).ringDesc 1 + 24) = .sram 0 ∧ (ringDev 1 []).place ((ringDev 1 []).ringDesc 1 + 28) = .sram 0
    ∧ (ringDev 1 []).violation (ringAccess 1) ((ringDev 1 []).ringDesc 1 + 24) true = none
    ∧ (ringDev 1 []).violation (ringAccess 1) ((ringDev 1 []).ringDesc 1 + 28) true = none ∧ (ringDev 1 []).fld (F.HST_RING_CFG.LOG2SIZE 1) ≤ 16 := by
  decide

/-- No region is being zeroed there, and no ring has its doorbell word in the descriptor. -/
theorem wit_Completion_plain : (ringDev 1 []).stalled ((ringDev 1 []).ringDesc 1) = ringDev 1 [] ∧ ∀ n < 64, (ringDev 1 []).ringRuns n = true →
    (ringDev 1 []).fld (F.HST_RING_CFG.DISC n) = 0 → (ringDev 1 []).fld (F.HST_RING_DB.DB_ADDR n) * 4 < (ringDev 1 []).ringDesc 1 + 24
      ∨ (ringDev 1 []).ringDesc 1 + 32 ≤ (ringDev 1 []).fld (F.HST_RING_DB.DB_ADDR n) * 4 := ⟨rfl, by decide⟩

/-- Signal 15 is enabled, takes requests of commands, and may show aspects up to 15. -/
def sigDev (l : List (Fld × Nat)) : Dev :=
  ringDev 1 ([(F.LMP_SIG_CFG.ENABLE 15, 1), (F.LMP_SIG_CFG.TOP_ASPECT 15, 15)] ++ l)

/-- The refusal of an aspect request of signal 15 in aspect `asp`, as the statement judges it. -/
def aspDet (a : Dev) (asp : Nat) : Nat := if a.sigOn 15 = false ∨ a.has .sigConfig (.sig 15) = true then 1
  else if a.fld (F.LMP_SIG_CFG.REQ_SRC 15) = 1 then 2 else if a.fld (F.LMP_SIG_CFG.TOP_ASPECT 15) < asp then 3
  else if a.bitOf (F.LMP_SIG_STAT.UNUSABLE 15) asp = true then 4 else 0

theorem wit_AspectRequests : At (st (sigDev [])) 0 0 (sigDev []) ∧ Granted (sigDev []) (cmd [(8, 15), (9, 15)]) [8, 9, 10]
    ∧ (cmd [(8, 15), (9, 15)]).byte 8 = 15 ∧ (cmd [(8, 15), (9, 15)]).byte 9 = 15 ∧ (cmd [(8, 15), (9, 15)]).byte 10 < 2 ∧ aspDet (sigDev []) 15 = 0
    ∧ aspDet (ringDev 1 []) 15 = 1 ∧ aspDet (sigDev [(F.LMP_SIG_CFG.REQ_SRC 15, 1)]) 15 = 2 ∧ aspDet (sigDev [(F.LMP_SIG_CFG.TOP_ASPECT 15, 14)]) 15 = 3
    ∧ aspDet (sigDev [(F.LMP_SIG_STAT.UNUSABLE 15, 0x8000)]) 15 = 4 :=
  ⟨at_st rfl rfl rfl, granted_of (by decide) (by decide) (by decide), by decide⟩

theorem wit_ReArmAndClear : At (st (ringDev 1 [])) 0 0 (ringDev 1 []) ∧ Granted (ringDev 1 []) (cmd [(8, 47)]) [8] ∧ (cmd [(8, 47)]).byte 8 = 47
    ∧ Granted (ringDev 1 []) (cmd [(8, 64)]) [8] ∧ (cmd [(8, 64)]).byte 8 = 64 ∧ (ringDev 1 []).part.hasLamp 47 = true ∧ (ringDev 1 []).part.hasPg 63 = true :=
  ⟨at_st rfl rfl rfl, granted_of (by decide) (by decide) (by decide), by decide, granted_of (by decide) (by decide) (by decide), by decide⟩

/-- The DX8828 has 24 lamps and 32 generators. -/
theorem wit_ReArmAndClear_absent : ({ ringDev 1 [] with part := .dx8828 } : Dev).part.hasLamp 47 = false
    ∧ ({ ringDev 1 [] with part := .dx8828 } : Dev).part.hasPg 47 = false := by decide

/-- Lamp 47 is out of service, generator 47 tripped. -/
theorem wit_ReArmAndClear_details : ((ringDev 1 [(F.LMP_CFG.ENABLE 47, 1), (F.LMP_STAT.STATE 47, 2)]).pgShow 47).rearmRefusal 47 = 0
    ∧ ((ringDev 1 []).pgShow 47).rearmRefusal 47 ≠ 0 ∧ ((ringDev 1 [(F.PGN_STAT.STATE 47, 2)]).pgShow 47).pgClearRefusal 47 = 0
    ∧ ((ringDev 1 []).pgShow 63).pgClearRefusal 63 ≠ 0 := by decide

theorem wit_GroupRelease : At (st (ringDev 1 [(F.FLT_STATE.F3_GROUPS, 128)])) 0 0 (ringDev 1 [(F.FLT_STATE.F3_GROUPS, 128)])
    ∧ Granted (ringDev 1 [(F.FLT_STATE.F3_GROUPS, 128)]) (cmd [(8, 7)]) [8] ∧ (cmd [(8, 7)]).byte 8 = 7
    ∧ (ringDev 1 [(F.FLT_STATE.F3_GROUPS, 128)]).groupCause 7 = false ∧ (ringDev 1 [(F.FLT_STATE.F3_GROUPS, 128)]).underF3 7 = true
    ∧ (ringDev 1 []).underF3 7 = false
    ∧ ({ ringDev 1 [] with causes := [{ ev := .twinDisagree, src := .twn, sub := 0, cls := 3, groups := 255 }] } : Dev).groupCause 7 = true :=
  ⟨at_st rfl rfl rfl, granted_of (by decide) (by decide) (by decide), by decide⟩

theorem wit_EndgameAck : Granted (ringDev 1 []) (cmd [(8, 1), (9, 31)]) [8, 9] ∧ (cmd [(8, 1), (9, 31)]).byte 8 = 1 ∧ (cmd [(8, 1), (9, 31)]).byte 9 = 31
    ∧ (ringDev 1 []).part.lacksEg 1 31 = false ∧ (ringDev 1 []).egExpiry = [] ∧ Granted (ringDev 1 []) (cmd [(8, 3), (9, 0)]) [8, 9]
    ∧ (ringDev 1 []).part.lacksEg 3 0 = false ∧ ({ ringDev 1 [] with part := .dx8828 } : Dev).part.hasHead 31 = false :=
  ⟨granted_of (by decide) (by decide) (by decide), by decide, by decide, by decide, by decide, granted_of (by decide) (by decide) (by decide), by decide⟩

theorem wit_SectionReset : Granted (ringDev 1 []) (cmd [(8, 63), (9, 3)]) [8, 9, 12, 13, 14, 15] ∧ (cmd [(8, 63), (9, 3)]).byte 8 = 63
    ∧ (cmd [(8, 63), (9, 3)]).byte 9 = 3 ∧ (ringDev 1 []).secRefusal 63 3 false ≠ 0 :=
  ⟨granted_of (by decide) (by decide) (by decide), by decide⟩

/-- Section 63 is enabled, DISTURBED, takes direct resets of firmware, and no train is near. -/
def resetSec : Dev := ringDev 1 [(F.SEC_CFG.ENABLE 63, 1), (F.SEC_STATE.STATE 63, 2), (F.SEC_RESET.AUTH_FW 63, 1), (F.SEC_RESET.DIRECT_EN 63, 1)]

theorem wit_SectionReset_accepted : ({ resetSec with boot := { resetSec.boot with started := true } } : Dev).secRefusal 63 2 true = 0 := by decide

/-- Function 15 waits for a reset, which firmware may give. -/
theorem wit_FbReset_accepted : (ringDev 1 [(F.SAF_FB_CFG.ENABLE 15, 1), (F.SAF_FB_STAT.STATE 15, 3), (F.SAF_FB_CFG.RST_FW 15, 1), (F.SAF_FB_CFG.TYPE 15, 3),
    (F.SAF_SI_STAT.LEVEL 0, 1)]).fbRefusal 15 false = 0 := by decide

theorem wit_FbReset : Granted (ringDev 1 []) (cmd [(8, 15)]) [8] ∧ (cmd [(8, 15)]).byte 8 = 15 ∧ (ringDev 1 []).fbRefusal 15 false ≠ 0
    ∧ Granted (ringDev 1 []) (cmd [(8, 16)]) [8] ∧ (cmd [(8, 16)]).byte 8 = 16 :=
  ⟨granted_of (by decide) (by decide) (by decide), by decide, by decide, granted_of (by decide) (by decide) (by decide), by decide⟩

/-- A Lead that is PAIRED and LOCKED. -/
def leadDev (l : List (Fld × Nat)) : Dev :=
  ringDev 1 ([(F.TWN_CFG.ENABLE, 1), (F.TWN_STAT.STATE, 3), (F.TWN_STAT.LOCKED, 1), (F.TWN_STAT.ROLE, 0)] ++ l)

def mark0 : Mark := ⟨0, 0, 0, 0, 0, 0, 0, 0, 0, 0, 0, 0⟩

theorem wit_Castle_accepted : ((leadDev []).modTwin (fun w => { w with mark := some mark0 })).castleRefusal false = 0 := by decide

theorem wit_Castle : At (st (leadDev [])) 0 0 (leadDev []) ∧ Granted (leadDev []) (cmd []) [] ∧ (ringDev 1 []).castleRefusal false ≠ 0 :=
  ⟨at_st rfl rfl rfl, granted_of (by decide) (by decide) (by decide), by decide⟩

theorem wit_Thresholds : Granted (ringDev 1 [(F.HED_CFG.ENABLE 31, 1), (F.HED_CFG.CH_A 31, 62), (F.HED_CFG.CH_B 31, 63)]) (cmd [(8, 62), (10, 100), (12, 200), (14, 250), (16, 255)])
      [8, 10, 11, 12, 13, 14, 15, 16, 17] ∧ codeAt (cmd [(10, 100)]) 10 = 100 ∧ codeAt (cmd [(10, 255), (11, 255)]) 10 = -1
    ∧ (ringDev 1 [(F.HED_CFG.ENABLE 31, 1), (F.HED_CFG.CH_A 31, 62), (F.HED_CFG.CH_B 31, 63)]).sysOfChan 62 = some (31, 0)
    ∧ (ringDev 1 []).sysOfChan 62 = none :=
  ⟨granted_of (by decide) (by decide) (by decide), by decide⟩

theorem wit_WmThreshold : Granted (ringDev 1 []) (cmd [(8, 111), (10, 255), (11, 3), (12, 255), (13, 3)]) [8, 10, 11, 12, 13]
    ∧ (cmd [(10, 255), (11, 3)]).half 10 = 1023 ∧ (cmd [(10, 0), (11, 4)]).half 10 = 1024 ∧ (ringDev 1 []).part.hasWm 111 = true
    ∧ ({ ringDev 1 [] with part := .dx8828 } : Dev).part.hasWm 47 = false ∧ (ringDev 1 []).winOn 111 = false
    ∧ (ringDev 1 []).fld (F.WIN_THR.UPPER 111) ≠ 1022 :=
  ⟨granted_of (by decide) (by decide) (by decide), by decide⟩

theorem wit_WmThreshold_test : (ringDev 1 []).winTesting 111 = false ∧ (ringDev 1 [(F.WIN_CFG.ENABLE 111, 1)]).winOn 111 = true
    ∧ ((ringDev 1 []).modMon 111 (fun x => { x with testEnd := some (1, 100) })).winTesting 111 = true
    ∧ ((ringDev 1 []).modMon 111 (fun x => { x with testEnd := some (0, 0) })).winTesting 111 = false := by decide

theorem wit_Blank : Granted (ringDev 1 []) (cmd [(8, 128), (12, 16), (13, 39)]) [8, 12, 13, 14, 15] ∧ (cmd [(12, 16), (13, 39)]).word 12 = 10000
    ∧ (cmd [(12, 10)]).word 12 = 10 ∧ (∀ b ∈ bitsOf 8 128, (ringDev 1 []).part.hasBank b = true)
    ∧ (∃ b ∈ bitsOf 8 128, ({ ringDev 1 [] with part := .dx8828 } : Dev).part.hasBank b = false)
    ∧ (∀ b ∈ bitsOf 8 128, 10 ≤ (ringDev 1 []).fld (F.HAZ_BANK_BLANK_T.LIMIT_US b)) ∧ (∃ b ∈ bitsOf 8 128, (ringDev 1 []).fld (F.HAZ_BANK_BLANK_T.LIMIT_US b) < 10000)
    ∧ (∀ b ∈ bitsOf 8 128, (ringDev 1 []).on (F.HAZ_BANK_STAT.HELD b) = false) ∧ (∃ b ∈ bitsOf 8 128, (ringDev 1 [(F.HAZ_BANK_STAT.HELD 7, 1)]).on (F.HAZ_BANK_STAT.HELD b) = true) :=
  ⟨granted_of (by decide) (by decide) (by decide), by decide⟩

theorem wit_AppSend : Granted (ringDev 1 [(F.KVT_STAT.STATE 3, 2), (F.KVT_PCFG.ENABLE 3, 1)]) (cmd [(8, 3), (15, 8), (17, 4)]) [8, 12, 13, 14, 15, 16, 17]
    ∧ (cmd [(17, 4)]).half 16 = 1024 ∧ (ringDev 1 []).part.hasPort 3 = true ∧ (ringDev 1 []).kvtOpen 3 = false
    ∧ (ringDev 1 [(F.KVT_STAT.STATE 3, 2), (F.KVT_PCFG.ENABLE 3, 1)]).kvtOpen 3 = true :=
  ⟨granted_of (by decide) (by decide) (by decide), by decide⟩

/-- A payload of one byte at the start of SRAM. -/
theorem wit_AppSend_payload : (cmd [(15, 8), (16, 1)]).half 16 = 1 ∧ ∀ x, (cmd [(15, 8), (16, 1)]).word 12 ≤ x →
    x < (cmd [(15, 8), (16, 1)]).word 12 + (cmd [(15, 8), (16, 1)]).half 16 → (∃ k, (ringDev 1 []).place x = .sram k)
      ∧ (ringDev 1 []).violation (ringAccess 1) x false = none ∧ (ringDev 1 []).stalled x = ringDev 1 [] := by
  refine ⟨by decide, fun x h1 h2 => ?_⟩
  have e1 : (cmd [(15, 8), (16, 1)]).word 12 = 0x08000000 := by decide
  have e2 : (cmd [(15, 8), (16, 1)]).half 16 = 1 := by decide
  have hx : x = 0x08000000 := by omega
  subst hx
  exact ⟨⟨0, by decide⟩, by decide, rfl⟩

theorem wit_StreamAndFlush : Ready (ringDev 1 [(F.HST_RING_CFG.TYPE 63, 2)]) (cmd [(8, 0), (9, 63), (10, 1), (11, 63)])
    ∧ (cmd [(8, 0), (9, 63), (10, 1), (11, 63)]).reservedOk [8, 9, 10, 11] = true
    ∧ (ringDev 1 [(F.HST_RING_CFG.TYPE 63, 2)]).fld (F.HST_RING_CFG.TYPE 63) = 2
    ∧ (ringDev 1 [(F.HST_RING_CFG.TYPE 63, 2)]).ringSecure 63 = !(ringDev 1 [(F.HST_RING_CFG.TYPE 63, 2)]).bankNs 7
    ∧ 63 ∉ ((ringDev 1 [(F.HST_RING_CFG.TYPE 63, 2)]).chan 63).streams ∧ (ringDev 1 []).boundRing 5 6 = none
    ∧ 63 ∈ (((ringDev 1 [(F.HST_RING_CFG.TYPE 63, 2)]).modChan 63 (fun k => { k with streams := [0, 63] })).chan 63).streams
    ∧ (ringDev 1 [(F.HST_RING_CTRL.ENABLE 63, 1), (F.HST_RING_CFG.TYPE 63, 5), (F.HST_RING_CFG.BIND 63, 6)]).boundRing 5 6 = some 63 :=
  ⟨ready_of (by decide), by decide⟩

/-- The boot ring is in use: ring 0 holds one descriptor. -/
def bootRingDev (up : Nat) : Dev :=
  let d := (dev [(F.HST_RING_CTRL.ENABLE 0, 1), (F.HST_RING_CTRL.STATE 0, 1), (F.HST_RING_CFG.LOG2SIZE 0, 4), (F.HST_RING_BASE.BASE 0, 0x200000),
    (F.HST_STATUS.BOOT_RING, 1), (F.HST_STATUS.LINK_UP, up)]).modRing 0 (fun r => { r with hs := 1 })
  { d with boot := { d.boot with scanned := true, running := true } }

theorem wit_BootImage : At (st (bootRingDev 1)) 0 0 (bootRingDev 1) ∧ (bootRingDev 1).on F.HST_STATUS.BOOT_RING = true
    ∧ (bootRingDev 1).boot.taken = false ∧ (bootRingDev 1).cmdReady 0 = true ∧ (bootRingDev 1).boot.scanned = true
    ∧ (cmd []).reservedOk [8, 9, 10, 11, 12, 13, 14, 15, 16, 17, 18, 19] = true ∧ (bootRingDev 1).on F.HST_STATUS.LINK_UP = true
    ∧ (bootRingDev 0).on F.HST_STATUS.LINK_UP = false ∧ imgReason .dx8856 [] (memRead [] 0 0) ≠ 0 :=
  ⟨at_st rfl rfl rfl, by decide⟩

/-! ### Witnesses: register writes that act -/

theorem wit_SoftwareResets : At (st onDev) 0 0 onDev ∧ Sv sv ∧ (0x15C3A#32).toNat % 65536 = 0x5C3A ∧ (0x15C3A#32).getLsbD 16 = true
    ∧ onDev.fld F.PWR_STATE.STATE ≠ 2 ∧ onDev.boot.running = false ∧ (dev [(F.PWR_STATE.STATE, 2)]).fld F.PWR_STATE.STATE = 2
    ∧ (0x25C3A#32).toNat % 65536 = 0x5C3A ∧ (0x25C3A#32).getLsbD 16 = false ∧ (0x25C3A#32).getLsbD 17 = true
    ∧ (dev [(F.HST_STATUS.LINK_UP, 1)]).on F.HST_STATUS.LINK_UP = true ∧ (0x25C3B#32).toNat % 65536 ≠ 0x5C3A ∧ onDev.on F.BOT_STATUS.COMMISSIONING = false :=
  ⟨at_st rfl rfl rfl, sv_sv, by decide⟩

theorem wit_WatchdogKick : At (st onDev) 0 0 onDev ∧ Sv sv ∧ (0x6B1E#32).toNat % 65536 = 0x6B1E ∧ onDev.fld F.PWR_WDT_CFG.WINDOW_MIN_MS ≤ onDev.wdtMs
    ∧ (dev [(F.PWR_WDT_CFG.WINDOW_MIN_MS, 1)]).wdtMs < (dev [(F.PWR_WDT_CFG.WINDOW_MIN_MS, 1)]).fld F.PWR_WDT_CFG.WINDOW_MIN_MS
    ∧ (0x17A19#32).toNat % 65536 = 0x7A19 ∧ (0x17A19#32).getLsbD 16 = true ∧ (dev [(F.BOT_STATUS.COMMISSIONING, 1)]).on F.BOT_STATUS.COMMISSIONING = true :=
  ⟨at_st rfl rfl rfl, sv_sv, by decide⟩

theorem wit_OtpCommands : At (st (dev [(F.BOT_OTP_ADDR.WORD, 8)])) 0 0 (dev [(F.BOT_OTP_ADDR.WORD, 8)]) ∧ Sv sv
    ∧ (dev [(F.BOT_OTP_ADDR.WORD, 8)]).fld F.BOT_OTP_ADDR.WORD = 8 ∧ (dev [(F.BOT_SEAL_IN_FORCE.CODE, 0xFFFFFFFF)]).fld F.BOT_SEAL_IN_FORCE.CODE = 0xFFFFFFFF
    ∧ onDev.fld F.BOT_SEAL_IN_FORCE.CODE ≠ 0xFFFFFFFF ∧ (dev [(F.BOT_OTP_ADDR.WORD, 7)]).fld F.BOT_OTP_ADDR.WORD < 8 :=
  ⟨at_st rfl rfl rfl, sv_sv, by decide⟩

theorem wit_PeakClear : At (st onDev) 0 0 onDev ∧ Sv sv ∧ Open onDev .haz (O.HAZ_CH_PEAK_CLR + 0x40 * 63) 1 :=
  ⟨at_st rfl rfl rfl, sv_sv, open_of (by decide) (by decide) (by decide)⟩

theorem wit_SerialControls : (dev [(F.SER_CFG.ENABLE 6, 1), (F.SER_CFG.MODE 6, 1), (F.SER_AB_CFG.AB_EN 6, 1)]).serRuns 6 = true
    ∧ (dev [(F.SER_CFG.ENABLE 6, 1), (F.SER_CFG.MODE 6, 1), (F.SER_AB_CFG.AB_EN 6, 1)]).serMode 6 = 1
    ∧ (dev [(F.SER_CFG.ENABLE 6, 1), (F.SER_CFG.MODE 6, 1), (F.SER_AB_CFG.AB_EN 6, 1)]).on (F.SER_AB_CFG.AB_EN 6) = true
    ∧ (dev [(F.SER_CFG.ENABLE 6, 1), (F.SER_CFG.MODE 6, 2), (F.SER_STAT.CARD_PRESENT 6, 1)]).serMode 6 = 2
    ∧ (dev [(F.SER_CFG.ENABLE 6, 1), (F.SER_CFG.MODE 6, 2), (F.SER_STAT.CARD_PRESENT 6, 1)]).on (F.SER_STAT.CARD_ACTIVE 6) = false
    ∧ (dev [(F.SER_CFG.ENABLE 6, 1), (F.SER_CFG.MODE 6, 2)]).on (F.SER_STAT.CARD_PRESENT 6) = false
    ∧ onDev.part.hasPort 3 = true ∧ (dev [(F.NET_STAT.STATE 3, 4)]).fld (F.NET_STAT.STATE 3) = 4 ∧ onDev.fld (F.NET_STAT.STATE 3) ≠ 4 := by decide

theorem wit_PtpAndKeys : At (st onDev) 0 0 onDev ∧ Sv sv ∧ onDev.part.hasPort 0 = true := ⟨at_st rfl rfl rfl, sv_sv, by decide⟩

/-- Ring 63 is a command ring whose areas lie in SRAM. -/
def ringSetUp (base : Nat) : Dev := dev [(F.HST_RING_CFG.LOG2SIZE 63, 4), (F.HST_RING_BASE.BASE 63, base), (F.HST_RING_WB.WB_ADDR 63, 0x800100),
  (F.HST_RING_DB.DB_ADDR 63, 0x2000800)]

theorem wit_RingEnable : At (st onDev) 0 0 onDev ∧ Sv sv ∧ onDev.on F.BOT_STATUS.LOCKED = false ∧ onDev.on (F.HST_RING_CTRL.ENABLE 63) = false
    ∧ onDev.islandHeld 0 = false ∧ ((ringSetUp 0x200000).stored .hst (O.HST_RING_CTRL + 0x20 * 63) 1).ringOk 63 = true
    ∧ ((ringSetUp 0).stored .hst (O.HST_RING_CTRL + 0x20 * 63) 1).ringOk 63 = false
    ∧ (dev [(F.HST_RING_CTRL.ENABLE 63, 1), (F.HST_RING_CTRL.STATE 63, 3)]).on (F.HST_RING_CTRL.ENABLE 63) = true
    ∧ (dev [(F.HST_RING_CTRL.ENABLE 63, 1), (F.HST_RING_CTRL.STATE 63, 3)]).fld (F.HST_RING_CTRL.STATE 63) ≠ 1
    ∧ (ringSetUp 0x200000).place ((ringSetUp 0x200000).fld (F.HST_RING_WB.WB_ADDR 63) * 16) = .sram 0
    ∧ (ringSetUp 0x200000).violation (ringAccess 63) ((ringSetUp 0x200000).fld (F.HST_RING_WB.WB_ADDR 63) * 16) true = none :=
  ⟨at_st rfl rfl rfl, sv_sv, by decide⟩

/-- Ring 63 belongs to the non-secure world, but is to carry S opcodes. -/
def nsSetUp : Dev := dev [(F.HST_RING_CFG.LOG2SIZE 63, 4), (F.HST_RING_BASE.BASE 63, 0x200000), (F.HST_RING_WB.WB_ADDR 63, 0x800100),
  (F.HST_RING_DB.DB_ADDR 63, 0x2000800), (F.HST_RING_CFG.SECURE_CMDS 63, 1), (F.WLD_WAT.APPLIED_NS 127, 1)]

theorem wit_RingEnable_world : onDev.ringSecure 63 = true ∧ onDev.on (F.HST_RING_CFG.SECURE_CMDS 63) = false ∧ nsSetUp.ringSecure 63 = false
    ∧ nsSetUp.on (F.HST_RING_CFG.SECURE_CMDS 63) = true
    ∧ (((nsSetUp.stored .hst (O.HST_RING_CTRL + 0x20 * 63) 1).setWorld 127 false).assignRefused 127).ringOk 63 = true := by decide

theorem wit_RingEnable_writeback : (ringSetUp 0x200000).stalled 0x8001000 = ringSetUp 0x200000 ∧ ∀ r < 64, (ringSetUp 0x200000).ringRuns r = true →
    (ringSetUp 0x200000).fld (F.HST_RING_CFG.DISC r) = 0 → (ringSetUp 0x200000).fld (F.HST_RING_DB.DB_ADDR r) * 4 < 0x8001000
      ∨ 0x8001000 + 16 ≤ (ringSetUp 0x200000).fld (F.HST_RING_DB.DB_ADDR r) * 4 := ⟨rfl, by decide⟩

/-- Island 5, the first and the second are held. -/
def isleDev : Dev := dev [(F.ISL_ISLAND_HELD.HELD, 0x23), (F.NET_CFG.ROLE 3, 1)]

theorem wit_IslandResets_held : isleDev.islandHeld 0 = true ∧ isleDev.islandHeld 1 = true ∧ isleDev.islandHeld 5 = true
    ∧ isleDev.now ∉ tabGet [] isleDev.clocks.resets 5 ∧ isleDev.netRole 3 ≠ 0 := by decide

theorem wit_IslandResets : At (st onDev) 0 0 onDev ∧ Sv sv ∧ (∀ i < 6, onDev.islandHeld i = false ∧ onDev.now ∉ tabGet [] onDev.clocks.resets i)
    ∧ onDev.part.hasPort 3 = true ∧ (dev [(F.NET_CFG.ROLE 3, 1)]).netRole 3 ≠ 0 ∧ (dev [(F.NET_CFG.ROLE 3, 0)]).netRole 3 = 0 :=
  ⟨at_st rfl rfl rfl, sv_sv, by decide⟩

theorem wit_WindowsAndRegions : onDev.on F.BOT_STATUS.LOCKED = false ∧ (0#32).getLsbD 0 = false ∧ 16 * 7 + 13 < 126 ∧ onDev.fld (F.WLD_REGION_TAG.TAG 7 13) = 0
    ∧ ((0x8000000#32).extractLsb' (2 * 13) 2).toNat = 2 ∧ tabGet 0 onDev.worlds.zeroing 127 = 0
    ∧ tabGet 0 ({ onDev with worlds := { onDev.worlds with zeroing := [(125, 2)] } } : Dev).worlds.zeroing 125 = 2 := by decide

theorem wit_WorldAssignment : At (st onDev) 0 0 onDev ∧ Sv sv ∧ Open onDev .wld (O.WLD_WAT + 4 * 127) 1 ∧ Open onDev .wld (O.WLD_WAT + 4 * 0) 0
    ∧ ¬ (127 = 47 ∨ (56 ≤ 127 ∧ 127 < 64)) ∧ onDev.watBusy 127 = false ∧ (1#32).getLsbD 0 = true
    ∧ (onDev.stored .wld (O.WLD_WAT + 4 * 127) 1).watForbidden 127 = false
    ∧ ((dev [(F.HST_RING_CFG.SECURE_CMDS 63, 1)]).stored .wld (O.WLD_WAT + 4 * 127) 1).watForbidden 127 = true
    ∧ (dev [(F.HST_RING_CTRL.ENABLE 63, 1)]).watBusy 127 = true :=
  ⟨at_st rfl rfl rfl, sv_sv, open_of (by decide) (by decide) (by decide), open_of (by decide) (by decide) (by decide), by decide⟩

theorem wit_WorldAssignment_busy : (((dev [(F.HST_RING_CTRL.ENABLE 63, 1)]).stored .wld (O.WLD_WAT + 4 * 127) 1).watJudge 127).nsEntry 127
    ≠ (dev [(F.HST_RING_CTRL.ENABLE 63, 1)]).nsEntry 127 := by decide

/-! ### Witnesses: engines set up, bus accesses -/

theorem wit_HeadConfiguration : At (st onDev) 0 0 onDev ∧ Sv sv ∧ Open onDev .hed (O.HED_CFG + 0x40 * 63) 1 ∧ (1#32).getLsbD 0 = true
    ∧ Open onDev .hed (0x40 * 31 + 4 * 8) 0 ∧ (dev [(F.HED_CFG.ENABLE 31, 1)]).headEnabled 31 = true ∧ onDev.headEnabled 31 = false
    ∧ (onDev.stored .hed (0x40 * 31 + 4 * 8) 0).headEnabled 31 = false ∧ onDev.part.hasHead 63 = true ∧ (0#32).getLsbD 0 = false :=
  ⟨at_st rfl rfl rfl, sv_sv, open_of (by decide) (by decide) (by decide), by decide, open_of (by decide) (by decide) (by decide), by decide⟩

theorem wit_HeadConfiguration_places : Open onDev .hed (O.HED_CFG + 0x40 * 31) 1 ∧ Open (dev [(F.HED_CFG.ENABLE 31, 1)]) .hed (O.HED_CFG + 0x40 * 31) 0 :=
  ⟨open_of (by decide) (by decide) (by decide), open_of (by decide) (by decide) (by decide)⟩

theorem wit_EngineEnables : Open onDev .sec (O.SEC_CFG + 0x40 * 63) 1 ∧ Open onDev .win (O.WIN_CFG + 0x20 * 127) 1 ∧ onDev.winOn 127 = false
    ∧ Open onDev .pgn (O.PGN_CFG + 0x40 * 63) 1 ∧ onDev.on (F.PGN_CFG.ENABLE 63) = false ∧ Open onDev .lmp (O.LMP_CFG + 0x20 * 47) 1
    ∧ onDev.lampOn 47 = false ∧ Open onDev .lmp (O.LMP_SIG_CFG + 0x80 * 15) 1 ∧ onDev.sigOn 15 = false ∧ Open onDev .saf (O.SAF_FB_CFG + 0x20 * 15) 1
    ∧ onDev.fbOn 15 = false ∧ Open onDev .saf (O.SAF_SO_CFG + 0x10 * 7) 1 :=
  ⟨open_of (by decide) (by decide) (by decide), open_of (by decide) (by decide) (by decide), by decide, open_of (by decide) (by decide) (by decide),
    by decide, open_of (by decide) (by decide) (by decide), by decide, open_of (by decide) (by decide) (by decide), by decide,
    open_of (by decide) (by decide) (by decide), by decide, open_of (by decide) (by decide) (by decide)⟩

theorem wit_PortEnables_serial : onDev.on (F.SER_CFG.ENABLE 6) = false ∧ (onDev.stored .ser (O.SER_CFG + 0x80 * 6) 1).serConfigBad 6 = false
    ∧ ((dev [(F.SER_AB_CFG.AB_EN 6, 1), (F.SER_AB_CFG.AB_CHAR 6, 0x1FF)]).stored .ser (O.SER_CFG + 0x80 * 6) 3).serConfigBad 6 = true := by decide

/-- Port 0 with addresses that pass the check. -/
def macDev (l : List (Fld × Nat)) : Dev := dev ([(F.NET_CFG.ROLE 0, 1)] ++ l)

theorem wit_PortEnables_net : onDev.on (F.NET_CFG.ENABLE 0) = false ∧ ((macDev []).stored .net O.NET_CFG 0x11).netRole 0 = (macDev []).netRole 0
    ∧ ((macDev []).stored .net O.NET_CFG 0x11).netConfigOk 0 = true ∧ ((macDev []).stored .net O.NET_CFG 0x1F).netConfigOk 0 = false := by decide

theorem wit_PortEnables_kvt : (macDev [(F.KVT_PCFG.LINK_ID 0, 1), (F.NET_STAT.LINK_UP 0, 1)]).on (F.KVT_PCFG.ENABLE 0) = false
    ∧ (macDev [(F.NET_STAT.LINK_UP 0, 1)]).netUp 0 = true ∧ (macDev []).netUp 0 = false ∧ (macDev []).fld (F.KVT_STAT.STATE 0) = 0
    ∧ ((macDev []).stored .kvt O.KVT_PCFG 1).kvtConfigOk 0 = false ∧ ((macDev [(F.KVT_PCFG.LINK_ID 0, 1)]).setFld (F.KVT_PCFG.ENABLE 0) 1).kvtConfigOk 0 = true := by
  decide

/-- A twin whose port carries the lane. -/
def twinSet : Dev := dev [(F.NET_CFG.ENABLE 0, 1), (F.NET_CFG.ROLE 0, 0), (F.NET_CFG.LINE_MODE 0, 3), (F.TWN_PAIR_ID.PAIR_ID, 7)]

theorem wit_TwinEnable : At (st twinSet) 0 0 twinSet ∧ Open twinSet .twn O.TWN_CFG 1 ∧ (twinSet.stored .twn O.TWN_CFG 1).twinConfigOk = true
    ∧ twinSet.twinState ≠ 6 ∧ (onDev.stored .twn O.TWN_CFG 1).twinConfigOk = false ∧ Open onDev .win (O.WIN_THR + 0x20 * 127) 0x10000
    ∧ (dev [(F.WIN_CFG.ENABLE 127, 1)]).winOn 127 = true
    ∧ ((dev [(F.WIN_CFG.ENABLE 127, 1)]).stored .win (O.WIN_THR + 0x20 * 127) 0x20001).reg .win (O.WIN_THR + 0x20 * 127)
      ≠ (dev [(F.WIN_CFG.ENABLE 127, 1)]).reg .win (O.WIN_THR + 0x20 * 127) :=
  ⟨at_st rfl rfl rfl, open_of (by decide) (by decide) (by decide), by decide, by decide, by decide, open_of (by decide) (by decide) (by decide), by decide⟩

theorem wit_WritesFollowAccessCodes : findReg O.WIN_THR (regDefs .win) ≠ none ∧ findReg O.PWR_SW_RESET (regDefs .pwr) ≠ none
    ∧ findReg O.FLT_STATE (regDefs .flt) ≠ none ∧ findReg O.EVT_FLAG (regDefs .evt) ≠ none := by decide

theorem wit_RegisterWrites : At (st onDev) 0 0 onDev ∧ Sv sv ∧ (BitVec.ofNat 32 (blkBase .flt + O.FLT_EG_ENABLE)).toNat % 4 = 0
    ∧ onDev.place (blkBase .flt + O.FLT_EG_ENABLE) = .reg .flt O.FLT_EG_ENABLE ∧ absentReg onDev.part .flt O.FLT_EG_ENABLE = false
    ∧ onDev.place (blkBase .flt + O.FLT_STATE) = .reg .flt O.FLT_STATE ∧ absentReg .dx8828 .net (O.NET_CFG + 0x3000) = true :=
  ⟨at_st rfl rfl rfl, sv_sv, by decide⟩

/-- The register space of UART_7 lies in the block of the serial ports. -/
theorem wit_RegisterWrites_uart7 : onDev.place (blkBase .ser + 0x80 * 7) = .reg .ser (0x80 * 7) ∧ findReg (0x80 * 7) (regDefs .ser) ≠ none
    ∧ (0x80 * 7) / 0x80 = 7 := by decide

theorem wit_PairReads : pairOf .evt O.EVT_CNT_LO = [O.EVT_CNT_HI] ∧ pairLows .evt O.EVT_CNT_LO = [] ∧ pairLows .evt O.EVT_CNT_HI ≠ [] := by decide

theorem wit_Violations : At (st onDev) 0 0 onDev ∧ inMsix sv 0x30000000 = false ∧ onDev.stalled 0x30000000 = onDev
    ∧ onDev.violation sv 0x30000000 false = some 3 ∧ onDev.violation sv 0x30000000 true = some 3 ∧ sv.onMirror 0x30000000 = false
    ∧ sv.mapped 0x30000000 = true :=
  ⟨at_st rfl rfl rfl, by decide, rfl, by decide⟩

theorem wit_SecureFetches : At (st (dev [(F.WLD_REGION_TAG.TAG 7 13, 1)])) 0 0 (dev [(F.WLD_REGION_TAG.TAG 7 13, 1)])
    ∧ (dev [(F.WLD_REGION_TAG.TAG 7 13, 1)]).masterSecure sv = true ∧ (dev [(F.WLD_REGION_TAG.TAG 7 13, 1)]).place 0x087D0000 = .sram 125
    ∧ (dev [(F.WLD_REGION_TAG.TAG 7 13, 1)]).regionTag 125 = 1 ∧ (dev [(F.WLD_REGION_TAG.TAG 7 13, 1)]).fld F.WLD_VIOL_CNT.ENTRIES = 0 :=
  ⟨at_st rfl rfl rfl, by decide⟩

theorem wit_SecureFetches_stalled : (dev [(F.WLD_REGION_TAG.TAG 7 13, 1)]).stalled 0x087D0000 = dev [(F.WLD_REGION_TAG.TAG 7 13, 1)] := rfl

/-- Host window 15 is open: 4 KB at 0x20000000. -/
def winDev (up : Nat) : Dev := dev [(F.WLD_HWIN_CTRL.ENABLE 15, 1), (F.WLD_HWIN_CTRL.SIZE 15, 12), (F.WLD_HWIN_DEV.DEV_BASE 15, 0x20000), (F.HST_STATUS.LINK_UP, up)]

theorem wit_HostWindow : At (st (winDev 1)) 0 0 (winDev 1) ∧ (winDev 1).place 0x20000FFC = .window 15 ∧ (winDev 1).violation sv 0x20000FFC false = none
    ∧ (winDev 1).violation sv 0x20000FFC true = none ∧ (winDev 1).on F.HST_STATUS.LINK_UP = true ∧ (winDev 0).on F.HST_STATUS.LINK_UP = false :=
  ⟨at_st rfl rfl rfl, by decide⟩

theorem wit_MemoryErrors : At (st onDev) 0 0 onDev ∧ (3#16 : BitVec 16) ≠ 0 ∧ ¬ (copyBase ≤ 0x087DFFFC ∧ 0x087DFFFC < copyBase + 0x20000)
    ∧ onDev.bitOf F.WLD_LOCKSTEP.HELD 1 = false ∧ (dev [(F.WLD_LOCKSTEP.HELD, 2)]).bitOf F.WLD_LOCKSTEP.HELD 1 = true :=
  ⟨at_st rfl rfl rfl, by decide⟩

/-! ### Witnesses: rings, the link, supplies and resets -/

/-- Positions where the clauses of R166 meet, for a ring of 16 slots with D and the last doorbell at 3 and 5. -/
theorem wit_DoorbellJudgement : (ringDev 1 []).ringSize 1 = 16 ∧ (0x01000010#32).toNat % 2 ^ 16 = 16 ∧ (0x02000000#32).toNat / 2 ^ 24 ≠ 1
    ∧ (5 + 256 * 16 - 4) % (256 * 16) = 1 ∧ (5 + 256 * 16 - 4085) % (256 * 16) = 16 ∧ (5 + 256 * 16 - 5) % (256 * 16) = 0
    ∧ (5 + 256 * 16 - 4084) % (256 * 16) = 17 ∧ (19 + 256 * 16 - 3) % (256 * 16) = 16 ∧ (20 + 256 * 16 - 3) % (256 * 16) = 17 := by decide

/-- Ring 63 polls its doorbell word in host memory through window 15. -/
def pollDev (up : Nat) : Dev := dev [(F.WLD_HWIN_CTRL.ENABLE 15, 1), (F.WLD_HWIN_CTRL.SIZE 15, 12), (F.WLD_HWIN_DEV.DEV_BASE 15, 0x20000), (F.HST_STATUS.LINK_UP, up),
  (F.HST_RING_CTRL.ENABLE 63, 1), (F.HST_RING_CTRL.STATE 63, 1), (F.HST_RING_CFG.DISC 63, 1), (F.HST_RING_DB.DB_ADDR 63, 0x8000001)]

theorem wit_Doorbells : At (st (pollDev 1)) 0 0 (pollDev 1) ∧ (pollDev 1).ringRuns 63 = true ∧ (pollDev 1).fld (F.HST_RING_CFG.DISC 63) % 2 = 1
    ∧ (pollDev 1).place ((pollDev 1).fld (F.HST_RING_DB.DB_ADDR 63) * 4) = .window 15 ∧ (pollDev 1).violation (ringAccess 63) 0x20000004 false = none
    ∧ (pollDev 0).on F.HST_STATUS.LINK_UP = false ∧ onDev.ringRuns 63 = false ∧ (pollDev 1).masterSecure sv = true
    ∧ 2 ≤ (dev [(F.HST_RING_CFG.DISC 63, 2)]).fld (F.HST_RING_CFG.DISC 63)
    ∧ onDev.place ((dev [(F.HST_RING_DB.DB_ADDR 63, 0x2000800)]).fld (F.HST_RING_DB.DB_ADDR 63) * 4) = .sram 0 ∧ onDev.place 0 = .rom
    ∧ onDev.place 0x20000000 = .unmapped :=
  ⟨at_st rfl rfl rfl, by decide⟩

/-- The poll of ring 63 at 1 µs after the last, whose interval is 1 µs or longer; a ring with DISC 3. -/
theorem wit_Doorbells_due : (pollDev 1).pollDue 63 = true ∧ ({ (pollDev 1).modRing 63 (fun r => { r with pollAt := some 0 }) with now := 0 } : Dev).pollDue 63
      = decide ((pollDev 1).fld (F.HST_POLL.INTERVAL 7) = 0)
    ∧ ((pollDev 1).setFld (F.HST_POLL.INTERVAL 7) 2 |>.modRing 63 (fun r => { r with pollAt := some 0 })).pollDue 63 = false
    ∧ ({ (pollDev 1).setFld (F.HST_POLL.INTERVAL 7) 2 |>.modRing 63 (fun r => { r with pollAt := some 0 }) with now := 1 } : Dev).pollDue 63 = true
    ∧ ((pollDev 1).setFld (F.HST_RING_CFG.DISC 63) 3).fld (F.HST_RING_CFG.DISC 63) = 3 := by decide

/-- A write-back of ring 63 is due, to host memory or, without the window, to no memory. -/
def wbDev (l : List (Fld × Nat)) : Dev :=
  (dev ([(F.HST_STATUS.LINK_UP, 1), (F.HST_RING_CTRL.ENABLE 63, 1), (F.HST_RING_CTRL.STATE 63, 1), (F.HST_RING_WB.WB_ADDR 63, 0x2000000)] ++ l)).modRing 63
    (fun r => { r with wbDue := true })

theorem wit_WriteBacks : (wbDev [(F.WLD_HWIN_CTRL.ENABLE 15, 1), (F.WLD_HWIN_CTRL.SIZE 15, 12), (F.WLD_HWIN_DEV.DEV_BASE 15, 0x20000)]).ringRuns 63 = true
    ∧ ((wbDev []).ring 63).wbDue = true
    ∧ (wbDev [(F.WLD_HWIN_CTRL.ENABLE 15, 1), (F.WLD_HWIN_CTRL.SIZE 15, 12), (F.WLD_HWIN_DEV.DEV_BASE 15, 0x20000)]).place 0x20000000 = .window 15
    ∧ (wbDev [(F.WLD_HWIN_CTRL.ENABLE 15, 1), (F.WLD_HWIN_CTRL.SIZE 15, 12), (F.WLD_HWIN_DEV.DEV_BASE 15, 0x20000)]).violation (ringAccess 63) 0x20000000 true = none
    ∧ (wbDev []).fld (F.HST_RING_WB.WB_ADDR 63) * 16 = 0x20000000 ∧ (wbDev []).place 0x20000000 = .unmapped := by decide

/-- An interrupt of ring 63 is due on both targets. -/
def irqDev : Dev := (dev [(F.HST_RING_CTRL.ENABLE 63, 1), (F.HST_RING_CTRL.STATE 63, 1), (F.HST_RING_CFG.TARGET 63, 3), (F.HST_STATUS.MSIX_EN, 1)]).modRing 63
  (fun r => { r with irqDue := true, unsig := 1 })

theorem wit_RingInterrupts : irqDev.irqCondition 63 = true ∧ (irqDev.ring 63).wbDue = false ∧ onDev.irqCondition 63 = false
    ∧ (irqDev.fld (F.HST_RING_CFG.TARGET 63)).testBit 0 = true ∧ (irqDev.fld (F.HST_RING_CFG.TARGET 63)).testBit 1 = true
    ∧ irqDev.ringSecure 63 = true ∧ (dev [(F.WLD_WAT.APPLIED_NS 127, 1)]).ringSecure 63 = false := by decide

/-- Ring 63 is an event ring that has dropped one record and has a free slot. -/
def lossDev : Dev := (dev [(F.HST_RING_CTRL.ENABLE 63, 1), (F.HST_RING_CTRL.STATE 63, 1), (F.HST_RING_CFG.TYPE 63, 1), (F.HST_RING_CFG.LOG2SIZE 63, 4),
  (F.HST_RING_BASE.BASE 63, 0x200000)]).modRing 63 (fun r => { r with hs := 1, lost := 1 })

theorem wit_Overflow : lossDev.ringRuns 63 = true ∧ lossDev.fld (F.HST_RING_CFG.TYPE 63) = 1 ∧ 0 < (lossDev.ring 63).lost ∧ 0 < lossDev.ringAvail 63
    ∧ lossDev.place (lossDev.ringDesc 63) = .sram 0 ∧ lossDev.violation (ringAccess 63) (lossDev.ringDesc 63) true = none := by decide

/-- A stream buffer of ring 63 has held a record for 999 µs or for 1,000 µs. -/
def bufDev (t : Stamp) : Dev := { (dev [(F.HST_RING_CFG.TYPE 63, 2)]).modRing 63 (fun r => { r with buf := some ⟨0, 64, false, 12, 0, 0⟩ }) with now := t }

theorem wit_BufferExpiry : (bufDev 999).fld (F.HST_RING_CFG.TYPE 63) = 2 ∧ (bufDev 999).now.since 0 < 1000 ∧ 1000 ≤ (bufDev 1000).now.since 0
    ∧ ((bufDev 1000).ring 63).buf.isSome = true := by decide

theorem wit_PcieLink : (dev [(F.HST_STATUS.LINK_UP, 1)]).on F.HST_STATUS.LINK_UP = true ∧ onDev.fld F.PWR_STATE.STATE ≠ 2 ∧ onDev.islandHeld 0 = false
    ∧ (∀ n < 64, ((dev [(F.HST_STATUS.LINK_UP, 1)]).on (F.HST_RING_CTRL.ENABLE n) && (dev [(F.HST_STATUS.LINK_UP, 1)]).ringInWindow n) = false)
    ∧ (winDev 1).place 0x20000000 = .window 15 ∧ onDev.fld F.HST_PCIE_CFG.CPL_TO_MS * 1000 ≤ (10000#32).toNat
    ∧ (9999#32).toNat < onDev.fld F.HST_PCIE_CFG.CPL_TO_MS * 1000 := by decide

theorem wit_ResetEvents : findReg O.FLT_EG_ENABLE (regDefs .flt) ≠ none ∧ (Blk.flt, O.FLT_EG_ENABLE) ∉ [F.PWR_RESET_CAUSE.EVENT.place, F.PWR_OUTLOG_IDX.NEXT.place,
    F.PWR_RAIL_STAT.IN_WINDOW.place, F.PWR_STATE.VMAIN_OK.place] := by decide

/-- The device held in reset, and one in STANDBY with its rails asked for. -/
def heldDev (m : PMode) (w : Bool) : Dev := { State.reset.dev with power := { State.reset.dev.power with mode := m, wakeOn := w } }

theorem wit_ResetCommands : AtPower (st (heldDev .held false)) 0 (heldDev .held false) ∧ AtPower (st (heldDev .standby true)) 0 (heldDev .standby true)
    ∧ AtPower State.reset 0 State.reset.dev ∧ (127#17 : BitVec 17).toNat % 128 = 127 ∧ (126#17 : BitVec 17).toNat % 128 ≠ 127
    ∧ State.reset.dev.power.mode = .off ∧ State.reset.dev.power.rst = false ∧ (heldDev .held false).power.fell = false
    ∧ (heldDev .standby true).power.wakeOn = true :=
  ⟨rfl, rfl, rfl, by decide⟩

/-- Held since all power but VBAT was lost, or with RST_N low; switched off or in STANDBY with RST_N low. -/
def lostDev (m : PMode) (fell rst : Bool) : Dev := { State.reset.dev with power := { State.reset.dev.power with mode := m, fell := fell, rst := rst } }

theorem wit_ResetCommands_kinds : (lostDev .held true false).power.fell = true ∧ (lostDev .held false true).power.rst = true
    ∧ (lostDev .off false true).power.rst = true ∧ topRst (0#9).toNat = none ∧ topRst (2#9).toNat ≠ none ∧ ((lostDev .held false true).rtcTick 0).railsOk = false
    ∧ ((lostDev .held false true).setFld F.PWR_RAIL_STAT.IN_WINDOW 127).railsOk = true ∧ onDev.power.mode = .on ∧ (heldDev .standby false).power.wakeOn = false := by
  decide

theorem wit_ResetCommands_rails : ((heldDev .held false).setFld F.PWR_RAIL_STAT.IN_WINDOW 127).railsOk = true ∧ (heldDev .held false).railsOk = false
    ∧ ({ onDev with power := { onDev.power with wdtUs := 2000000 } } : Dev).fld F.PWR_WDT_CFG.TIMEOUT_MS
      ≤ ({ onDev with power := { onDev.power with wdtUs := 2000000 } } : Dev).wdtMs ∧ onDev.wdtMs < onDev.fld F.PWR_WDT_CFG.TIMEOUT_MS := by decide

theorem wit_SupplyMonitors : onDev.part.hasBank 7 = true ∧ ({ onDev with part := .dx8828 } : Dev).part.hasBank 7 = false := by decide

/-! ### Witnesses: power states, boot, clocks, the front end -/

theorem wit_Doze : At (st (dev [(F.PWR_DOZE_CFG.ENABLE, 1)])) 0 0 (dev [(F.PWR_DOZE_CFG.ENABLE, 1)]) ∧ (dev [(F.PWR_DOZE_CFG.ENABLE, 1)]).fld F.PWR_STATE.STATE = 0
    ∧ (dev [(F.PWR_DOZE_CFG.ENABLE, 1)]).on F.PWR_DOZE_CFG.ENABLE = true ∧ onDev.coresRun ≠ 0 ∧ onDev.coresRun &&& 3 = onDev.coresRun :=
  ⟨at_st rfl rfl rfl, by decide⟩

theorem wit_Doze_irq : onDev.irqWaits = false ∧ ({ onDev with worlds := { onDev.worlds with timerPend := 1 } } : Dev).irqWaits = true := by decide

/-- HOLD since stamp 0; its budget of BUDGET_MS runs out. -/
def holdDev (t : Stamp) : Dev := { dev [(F.PWR_STATE.STATE, 2)] with now := t }

theorem wit_Hold : At (st (holdDev 1)) 1 0 (holdDev 1) ∧ (holdDev 1).fld F.PWR_STATE.STATE = 2 ∧ (holdDev 1).budgetOver = false
    ∧ (holdDev 100000000).budgetOver = true ∧ (holdDev 1).power.waitS = false ∧ (holdDev 1).power.waitN = false ∧ onDev.fld F.PWR_STATE.STATE < 2
    ∧ onDev.on F.HST_STATUS.LINK_UP = false ∧ (dev [(F.NET_CFG.ENABLE 3, 1), (F.NET_CFG.ROLE 3, 1)]).on (F.NET_CFG.ENABLE 3) = true
    ∧ (dev [(F.NET_CFG.ENABLE 3, 1), (F.NET_CFG.ROLE 3, 1)]).netRole 3 ≠ 0 ∧ (holdDev 1).boot.inHold = false
    ∧ (dev [(F.PWR_STATE.STATE, 1)]).fld F.PWR_STATE.STATE = 1 :=
  ⟨at_st rfl rfl rfl, by decide⟩

theorem wit_Hold_waits : ({ onDev with boot := { startDue := true, byS := true } } : Dev).boot.startDue = true ∧ onDev.boot.startDue = false
    ∧ ({ holdDev 1 with power := { (holdDev 1).power with holdDue := true } } : Dev).power.holdDue = true ∧ (holdDev 1).power.holdDue = false := by decide

def standbyDev (m : Nat) : Dev := { (dev [(F.PWR_WAKE_CFG.MODE, m)]) with power := { State.reset.dev.power with mode := .standby } }

theorem wit_Wake : AtPower (st (standbyDev 4)) 0 (standbyDev 4) ∧ (standbyDev 4).power.mode = .standby ∧ (standbyDev 4).power.wakeOn = false
    ∧ ((standbyDev 4).rtcTick 0).fld F.PWR_WAKE_CFG.MODE / 2 ^ (2 * 1) % 4 = 1 ∧ ((standbyDev 8).rtcTick 0).fld F.PWR_WAKE_CFG.MODE / 2 ^ (2 * 1) % 4 = 2
    ∧ ((standbyDev 0).rtcTick 0).fld F.PWR_WAKE_CFG.MODE / 2 ^ (2 * 1) % 4 = 0 :=
  ⟨rfl, by decide⟩

/-- WAKE_CMP_1 falls without its both-edges bit; the alarm's second, reached or not; WAKE_0 and WAKE_CMP_1 of each mode. -/
theorem wit_Wake_sources : ((standbyDev 0).rtcTick 0).on F.PWR_WAKE_CFG.CMP_1_BOTH = false ∧ ((standbyDev 0).rtcTick 0).fld F.PWR_RTC_SEC.SEC = 0
    ∧ ((standbyDev 0).rtcTick 0).fld F.PWR_RTC_ALARM.ALARM = 0 ∧ (((standbyDev 0).setFld F.PWR_RTC_ALARM.ALARM 1).rtcTick 0).fld F.PWR_RTC_ALARM.ALARM = 1
    ∧ ((standbyDev 0x10).rtcTick 0).fld F.PWR_WAKE_CFG.MODE / 2 ^ (2 * 2) % 4 = 1 ∧ ((standbyDev 2).rtcTick 0).fld F.PWR_WAKE_CFG.MODE / 2 ^ (2 * 0) % 4 = 2 := by
  decide

/-- A boot that has scanned the seal and tries its sources. -/
def bootDev (srcs : List Nat) (t : Stamp) : Dev := { onDev with now := t, boot := { running := true, scanned := true, sources := srcs } }

theorem wit_BootSources : At (st (bootDev [0, 2] 0)) 0 0 (bootDev [0, 2] 0) ∧ (bootDev [0, 2] 0).boot.running = true ∧ (bootDev [0, 2] 0).boot.scanned = true
    ∧ (bootDev [0, 2] 0).boot.sources = 0 :: [2] ∧ imgReason .dx8856 [] [] ≠ 0 ∧ (bootDev [2] 0).boot.sources.head? = some 2
    ∧ 10000000 ≤ (bootDev [2] 10000000).now.since 0 ∧ (bootDev [2] 9999999).now.since 0 < 10000000 ∧ ([1] : List Nat).head? ≠ some 2 :=
  ⟨at_st rfl rfl rfl, by decide⟩

/-- What an 8D-8D-8D read delivers begins with MAGIC, or not; a source in turn that is not PCIe. -/
theorem wit_BootSources_octal : hasMagic [0x31, 0x4B, 0x43, 0x4B] = true ∧ hasMagic [] = false ∧ (bootDev [0, 2] 0).boot.sources.head? ≠ some 2
    ∧ imgReason .dx8856 [] [0x31, 0x4B, 0x43, 0x4B] ≠ 0 := by decide

theorem wit_SealScans_read : (0x3A910C7EC56EF381#64).extractLsb' 32 32 = 0x3A910C7E#32 ∧ (0x3A910C7EC56EF381#64).extractLsb' 0 32 = 0xC56EF381#32
    ∧ (0xC56EF381#32 : Word) = ~~~ 0x3A910C7E#32 ∧ (0xFFFFFFFF#32 : Word) ≠ ~~~ 0xFFFFFFFF#32 := by decide

theorem wit_SealScans : (onDev.sealRead 0x3A910C7EC56EF381).2 = some 0x3A910C7E#32 ∧ (onDev.sealRead 0).2 = none ∧ onDev.boot.running = false
    ∧ onDev.boot.invalid = 0 ∧ ({ onDev with now := 1000000 } : Dev).now.since 0 = 1000000 ∧ ({ onDev with now := 999999 } : Dev).now.since 0 < 1000000
    ∧ (({ onDev with boot := { running := true, invalid := 2 } } : Dev).sealRead 0).1.boot.invalid = 3
    ∧ (onDev.sealRead 0x3A910C7EC56EF381).1.fld F.PWR_SEAL_LAST.CODE = 0 ∧ ((dev [(F.BOT_STATUS.PHASE, 4)]).sealRead 0x3A910C7EC56EF381).1.fld F.BOT_STATUS.PHASE = 4
    ∧ ((dev [(F.BOT_STATUS.PHASE, 4)]).sealRead 0x3A910C7EC56EF381).1.has .sealChanged .bot = false
    ∧ (0x3A910C7E#32).toNat ≠ ((dev [(F.BOT_STATUS.PHASE, 4)]).sealRead 0x3A910C7EC56EF381).1.fld F.BOT_SEAL_IN_FORCE.CODE := by decide

/-- The scans of operation and their repeats, 10 ms apart; the scan of Step 3. -/
theorem wit_SealScans_repeats : ({ onDev with now := 999999 } : Dev).now.since onDev.boot.periodAt < 1000000 ∧ onDev.boot.repeats = 0
    ∧ ({ onDev with boot := { repeats := 2 } } : Dev).boot.repeats = 1 + 1 ∧ 10000 ≤ ({ onDev with now := 10000 } : Dev).now.since onDev.boot.scanAt
    ∧ ({ onDev with now := 9999 } : Dev).now.since onDev.boot.scanAt < 10000 ∧ ({ onDev with boot := { running := true, repeats := 2 } } : Dev).boot.scanned = false
    ∧ ({ onDev with boot := { running := true, scanned := true } } : Dev).boot.running = true
    ∧ (dev [(F.PWR_SEAL_LAST.CODE, 7)]).fld F.PWR_SEAL_LAST.CODE ≠ 0
    ∧ ((dev [(F.BOT_STATUS.PHASE, 4), (F.BOT_SEAL_IN_FORCE.CODE, 0x3A910C7E)]).sealRead 0x3A910C7EC56EF381).1.fld F.BOT_SEAL_IN_FORCE.CODE = 0x3A910C7E := by decide

def startDev : Dev := { onDev with boot := { startDue := true } }

theorem wit_EngineStart : At (st startDev) 0 0 startDev ∧ startDev.boot.startDue = true ∧ startDev.twinLets = true ∧ startDev.twin.held = false
    ∧ onDev.boot.startDue = false :=
  ⟨at_st rfl rfl rfl, by decide⟩

theorem wit_EngineStart_held : startDev.boot.started = false ∧ startDev.power.holdDue = false
    ∧ ({ startDev with power := { startDev.power with holdDue := true } } : Dev).power.holdDue = true
    ∧ ({ startDev with twin := { held := true } } : Dev).twinLets = false ∧ startDev.causes.foldl (fun m c => max m c.cls) startDev.boot.worst < 6 := by decide

/-- A held twin whose LOCK_WAIT_MS has run out. -/
def heldTwin (t : Stamp) : Dev := { onDev with now := t, twin := { held := true } }

theorem wit_LockWait : (heldTwin 2000000).twin.held = true ∧ (heldTwin 2000000).twin.startAt = none
    ∧ (heldTwin 2000000).fld F.TWN_CFG.LOCK_WAIT_MS * 1000 ≤ (heldTwin 2000000).now.since 0
    ∧ (heldTwin 1999999).now.since 0 < (heldTwin 1999999).fld F.TWN_CFG.LOCK_WAIT_MS * 1000 := by decide

theorem wit_SampleTimeWrap : Runs (st { onDev with now := 0xFFFFFFFFFFFF }) ∧ (st { onDev with now := 0xFFFFFFFFFFFF }).dev.now = 0xFFFFFFFFFFFF#48
    ∧ (st onDev).dev.now ≠ 0xFFFFFFFFFFFF#48 := ⟨rfl, by decide⟩

def mapDev (t : Stamp) : Dev := { (dev [(F.ISL_PTP_SRC.ENABLE, 1)]) with now := t }

theorem wit_MappingPairs : At (st (mapDev 1000000)) 1000000 0 (mapDev 1000000) ∧ (mapDev 1000).on F.ISL_PTP_SRC.ENABLE = true ∧ (mapDev 1000).clocks.mapDue = none
    ∧ (mapDev 1000).now.toNat % 1000 = 0 ∧ (mapDev 1000).now.toNat % 1000000 ≠ 0 ∧ (mapDev 1001).now.toNat % 1000 ≠ 0 ∧ (mapDev 1000000).now.toNat % 1000000 = 0
    ∧ onDev.on F.ISL_PTP_SRC.ENABLE = false :=
  ⟨at_st rfl rfl rfl, by decide⟩

/-- Every monitor has measured a gate. -/
def clkDev (l : List (Fld × Nat)) : Dev := { (dev l) with clocks := { judging := 8191 } }

theorem wit_ClockMonitors : At (st (clkDev [])) 0 0 (clkDev []) ∧ (clkDev []).clockGated 12 = false ∧ (clkDev []).part.hasPort 3 = true
    ∧ (clkDev []).clocks.judging.testBit 12 = true ∧ onDev.clocks.judging.testBit 12 = false ∧ (clkDev []).clockVital 0 = true
    ∧ (clkDev [(F.NET_CFG.ROLE 3, 1)]).clockVital 12 = false ∧ (clkDev []).islandHeld (clockIsland 12) = false ∧ (clkDev []).clockVital 6 = false
    ∧ (clkDev []).clockOff 0 0 = 2 ∧ (dev [(F.PWR_STATE.STATE, 1)]).clockGated 6 = true ∧ (dev [(F.PWR_STATE.STATE, 2)]).clockGated 8 = true :=
  ⟨at_st rfl rfl rfl, by decide⟩

/-- A clock that gives 256 times the frequency of its monitor's line is in window. -/
theorem wit_ClockMonitors_window : (clkDev []).clockOff 4 (((clkDev []).clockHz 4).1 * 256 / ((clkDev []).clockHz 4).2) = 0 := by decide

theorem wit_FrontEndRecords : At (st { onDev with now := 50 }) 50 0 { onDev with now := 50 } ∧ ({ onDev with now := 50 } : Dev).now.toNat % 10 = 0
    ∧ ({ onDev with now := 50 } : Dev).now.toNat % 50 = 0 ∧ ({ onDev with now := 49 } : Dev).now.toNat % 10 ≠ 0 ∧ (sampleCode 655329999).2 = false
    ∧ (sampleCode 655330000).2 = true ∧ (sampleCode (-655330000)).2 = true :=
  ⟨at_st rfl rfl rfl, by decide⟩

def chanDev (m : Nat) (t : Stamp) : Dev := { (dev [(F.HAZ_CH_STAT.MODE_NOW 63, m), (F.HAZ_CH_STAT.SWITCH_ON 63, 1)]) with now := t }

theorem wit_FrontEndRecords_chan : (chanDev 1 10).modeNow 63 = 1 ∧ (chanDev 2 50).modeNow 63 = 2 ∧ (chanDev 1 10).bankOverlaps (63 / 8) (apertureStart 10 10) 10 = false
    ∧ ((chanDev 1 10).chan 63).settle = 0 ∧ (chanDev 1 10).selftestTags 63 false 10 = false ∧ (10 : Stamp) ≠ 0 ∧ ((chanDev 1 10).chan 63).moved ≠ some (apertureStart 10 10)
    ∧ 0 < (((chanDev 1 10).modChan 63 (fun k => { k with settle := 5 })).chan 63).settle := by decide

/-- Neither the evaluation nor a twin follows the channel's records; the latest crossing lay at the start of the gate. -/
theorem wit_FrontEndRecords_alone : onDev.twinOn = false ∧ (chanDev 1 10).evaluating = false ∧ (chanDev 1 10).headsWait = [] ∧ (chanDev 1 10).now.toNat % 10 = 0
    ∧ (((chanDev 2 50).modChan 63 (fun k => { k with cross := some 0 })).chan 63).cross = some 0 ∧ (31999#16).toNat < 0 + 32000 ∧ (3839#16).toNat < 0 + 3840
    ∧ (40#16 : BitVec 16) ≠ 0 ∧ (chanDev 2 50).now ≠ 0 ∧ (chanDev 2 50).bankOverlaps (63 / 8) (apertureStart 50 50) 50 = false
    ∧ (chanDev 2 50).selftestTags 63 true 50 = false ∧ ((chanDev 2 50).chan 63).moved ≠ some (apertureStart 50 50) ∧ (chanDev 2 51).now.toNat % 50 ≠ 0 := by decide

theorem wit_FrontEndEvents : At (st (chanDev 1 0)) 0 0 (chanDev 1 0) ∧ (chanDev 1 0).on (F.HAZ_CH_STAT.SWITCH_ON 63) = true ∧ (chanDev 1 0).evaluating = false
    ∧ ({ dev [(F.HED_CFG.ENABLE 31, 1), (F.HED_CFG.CH_A 31, 63), (F.HED_CFG.CH_B 31, 62)] with boot := { started := true } } : Dev).evaluating = true
    ∧ ({ dev [(F.HED_CFG.ENABLE 31, 1), (F.HED_CFG.CH_A 31, 63), (F.HED_CFG.CH_B 31, 62)] with boot := { started := true } } : Dev).sysOfChan 63 = some (31, 0)
    ∧ heldFor 1000000 1000000 (some 0) = true ∧ heldFor 999999 1000000 (some 0) = false ∧ ((chanDev 1 0).chan 63).beyond = false
    ∧ (((chanDev 1 0).modChan 63 (fun k => { k with beyond := true })).chan 63).beyond = true ∧ onDev.on (F.HAZ_BANK_STAT.CLAMP 7) = false
    ∧ (chanDev 1 0).selftestPass 63 70 = some false ∧ (chanDev 1 0).selftestPass 63 71 = none ∧ selftestGood 1 0 false 0 = true ∧ selftestGood 1 0 false 1000 = false :=
  ⟨at_st rfl rfl rfl, by decide⟩

def bankDev (t : Stamp) (s e q : Option Stamp) : Dev := { onDev.modBank 7 (fun k => { k with since := s, cmdEnd := e, quiet := q }) with now := t }

theorem wit_FrontEndEvents_bank : ((bankDev 10 none (some 10) none).bank 7).cmdEnd = some 10 ∧ (bankDev 10 none (some 10) none).now.reached 10 = true
    ∧ (bankDev 9 none (some 10) none).now.reached 10 = false ∧ ((bankDev 10 (some 0) none none).bank 7).since = some 0
    ∧ (bankDev 10000 (some 0) none none).fld (F.HAZ_BANK_BLANK_T.LIMIT_US 7) ≤ (bankDev 10000 (some 0) none none).now.since 0
    ∧ (bankDev 1 (some 0) none none).now.since 0 < (bankDev 1 (some 0) none none).fld (F.HAZ_BANK_BLANK_T.LIMIT_US 7)
    ∧ heldFor 1000 1000 ((bankDev 1000 none none (some 0)).bank 7).quiet = true ∧ (dev [(F.HAZ_BANK_STAT.HELD 7, 1)]).on (F.HAZ_BANK_STAT.HELD 7) = true := by decide

def auxDev : Dev := (dev [(F.HAZ_AUX_CFG.WIRES 15, 2)]).modAux 15 (fun x => { x with refs := [1, 1, 1, 1, 1, 1, 1, 1] })

theorem wit_FrontEndEvents_aux : auxDev.auxRunning 15 = true ∧ (auxDev.auxOf 15).refs.length = 8 ∧ (auxDev.auxOf 15).refSum ≠ 0 ∧ onDev.auxRunning 15 = false := by decide

theorem wit_FrontEndEvents_start : ((dev [(F.HAZ_AUX_CFG.WIRES 15, 2)]).auxOf 15).refs.length ≠ 8 ∧ (dev [(F.HAZ_AUX_CFG.WIRES 15, 2)]).auxRunning 15 = true
    ∧ (49#16).toNat < 50 ∧ 50 ≤ (50#16).toNat ∧ ((dev [(F.HAZ_BANK_BLANK.PIN_MASK 7, 8), (F.HAZ_BANK_BLANK.PIN_POL 7, 8)]).fld (F.HAZ_BANK_BLANK.PIN_MASK 7)).testBit 3 = true
    ∧ ((dev [(F.HAZ_BANK_BLANK.PIN_MASK 7, 8), (F.HAZ_BANK_BLANK.PIN_POL 7, 8)]).fld (F.HAZ_BANK_BLANK.PIN_POL 7)).testBit 3 = true ∧ (onDev.bank 7).since = none := by decide

theorem wit_BankEval : onDev.on (F.HAZ_BANK_STAT.HELD 7) = false ∧ (bankDev 0 none (some 10) none).bankSource 7 = true ∧ onDev.bankSource 7 = false := by decide

/-! ### Witnesses: heads, sections, monitors, generators, safety -/

/-- The evaluation runs at stamp `t`. -/
def evalDev (t : Stamp) (l : List (Fld × Nat)) : Dev := { dev l with now := t, boot := { started := true } }

theorem wit_WheelsAreCounted : ((0 : Int) ≤ (onDev.fld (F.SEC_CFG.MAX_COUNT 63) : Int)) ∧ (-1 : Int) < 0 ∧ onDev.has .secCountNegative (.sec 63) = false
    ∧ onDev.has .secCountLimit (.sec 63) = false ∧ (onDev.fld (F.SEC_CFG.MAX_COUNT 63) : Int) ≤ 4096 ∧ onDev.pattern 31 = 0 ∧ (dev [(F.HED_STATE.PATTERN 31, 1)]).pattern 31 = 1
    ∧ (dev [(F.HED_CFG.GAMBIT_EN 31, 0)]).on (F.HED_CFG.GAMBIT_EN 31) = false ∧ onDev.on (F.HED_STATE.GAMBIT_OPEN 31) = false ∧ (dev [(F.HED_STATE.PATTERN 31, 4)]).pattern 31 = 4
    ∧ (dev [(F.HED_STATE.ENTRY_B 31, 1)]).fld (F.HED_STATE.ENTRY_B 31) = 1 := by decide

def gambitDev (t : Stamp) : Dev := evalDev t [(F.HED_CFG.ENABLE 31, 1), (F.HED_STATE.PATTERN 31, 1), (F.HED_STATE.GAMBIT_OPEN 31, 1)]

theorem wit_GambitWindow : At (st (gambitDev 5000)) 5000 0 (gambitDev 5000) ∧ (gambitDev 5000).evaluating = true ∧ (gambitDev 5000).headEnabled 31 = true
    ∧ (gambitDev 5000).pattern 31 = 1 ∧ (gambitDev 5000).on (F.HED_STATE.GAMBIT_OPEN 31) = true ∧ (gambitDev 5000).on (F.HED_STATE.CONFIRMED 31) = false
    ∧ (gambitDev 5000).fld (F.HED_GEOM.GAMBIT_WIN_MS 31) * 1000 ≤ (gambitDev 5000).now.since ((gambitDev 5000).head 31).gAt
    ∧ (gambitDev 4999).now.since ((gambitDev 4999).head 31).gAt < (gambitDev 4999).fld (F.HED_GEOM.GAMBIT_WIN_MS 31) * 1000 :=
  ⟨at_st rfl rfl rfl, by decide⟩

/-- The window ends with this very tick, before or after a record of the head; the section falls. -/
theorem wit_GambitWindow_edge : ((gambitDev 5000).head 31).seen ≠ some 5000 ∧ (((gambitDev 5000).modHead 31 (fun x => { x with seen := some 5000 })).head 31).seen = some 5000
    ∧ (gambitDev 5000).now.since ((gambitDev 5000).head 31).gAt = (gambitDev 5000).fld (F.HED_GEOM.GAMBIT_WIN_MS 31) * 1000
    ∧ ((dev [(F.SEC_STATE.STATE 63, 0)]).modSec 63 (fun x => { x with fall := true }) |>.sec 63).fall = true
    ∧ ((dev [(F.SEC_STATE.STATE 63, 0)]).modSec 63 (fun x => { x with fall := true })).secState 63 ≠ 2 := by decide

/-- A system of head 31 is damped for T_STUCK. -/
def stuckDev (t : Stamp) : Dev := (evalDev t [(F.HED_CFG.ENABLE 31, 1), (F.HED_LIMIT.T_STUCK 31, 1)]).modHead 31 (fun x => { x with a := { x.a with st := 1 } })

theorem wit_HeadStuck : (((stuckDev 1000000).head 31).sys 0).st = 1 ∧ (stuckDev 1000000).fld (F.HED_LIMIT.T_STUCK 31) * 1000000
      ≤ (stuckDev 1000000).now.since (((stuckDev 1000000).head 31).sys 0).dampedAt ∧ (stuckDev 1000000).sysFaulty 31 0 = false ∧ (stuckDev 1000000).sysHeld 31 0 = false
    ∧ (stuckDev 999999).now.since (((stuckDev 999999).head 31).sys 0).dampedAt < (stuckDev 999999).fld (F.HED_LIMIT.T_STUCK 31) * 1000000
    ∧ (stuckDev 1000000).has .headSysStuck (.head 31) 0 = false := by decide

theorem wit_EndgameExpiry_slot : (dev [(F.FLT_EG_SLOT_A.CAUSE 15, 1), (F.FLT_EG_SLOT_A.OBJECT 15, 31)]).fld (F.FLT_EG_SLOT_A.CAUSE 15) = 1
    ∧ (dev [(F.FLT_EG_SLOT_A.CAUSE 15, 1), (F.FLT_EG_SLOT_A.OBJECT 15, 31)]).fld (F.FLT_EG_SLOT_A.OBJECT 15) = 31
    ∧ (dev [(F.FLT_EG_SLOT_A.CAUSE 15, 2), (F.FLT_EG_SLOT_A.OBJECT 15, 47)]).fld (F.FLT_EG_SLOT_A.OBJECT 15) = 47 := by decide

theorem wit_EndgameExpiry : ({ onDev with now := 10, egExpiry := [(15, 10)] } : Dev).egExpiry = [(15, 10)] ∧ ({ onDev with now := 10 } : Dev).now.reached 10 = true
    ∧ (∀ e ∈ ({ onDev with now := 9, egExpiry := [(15, 10)] } : Dev).egExpiry, ({ onDev with now := 9 } : Dev).now.reached e.2 = false) := by decide

def confirmDev (t : Stamp) : Dev :=
  (evalDev t [(F.SEC_CFG.ENABLE 63, 1), (F.SEC_STATE.STATE 63, 1), (F.SEC_STATE.TIMING 63, 1)]).modSec 63 (fun x => { x with start := some 0 })

theorem wit_ClearConfirm : (confirmDev 1000000).evaluating = true ∧ (confirmDev 1000000).secEnabled 63 = true ∧ (confirmDev 1000000).secWaits 63 = true
    ∧ (confirmDev 1000000).secReady 63 = true ∧ (confirmDev 10000000).secConfirmed 63 = true ∧ (confirmDev 0).secConfirmed 63 = false
    ∧ (confirmDev 1000000).secCauses 63 = 0 := by decide

def sweepDev (t : Stamp) : Dev := evalDev t [(F.SEC_CFG.ENABLE 63, 1), (F.SEC_STATE.STATE 63, 3), (F.SEC_RESET.SWEEP_TIMEOUT_S 63, 1)]

theorem wit_SweepTimeout : (sweepDev 1000000).secState 63 = 3 ∧ (sweepDev 1000000).on (F.SEC_STATE.ENTERED 63) = false ∧ (sweepDev 1000000).fld (F.SEC_RESET.SWEEP_TIMEOUT_S 63) = 1
    ∧ 1 * 1000000 ≤ (sweepDev 1000000).now.since ((sweepDev 1000000).sec 63).prepared ∧ (sweepDev 999999).now.since ((sweepDev 999999).sec 63).prepared < 1 * 1000000 := by decide

theorem wit_PanelAuthorisation : (evalDev 1 []).evaluating = true ∧ (((evalDev 1 []).modFb 15 (fun y => { y with auth := some 0 })).fb 15).auth = some 0
    ∧ (evalDev 1 []).now.later 0 = true ∧ (evalDev 0 []).now.later 0 = false := by decide

theorem wit_PanelAuthorisation_section : (dev [(F.SEC_RESET.AUTH_PANEL 63, 1), (F.SEC_RESET.PANEL_FB 63, 15)]).on (F.SEC_RESET.AUTH_PANEL 63) = true
    ∧ (dev [(F.SEC_RESET.AUTH_PANEL 63, 1), (F.SEC_RESET.PANEL_FB 63, 15)]).fld (F.SEC_RESET.PANEL_FB 63) = 15 := by decide

theorem wit_EgExpire : (dev [(F.FLT_EG_SLOT_A.CAUSE 15, 3), (F.FLT_EG_SLOT_A.OBJECT 15, 0)]).fld (F.FLT_EG_SLOT_A.CAUSE 15) = 3
    ∧ (dev [(F.FLT_EG_SLOT_A.CAUSE 15, 3), (F.FLT_EG_SLOT_A.OBJECT 15, 0)]).fld (F.FLT_EG_SLOT_A.OBJECT 15) = 0 := by decide

def wmDev (l : List (Fld × Nat)) : Dev := dev ([(F.WIN_CFG.ENABLE 127, 1)] ++ l)

theorem wit_Comparators : At (st (wmDev [])) 0 0 (wmDev []) ∧ (wmDev []).winOn 127 = true ∧ (wmDev []).winBlanked 127 = false ∧ (wmDev []).on (F.WIN_STAT.HI 127) = false
    ∧ (wmDev []).fld (F.WIN_CFG.QUAL_HI 127) = 0 ∧ onDev.winOn 127 = false ∧ ((wmDev []).modMon 127 (fun x => { x with cnt := 1 })).winBlanked 127 = true
    ∧ (((wmDev []).modMon 127 (fun x => { x with settle := some (2, 0) })).mon 127).settle = some (2, 0) ∧ (wmDev []).past (2, 0) = false
    ∧ ({ wmDev [] with now := 2 } : Dev).past (2, 0) = true :=
  ⟨at_st rfl rfl rfl, by decide⟩

/-- Generator 47 is in SYNC on monitor 127, whose output has been active for less than 5 ns, or for 5. -/
def syncDev (fine : Nat) : Dev := { ((wmDev [(F.PGN_CFG.SYNC_EN 47, 1), (F.PGN_CFG.SYNC_WM 47, 15)]).modGen 47
  (fun g => { g with started := true, cfg := (wmDev [(F.PGN_CFG.SYNC_EN 47, 1), (F.PGN_CFG.SYNC_WM 47, 15)]).reg .pgn (F.PGN_CFG.SYNC_EN 47).off |>.toNat })).modMon 127
    (fun x => { x with actHi := some (0, 0) }) with fine := fine }

theorem wit_Comparators_sync : ((syncDev 5).gen 47).started = true ∧ (F.PGN_CFG.SYNC_EN 47).of ((syncDev 5).gen 47).cfg = 1
    ∧ (F.PGN_CFG.SYNC_WM 47).of ((syncDev 5).gen 47).cfg = 127 - 112 ∧ ((syncDev 5).mon 127).actHi = some (0, 0)
    ∧ (syncDev 5).past ((0 : Stamp).plus ((0 + 5) / 1000), (0 + 5) % 1000) = true ∧ (syncDev 4).past ((0 : Stamp).plus ((0 + 5) / 1000), (0 + 5) % 1000) = false
    ∧ ((wmDev []).mon 127).actHi = none ∧ 25 * ((wmDev []).fld (F.WIN_THR.UPPER 127) + ((wmDev []).mon 127).offUp) < (0xFFFF : Int) := by decide


/-- Monitor 0 is due for its self-test since stamp 0. -/
def testDev (t : Stamp) (ins : Nat) : Dev :=
  { dev [(F.WIN_CFG.ENABLE 0, 1), (F.WIN_CFG.ST_EN 0, 1), (F.WIN_ST_CFG.TEST_EN, 1), (F.WIN_ST_CFG.INSERT_EN, ins)] with now := t }

theorem wit_MonitorSelftests : (testDev 499999 1).testWaits 0 = some 0 ∧ (testDev 499999 1).now.since 0 < (testDev 499999 1).testPeriod / 2
    ∧ (testDev 500000 1).testPeriod / 2 ≤ (testDev 500000 1).now.since 0 ∧ (testDev 500000 1).on F.WIN_ST_CFG.INSERT_EN = true
    ∧ (testDev 500000 0).on F.WIN_ST_CFG.INSERT_EN = false ∧ onDev.testWaits 0 = none ∧ (testDev 0 1).blankQualifies 0 0 = false
    ∧ ((testDev 0 1).modMon 0 (fun x => { x with cnt := 1, blankLong := true, blankAt := some 0 })).blankQualifies 0 0 = true := by decide

theorem wit_Selftest_owed : ((testDev 0 1).mon 0).owed = none ∧ (((testDev 0 1).modMon 0 (fun x => { x with owed := some 5 })).mon 0).owed = some 5 := by decide

def verdictDev (m : Nat) (w : Bool) : Dev :=
  { (wmDev [(F.LMP_CFG.ENABLE 47, 1)]).modMon m (fun x => { x with due := [⟨w, 0, 0, 0, 0, false⟩] }) with boot := { started := true } }

theorem wit_PeriodVerdict : (verdictDev 127 true).boot.started = true ∧ ((verdictDev 127 true).mon 127).due = [⟨true, 0, 0, 0, 0, false⟩]
    ∧ ((verdictDev 47 false).mon 47).due = [⟨false, 0, 0, 0, 0, false⟩] ∧ (verdictDev 95 true).lampOn (95 - 48) = true ∧ (onDev.mon 127).due = [] := by decide

theorem wit_DacReadback : (wmDev []).on F.WIN_ST_CFG.READBACK_EN = true ∧ (wmDev []).nextDac = some 254
    ∧ onDev.nextDac = none ∧ (dev [(F.WIN_ST_CFG.READBACK_EN, 0)]).on F.WIN_ST_CFG.READBACK_EN = false ∧ 254 % 2 = 0
    ∧ 1 ≤ (((wmDev []).modMon 127 (fun x => { x with badUp := 1 })).mon 127).badUp := by decide

/-- Lamp 47 is in service, unlit, and proves in the slot of its number. -/
def proveDev (t : Stamp) : Dev := evalDev t [(F.LMP_CFG.ENABLE 47, 1), (F.LMP_CFG.PROVE_EN 47, 1), (F.LMP_STAT.STATE 47, 1), (F.LMP_CFG.PROVE_PERIOD 47, 1)]

theorem wit_ProvingPulse : (proveDev 94000).boot.started = true ∧ (proveDev 94000).lampOn 47 = true ∧ (proveDev 94000).on (F.LMP_CFG.PROVE_EN 47) = true
    ∧ (proveDev 94000).fld (F.LMP_CFG.MODE 47) ≠ 3 ∧ (proveDev 94000).lampServes 47 = true ∧ (proveDev 94000).lampLitNow 47 = false
    ∧ (proveDev 94000).now.toNat % ((proveDev 94000).fld (F.LMP_CFG.PROVE_PERIOD 47) * 100000) = 47 * 2000 := by decide

def genDev (g : GenSt) : Dev := { (dev [(F.PGN_CFG.ENABLE 47, 1), (F.PGN_PERIOD.PERIOD 47, 1000)]).modGen 47 (fun _ => g) with boot := { started := true } }

theorem wit_Generators : (genDev { started := true, sched := [(10, .onRise)], period := 1000 }).pgOn 47 = true
    ∧ ((genDev { started := true, sched := [(10, .onRise)], period := 1000 }).gen 47).sched = [(10, .onRise)]
    ∧ ((genDev { started := true, sched := [(10, .onRise)], period := 1000 }).gen 47).at_ + 10 = (((10#64).toNat : Int) + onDev.twin.genAdj).toNat
    ∧ ((genDev { started := true, period := 1000 }).gen 47).at_ + ((genDev { started := true, period := 1000 }).gen 47).period = 1000
    ∧ 2000 % max 1 ((genDev {}).fld (F.PGN_PERIOD.PERIOD 47)) = 0 ∧ ((genDev {}).gen 47).started = false ∧ onDev.pgOn 47 = false ∧ (genDev {}).boot.started = true
    ∧ (10 : Nat) < ((genDev { started := true, sched := [(10, .onRise)], period := 1000 }).gen 47).period
    ∧ ({ genDev {} with boot := {} } : Dev).boot.started = false := by decide

theorem wit_FlashPhase : ({ sigDev [] with boot := { started := true } } : Dev).boot.started = true ∧ (sigDev []).sigOn 15 = true := by decide

def tpDev (t : Stamp) (x : TpSt) : Dev := (evalDev t [(F.SAF_TP_CFG.ENABLE 0, 1), (F.SAF_SI_CFG.ENABLE 31, 1), (F.SAF_SI_CFG.TP_SRC 31, 1)]).modTp 0 (fun _ => x)

theorem wit_TestPulses : At (st (tpDev 0 {})) 0 0 (tpDev 0 {}) ∧ (tpDev 0 {}).evaluating = true ∧ (tpDev 0 {}).tpOn 0 = true ∧ (tpDev 0 {}).tpPhase 0 0 = 0
    ∧ (tpDev 0 {}).siOn 31 = true ∧ (tpDev 0 {}).siTp 31 = some 0 ∧ ((tpDev 0 { pulse := true }).tp 0).pulse = true
    ∧ (tpDev 1000 {}).fld (F.SAF_TP_CFG.WIDTH_US 0) ≤ (tpDev 1000 {}).tpPhase 0 1000 ∧ (tpDev 1 {}).tpPhase 0 1 < (tpDev 1 {}).fld (F.SAF_TP_CFG.WIDTH_US 0)
    ∧ (tpDev 9000 {}).tpSpan 0 ≤ (tpDev 9000 {}).tpPhase 0 9000 ∧ (tpDev 10 {}).tpPhase 0 10 < (tpDev 10 {}).tpSpan 0 ∧ ((tpDev 0 { window := true }).tp 0).window = true
    ∧ (evalDev 0 []).evaluating = true ∧ (evalDev 10 []).now.toNat % 10 = 0 ∧ (evalDev 9 []).now.toNat % 10 ≠ 0 ∧ onDev.evaluating = false :=
  ⟨at_st rfl rfl rfl, by decide⟩

theorem wit_TestPulses_good : (((tpDev 0 { good := 2 }).modTp 0 (fun x => { x with pulse := false, good := x.good + 1 })).setFld (F.SAF_TP_STAT.PIN 0) 1 |>.tp 0).good = 3
    ∧ (∀ n < 32, (evalDev 0 []).siOn n = true → (evalDev 0 []).siTp n = none) ∧ 1 ≤ ((onDev.modSi 31 (fun x => { x with missed := 1 })).si 31).missed
    ∧ 2 ≤ ((onDev.modSi 31 (fun x => { x with good := 2 })).si 31).good := by decide

/-- Input 31 without a source of its own at 24 V and at 0 V, and in its filter's run; before and after a window with the pin low. -/
def siDev (t : Stamp) (mv : Int) (b : Bool) : Dev :=
  (((evalDev t [(F.SAF_SI_CFG.ENABLE 31, 1), (F.SAF_SI_CFG.FILTER 31, 1)]).siLevels [(31, mv)]).modSi 31 (fun x => { x with base := b }))

theorem wit_SafetyInputs : (siDev 100 24000 true).siRaw 31 = true ∧ (siDev 100 24000 true).level 31 = false ∧ (siDev 100 24000 true).siTp 31 = none
    ∧ ((siDev 100 24000 true).si 31).base = true ∧ (siDev 100 24000 true).fld (F.SAF_SI_CFG.FILTER 31) * 100 ≤ (siDev 100 24000 true).now.since ((siDev 100 24000 true).si 31).run
    ∧ (siDev 90 24000 true).now.since ((siDev 90 24000 true).si 31).run < (siDev 90 24000 true).fld (F.SAF_SI_CFG.FILTER 31) * 100 ∧ (siDev 100 0 false).siRaw 31 = (siDev 100 0 false).level 31
    ∧ (siDev 100 15000 true).siRaw 31 = true ∧ (siDev 100 14999 true).siRaw 31 = false ∧ (siDev 100 5001 true).siRaw 31 = false
    ∧ ((tpDev 0 { window := true, before := 0x80000000, low := 0 }).tp 0).before.testBit 31 = true ∧ (tpDev 0 { window := true }).ownWindow 31 0 = true := by decide

def fbDev (t : Stamp) (x : FbSt) (l : List (Fld × Nat)) : Dev := (evalDev t ([(F.SAF_FB_CFG.ENABLE 15, 1)] ++ l)).modFb 15 (fun _ => x)

theorem wit_Discrepancy : (fbDev 500000 { disc0 := some 0 } []).evaluating = true ∧ (fbDev 500000 { disc0 := some 0 } []).fbOn 15 = true
    ∧ (fbDev 500000 { disc0 := some 0 } []).fbState 15 ≠ 6 ∧ ((fbDev 500000 { disc0 := some 0 } []).fb 15).disc1 = none
    ∧ ((fbDev 500000 { disc0 := some 0 } []).fb 15).disc0 = some 0
    ∧ (fbDev 100000000 { disc0 := some 0 } []).fld (F.SAF_FB_TIME.DISC_MS 15) * 1000 ≤ (fbDev 100000000 { disc0 := some 0 } []).now.since 0
    ∧ (fbDev 0 { disc0 := some 0 } []).now.since 0 < (fbDev 0 { disc0 := some 0 } []).fld (F.SAF_FB_TIME.DISC_MS 15) * 1000
    ∧ (fbDev 0 {} []).has .fbDiscrepancy (.fb 15) = false ∧ (evalDev 0 []).fbOn 15 = false := by decide

def ossdDev (t : Stamp) (l : List (Fld × Nat)) : Dev := fbDev t {} ([(F.SAF_FB_CFG.TYPE 15, 3), (F.SAF_FB_CFG.OSSD_CHECK 15, 1), (F.SAF_FB_IN.IN_B 15, 1)] ++ l)

theorem wit_Ossd : (ossdDev 0 []).fbType 15 = 3 ∧ (ossdDev 0 []).on (F.SAF_FB_CFG.OSSD_CHECK 15) = true ∧ (ossdDev 0 []).level 0 = false ∧ (ossdDev 0 []).level 1 = false
    ∧ (ossdDev 0 [(F.SAF_SI_STAT.LEVEL 0, 1)]).level 0 = true ∧ ((ossdDev 0 []).si 0).pulseAt = none ∧ (ossdDev 0 []).has .fbOssdNopulse (.fb 15) = false := by decide

/-- Function 15 has run for one interval, in which input 0 gave no pulse and input 1 one. -/
def pulseDev (t : Stamp) : Dev := (((ossdDev t [(F.SAF_FB_LIM.OSSD_CHECK_S 15, 1)]).modFb 15 (fun x => { x with begun := some 0 })).modSi 0
  (fun x => { x with pulseAt := some 0 })).modSi 1 (fun x => { x with pulseAt := some 1 })

theorem wit_Ossd_interval : ((pulseDev 1000000).fb 15).begun = some 0 ∧ (pulseDev 999999).now.since 0 < (pulseDev 999999).fld (F.SAF_FB_LIM.OSSD_CHECK_S 15) * 1000000
    ∧ (pulseDev 1000000).fld (F.SAF_FB_LIM.OSSD_CHECK_S 15) * 1000000 ≤ (pulseDev 1000000).now.since 0 ∧ ((pulseDev 1000000).si 1).pulseAt = some 1
    ∧ (pulseDev 1000000).now.since 1 < (pulseDev 1000000).fld (F.SAF_FB_LIM.OSSD_CHECK_S 15) * 1000000 := by decide

def panelDev (t : Stamp) : Dev := fbDev t { act := some 0 } [(F.SAF_FB_CFG.TYPE 15, 4), (F.SAF_FB_STAT.STATE 15, 1)]

theorem wit_Panel : (panelDev 100000000).fbType 15 = 4 ∧ (panelDev 100000000).fbState 15 = 1 ∧ ((panelDev 100000000).fb 15).issued = false
    ∧ ((panelDev 100000000).fb 15).act = some 0 ∧ (panelDev 100000000).fld (F.SAF_FB_TIME.PANEL_HOLD 15) * 10000 ≤ (panelDev 100000000).now.since 0 := by decide

theorem wit_SpeedHold : ((fbDev 10 { hold := some 10 } []).fb 15).hold = some 10 ∧ (fbDev 10 { hold := some 10 } []).now.reached 10 = true
    ∧ (fbDev 9 { hold := some 10 } []).now.reached 10 = false := by decide

def rstDev (t : Stamp) : Dev := (fbDev t {} [(F.SAF_FB_CFG.RST_SI 15, 1), (F.SAF_FB_CFG.RESET_SI 15, 31), (F.SAF_SI_STAT.LEVEL 31, 1)]).modSi 31 (fun x => { x with rise := some 0 })

theorem wit_ResetStuck : (rstDev 5000001).on (F.SAF_FB_CFG.RST_SI 15) = true ∧ (rstDev 5000001).fld (F.SAF_FB_CFG.RESET_SI 15) = 31 ∧ ((rstDev 5000001).si 31).rise = some 0
    ∧ (rstDev 5000001).level 31 = true ∧ ((rstDev 5000001).fb 15).stuck = false ∧ 5000000 < (rstDev 5000001).now.since 0 ∧ (rstDev 5000000).now.since 0 ≤ 5000000
    ∧ (fbDev 0 {} []).on (F.SAF_FB_CFG.RST_SI 15) = false := by decide

def handDev (t : Stamp) : Dev := fbDev t { hand0 := { alone := some 0 } } [(F.SAF_FB_CFG.TYPE 15, 2)]

theorem wit_ButtonStuck : (handDev 255000000).fbType 15 = 2 ∧ ((handDev 255000000).fb 15).hand1.alone = none ∧ ((handDev 255000000).fb 15).hand0.alone = some 0
    ∧ ((handDev 255000000).fb 15).hand0.told = false ∧ (handDev 255000000).fld (F.SAF_FB_TIME.STUCK_S 15) * 1000000 ≤ (handDev 255000000).now.since 0
    ∧ (handDev 0).now.since 0 < (handDev 0).fld (F.SAF_FB_TIME.STUCK_S 15) * 1000000 := by decide

def soDev (t : Stamp) (c : Nat) : Dev := evalDev t [(F.SAF_SO_CFG.ENABLE 7, 1), (F.SAF_SO_STAT.CMD 7, c)]

theorem wit_SafeOutputs : At (st (soDev 1000000 0)) 1000000 0 (soDev 1000000 0) ∧ (soDev 1000000 0).evaluating = true ∧ (soDev 1000000 0).soOn 7 = true
    ∧ (soDev 1000000 0).on (F.SAF_SO_STAT.CMD 7) = false ∧ (soDev 1000000 1).on (F.SAF_SO_STAT.CMD 7) = true
    ∧ (soDev 1000000 0).fld (F.SAF_SO_CFG.FB_OFF_MS 7) * 1000 < (soDev 1000000 0).now.since (tabGet 0 (soDev 1000000 0).soAt 7)
    ∧ (soDev 1000000 0).fld (F.SAF_SO_CFG.FB_ON_MS 7) * 1000 < (soDev 1000000 1).now.since (tabGet 0 (soDev 1000000 1).soAt 7)
    ∧ (soDev 0 0).now.since (tabGet 0 (soDev 0 0).soAt 7) ≤ (soDev 0 0).fld (F.SAF_SO_CFG.FB_OFF_MS 7) * 1000
    ∧ (soDev 0 0).has .soFeedback (.so 7) = false ∧ (soDev 0 0).has .soStuckOff (.so 7) = false :=
  ⟨at_st rfl rfl rfl, by decide⟩

/-- The feedback's raw level of output 7 has been high for 1 ms, or for less. -/
theorem wit_SafeOutputs_filter : ({ soDev 1000 0 with soFb := [(7, (true, 0))] }.soRead 7 true).on (F.SAF_SO_STAT.FB 7) = true
    ∧ ({ soDev 999 0 with soFb := [(7, (true, 0))] }.soRead 7 true).on (F.SAF_SO_STAT.FB 7) = false
    ∧ ((soDev 1000 1).soRead 7 false).on (F.SAF_SO_STAT.FB 7) = false := by decide

/-! ### Witnesses: ports, transport, twin, faults -/

def serDev (m : Nat) (l : List (Fld × Nat)) : Dev := dev ([(F.SER_CFG.ENABLE 6, 1), (F.SER_CFG.MODE 6, m)] ++ l)

/-- A character of eight bits 0x55, its start bit low and its stop bit high, in 16 samples per bit; the line falls at the starts of its bits 2, 4, 6, 8. -/
def char55 : LineChar := ⟨0, (List.range 10).flatMap (fun k => List.replicate 16 (k % 2 = 1)), [2, 4, 6, 8], [1, 3, 5, 7, 9]⟩

theorem wit_Characters : At (st (serDev 1 [])) 0 0 (serDev 1 []) ∧ (serDev 1 []).serRuns 6 = true ∧ onDev.serRuns 6 = false ∧ (serDev 1 []).serMode 6 = 1
    ∧ (serDev 2 [(F.SER_STAT.CARD_ACTIVE 6, 1)]).serMode 6 = 2 ∧ (serDev 2 [(F.SER_STAT.CARD_ACTIVE 6, 1)]).on (F.SER_STAT.CARD_ACTIVE 6) = true
    ∧ bitAt char55.samples false 16 0 = false ∧ bitAt char55.samples false 16 9 = true ∧ bitAt char55.samples true 16 0 = true
    ∧ ((serDev 1 []).ser 6).quiet = false ∧ (serDev 1 []).fld (F.SER_STAT.AB_STATE 6) ≠ 1 ∧ (serDev 1 [(F.SER_STAT.AB_STATE 6, 1)]).fld (F.SER_STAT.AB_STATE 6) = 1
    ∧ (((serDev 1 []).modSer 6 (fun q => { q with quiet := true })).ser 6).quiet = true ∧ (((serDev 2 []).modSer 6 (fun q => { q with ts := true })).ser 6).ts = true
    ∧ (serDev 1 []).on (F.SER_CFG.INVERT 6) = false ∧ majority true false false = false ∧ majority true true false = true
    ∧ ((serDev 1 []).ser 6).armAt.later char55.first = false ∧ ({ first := 0, samples := [], falls := [], rises := [] } : LineChar).first = 0 :=
  ⟨at_st rfl rfl rfl, by decide⟩

theorem wit_LinesAndCards : ({ serDev 1 [] with now := 0xFFFFFF } : Dev).serPast 6 1 0 = true ∧ (serDev 1 []).serPast 6 1 0 = false ∧ (serDev 1 []).on (F.SER_STAT.RX_IDLE 6) = false
    ∧ (serDev 1 []).boundRing 5 6 = none ∧ (serDev 1 []).boundRing 6 6 = none ∧ (serDev 2 []).on (F.SER_STAT.CARD_PRESENT 6) = false
    ∧ (serDev 2 [(F.SER_STAT.CARD_PRESENT 6, 1)]).on (F.SER_STAT.CARD_PRESENT 6) = true ∧ ((st onDev).dev.ser 6).fifo.length < 64
    ∧ 64 ≤ (((st onDev).dev.modSer 6 (fun q => { q with fifo := List.replicate 64 ⟨0, 0, 0⟩ })).ser 6).fifo.length
    ∧ 10000 ≤ (10000#32).toNat ∧ (99#32).toNat < 100 ∧ (serDev 2 []).on (F.SER_CARD_CFG.DET_POL 6) = false ∧ (serDev 3 []).serMode 6 = 3 := by decide

/-- A word waits in a SER_TX buffer of the ring bound to port 6. -/
def txSer : State := st ((serDev 1 [(F.HST_RING_CTRL.ENABLE 63, 1), (F.HST_RING_CTRL.STATE 63, 1), (F.HST_RING_CFG.TYPE 63, 6), (F.HST_RING_CFG.BIND 63, 6)]).modRing 63
  (fun r => { r with buf := some ⟨0x08000100, 4, false, 0, 0, 0⟩ }))

theorem wit_Transmit : (State.serNext 6 txSer).1 = some (63, 0) ∧ (txSer.dev.boundRing 6 6) = some 63 := by decide

/-- The rate of the character 0x055 is measured on its edges at positions 2, 4, 6 and 8. -/
theorem wit_Autobaud : onDev.abEdges 6 = [2, 4, 6, 8] ∧ (onDev.abEdges 6).getLast?.getD 0 = 8
    ∧ (∀ e ∈ [2, 4, 6, 8].zip [8000, 16000, 24000, 32000], 4 * ((e.2 * 8 : Nat) - (e.1 * 32000 : Nat) : Int).natAbs ≤ 32000)
    ∧ (∃ e ∈ [2, 4, 6, 8].zip [8000, 16000, 26000, 32000], 32000 < 4 * ((e.2 * 8 : Nat) - (e.1 * 32000 : Nat) : Int).natAbs) ∧ 12000 * 32000 ≤ 8 * 1000000000 ∧ 100 * 8 ≤ 3 * 32000
    ∧ onDev.serInvert 6 = false ∧ charEdges char55 false = [2, 4, 6, 8] ∧ charHighAt char55 false ((2 * 9 + 1) * 8) (2 * 8) = true
    ∧ charHighAt char55 false 15 2 = true ∧ charHighAt char55 false 17 2 = false := by
  decide

def netDev (l : List (Fld × Nat)) : Dev := dev ([(F.NET_CFG.ENABLE 3, 1), (F.NET_CFG.ROLE 3, 1), (F.NET_STAT.STATE 3, 1)] ++ l)

theorem wit_Links : At (st (netDev [])) 0 0 (netDev []) ∧ (netDev []).netRuns 3 = true ∧ onDev.netRuns 3 = false ∧ (netDev []).netRole 3 ≠ 0 ∧ ((netDev []).setLane 3 1).netGood 3 = true
    ∧ ((netDev []).setLane 3 0).netGood 3 = false ∧ (netDev []).fld (F.NET_STAT.STATE 3) = 1 ∧ (netDev []).fld (F.NET_LINK_CFG.LINK_UP_MS 3) * 1000 ≤ (0xFFFFFFFF#32).toNat
    ∧ (netDev []).now.since ((netDev []).net 3).trainAt < (netDev []).fld (F.NET_LINK_CFG.LINK_UP_MS 3) * 1000
    ∧ (netDev []).fld (F.NET_LINK_CFG.LINK_UP_MS 3) * 1000 ≤ ({ netDev [] with now := 0xFFFFFFF } : Dev).now.since 0
    ∧ (0#32).toNat < (netDev []).fld (F.NET_LINK_CFG.LINK_UP_MS 3) * 1000 ∧ (netDev []).on (F.KVT_PCFG.ENABLE 3) = false
    ∧ (netDev [(F.NET_STAT.LINK_UP 3, 1)]).netUp 3 = true ∧ (netDev []).netUp 3 = false ∧ (netDev []).twinOn = false :=
  ⟨at_st rfl rfl rfl, by decide⟩

/-- A frame to the port's own address, which is 0 here, with EtherType 0x0800 and 46 bytes of payload. -/
def frame : List Byte := List.replicate 12 0 ++ [8, 0] ++ List.replicate 46 0

theorem wit_Frames : frame.length = 60 ∧ (netDev []).netReject 3 frame true = none ∧ (netDev []).netReject 3 (frame.take 59) true ≠ none ∧ (readFrame frame).tci = none
    ∧ (readFrame frame).dst = (netDev []).ownMac 3 ∧ (readFrame frame).src = (netDev []).partnerMac 3
    ∧ (readFrame (1#8 :: frame.drop 1)).dst ≠ (netDev []).ownMac 3
    ∧ (netDev [(F.NET_CFG.BCAST_EN 3, 0), (F.NET_CFG.PTP_MC_EN 3, 0)]).on (F.NET_CFG.BCAST_EN 3) = false ∧ (netDev [(F.NET_CFG.LOCK_EN 3, 1)]).on (F.NET_CFG.LOCK_EN 3) = true
    ∧ (readFrame (frame.take 11 ++ 1#8 :: frame.drop 12)).src ≠ (netDev []).partnerMac 3 ∧ (netDev [(F.NET_CFG.TAG_MODE 3, 1)]).on (F.NET_CFG.TAG_MODE 3) = true
    ∧ (netDev [(F.NET_CFG.ROLE 3, 3)]).netRole 3 = 3 ∧ (netDev [(F.NET_CFG.RX_OTHER 3, 1)]).on (F.NET_CFG.RX_OTHER 3) = true ∧ (readFrame frame).etype ≠ onDev.fld F.KVT_ETYPE.KVT_ETYPE := by decide

/-- An open session of port 3, which has END 1 and LINK_ID 0x0123; the peer's SID is 0x012300A7. -/
def kvtDev (state : Nat) (l : List (Fld × Nat)) : Dev := netDev ([(F.NET_STAT.LINK_UP 3, 1), (F.KVT_PCFG.ENABLE 3, 1), (F.KVT_PCFG.END 3, 1), (F.KVT_PCFG.LINK_ID 3, 0x123),
  (F.KVT_STAT.STATE 3, state), (F.KVT_PEER_SID.PEER_SID 3, 0x012300A7), (F.KVT_SEQ_E.SEQ 3, 1), (F.KVT_SEQ_TX.SEQ 3, 1)] ++ l)

/-- A HEARTBEAT of the peer with a number of its own. -/
def beat (syn : Bool) (sid seq : Nat) : KvtFrame := { type := 1, syn := syn, sid := sid, seq := seq, ack := 0, stamp := 0, payload := List.replicate 16 0 }

theorem wit_KvtFrames : At (st (kvtDev 2 [])) 0 0 (kvtDev 2 []) ∧ (kvtDev 2 []).netRuns 3 = true ∧ (kvtDev 2 []).netUp 3 = true ∧ (kvtDev 2 []).netRole 3 = 1
    ∧ (kvtDev 2 []).on (F.KVT_PCFG.ENABLE 3) = true ∧ (kvtDev 2 []).fld F.FLT_STATE.DEV_STATE ≠ 5 ∧ (kvtDev 2 [(F.FLT_STATE.DEV_STATE, 5)]).fld F.FLT_STATE.DEV_STATE = 5
    ∧ kvtLenOk 1 16 = true ∧ kvtLenOk 1 15 = false ∧ kvtLenOk 12 1024 = true ∧ kvtLenOk 12 1025 = false ∧ kvtLenOk 15 0 = true ∧ kvtLenOk 8 12 = true ∧ kvtLenOk 11 20 = true
    ∧ (kvtDev 2 []).on (F.KVT_PCFG.AUTH_EN 3) = false ∧ (kvtDev 2 [(F.KVT_PCFG.AUTH_EN 3, 1)]).on (F.KVT_PCFG.AUTH_EN 3) = true :=
  ⟨at_st rfl rfl rfl, by decide⟩

theorem wit_KvtSessions : (kvtDev 0 []).fld (F.KVT_STAT.STATE 3) = 0 ∧ (kvtDev 3 []).kvtOfLink 3 0x01230001 = true ∧ (kvtDev 3 []).kvtOfLink 3 0x81230001 = false
    ∧ (kvtDev 2 []).fld (F.KVT_PEER_SID.PEER_SID 3) = 0x012300A7 ∧ namedSid (beat true 0x012300A7 0) ≠ (kvtDev 2 []).ownSid 3
    ∧ ((((kvtDev 2 []).fld (F.KVT_TIME2.MAX_AGE_MS 3) * 1000 : Nat) : Int) < ({ kvtDev 2 [] with now := 50001 } : Dev).kvtD (beat false 0x012300A7 1) - (kvtDev 2 []).dref 3)
    ∧ ({ kvtDev 2 [] with now := 50000 } : Dev).kvtD (beat false 0x012300A7 1) - (kvtDev 2 []).dref 3 ≤ (((kvtDev 2 []).fld (F.KVT_TIME2.MAX_AGE_MS 3) * 1000 : Nat) : Int) := by decide

/-- Sequence numbers at the edges of the clauses of R454, for E = 1. -/
theorem wit_KvtSequence : (kvtDev 2 []).fld (F.KVT_SEQ_E.SEQ 3) = 1 ∧ (1 + 1) % 2 ^ 32 = 2 ∧ (1 + 63) % 2 ^ 32 = 64 ∧ (0 + 1) % 2 ^ 32 = 1 ∧ ((2 ^ 32 - 63) + 64) % 2 ^ 32 = 1
    ∧ ((2 ^ 32 - 64) + 65) % 2 ^ 32 = 1 ∧ ((2 ^ 31 + 1) + 2 ^ 31) % 2 ^ 32 = 1 ∧ (1 + 64) % 2 ^ 32 = 65 ∧ (1 + (2 ^ 31 - 1)) % 2 ^ 32 = 2 ^ 31
    ∧ ((kvtDev 2 []).kv 3).held.any (fun g => g.seq = 64) = false := by decide

/-- Head 32 follows head 5 of the neighbour at port 3. -/
theorem wit_KvtEffects : (kvtDev 2 []).remoteOf 3 5 = [] ∧ (kvtDev 2 [(F.HED_CFG.ENABLE 32, 1), (F.HED_CFG.PORT 32, 3), (F.HED_CFG.PARTNER_HEAD 32, 5)]).remoteOf 3 5 = [32]
    ∧ (kvtDev 2 []).netRole 3 ≠ 2 ∧ (kvtDev 2 [(F.NET_CFG.ROLE 3, 2)]).netRole 3 = 2 ∧ (kvtDev 2 []).boundRing 4 3 = none
    ∧ (kvtDev 2 [(F.HST_RING_CTRL.ENABLE 9, 1), (F.HST_RING_CFG.TYPE 9, 4), (F.HST_RING_CFG.BIND 9, 3)]).boundRing 4 3 = some 9 := by decide

def sentDev (times : Nat) : Dev := { (kvtDev 2 []).modKv 3 (fun k => { k with unacked := [⟨beat false 0 1, 0, times⟩], ackDue := some 10 }) with now := 100000 }

theorem wit_KvtTimers : ((sentDev 1).kv 3).unacked = [⟨beat false 0 1, 0, 1⟩] ∧ (sentDev 1).kvtOpen 3 = true ∧ (sentDev 1).fld (F.KVT_TIME.RTO_MS 3) * 1000 ≤ (sentDev 1).now.since 0
    ∧ (sentDev 4).fld (F.KVT_TIME.RETRIES 3) + 1 ≤ 4 ∧ 3 ≤ (sentDev 3).fld (F.KVT_TIME.RETRIES 3) ∧ (sentDev 1).on (F.NET_STAT.LINK_UP 3) = true
    ∧ (kvtDev 1 []).fld (F.KVT_STAT.STATE 3) = 1 ∧ (kvtDev 1 []).now.since ((kvtDev 1 []).kv 3).synAt < (kvtDev 1 []).fld (F.KVT_TIME.RTO_MS 3) * 1000
    ∧ (sentDev 1).fld (F.KVT_TIME.HB_MS 3) * 1000 ≤ (sentDev 1).now.since ((sentDev 1).kv 3).lastSeq ∧ ((sentDev 1).kv 3).ackDue = some 10 ∧ (sentDev 1).now.reached 10 = true
    ∧ (sentDev 1).fld (F.KVT_TIME2.TIMEOUT_MS 3) * 1000 ≤ (sentDev 1).now.since ((sentDev 1).kv 3).lastValid
    ∧ ({ kvtDev 3 [] with now := 100000 } : Dev).fld (F.KVT_PCFG.REOPEN 3) * 10000 ≤ ({ kvtDev 3 [] with now := 100000 } : Dev).now.since 0
    ∧ ({ kvtDev 3 [] with now := 99999 } : Dev).now.since 0 < ({ kvtDev 3 [] with now := 99999 } : Dev).fld (F.KVT_PCFG.REOPEN 3) * 10000 := by decide

theorem wit_KvtSend : (kvtDev 2 []).kvtOpen 3 = true ∧ ((kvtDev 2 []).kv 3).unacked.length < 64 ∧ ((kvtDev 2 []).kv 3).queue = [] ∧ (kvtDev 0 []).kvtOpen 3 = false
    ∧ ((kvtDev 2 []).kv 3).ackSub < 65535 ∧ (((kvtDev 2 []).modKv 3 (fun k => { k with epochSet := true })).kv 3).epochSet = true := by decide

/-- A twin in a state of its own, with its lane on port 0. -/
def twDev (state role : Nat) (l : List (Fld × Nat)) : Dev := dev ([(F.NET_CFG.ENABLE 0, 1), (F.NET_CFG.ROLE 0, 0), (F.NET_STAT.LINK_UP 0, 1), (F.TWN_CFG.ENABLE, 1), (F.TWN_STAT.STATE, state),
  (F.TWN_STAT.LOCKED, 1), (F.TWN_STAT.ROLE, role)] ++ l)

theorem wit_Codewords : At (st (twDev 3 0 [])) 0 0 (twDev 3 0 []) ∧ (twDev 3 0 []).twinPort = some 0 ∧ onDev.twinPort = none ∧ (10#4 : BitVec 4) = 10 ∧ (twDev 3 0 []).twin.ctr = none
    ∧ (65535 + 1) % 65536 = 0 ∧ (twDev 3 0 []).laneLock = none ∧ min 4 ((twDev 3 0 []).twin.goodRun + 1) < 4 ∧ (twDev 3 0 []).twinLossCase = 0 ∧ onDev.twinOn = false :=
  ⟨at_st rfl rfl rfl, by decide⟩

/-- The lane is locked. -/
def markDev (state role : Nat) (l : List (Fld × Nat)) : Dev := { twDev state role l with laneLock := some 0 }

theorem wit_Marks : At (st (markDev 3 1 [])) 0 0 (markDev 3 1 []) ∧ (markDev 3 1 []).twinOn = true ∧ (markDev 3 1 []).laneLock ≠ none ∧ (markDev 3 1 []).now.toNat % 10 = 0
    ∧ (markDev 3 1 []).fld F.FLT_STATE.DEV_STATE ≠ 5 ∧ (markDev 3 1 []).twinState = 3 ∧ (markDev 3 1 []).twin.watch = none ∧ (markDev 3 1 []).isMirror = true
    ∧ (markDev 3 0 []).isMirror = false ∧ (markDev 4 0 [(F.TWN_STAT.RUNNING, 1)]).twinRunning = true ∧ (markDev 4 0 []).twinRunning = false ∧ (markDev 1 0 []).twinState = 1
    ∧ (markDev 1 0 []).pairRefusal { mark0 with pairId := 7 } = 1 ∧ (markDev 4 0 [(F.TWN_STAT.RUNNING, 1)]).pairRefusal mark0 = 0 ∧ (markDev 4 0 []).twin.held = false
    ∧ mark0.state.getLsbD 4 = false :=
  ⟨at_st rfl rfl rfl, by decide⟩

theorem wit_Marks_theta : ∃ th, ({ markDev 3 1 [] with twin := { m := some 0 } } : Dev).theta { mark0 with rxMeas := 0 } = some th := ⟨0, by decide⟩

theorem wit_PartnerLoss : (twDev 3 0 [(F.NET_STAT.LINK_UP 0, 0)]).twinLossCase = 4 ∧ (twDev 3 0 []).twinLossCase = 0 ∧ (twDev 3 0 []).isMirror = false ∧ (twDev 3 1 []).isMirror = true
    ∧ ({ twDev 3 1 [] with now := 200, twin := { watch := some 0 } } : Dev).fld F.TWN_TIME.PROMOTE_US ≤ ({ twDev 3 1 [] with now := 200 } : Dev).now.since 0
    ∧ ({ twDev 3 1 [] with now := 199 } : Dev).now.since 0 < (twDev 3 1 []).fld F.TWN_TIME.PROMOTE_US ∧ onDev.twinLocked = false ∧ (25001 : Int).natAbs > 25000
    ∧ 99 ≤ ({ onDev with twin := { locks := 99 } } : Dev).twin.locks := by decide

theorem wit_PartnerLoss_unpaired : (twDev 4 0 [(F.NET_STAT.LINK_UP 0, 0)]).twinLossCase ≠ 0 ∧ (twDev 4 0 [(F.NET_STAT.LINK_UP 0, 0)]).twinOn = true
    ∧ (twDev 4 0 [(F.NET_STAT.LINK_UP 0, 0)]).twinState = 4 ∧ (twDev 1 0 [(F.NET_STAT.LINK_UP 0, 0)]).twinState = 1
    ∧ ({ twDev 1 0 [(F.NET_STAT.LINK_UP 0, 0)] with twin := { held := true } } : Dev).twin.held = true
    ∧ ({ twDev 1 0 [(F.NET_STAT.LINK_UP 0, 0)] with twin := { held := true } } : Dev).twinLossCase = 4
    ∧ (markDev 3 1 []).netUp ((markDev 3 1 []).fld F.TWN_CFG.PORT) = true ∧ (markDev 3 1 []).fld F.FLT_STATE.DEV_STATE ≠ 5 := by decide

theorem wit_PartnerLoss_loops : (twDev 3 1 []).loopsQuiet 0 = true ∧ ((twDev 3 1 []).modTwin (fun w => { w with excitedAt := some 5 })).loopsQuiet 0 = false := by decide

def planDev (role : Nat) (t : Stamp) (p : CastlePlan) : Dev := { twDev 3 role [] with now := t, twin := { plan := some p } }

theorem wit_Castling : (twDev 3 1 []).compares = true ∧ (twDev 2 1 []).compares = false ∧ (1000 : Stamp).later 0 = true ∧ 200 ≤ (200 : Stamp).since 0 ∧ (199 : Stamp).since 0 < 200
    ∧ (∀ c ∈ (twDev 3 1 []).sharedChans, (twDev 3 1 []).bitOf F.PWR_RAIL_STAT.VSENS_OK (c / 8) = true)
    ∧ (∃ c ∈ (twDev 3 1 [(F.HAZ_CH_CFG.TWIN_SHARED 0, 1), (F.HAZ_CH_CFG.MODE 0, 1), (F.PWR_RAIL_STAT.VSENS_OK, 0)]).sharedChans,
        (twDev 3 1 [(F.HAZ_CH_CFG.TWIN_SHARED 0, 1), (F.HAZ_CH_CFG.MODE 0, 1), (F.PWR_RAIL_STAT.VSENS_OK, 0)]).bitOf F.PWR_RAIL_STAT.VSENS_OK (c / 8) = false)
    ∧ (planDev 0 900 ⟨1000, 1, false⟩).twin.plan = some ⟨1000, 1, false⟩ ∧ (planDev 0 900 ⟨1000, 1, false⟩).now.reached (1000 - 100) = true
    ∧ (planDev 0 899 ⟨1000, 1, false⟩).now.reached (1000 - 100) = false ∧ (planDev 0 1000 ⟨1000, 1, true⟩).now.reached 1000 = true
    ∧ (planDev 0 1000 ⟨1000, 1, true⟩).compares = true ∧ (planDev 0 1000 ⟨1000, 1, true⟩).fld F.FLT_STATE.DEV_STATE ≠ 5 := by decide

def headDec (t : Stamp) : Decision := ⟨0x0810, .head 31, t, []⟩

theorem wit_Comparison : matchedKind (headDec 0) = true ∧ matchedKind ⟨0x0810, .head 32, 0, []⟩ = false ∧ ({ twDev 3 1 [] with now := 1000 } : Dev).now.toNat % 1000 = 0
    ∧ ({ twDev 3 1 [] with now := 999 } : Dev).now.toNat % 1000 ≠ 0 ∧ (twDev 3 1 []).twin.hash = none ∧ (twDev 3 1 []).twin.digests.length < 32
    ∧ ([((0 : Stamp), ([] : List (Nat × Word)))].find? (fun e => e.1 = 0)) = some (0, []) ∧ (twDev 3 1 []).twin.mine = [] ∧ (twDev 3 1 []).fld F.TWN_STAT.HASH_UNEQUAL < 2
    ∧ (twDev 3 1 [(F.TWN_STAT.HASH_UNEQUAL, 2)]).fld F.TWN_STAT.HASH_UNEQUAL = 2 := by decide

/-- A decision of head 31 is due for judgement at SLACK_US + 10 after its stamp, and no partner's record matches it. -/
def judgeDev (t : Stamp) : Dev := { twDev 3 1 [(F.HED_CFG.ENABLE 31, 1)] with now := t, twin := { mine := [⟨headDec 0, true, false⟩], mark := some { mark0 with heads := 0x80000000 } } }

theorem wit_DecisionJudge : (judgeDev 30).twin.mine = [⟨headDec 0, true, false⟩] ∧ (judgeDev 30).twin.theirs = [] ∧ (headDec 0).src.code = 8 ∧ (judgeDev 30).compares = true
    ∧ (judgeDev 30).now.reached ((headDec 0).stamp.plus ((judgeDev 30).fld F.TWN_CMP.SLACK_US + 10)) = true ∧ (judgeDev 29).now.reached ((headDec 0).stamp.plus ((judgeDev 29).fld F.TWN_CMP.SLACK_US + 10)) = false
    ∧ (judgeDev 30).now.reached (headDec 0).stamp = true ∧ (judgeDev 30).twin.noJudge = none ∧ (judgeDev 30).partnerServes (headDec 0) = true
    ∧ (judgeDev 29).now.since (headDec 0).stamp ≤ 1000 := by decide

theorem wit_DecisionJudge_own : (judgeDev 30).ownServes (headDec 0) = true ∧ ((judgeDev 30).decisionMismatch (headDec 0)).twin.mine = (judgeDev 30).twin.mine
    ∧ ((judgeDev 30).decisionMismatch (headDec 0)).twin.theirs = (judgeDev 30).twin.theirs := by decide

theorem wit_CompareChan : (0x100000#32).getLsbD 16 = false ∧ (0x100000#32).getLsbD 17 = false ∧ (0x100000#32).getLsbD 18 = false ∧ (0x100000#32).toNat / 2 ^ 20 % 4 ≠ 0
    ∧ (sgn 16 0x10003F % 65536 - sgn 16 0 : Int).natAbs ≤ onDev.fld F.TWN_CMP.TOL ∧ onDev.fld F.TWN_CMP.TOL < (sgn 16 65 - sgn 16 0 : Int).natAbs
    ∧ tabGet 0 onDev.twin.dis 0 + 1 < min 16 (onDev.fld F.TWN_CMP.DIGEST_CONFIRM) := by decide

theorem wit_Faults : evClass .wldViolation = 0 ∧ evClass .headPattern = 1 ∧ evClass .twinDisagree = 3 ∧ groupsFor onDev .twn < 256 ∧ evClass .vfieldRange = 4 ∧ evClass .sealChanged = 5
    ∧ onDev.has .vfieldRange (.pwr 0) = false ∧ ({ onDev with causes := [⟨.vfieldRange, .pwr 0, 0, 4, 0⟩] } : Dev).has .vfieldRange (.pwr 0) = true
    ∧ onDev.fld F.FLT_STATE.DEV_STATE = 0 ∧ (dev [(F.FLT_STATE.DEV_STATE, 1)]).fld F.FLT_STATE.DEV_STATE ≠ 0 ∧ onDev.fld F.FLT_FIRST_CAUSE.CODE = 0
    ∧ (dev [(F.FLT_FIRST_CAUSE.CODE, 1)]).fld F.FLT_FIRST_CAUSE.CODE ≠ 0 := by decide

theorem wit_Endgames : egCauseOf .twinLost = 3 ∧ egObject 3 0 = .twn ∧ onDev.has .twinLost .twn = false ∧ onDev.egFind 3 0 = none ∧ onDev.egFree = some 0
    ∧ (dev [(F.FLT_EG_ENABLE.HEAD_SINGLE, 1), (F.FLT_EG_ENABLE.TWIN_LOST, 1), (F.FLT_EG_ENABLE.LAMP_STRING, 1)]).egRefusal 3 0 = 0
    ∧ (dev [(F.FLT_EG_ENABLE.HEAD_SINGLE, 0)]).egRefusal 1 31 = 1 ∧ (dev [(F.FLT_EG_ENABLE.HEAD_SINGLE, 1)]).on F.FLT_EG_ENABLE.HEAD_SINGLE = true
    ∧ onDev.egLocked 1 31 = false ∧ (onDev.egSetLock 1 31 true).egLocked 1 31 = true := by decide

theorem wit_SafeLine : (dev [(F.FLT_STATE.DEV_STATE, 4)]).safeLine = true ∧ (39 : Nat) < 40 := by decide

theorem wit_Routing : onDev.on (F.EVT_ROUTE.EN 7) = false ∧ (dev [(F.EVT_ROUTE.EN 7, 1), (F.EVT_ROUTE.CLASS_MASK 7, 63), (F.EVT_CFG.SEC_EN, 0)]).on F.EVT_CFG.SEC_EN = false
    ∧ (dev [(F.EVT_ROUTE.EN 7, 1), (F.EVT_ROUTE.CLASS_MASK 7, 63)]).bitOf (F.EVT_ROUTE.CLASS_MASK 7) (evClass .headEvent) = true ∧ (Src.head 31).code - 1 = 7
    ∧ nsRing.ringSecure 1 = false ∧ onDev.mayLeave ⟨.headEvent, .head 31, 0, []⟩ = false ∧ onDev.evtRing 1 = false
    ∧ (dev [(F.HST_RING_CTRL.ENABLE 1, 1), (F.HST_RING_CFG.TYPE 1, 1)]).evtRing 1 = true ∧ (dev [(F.EVT_CFG.SEC_EN, 1)]).on F.EVT_CFG.SEC_EN = true
    ∧ evCode .wldViolation / 256 = 5 ∧ onDev.startq.length < 64 ∧ onDev.boot.started = false := by decide

/-- What is put into a port's session state is read back. -/
theorem kv_modKv (d : Dev) (p : Nat) (f : KvtSt → KvtSt) : (d.modKv p f).kv p = f (d.kv p) :=
  tabGet_tabPut_same (α := KvtSt) {} d.kvt p (f (d.kv p))

/-- A full queue and a full window of port 3. -/
theorem wit_KvtSend_full : 256 ≤ (((kvtDev 2 []).modKv 3 (fun k => { k with queue := List.replicate 256 ⟨1, []⟩ })).kv 3).queue.length
    ∧ 64 ≤ (((kvtDev 2 []).modKv 3 (fun k => { k with unacked := List.replicate 64 ⟨beat false 0 1, 0, 1⟩ })).kv 3).unacked.length := by
  rw [kv_modKv, kv_modKv]
  exact ⟨Nat.le_of_eq List.length_replicate.symm, Nat.le_of_eq List.length_replicate.symm⟩

/-! ### Ill-formed commands, and the same commands well formed -/

theorem test_wellFormed_opcode : Instr.wellFormed (.nop 0 (cmd []) 0x0301) = false ∧ Instr.wellFormed (.nop 0 (cmd []) 0) = true := by decide

theorem test_wellFormed_resets : Instr.wellFormed (.secureWorldReset 0 sv 0x20000 []) = false ∧ Instr.wellFormed (.secureWorldReset 0 sv 0x10000 [0, 0, 0, 0]) = false
    ∧ Instr.wellFormed (.secureWorldReset 0 sv 0x30000 [0, 0, 0]) = true ∧ Instr.wellFormed (.nonSecureWorldReset 0 sv 0x30000 false) = false
    ∧ Instr.wellFormed (.nonSecureWorldReset 0 sv 0x20000 false) = true ∧ Instr.wellFormed (.nonSecureWorldReset 0 sv 0 true) = true := by decide

theorem test_wellFormed_enables : Instr.wellFormed (.windowDisable 0 sv 0 1) = false ∧ Instr.wellFormed (.windowDisable 0 sv 0 2) = true
    ∧ ∀ i ∈ [Instr.headEnable 0 sv 0 2, .monitorEnable 0 sv 0 2, .lampEnable 0 sv 0 2, .signalEnable 0 sv 0 2, .functionEnable 0 sv 0 2,
        .safeOutputEnable 0 sv 0 2, .serialPortEnable 0 sv 0 2, .portEnable 0 sv 0 2, .kvtEnable 0 sv 0 2, .twinEnable 0 sv 2],
      i.wellFormed = false := by decide

theorem test_wellFormed_image : ∀ l : List Byte, 4194304 < l.length → Instr.wellFormed (.bootSourceTry 0 none l) = false
    ∧ Instr.wellFormed (.bootSourceTry 0 (some l) []) = false := by
  intro l h
  simp [Instr.wellFormed, Nat.not_le.mpr h]

theorem test_wellFormed_times : Instr.wellFormed (.sampleRecord 11 []) = false ∧ Instr.wellFormed (.sampleRecord 10 [(1, 0, false), (1, 0, false)]) = false
    ∧ Instr.wellFormed (.frequencyWord 60 []) = false ∧ Instr.wellFormed (.frequencyWord 50 [(2, 0, 0, false, 0, false), (1, 0, 0, false, 0, false)]) = false
    ∧ Instr.wellFormed (.siFilterChange 11 []) = false ∧ Instr.wellFormed (.sampleRecord 10 [(0, 0, false), (63, 0, false)]) = true := by decide

theorem test_wellFormed_lengths : Instr.wellFormed (.winSelftest 0 0 0 []) = false ∧ Instr.wellFormed (.winSelftestMissed 0 0 0 [(true, true)]) = false
    ∧ Instr.wellFormed (.digestRx 0 0 0 []) = false ∧ Instr.wellFormed (.digestRx 0 0 0 (List.replicate 14 0)) = true := by decide

theorem test_wellFormed_lines : Instr.wellFormed (.characterReceived 0 0 { char55 with falls := [4, 2] }) = false
    ∧ Instr.wellFormed (.characterReceived 0 0 char55) = true := by decide

/-- A frame of type 13, which no row of the transport carries. -/
def badFrame : KvtFrame := { beat false 0 0 with type := 13 }

theorem test_wellFormed_frames : (∀ i ∈ [Instr.kvtHeartbeatRx 0 0 badFrame true true, .kvtSynRx 0 0 badFrame true true, .kvtHeadEventRx 0 0 badFrame true true,
    .kvtGambitRx 0 0 badFrame true true, .kvtGambitConfirmRx 0 0 badFrame true true, .kvtGambitCancelRx 0 0 badFrame true true,
    .kvtSectionStateRx 0 0 badFrame true true, .kvtAspectRequestRx 0 0 badFrame true true, .kvtAspectFallbackRx 0 0 badFrame true true,
    .kvtLampStatusRx 0 0 badFrame true true, .resetPermit 0 0 badFrame true true, .kvtSafetyStateRx 0 0 badFrame true true,
    .kvtAppRx 0 0 badFrame true true, .kvtAckRx 0 0 badFrame true true], i.wellFormed = false)
    ∧ Instr.wellFormed (.kvtHeartbeatRx 0 0 (beat true 0 0) true true) = false ∧ Instr.wellFormed (.kvtSynRx 0 0 (beat true 0 0) true true) = true := by decide

theorem test_wellFormed_payload : Instr.wellFormed (.kvtAppRx 0 0 { badFrame with type := 12, payload := List.replicate 1025 0 } true true) = false := by
  show (decide ((12 : Nat) = 12) && decide ((List.replicate 1025 (0 : Byte)).length ≤ 1024)) = false
  rw [List.length_replicate]
  rfl

/-! ### The spec's worked examples -/

/-- SOURCE and the related signal of the record of LAMP_DARK (chapter 19, Example EVT-1). -/
theorem test_source_fields : (Src.lamp 14).enc = 0x300E ∧ (Src.sig 4).enc = 0x3044 ∧ (Src.lamp 14).code = 0x0C := by decide

/-- The check value of CRC-32C (R461). -/
theorem test_crc32c : crc32c [0x31, 0x32, 0x33, 0x34, 0x35, 0x36, 0x37, 0x38, 0x39] = 0xE3069283 := by decide +kernel

/-- The digest of the three bytes of "abc", the first example of the standard that R110 names. -/
theorem test_sha256_abc : sha256 [0x61#8, 0x62#8, 0x63#8] = [0xba#8, 0x78, 0x16, 0xbf, 0x8f, 0x01, 0xcf, 0xea, 0x41, 0x41, 0x40, 0xde, 0x5d, 0xae,
    0x22, 0x23, 0xb0, 0x03, 0x61, 0xa3, 0x96, 0x17, 0x7a, 0x9c, 0xb4, 0x10, 0xff, 0x61, 0xf2, 0x00, 0x15, 0xad] := by decide +kernel

end Sys2Proof.Tests
end

section
/-! ### Bits of numbers -/

namespace Sys2Proof.Machine

/-- A bit of the union of numbers is a bit of one of them. -/
theorem testBit_foldl_or {α : Type} (l : List α) (g : α → Nat) (a k : Nat) :
    (l.foldl (fun a x => a ||| g x) a).testBit k = (a.testBit k || l.any (fun x => (g x).testBit k)) := by
  induction l generalizing a with
  | nil => simp
  | cons x l ih => simp [ih, Nat.testBit_or, Bool.or_assoc]

/-- Taking the common bits from a number clears them. -/
theorem add_ldiff_and (a c : Nat) : Nat.ldiff a c + (a &&& c) = a := by
  induction a using Nat.binaryRec generalizing c with
  | zero => simp [Nat.ldiff]
  | bit b n ih =>
    cases c using Nat.bitCasesOn with
    | bit e m =>
      rw [Nat.ldiff_bit, Nat.land_bit, Nat.bit_val, Nat.bit_val, Nat.bit_val]
      have h := ih m
      cases b <;> cases e <;> simp <;> omega

theorem testBit_sub_and (a c k : Nat) : (a - (a &&& c)).testBit k = (a.testBit k && !c.testBit k) := by
  have h := add_ldiff_and a c
  rw [show a - (a &&& c) = Nat.ldiff a c by omega, Nat.testBit_ldiff]

/-- Replacing the byte at bit `lo` leaves every other bit. -/
theorem testBit_setByte (w lo x i : Nat) (hx : x < 256) (hi : i < lo ∨ lo + 8 ≤ i) :
    (w - w / 2 ^ lo % 256 * 2 ^ lo + x * 2 ^ lo).testBit i = w.testBit i := by
  have hlow : w % 2 ^ lo < 2 ^ lo := Nat.mod_lt _ (by positivity)
  have split (y : Nat) (hy : y < 256) : (2 ^ lo * (2 ^ 8 * (w / 2 ^ lo / 256) + y) + w % 2 ^ lo).testBit i
      = if i < lo then (w % 2 ^ lo).testBit i else (w / 2 ^ lo / 256).testBit (i - lo - 8) := by
    rw [Nat.testBit_two_pow_mul_add _ hlow]
    split_ifs with h
    · rfl
    · rw [Nat.testBit_two_pow_mul_add _ (by omega), if_neg (by omega)]
  have hw : w = 2 ^ lo * (2 ^ 8 * (w / 2 ^ lo / 256) + w / 2 ^ lo % 256) + w % 2 ^ lo := by
    rw [show 2 ^ 8 * (w / 2 ^ lo / 256) + w / 2 ^ lo % 256 = w / 2 ^ lo by omega]
    exact (Nat.div_add_mod w (2 ^ lo)).symm
  have hn : w - w / 2 ^ lo % 256 * 2 ^ lo + x * 2 ^ lo = 2 ^ lo * (2 ^ 8 * (w / 2 ^ lo / 256) + x) + w % 2 ^ lo := by
    rw [Nat.sub_eq_of_eq_add (hw.trans (by ring : _ = 2 ^ lo * (2 ^ 8 * (w / 2 ^ lo / 256)) + w % 2 ^ lo + w / 2 ^ lo % 256 * 2 ^ lo))]
    ring
  rw [hn, split x hx, ← split (w / 2 ^ lo % 256) (Nat.mod_lt _ (by norm_num)), ← hw]

/-! ### The map of the registers -/

/-- The lowest bit of an element of a repeated field. -/
def FieldDef.pos (f : FieldDef) (m : Nat) : Nat := f.lo + m * f.step

/-- What a word holds in an element of a field. -/
def FieldDef.get (f : FieldDef) (m x : Nat) : Nat := x / 2 ^ f.pos m % 2 ^ f.w

/-- The field elements of a register. -/
def RegDef.elems (r : RegDef) : List (FieldDef × Nat) := r.fields.flatMap (fun f => (List.range f.n).map (fun m => (f, m)))

/-- Two field elements share no bit. -/
abbrev elemsApart (e e' : FieldDef × Nat) : Prop := e.1.pos e.2 + e.1.w ≤ e'.1.pos e'.2 ∨ e'.1.pos e'.2 + e'.1.w ≤ e.1.pos e.2

/-- The field elements of a register fit its 32 bits and share none, a SET_COUNT field is one of them, 8 bits wide, and the register's
instances stand in the lower half of the block's megabyte. -/
def RegDef.wf (r : RegDef) : Bool :=
  r.elems.all (fun e => e.1.pos e.2 + e.1.w ≤ 32) && decide (r.elems.Pairwise elemsApart)
    && r.setCnt.all (fun lo => r.elems.any (fun e => e.1.pos e.2 = lo && e.1.w = 8))
    && (r.base + (r.n1 - 1) * r.s1 + (r.n2 - 1) * r.s2 < 0x80000)

theorem regDefs_all_wf (b : Blk) : (regDefs b).all RegDef.wf = true := by cases b <;> decide +kernel

theorem RegDef.mem_elems {r : RegDef} {f : FieldDef} (hf : f ∈ r.fields) {m : Nat} (hm : m < f.n) : (f, m) ∈ r.elems := by
  simp [RegDef.elems, hf, hm]

theorem RegDef.wf_iff (r : RegDef) : r.wf = true ↔ (∀ e ∈ r.elems, e.1.pos e.2 + e.1.w ≤ 32) ∧ r.elems.Pairwise elemsApart
    ∧ (∀ lo, r.setCnt = some lo → ∃ e ∈ r.elems, e.1.pos e.2 = lo ∧ e.1.w = 8)
    ∧ r.base + (r.n1 - 1) * r.s1 + (r.n2 - 1) * r.s2 < 0x80000 := by
  simp only [RegDef.wf, Bool.and_eq_true, List.all_eq_true, List.any_eq_true, Option.all_eq_true, decide_eq_true_eq, and_assoc]

theorem RegDef.wf_fits {r : RegDef} (h : r.wf = true) {e : FieldDef × Nat} (he : e ∈ r.elems) : e.1.pos e.2 + e.1.w ≤ 32 := by
  obtain ⟨hfits, -⟩ := r.wf_iff.1 h
  exact hfits e he

theorem RegDef.wf_apart {r : RegDef} (h : r.wf = true) {e e' : FieldDef × Nat} (he : e ∈ r.elems) (he' : e' ∈ r.elems) (hne : e ≠ e') :
    elemsApart e e' := by
  obtain ⟨-, hapart, -⟩ := r.wf_iff.1 h
  have : Std.Symm elemsApart := ⟨fun _ _ => Or.symm⟩
  exact hapart.forall he he' hne

theorem RegDef.wf_setCnt {r : RegDef} (h : r.wf = true) {lo : Nat} (hc : r.setCnt = some lo) :
    ∃ e ∈ r.elems, e.1.pos e.2 = lo ∧ e.1.w = 8 := by
  obtain ⟨-, -, hcnt, -⟩ := r.wf_iff.1 h
  exact hcnt lo hc

theorem findReg_mem {off : Nat} {l : List RegDef} {r : RegDef} {i j : Nat} (h : findReg off l = some (r, i, j)) :
    r ∈ l ∧ r.at? off = some (i, j) := by
  induction l with
  | nil => simp [findReg] at h
  | cons x l ih =>
    cases hx : x.at? off with
    | none =>
      simp only [findReg, hx] at h
      exact ⟨List.mem_cons_of_mem _ (ih h).1, (ih h).2⟩
    | some ij =>
      simp only [findReg, hx, Option.some.injEq, Prod.mk.injEq] at h
      obtain ⟨rfl, rfl, rfl⟩ := h
      exact ⟨List.mem_cons_self, hx⟩

theorem findReg_wf {b : Blk} {off : Nat} {r : RegDef} {i j : Nat} (h : findReg off (regDefs b) = some (r, i, j)) : r.wf = true :=
  List.all_eq_true.1 (regDefs_all_wf b) r (findReg_mem h).1

/-! ### The word a register holds after a write -/

theorem FieldDef.get_lt (f : FieldDef) (m x : Nat) : f.get m x < 2 ^ f.w := Nat.mod_lt _ (by positivity)

theorem FieldDef.testBit_get (f : FieldDef) (m x k : Nat) : (f.get m x).testBit k = (decide (k < f.w) && x.testBit (f.pos m + k)) := by
  rw [FieldDef.get, Nat.testBit_mod_two_pow, Nat.testBit_div_two_pow, Nat.add_comm]

/-- The union of the field elements of a register, each with a value in its place. -/
def RegDef.join (r : RegDef) (g : FieldDef × Nat → Nat) : Nat :=
  r.elems.foldl (fun a e => a ||| g e % 2 ^ e.1.w * 2 ^ e.1.pos e.2) 0

/-- A field element holds what it was given there. -/
theorem RegDef.get_join {r : RegDef} (hr : r.wf = true) (g : FieldDef × Nat → Nat) {e : FieldDef × Nat} (he : e ∈ r.elems) {k : Nat}
    (hk : k < e.1.w) : (r.join g).testBit (e.1.pos e.2 + k) = (g e).testBit k := by
  have own (x : FieldDef × Nat) : (g x % 2 ^ x.1.w * 2 ^ x.1.pos x.2).testBit (e.1.pos e.2 + k)
      = (decide (x.1.pos x.2 ≤ e.1.pos e.2 + k) && decide (e.1.pos e.2 + k - x.1.pos x.2 < x.1.w)
        && (g x).testBit (e.1.pos e.2 + k - x.1.pos x.2)) := by
    rw [Nat.testBit_mul_two_pow, Nat.testBit_mod_two_pow, Bool.and_assoc]
  rw [RegDef.join, testBit_foldl_or, Nat.zero_testBit, Bool.false_or, Bool.eq_iff_iff, List.any_eq_true]
  constructor
  · rintro ⟨x, hx, hb⟩
    rw [own] at hb
    simp only [Bool.and_eq_true, decide_eq_true_eq] at hb
    obtain ⟨⟨h1, h2⟩, h3⟩ := hb
    have hxe : x = e := by
      by_contra hne
      have := RegDef.wf_apart hr hx he hne
      simp only [elemsApart] at this
      omega
    subst hxe
    simpa using h3
  · intro hb
    refine ⟨e, he, ?_⟩
    rw [own]
    simp [hk, hb]

/-- What a write gives each field element (R9). -/
def writtenElem (old val en hw : Nat) (secure locked : Bool) (e : FieldDef × Nat) : Nat := e.1.write e.2 old val en hw secure locked

/-- The word after a write is that of its field elements, but for a SET_COUNT field. -/
theorem RegDef.writeWord_cases (r : RegDef) (old val en hw : Nat) (secure locked : Bool) :
    r.writeWord old val en hw secure locked = BitVec.ofNat 32 (r.join (writtenElem old val en hw secure locked))
    ∨ ∃ lo x, r.setCnt = some lo ∧ x < 256 ∧ r.writeWord old val en hw secure locked
        = BitVec.ofNat 32 (r.join (writtenElem old val en hw secure locked)
          - r.join (writtenElem old val en hw secure locked) / 2 ^ lo % 256 * 2 ^ lo + x * 2 ^ lo) := by
  have hj : r.fields.foldl (fun a f => (List.range f.n).foldl (fun a m =>
      a ||| (f.write m old val en hw secure locked % 2 ^ f.w) * 2 ^ (f.lo + m * f.step)) a) 0
      = r.join (writtenElem old val en hw secure locked) := by
    simp only [RegDef.join, RegDef.elems, List.foldl_flatMap, List.foldl_map]
    rfl
  unfold RegDef.writeWord
  rw [hj]
  cases hc : r.setCnt with
  | none => exact .inl rfl
  | some lo => exact .inr ⟨lo, _, rfl, by omega, rfl⟩

/-- A field element but the SET_COUNT field holds what the write gives it. -/
theorem RegDef.get_writeWord {r : RegDef} (hr : r.wf = true) {f : FieldDef} (hf : f ∈ r.fields) {m : Nat} (hm : m < f.n)
    (hc : r.setCnt ≠ some (f.pos m)) (old val en hw : Nat) (secure locked : Bool) :
    f.get m (r.writeWord old val en hw secure locked).toNat = f.write m old val en hw secure locked % 2 ^ f.w := by
  have he := RegDef.mem_elems hf hm
  have hfit : f.pos m + f.w ≤ 32 := RegDef.wf_fits hr he
  refine Nat.eq_of_testBit_eq (fun k => ?_)
  rw [FieldDef.testBit_get, Nat.testBit_mod_two_pow]
  by_cases hk : k < f.w
  · have hj : (r.join (writtenElem old val en hw secure locked)).testBit (f.pos m + k)
        = (f.write m old val en hw secure locked).testBit k := RegDef.get_join hr _ he hk
    rcases RegDef.writeWord_cases r old val en hw secure locked with hw' | ⟨lo, x, hlo, hx, hw'⟩
    · rw [hw', BitVec.toNat_ofNat, Nat.testBit_mod_two_pow, hj]
      simp [show f.pos m + k < 32 by omega]
    · obtain ⟨c, hcm, hcp, hcw⟩ := RegDef.wf_setCnt hr hlo
      have hne : (f, m) ≠ c := by
        rintro rfl
        exact hc (hlo.trans (congrArg some hcp.symm))
      have hap := RegDef.wf_apart hr he hcm hne
      simp only [elemsApart, hcp, hcw] at hap
      rw [hw', BitVec.toNat_ofNat, Nat.testBit_mod_two_pow, testBit_setByte _ _ _ _ hx (by omega), hj]
      simp [show f.pos m + k < 32 by omega]
  · simp [hk]

/-! ### Each access code (Table SCP-5) -/

section
variable (f : FieldDef) (m old val en hw : Nat) (secure locked : Bool)

theorem FieldDef.write_ro (h : f.acc = .ro) : f.write m old val en hw secure locked = f.get m old := by
  simp [FieldDef.write, h, FieldDef.get, FieldDef.pos]

theorem FieldDef.write_wo (h : f.acc = .wo) : f.write m old val en hw secure locked = 0 := by
  simp [FieldDef.write, h]

/-- The field is open to the write: RW, RWL that the seal does not lock, RWS in the secure world. -/
def FieldDef.takes : Prop := f.acc = .rw ∨ (f.acc = .rwl ∧ locked = false) ∨ (f.acc = .rws ∧ secure = true)

theorem FieldDef.write_takes (h : f.takes secure locked) : f.write m old val en hw secure locked
    = if f.get m en = 0 then f.get m old
      else f.fix.store f.w ((f.get m val &&& f.get m en) ||| (f.get m old - (f.get m old &&& f.get m en))) := by
  by_cases he : f.get m en = 0
  all_goals
    simp only [FieldDef.get, FieldDef.pos] at he ⊢
    rcases h with h | ⟨h, rfl⟩ | ⟨h, rfl⟩ <;> simp [FieldDef.write, h, he]

theorem FieldDef.write_shut (h : (f.acc = .rwl ∧ locked = true) ∨ (f.acc = .rws ∧ secure = false)) :
    f.write m old val en hw secure locked = f.get m old := by
  rcases h with ⟨h, rfl⟩ | ⟨h, rfl⟩ <;> simp [FieldDef.write, h, FieldDef.get, FieldDef.pos]

theorem FieldDef.write_w1c (h : f.acc = .w1c) : f.write m old val en hw secure locked
    = (f.get m old - (f.get m old &&& (f.get m val &&& f.get m en))) ||| f.get m hw := by
  simp [FieldDef.write, h, FieldDef.get, FieldDef.pos]

theorem FieldDef.write_w1s (h : f.acc = .w1s) :
    f.write m old val en hw secure locked = f.get m old ||| (f.get m val &&& f.get m en) := by
  simp [FieldDef.write, h, FieldDef.get, FieldDef.pos]

/-- A writable field with all its bits enabled stores the value its row admits. -/
theorem FieldDef.write_whole (h : f.takes secure locked) (he : f.get m en = 2 ^ f.w - 1) :
    f.write m old val en hw secure locked % 2 ^ f.w = f.fix.store f.w (f.get m val) % 2 ^ f.w := by
  rw [FieldDef.write_takes f m old val en hw secure locked h, he]
  have hm (x : Nat) : f.get m x &&& (2 ^ f.w - 1) = f.get m x := by
    rw [Nat.and_two_pow_sub_one_eq_mod, Nat.mod_eq_of_lt (f.get_lt m x)]
  split_ifs with h0
  · rw [show 2 ^ f.w = 1 by have := Nat.one_le_two_pow (n := f.w); omega, Nat.mod_one, Nat.mod_one]
  · rw [hm, hm, Nat.sub_self, Nat.or_zero]

end

/-- Settles O29: a register's word after a write is that of its field elements, each by its access code. -/
theorem writesFollowAccessCodes : Obligations.WritesFollowAccessCodes := by
  unfold Obligations.WritesFollowAccessCodes
  intro b off i j r hfind f hf m hm hc old val en hw secure locked get new
  have hnew : new = f.write m old.toNat val.toNat en.toNat hw.toNat secure locked % 2 ^ f.w :=
    RegDef.get_writeWord (findReg_wf hfind) hf hm hc _ _ _ _ _ _
  have hlt (x : Word) : get x % 2 ^ f.w = get x := Nat.mod_mod _ _
  refine ⟨fun h => ?_, fun h => ?_, fun h => ⟨fun he => ?_, fun he => ?_⟩, fun h => ?_, fun h k hk => ?_, fun h k hk => ?_⟩
  · rw [hnew, f.write_ro _ _ _ _ _ _ _ h]
    exact hlt old
  · rw [hnew, f.write_wo _ _ _ _ _ _ _ h, Nat.zero_mod]
  · rw [hnew]
    exact f.write_whole _ _ _ _ _ _ _ h he
  · rw [hnew, f.write_takes _ _ _ _ _ _ _ h, if_pos (show f.get m en.toNat = 0 from he)]
    exact hlt old
  · rw [hnew, f.write_shut _ _ _ _ _ _ _ h]
    exact hlt old
  · rw [hnew, f.write_w1c _ _ _ _ _ _ _ h, Nat.testBit_mod_two_pow, Nat.testBit_or, testBit_sub_and, Nat.testBit_and]
    simp only [hk, decide_true, Bool.true_and]
    rfl
  · rw [hnew, f.write_w1s _ _ _ _ _ _ _ h, Nat.testBit_mod_two_pow, Nat.testBit_or, Nat.testBit_and]
    simp only [hk, decide_true, Bool.true_and]
    rfl

end Sys2Proof.Machine
end

section
/-! ### What registers read as after reset (R8) -/

namespace Sys2Proof.Machine

/-- With nothing stored, every register reads as its Reset value. -/
theorem Dev.reg_of_regs_empty {d : Dev} (h : d.regs = {}) (b : Blk) (off : Nat) : d.reg b off = resetAt d.part b off := by
  have : (({} : Regs).tab b) = [] := by cases b <;> rfl
  rw [Dev.reg, h, this, tabGet]

/-- Settles O8: nothing is stored after reset, so that every register reads as its Reset value. -/
theorem resetRegisters : Obligations.ResetRegisters := by
  unfold Obligations.ResetRegisters
  have h := fun b off => Dev.reg_of_regs_empty (d := State.reset.dev) rfl b off
  refine ⟨h, ?_, ?_, ?_, ?_, ?_, rfl, rfl, fun _ => ⟨rfl, rfl⟩⟩
  all_goals
    simp only [Dev.fld, h]
    decide

/-! ### What a reset event keeps -/

/-- The bits of a register's fields. -/
theorem FieldDef.testBit_mask (f : FieldDef) (k : Nat) :
    f.mask.testBit k = (List.range f.n).any (fun m => decide (f.pos m ≤ k) && decide (k - f.pos m < f.w)) := by
  rw [FieldDef.mask, testBit_foldl_or, Nat.zero_testBit, Bool.false_or]
  simp only [maskBits, Nat.testBit_mul_two_pow, Nat.testBit_two_pow_sub_one]
  rfl

/-- A field's Reset value lies in the field. -/
theorem FieldDef.mask_of_resetBits {f : FieldDef} {i k : Nat} (h : (f.resetBits i).testBit k = true) : f.mask.testBit k = true := by
  rw [FieldDef.resetBits, testBit_foldl_or, Nat.zero_testBit, Bool.false_or, List.any_eq_true] at h
  obtain ⟨m, hm, hb⟩ := h
  simp only [Nat.testBit_mul_two_pow, Nat.testBit_mod_two_pow, Bool.and_eq_true, decide_eq_true_eq] at hb
  rw [FieldDef.testBit_mask, List.any_eq_true]
  exact ⟨m, hm, by simp [FieldDef.pos, hb.1, hb.2.1]⟩

/-- The fields of DEVICE_ID and VENDOR_ID fill their register. -/
theorem hstId_full : (findReg O.HST_ID (regDefs .hst)).all (fun x => (x.1.fields.foldl (fun a f => a ||| f.mask) 0) = 2 ^ 32 - 1) = true := by
  decide

/-- A Reset value has no bit outside the register's fields. -/
theorem resetAt_in_fields {p : Part} {b : Blk} {off i j : Nat} {r : RegDef} (hf : findReg off (regDefs b) = some (r, i, j)) {k : Nat}
    (hk : (resetAt p b off).getLsbD k = true) : ∃ f ∈ r.fields, f.mask.testBit k = true := by
  have hlt : k < 32 := BitVec.lt_of_getLsbD hk
  simp only [resetAt, hf] at hk
  split_ifs at hk with hid
  · obtain ⟨rfl, rfl, -⟩ := hid
    have hfull := hstId_full
    rw [hf, Option.all_some, decide_eq_true_eq] at hfull
    have hb := congrArg (fun x => x.testBit k) hfull
    simp only [testBit_foldl_or, Nat.zero_testBit, Bool.false_or, Nat.testBit_two_pow_sub_one, hlt, decide_true] at hb
    exact List.any_eq_true.1 hb
  · rw [BitVec.getLsbD_ofNat, RegDef.resetWord, testBit_foldl_or, Nat.zero_testBit, Bool.false_or, Bool.and_eq_true,
      List.any_eq_true] at hk
    obtain ⟨-, f, hfm, hb⟩ := hk
    exact ⟨f, hfm, FieldDef.mask_of_resetBits hb⟩

/-- A bit of a register after a reset is that of a field's Reset value, or of the field's value where it is kept. -/
theorem RegDef.getLsbD_after (r : RegDef) (rst v : Word) (lost : FieldDef → Bool) (k : Nat) (hk : k < 32) :
    (r.after rst v lost).getLsbD k = r.fields.any (fun f => (if lost f then rst else v).getLsbD k && f.mask.testBit k) := by
  have h (l : List FieldDef) (a : Word) : (l.foldl (fun a f => a ||| ((if lost f then rst else v) &&& BitVec.ofNat 32 f.mask)) a).getLsbD k
      = (a.getLsbD k || l.any (fun f => (if lost f then rst else v).getLsbD k && f.mask.testBit k)) := by
    induction l generalizing a with
    | nil => simp
    | cons f l ih => rw [List.foldl_cons, ih, BitVec.getLsbD_or, BitVec.getLsbD_and, BitVec.getLsbD_ofNat, List.any_cons, Bool.or_assoc]; simp [hk]
  rw [RegDef.after, h]
  simp

/-- A register that stands at its Reset value stands there after a reset. -/
theorem RegDef.after_reset {p : Part} {b : Blk} {off i j : Nat} {r : RegDef} (hf : findReg off (regDefs b) = some (r, i, j))
    (lost : FieldDef → Bool) : r.after (resetAt p b off) (resetAt p b off) lost = resetAt p b off := by
  refine BitVec.eq_of_getLsbD_eq (fun k hk => ?_)
  rw [RegDef.getLsbD_after _ _ _ _ _ hk, Bool.eq_iff_iff, List.any_eq_true]
  simp only [ite_self, Bool.and_eq_true]
  constructor
  · rintro ⟨f, -, h, -⟩
    exact h
  · intro h
    obtain ⟨f, hfm, hb⟩ := resetAt_in_fields hf h
    exact ⟨f, hfm, h, hb⟩

/-- What the table of a block lists for one entry after a reset. -/
def keptEntry (p : Part) (b : Blk) (lost : Nat → FieldDef → Bool) (t : Tab Word) (e : Nat × Word) : Option (Nat × Word) :=
  match findReg e.1 (regDefs b) with
  | none => none
  | some (r, _, _) =>
    if r.after (resetAt p b e.1) (tabGet (resetAt p b e.1) t e.1) (lost e.1) = resetAt p b e.1 then none
    else some (e.1, r.after (resetAt p b e.1) (tabGet (resetAt p b e.1) t e.1) (lost e.1))

theorem keptTab_eq (p : Part) (b : Blk) (lost : Nat → FieldDef → Bool) (t : Tab Word) :
    keptTab p b lost t = t.filterMap (keptEntry p b lost t) := rfl

theorem keptEntry_fst {p : Part} {b : Blk} {lost : Nat → FieldDef → Bool} {t : Tab Word} {e x : Nat × Word}
    (h : keptEntry p b lost t e = some x) : x.1 = e.1 := by
  unfold keptEntry at h
  split at h
  · cases h
  · split_ifs at h
    cases h
    rfl

/-- An index that a table does not list reads as the default. -/
theorem tabGet_of_notMem {α : Type} (d : α) {t : Tab α} {n : Nat} (h : n ∉ t.map Prod.fst) : tabGet d t n = d := by
  induction t with
  | nil => rfl
  | cons e t ih =>
    simp only [List.map_cons, List.mem_cons, not_or] at h
    rw [tabGet, if_neg (Ne.symm h.1), ih h.2]

/-- A register's word after a reset stands in the table of its block, or is its Reset value. -/
theorem tabGet_keptTab {p : Part} {b : Blk} {off i j : Nat} {r : RegDef} (hf : findReg off (regDefs b) = some (r, i, j))
    (lost : Nat → FieldDef → Bool) (t : Tab Word) :
    tabGet (resetAt p b off) (keptTab p b lost t) off = r.after (resetAt p b off) (tabGet (resetAt p b off) t off) (lost off) := by
  have listed (l : Tab Word) : off ∈ l.map Prod.fst → tabGet (resetAt p b off) (l.filterMap (keptEntry p b lost t)) off
      = r.after (resetAt p b off) (tabGet (resetAt p b off) t off) (lost off) := by
    induction l with
    | nil => simp
    | cons e l ih =>
      intro hm
      by_cases he : e.1 = off
      · by_cases hw : r.after (resetAt p b off) (tabGet (resetAt p b off) t off) (lost off) = resetAt p b off
        · have : keptEntry p b lost t e = none := by simp [keptEntry, he, hf, hw]
          rw [List.filterMap_cons_none this]
          by_cases hl : off ∈ l.map Prod.fst
          · exact ih hl
          · rw [hw]
            refine tabGet_of_notMem _ (fun hx => hl ?_)
            obtain ⟨x, hxm, rfl⟩ := List.mem_map.1 hx
            obtain ⟨y, hy, hyx⟩ := List.mem_filterMap.1 hxm
            exact List.mem_map.2 ⟨y, hy, (keptEntry_fst hyx).symm⟩
        · have : keptEntry p b lost t e
              = some (off, r.after (resetAt p b off) (tabGet (resetAt p b off) t off) (lost off)) := by simp [keptEntry, he, hf, hw]
          rw [List.filterMap_cons_some this, tabGet, if_pos rfl]
      · have hl : off ∈ l.map Prod.fst := by simpa [Ne.symm he] using hm
        cases hk : keptEntry p b lost t e with
        | none => rw [List.filterMap_cons_none hk, ih hl]
        | some x =>
          rw [List.filterMap_cons_some hk, tabGet, if_neg (by rw [keptEntry_fst hk]; exact he), ih hl]
  by_cases hm : off ∈ t.map Prod.fst
  · rw [keptTab_eq, listed t hm]
  · have hn : off ∉ (keptTab p b lost t).map Prod.fst := by
      intro hx
      obtain ⟨x, hxm, rfl⟩ := List.mem_map.1 hx
      rw [keptTab_eq] at hxm
      obtain ⟨y, hy, hyx⟩ := List.mem_filterMap.1 hxm
      exact hm (List.mem_map.2 ⟨y, hy, (keptEntry_fst hyx).symm⟩)
    rw [tabGet_of_notMem _ hn, tabGet_of_notMem _ hm, RegDef.after_reset hf]

/-- A reset works on each block's table on its own. -/
theorem Dev.resetRegs_tab (d : Dev) (lost : Blk → Nat → FieldDef → Bool) (b : Blk) :
    (d.resetRegs lost).tab b = keptTab d.part b (lost b) (d.regs.tab b) := by
  have fold (l : List Blk) (hl : l.Nodup) (r : Regs) :
      (l.foldl (fun r b => r.setTab (keptTab d.part b (lost b) (r.tab b)) b) r).tab b
        = if b ∈ l then keptTab d.part b (lost b) (r.tab b) else r.tab b := by
    induction l generalizing r with
    | nil => rfl
    | cons c l ih =>
      obtain ⟨hc, hl⟩ := List.nodup_cons.1 hl
      rw [List.foldl_cons, ih hl]
      by_cases hb : b = c
      · subst hb
        rw [if_neg hc, if_pos List.mem_cons_self, Regs.tab_setTab_same]
      · simp only [Regs.tab_setTab_ne _ _ hb, List.mem_cons, hb, false_or]
  rw [Dev.resetRegs, fold allBlks (by decide) d.regs, if_pos (by cases b <;> decide)]

/-- The registers of a device whose file is that of another after a reset. -/
theorem Dev.reg_of_resetRegs {d d' : Dev} (lost : Blk → Nat → FieldDef → Bool) (hr : d'.regs = d.resetRegs lost) (hp : d'.part = d.part)
    {b : Blk} {off i j : Nat} {r : RegDef} (hf : findReg off (regDefs b) = some (r, i, j)) :
    d'.reg b off = r.after (resetAt d.part b off) (d.reg b off) (lost b off) := by
  rw [Dev.reg, hr, hp, Dev.resetRegs_tab, tabGet_keptTab hf, Dev.reg]

/-! ### GLOW before a reset -/

/-- Writing the outage log leaves every register but its index as it was, and the part. -/
theorem State.outlogPut_regs (e : List Byte) (s : State) :
    sameRegsBut [F.PWR_OUTLOG_IDX.NEXT.place] s.dev (s.outlogPut e).dev ∧ (s.outlogPut e).dev.part = s.dev.part :=
  ⟨((sameRegsBut.refl _ _).setFld F.PWR_OUTLOG_IDX.NEXT _ (by simp)).inc F.PWR_OUTLOG_IDX.TOTAL 1 (by decide), rfl⟩

theorem State.retWrite_keeps (off : Nat) (l : List Byte) (s : State) :
    (s.retWrite off l).dev = s.dev ∧ (s.retWrite off l).store.otp = s.store.otp ∧ (s.retWrite off l).store.host = s.store.host :=
  ⟨rfl, rfl, rfl⟩

theorem State.outlogPut_store (e : List Byte) (s : State) :
    (s.outlogPut e).store.otp = s.store.otp ∧ (s.outlogPut e).store.host = s.store.host :=
  (State.retWrite_keeps _ _ s).2

/-- What GLOW's bookkeeping leaves: every register but the outage log's index, the part, OTP and host memory. -/
def glowKeeps (s u : State) : Prop :=
  sameRegsBut [F.PWR_OUTLOG_IDX.NEXT.place] s.dev u.dev ∧ u.dev.part = s.dev.part ∧ u.store.otp = s.store.otp ∧ u.store.host = s.store.host

theorem glowKeeps.retWrite {s u : State} (h : glowKeeps s u) (off : Nat) (l : List Byte) : glowKeeps s (u.retWrite off l) := by
  obtain ⟨hr, hp, ho, hh⟩ := h
  obtain ⟨wd, wo, wh⟩ := State.retWrite_keeps off l u
  exact ⟨hr.upd (congrArg Dev.regs wd) (congrArg Dev.part wd), (congrArg Dev.part wd).trans hp, wo.trans ho, wh.trans hh⟩

theorem glowKeeps.map {s u : State} (h : glowKeeps s u) {f : Dev → Dev} (hr : (f u.dev).regs = u.dev.regs) (hp : (f u.dev).part = u.dev.part) :
    glowKeeps s (u.map f) := by
  obtain ⟨gr, gp, go, gh⟩ := h
  exact ⟨gr.upd hr hp, hp.trans gp, go, gh⟩

theorem glowKeeps.outlogPut {s u : State} (h : glowKeeps s u) (e : List Byte) : glowKeeps s (u.outlogPut e) := by
  obtain ⟨hr, hp, ho, hh⟩ := h
  obtain ⟨pr, pp⟩ := State.outlogPut_regs e u
  obtain ⟨po, ph⟩ := State.outlogPut_store e u
  exact ⟨hr.trans pr, pp.trans hp, po.trans ho, ph.trans hh⟩

theorem State.glow_keeps (s : State) : glowKeeps s s.glow := by
  have puts (q : List (List Byte)) (u : State) (h : glowKeeps s u) : glowKeeps s (q.foldl (fun s e => s.outlogPut e) u) := by
    induction q generalizing u with
    | nil => exact h
    | cons e q ih => exact ih _ (h.outlogPut e)
  have hq := puts s.dev.logq (s.map (fun d => { d with logq := [] })) ⟨sameRegsBut_of_regs rfl rfl, rfl, rfl, rfl⟩
  unfold State.glow
  dsimp only
  split
  · exact (hq.retWrite _ _).map rfl rfl
  · exact hq

/-- A byte outside the range that a filter keeps reads 0. -/
theorem memByte_filter_out (m : List Host.Cell) (p : Host.Cell → Bool) {x : Nat} (h : ∀ v, p (x, v) = false) : memByte (m.filter p) x = 0 := by
  refine tabGet_of_notMem 0 (fun hx => ?_)
  obtain ⟨c, hc, rfl⟩ := List.mem_map.1 hx
  have := (List.mem_filter.1 hc).2
  rw [h c.2] at this
  cases this

/-! ### A reset event that a boot follows -/

/-- The registers that such an event sets beside the loss of fields: the causes, the outage log, the supplies. -/
def resetPlaces : List (Blk × Nat) :=
  [F.PWR_RESET_CAUSE.EVENT.place, F.PWR_OUTLOG_IDX.NEXT.place, F.PWR_RAIL_STAT.IN_WINDOW.place, F.PWR_STATE.VMAIN_OK.place]

/-- A reset event writes its entry of the outage log, if it has one (R92). -/
def State.logReset (e : Rst) (also : Nat) (s : State) : State :=
  let kind := if e = .g then 0 else ((topRst (2 ^ e.bit ||| also)).map Rst.kind).getD 0
  if kind = 0 then s else s.map (fun d => d.logOutage kind (2 ^ e.bit ||| also))

theorem State.logReset_keeps (e : Rst) (also : Nat) (s : State) :
    (s.logReset e also).dev.regs = s.dev.regs ∧ (s.logReset e also).dev.part = s.dev.part ∧ (s.logReset e also).store = s.store := by
  unfold State.logReset
  generalize (if e = .g then 0 else ((topRst (2 ^ e.bit ||| also)).map Rst.kind).getD 0) = kind
  dsimp only
  split
  · exact ⟨rfl, rfl, rfl⟩
  · exact ⟨rfl, rfl, rfl⟩

/-- The state whose fields a reset event takes: its letters are recorded, GLOW has kept up. -/
def State.beforeReset (e : Rst) (also : Nat) (s : State) : State :=
  ((s.logReset e also).map (fun d => d.recordReset (2 ^ e.bit ||| also))).glow

theorem State.beforeReset_keeps (e : Rst) (also : Nat) (s : State) :
    sameRegsBut resetPlaces s.dev (s.beforeReset e also).dev ∧ (s.beforeReset e also).dev.part = s.dev.part
    ∧ (s.beforeReset e also).store.otp = s.store.otp ∧ (s.beforeReset e also).store.host = s.store.host := by
  obtain ⟨hr, hp, hs⟩ := State.logReset_keeps e also s
  obtain ⟨gr, gp, go, gh⟩ := State.glow_keeps ((s.logReset e also).map (fun d => d.recordReset (2 ^ e.bit ||| also)))
  have hrec : sameRegsBut resetPlaces s.dev ((s.logReset e also).dev.recordReset (2 ^ e.bit ||| also)) :=
    (sameRegsBut_of_regs hr hp).setFld F.PWR_RESET_CAUSE.EVENT _ (by simp [resetPlaces])
  exact ⟨hrec.trans (gr.mono (by simp [resetPlaces])), gp.trans hp, go.trans (congrArg Store.otp hs), gh.trans (congrArg Store.host hs)⟩

/-- The device as a reset event leaves it before the supplies are shown again. -/
def Dev.afterReset (d : Dev) (e : Rst) (mode : PMode) : Dev :=
  { part := d.part, regs := if e = .g then {} else d.resetRegs (fun _ _ f => !f.keep.testBit e.bit), freeCtr := d.freeCtr
    power := { mode := mode, sel := d.power.sel, rst := d.power.rst, rtcRem := if e = .g then 0 else d.power.rtcRem, sent := if e = .g then 0 else d.sentTime }
    pins := d.pins, winIn := d.winIn, siMv := d.siMv, soFb := d.soFb.map (fun e => (e.1, (e.2.1, 0))) }

/-- The supplies read as they stood. -/
def Dev.supplies (d' d : Dev) : Dev :=
  { ((d'.setFld F.PWR_RAIL_STAT.IN_WINDOW (d.fld F.PWR_RAIL_STAT.IN_WINDOW)).setFld F.PWR_RAIL_STAT.VSENS_OK (d.fld F.PWR_RAIL_STAT.VSENS_OK)).setFld
      F.PWR_STATE.VMAIN_OK (d.fld F.PWR_STATE.VMAIN_OK) with out := d.out }

theorem State.fullReset_eq (e : Rst) (also : Nat) (mode : PMode) (s : State) : s.fullReset e also mode
    = { s.beforeReset e also with
        dev := ((s.beforeReset e also).dev.afterReset e mode).supplies (s.beforeReset e also).dev
        store := { (s.beforeReset e also).store with
          mem := if e = .g then [] else (s.beforeReset e also).store.mem.filter (fun c => retBase ≤ c.1 && c.1 < retBase + 0x1000) } } := rfl

theorem Dev.supplies_regs (d' d : Dev) : sameRegsBut resetPlaces d' (d'.supplies d) := by
  have hv : F.PWR_RAIL_STAT.VSENS_OK.place ∈ resetPlaces := by decide
  have h := (((sameRegsBut.refl resetPlaces d').setFld F.PWR_RAIL_STAT.IN_WINDOW (d.fld F.PWR_RAIL_STAT.IN_WINDOW) (by simp [resetPlaces])).setFld
    F.PWR_RAIL_STAT.VSENS_OK (d.fld F.PWR_RAIL_STAT.VSENS_OK) hv).setFld F.PWR_STATE.VMAIN_OK (d.fld F.PWR_STATE.VMAIN_OK) (by simp [resetPlaces])
  unfold Dev.supplies
  exact h.upd rfl rfl

/-- Settles O38: GLOW's bookkeeping and the supplies touch the excluded registers alone, and every other register loses the fields that its
Kept-by column does not keep. -/
theorem resetEventsKeepWhatIsKept : Obligations.ResetEventsKeepWhatIsKept := by
  unfold Obligations.ResetEventsKeepWhatIsKept
  rintro s e also mode u rfl
  obtain ⟨hr, hp, ho, hh⟩ := State.beforeReset_keeps e also s
  rw [State.fullReset_eq]
  refine ⟨fun b off i j r hf hx => ?_, rfl, rfl, rfl, rfl, rfl, rfl, ho, hh, fun x hx => ?_⟩
  · have hs := Dev.supplies_regs ((s.beforeReset e also).dev.afterReset e mode) (s.beforeReset e also).dev b off hx
    constructor
    · rintro rfl
      exact (hs.trans (Dev.reg_of_regs_empty rfl b off)).trans (congrArg (resetAt · b off) hp)
    · intro he
      have hk : ((s.beforeReset e also).dev.afterReset e mode).regs
          = (s.beforeReset e also).dev.resetRegs (fun _ _ f => !f.keep.testBit e.bit) := if_neg he
      have ha := Dev.reg_of_resetRegs _ hk rfl hf
      rw [hp, hr b off hx] at ha
      exact hs.trans ha
  · dsimp only
    split_ifs
    · rfl
    · exact memByte_filter_out _ _ (fun v => by simpa using hx)

end Sys2Proof.Machine
end

section
/-! ### Register accesses of an SV pair -/

namespace Sys2Proof.Machine

theorem blkBase_of_blkAt {mb : Nat} {b : Blk} (h : blkAt mb = some b) : mb * 0x100000 = blkBase b := by
  unfold blkAt at h
  split at h
  case h_19 => cases h
  all_goals
    cases h
    rfl

/-- Every register stands in the lower half of its block's megabyte. -/
theorem findReg_lt {b : Blk} {off i j : Nat} {r : RegDef} (hf : findReg off (regDefs b) = some (r, i, j)) : off < 0x80000 := by
  obtain ⟨-, -, -, hlast⟩ := r.wf_iff.1 (findReg_wf hf)
  have hat := (findReg_mem hf).2
  simp only [RegDef.at?] at hat
  split_ifs at hat with hbase hin
  simp only [Bool.and_eq_true, decide_eq_true_eq] at hin
  obtain ⟨⟨hi, hj⟩, hy⟩ := hin
  have h1 : (off - r.base) / r.s1 * r.s1 ≤ (r.n1 - 1) * r.s1 := Nat.mul_le_mul_right _ (by omega)
  have h2 : (off - r.base) % r.s1 / r.s2 * r.s2 ≤ (r.n2 - 1) * r.s2 := Nat.mul_le_mul_right _ (by omega)
  have h3 := Nat.div_add_mod' (off - r.base) r.s1
  have h4 := Nat.div_add_mod' ((off - r.base) % r.s1) r.s2
  omega

/-- The address of a register's word is its offset from the base of its block. -/
theorem place_reg_inv {d : Dev} {x off : Nat} {b : Blk} (hp : d.place x = .reg b off) (hx : x % 4 = 0) :
    x = blkBase b + off ∧ off % 4 = 0 := by
  unfold Dev.place at hp
  split_ifs at hp
  · split at hp <;> cases hp
  · split at hp
    · cases hp
    next c hc =>
      dsimp only at hp
      split_ifs at hp
      split at hp
      · cases hp
        have := blkBase_of_blkAt hc
        omega
      · cases hp

/-- A full-word write of an SV pair does what the write of the register does that its address names. -/
theorem does_registerWrite {s : State} {t : Stamp} {acc : Access} {x : BitVec 32} {b : Blk} {off i j : Nat} {r : RegDef} {a : Dev} {u : State}
    (h : At s t 0 a) (hsv : Sv acc) (hx : x.toNat % 4 = 0) (hp : a.place x.toNat = .reg b off) (hf : findReg off (regDefs b) = some (r, i, j))
    (v hw : Word) (hu : ({ s with dev := a } : State).regWrite true b off v.toNat 0xFFFFFFFF { hw := hw } = u) :
    Does (exec (.registerWrite t acc x v hw) s) u := by
  obtain ⟨hxb, h4⟩ := place_reg_inv hp hx
  obtain ⟨hm, hbe⟩ := hsv
  refine does_run (f := fun s => s.busWrite acc x.toNat v { hw := hw }) h ?_
  rw [hxb] at hp ⊢
  exact (busWrite_reg { s with dev := a } acc b off v { hw := hw } hm hbe hp h4 (findReg_lt hf)).trans hu

/-- The registers of UART_7 ignore writes (R414). -/
theorem regWrite_uart7 (s : State) (b : Blk) (off val en : Nat) (secure : Bool) (x : Aside) (h : b = .ser ∧ off / 0x80 = 7) :
    s.regWrite secure b off val en x = s := by
  unfold State.regWrite
  split
  · rfl
  · simp [h.1, h.2]

/-- Of the blocks that have no field which depends on another, a write stores its word alone. -/
theorem storeReg_plain {b : Blk} (hb : b = .flt ∨ b = .evt) (d : Dev) (r : RegDef) (off val en hw : Nat) (secure : Bool) :
    d.storeReg r b off val en hw secure = d.setReg b off (r.writeWord (d.reg b off).toNat val en hw secure (d.on F.BOT_STATUS.LOCKED)) := by
  rcases hb with rfl | rfl <;> simp [Dev.storeReg, Dev.crossFix]

theorem afterWrite_plain {b : Blk} (hb : b = .flt ∨ b = .evt) (old : Dev) (off wo en : Nat) (back : Option Word) (s : State) :
    s.afterWrite old b off wo en back = s := by
  rcases hb with rfl | rfl <;> rfl

/-- A full-word read of an SV pair answers what the register its address names reads as. -/
theorem busRead_reg (s : State) (acc : Access) (b : Blk) (off : Nat) (hm : acc.master.val < 2) (hbe : acc.be = 15#4)
    (hp : s.dev.place (blkBase b + off) = .reg b off) (h4 : off % 4 = 0) : s.busRead acc (blkBase b + off)
      = { s with dev := (s.dev.readReg acc b off 15).2.reply (s.dev.readReg acc b off 15).1 .ok } := by
  have hlo : 0x10000000 ≤ blkBase b := by cases b <;> decide
  have ha4 : (blkBase b + off) % 4 = 0 := by
    have : blkBase b % 4 = 0 := by cases b <;> decide
    omega
  have hst : s.map (fun d => d.stalled (blkBase b + off)) = s := by
    have : s.dev.stalled (blkBase b + off) = s.dev := by
      unfold Dev.stalled
      rw [if_neg (by omega)]
    simp only [State.map, this]
  have hne : acc.master.val ≠ 6 := by omega
  have hin : ¬ inMsix acc (blkBase b + off) = true := by simp [inMsix, hne]
  have hmir : ¬ acc.onMirror (blkBase b + off) = true := by simp [Access.onMirror, hne]
  have hmap : ¬ (!acc.mapped (blkBase b + off)) = true := by simp [Access.mapped, hne]
  have hone : acc.oneWord (blkBase b + off) = true := by simp [Access.oneWord, ha4, hbe]
  have hsec : s.dev.masterSecure acc = true := by simp [Dev.masterSecure, hm]
  have hv : s.dev.violation acc (blkBase b + off) false = none := by simp [Dev.violation, hp, hone, hsec]
  have hen : acc.enables (blkBase b + off) = 15 := by simp [Access.enables, ha4, hbe]
  -- the branches not taken go first: the kernel would compute with the large addresses they compare
  rw [State.busRead, hst, if_neg hin, if_neg hmir, if_neg hmap, hen, ha4]
  simp only [hv, hp, Nat.mul_zero, BitVec.ushiftRight_zero]

/-- What a full-word secure read of a present register answers, and what it changes: the shadows of the pair it latches, and which entries of
the violation log have been read (R150). -/
theorem readReg_secure {d : Dev} {acc : Access} {b : Blk} {off i j : Nat} {r : RegDef} (hm : acc.master.val < 2)
    (hf : findReg off (regDefs b) = some (r, i, j)) (ha : absentReg d.part b off = false) :
    (d.readReg acc b off 15).1 = (if pairLows b off ≠ [] then tabGet 0 d.shadow (shadowKey b off true) else (d.view.wired b off).reg b off)
        &&& (BitVec.ofNat 32 (r.readMask true false) &&& ~~~ BitVec.ofNat 32 (deadBits d.part b off))
    ∧ (d.readReg acc b off 15).2.regs = d.regs ∧ (d.readReg acc b off 15).2.part = d.part
    ∧ (d.readReg acc b off 15).2.shadow
      = (pairOf b off).foldl (fun s h => tabPut 0 s (shadowKey b h true) ((d.view.wired b off).reg b h)) d.shadow := by
  have hsec : d.masterSecure acc = true := by simp [Dev.masterSecure, hm]
  have hall : byteMask 15 = BitVec.allOnes 32 := by decide
  have hen : (15 : Nat).testBit 0 ∨ (15 : Nat).testBit 1 ∨ (15 : Nat).testBit 2 ∨ (15 : Nat).testBit 3 := .inl rfl
  unfold Dev.readReg
  simp only [hf, ha, hsec, hall, if_pos hen, Bool.false_eq_true, if_false, Bool.not_true, Bool.false_and, BitVec.and_allOnes]
  by_cases hlog : b = .wld ∧ r.base = O.WLD_VLOG_INFO
  · simp only [if_pos hlog, and_self]
  · simp only [if_neg hlog, and_self]

theorem shadowKey_inj {b : Blk} {h h' : Nat} {secure : Bool} (e : shadowKey b h secure = shadowKey b h' secure) : h = h' := by
  unfold shadowKey at e
  omega

/-- Each latched high word stands in the shadow of the world that latched it. -/
theorem tabGet_latched (b : Blk) (secure : Bool) (f : Nat → Word) (l : List Nat) (t : Tab Word) {h : Nat} (hl : h ∈ l) :
    tabGet 0 (l.foldl (fun s h => tabPut 0 s (shadowKey b h secure) (f h)) t) (shadowKey b h secure) = f h := by
  have kept (l : List Nat) (t : Tab Word) (ht : tabGet 0 t (shadowKey b h secure) = f h) :
      tabGet 0 (l.foldl (fun s h => tabPut 0 s (shadowKey b h secure) (f h)) t) (shadowKey b h secure) = f h := by
    induction l generalizing t with
    | nil => exact ht
    | cons x l ih =>
      refine ih _ ?_
      by_cases hx : h = x
      · rw [hx, tabGet_tabPut_same]
      · rw [tabGet_tabPut_ne _ _ _ _ (fun e => hx (shadowKey_inj e)), ht]
  induction l generalizing t with
  | nil => cases hl
  | cons x l ih =>
    rcases List.mem_cons.1 hl with rfl | hm
    · exact kept l _ (tabGet_tabPut_same _ _ _ _)
    · exact ih _ hm

/-- A register of an absent object, one of UART_7, and one without a field open to the write keep their words (R2, R9, R414). -/
theorem turns_registerWrite_ignored {s : State} {t : Stamp} {acc : Access} {x : BitVec 32} {b : Blk} {off i j : Nat} {r : RegDef} {a : Dev}
    (h : At s t 0 a) (hsv : Sv acc) (hx : x.toNat % 4 = 0) (hp : a.place x.toNat = .reg b off) (hf : findReg off (regDefs b) = some (r, i, j))
    (v hw : Word) (hno : absentReg a.part b off = true ∨ (b = .ser ∧ off / 0x80 = 7)
      ∨ r.touched (a.writable b off v.toNat 0xFFFFFFFF) true (a.on F.BOT_STATUS.LOCKED) = false) :
    Turns (exec (.registerWrite t acc x v hw) s) s [] a a := by
  refine ⟨does_registerWrite h hsv hx hp hf v hw ?_, sameRegsBut.refl _ _⟩
  rcases hno with habs | huart | hshut
  · exact regWrite_untouched _ b off v _ r i j hf (.inl habs)
  · exact regWrite_uart7 _ _ _ _ _ _ _ huart
  · exact regWrite_untouched _ b off v _ r i j hf (.inr hshut)

/-- Settles O30: a full-word access of an SV pair to a register is no violation, and comes down to the register's own write or read. -/
theorem registerWritesAndPairReads : Obligations.RegisterWritesAndPairReads := by
  unfold Obligations.RegisterWritesAndPairReads
  constructor
  · rintro s t acc x v hw b off i j en r a h hsv hx hp hf rfl
    refine ⟨turns_registerWrite_ignored h hsv hx hp hf v hw, ?_⟩
    rintro ha hu ht d rfl
    have hdoes := does_registerWrite h hsv hx hp hf v hw (regWrite_taken { s with dev := a } b off v { hw := hw } r i j hf ha hu ht)
    refine ⟨hdoes, fun hb => ⟨?_, ?_⟩, fun hb => ?_⟩
    · rw [afterWrite_plain hb] at hdoes
      exact hdoes
    · rw [storeReg_plain hb]
      exact sameRegsBut_setReg _ _ _ _ _ (by simp)
    · rw [storeReg_plain hb, Dev.reg_setReg_same]
  · rintro s t acc x b off i j r a h hsv hx hp hf ha mask rfl
    obtain ⟨hm, hbe⟩ := hsv
    obtain ⟨hxb, h4⟩ := place_reg_inv hp hx
    obtain ⟨hv, hr, hpart, hsh⟩ := readReg_secure (acc := acc) hm hf ha
    refine ⟨(a.readReg acc b off 15).2.reply (a.readReg acc b off 15).1 .ok, ⟨?_, sameRegsBut_of_regs hr hpart⟩, rfl, fun hlow => ⟨?_, ?_⟩,
      fun hhigh => ?_⟩
    · refine does_run (f := fun s => s.busRead acc x.toNat) h ?_
      rw [hxb] at hp ⊢
      exact busRead_reg { s with dev := a } acc b off hm hbe hp h4
    · rw [if_neg (not_not.2 hlow)] at hv
      exact congrArg some hv
    · intro k hk
      exact (congrArg (tabGet 0 · (shadowKey b k true)) hsh).trans (tabGet_latched b true _ _ _ hk)
    · rw [if_pos hhigh] at hv
      exact congrArg some hv

end Sys2Proof.Machine
end

section
/-! ### What routing leaves: boot, the supplies, the start queue, the device state -/

namespace Sys2Proof.Machine

/-- Two devices agree on what the start of the engines decides: boot, the supplies, the start queue and its count, the twin, the device
state. -/
structure SameStart (a d : Dev) : Prop where
  boot : d.boot = a.boot
  power : d.power = a.power
  startq : d.startq = a.startq
  twin : d.twin = a.twin
  queued : d.fld F.EVT_START.START_QUEUE = a.fld F.EVT_START.START_QUEUE
  devState : d.fld F.FLT_STATE.DEV_STATE = a.fld F.FLT_STATE.DEV_STATE

/-- The place holds neither the count of the start queue nor the device state. -/
def offStart (p : Blk × Nat) : Bool := p ≠ F.EVT_START.START_QUEUE.place && p ≠ F.FLT_STATE.DEV_STATE.place

namespace SameStart

theorem refl (d : Dev) : SameStart d d := ⟨rfl, rfl, rfl, rfl, rfl, rfl⟩

section
variable {a d : Dev} (h : SameStart a d)
include h

/-- A change beside registers, boot, supplies, start queue and twin. -/
theorem upd {d' : Dev} (hr : d'.regs = d.regs) (hp : d'.part = d.part) (hb : d'.boot = d.boot) (hw : d'.power = d.power)
    (hq : d'.startq = d.startq) (ht : d'.twin = d.twin) : SameStart a d' := by
  have hfld (f : Fld) : d'.fld f = d.fld f := Dev.fld_congr (by simp only [Dev.reg, hr, hp])
  exact ⟨hb.trans h.boot, hw.trans h.power, hq.trans h.startq, ht.trans h.twin, (hfld _).trans h.queued, (hfld _).trans h.devState⟩

theorem setReg {b : Blk} {off : Nat} (v : Word) (ha : offStart (b, off) = true) : SameStart a (d.setReg b off v) := by
  simp only [offStart, Bool.and_eq_true, decide_eq_true_eq] at ha
  obtain ⟨hq, hs⟩ := ha
  exact ⟨h.boot, h.power, h.startq, h.twin, (Dev.fld_congr (Dev.reg_setReg_ne d v (Ne.symm hq))).trans h.queued,
    (Dev.fld_congr (Dev.reg_setReg_ne d v (Ne.symm hs))).trans h.devState⟩

theorem setFld (f : Fld) (v : Nat) (ha : offStart f.place = true) : SameStart a (d.setFld f v) := h.setReg _ ha

theorem inc (f : Fld) (n : Nat) (ha : offStart f.place = true) : SameStart a (d.inc f n) := h.setFld f _ ha

theorem modRing (n : Nat) (f : RingSt → RingSt) : SameStart a (d.modRing n f) := h.upd rfl rfl rfl rfl rfl rfl

theorem setWorlds (w : WorldSt) : SameStart a { d with worlds := w } := h.upd rfl rfl rfl rfl rfl rfl

theorem setOut (o : Out) : SameStart a { d with out := o } := h.upd rfl rfl rfl rfl rfl rfl

theorem pend (n : Nat) (ns : Bool) : SameStart a (d.pend n ns) := by cases ns <;> exact h.upd rfl rfl rfl rfl rfl rfl

/-- The counters of a record (R513). -/
theorem counted (cls : Nat) : SameStart a ((d.inc (F.FLT_CLASS_CNT.COUNT cls)).incPair F.EVT_CNT_LO.V F.EVT_CNT_HI.V) := by
  have hc : offStart (F.FLT_CLASS_CNT.COUNT cls).place = true := by
    simp [offStart, Fld.place, F.FLT_CLASS_CNT.COUNT, F.FLT_STATE.DEV_STATE, F.EVT_START.START_QUEUE]
  exact ((h.inc _ 1 hc).setFld F.EVT_CNT_LO.V _ rfl).setFld F.EVT_CNT_HI.V _ rfl

theorem raiseAt (st : Stamp) (ev : Ev) (src : Src) (cls : Nat) (pay : List Byte) : SameStart a (d.raiseAt st ev src cls pay) := by
  have hc := h.counted cls
  unfold Dev.raiseAt
  by_cases h0 : cls = 0
  · simp only [h0, if_true] at hc ⊢
    exact hc.upd rfl rfl rfl rfl rfl rfl
  · simp only [h0, if_false]
    exact (hc.pend 67 false).upd rfl rfl rfl rfl rfl rfl

theorem note (ev : Ev) (src : Src) (related : Nat) (detail : List Byte) : SameStart a (d.note ev src related detail) := h.raiseAt _ _ _ _ _

theorem forL {α : Type} {f : α → Dev → Dev} (hf : ∀ x d, SameStart a d → SameStart a (f x d)) (l : List α) : SameStart a (forL l f d) :=
  List.foldlRecOn l _ h (fun d hd x _ => hf x d hd)

theorem doorbell (n : Nat) (v : Word) : SameStart a (d.doorbell n v) := by
  unfold Dev.doorbell
  dsimp only
  split_ifs
  · exact h.inc (F.HST_RING_CNT.DB_BAD n) 1 rfl
  · exact h
  · exact h.modRing n _
  · exact h.inc (F.HST_RING_CNT.DB_BAD n) 1 rfl

theorem snoop (mem : List Host.Cell) (x len : Nat) : SameStart a (d.snoop mem x len) := by
  refine h.forL (fun n d hd => ?_) _
  dsimp only
  split_ifs
  · exact hd.doorbell n _
  · exact hd

theorem stalled (x : Nat) : SameStart a (d.stalled x) := by
  unfold Dev.stalled Dev.regionZeroed
  dsimp only
  generalize (x - 0x08000000) / 0x10000 = r
  split_ifs
  · exact h
  · exact (h.setFld (F.WLD_REGION_TAG.TAG (r / 16) (r % 16)) _ rfl).setWorlds _
  · exact h

theorem logViolation (acc : Access) (x : Nat) (write : Bool) (kind : Nat) : SameStart a (d.logViolation acc x write kind) := by
  unfold Dev.logViolation
  extract_lets ring info next newest st same wrapped d1 d2 d3 d4 d5 d6 d7 d8 d9 d10
  have h4 : SameStart a d4 := (((h.setFld (F.WLD_VLOG_ADDR.ADDR next) x rfl).setReg (b := .wld) (off := (F.WLD_VLOG_INFO.KIND next).off)
    _ rfl).setFld (F.WLD_VLOG_TIME_LO.V next) _ rfl).setFld (F.WLD_VLOG_TIME_HI.V next) _ rfl
  have h7 : SameStart a d7 := ((h4.setFld F.WLD_VIOL_CNT.NEXT _ rfl).inc F.WLD_VIOL_CNT.ENTRIES 1 rfl).setFld F.WLD_VIOL_FLAG.VIOLATION 1 rfl
  have h8 : SameStart a d8 := by
    unfold d8
    split_ifs
    · exact h7.setFld F.WLD_VIOL_FLAG.WRAPPED 1 rfl
    · exact h7
  split_ifs
  · exact h.inc (F.WLD_VLOG_INFO.REPEAT newest) 1 rfl
  · exact ((h8.setWorlds _).pend 65 false).note _ _ _ _

theorem consume (n : Nat) (irq : Bool) : SameStart a (d.consume n irq) := by
  unfold Dev.consume Dev.ringAdvance
  exact ((h.setFld (F.HST_RING_IDX.DIDX n) _ rfl).setFld (F.HST_RING_IDX.DGEN n) _ rfl).modRing n _

theorem evtDrop (n : Nat) (r : EvRec) : SameStart a (d.evtDrop n r) := by
  unfold Dev.evtDrop
  exact (h.inc (F.HST_RING_CNT.DROP n) 1 rfl).modRing n _

theorem noRing : SameStart a d.noRing := (h.inc F.EVT_DROP.NO_RING 1 rfl).setFld F.EVT_FLAG.NO_RING 1 rfl

end

/-! ### The same of a state's device -/

section
variable {a : Dev} {s : State} (h : SameStart a s.dev)
include h

theorem dmaWrite (x : Nat) (l : List Byte) : SameStart a (s.dmaWrite x l).dev := by
  unfold State.dmaWrite
  cases s.dev.place x
  case sram r =>
    dsimp only
    exact h.snoop _ _ _
  case window w =>
    dsimp only
    split_ifs
    · exact h
    · exact h
  all_goals exact h

theorem ringMiss (n x : Nat) (write : Bool) : SameStart a (s.ringMiss n x write).dev := by
  unfold State.ringMiss
  split
  · exact h.logViolation _ _ _ _
  · exact h

theorem ringPut (n x : Nat) (l : List Byte) : SameStart a (s.ringPut n x l).dev := by
  have hst : SameStart a (s.map (fun d => d.stalled x)).dev := h.stalled x
  unfold State.ringPut
  dsimp only
  split_ifs
  · exact hst.ringMiss n x true
  · exact hst.dmaWrite x l

theorem ringWrite (n x : Nat) (l : List Byte) : SameStart a (s.ringWrite n x l).dev :=
  List.foldlRecOn (motive := fun u : State => SameStart a u.dev) _ _ h (fun _ hu _ _ => hu.ringPut n _ _)

theorem writeBack (n : Nat) : SameStart a (s.writeBack n).dev := by
  unfold State.writeBack
  rw [State.map_dev]
  exact (h.ringWrite n _ _).modRing n _

theorem ringState (n st err : Nat) : SameStart a (s.ringState n st err).dev := by
  have hset := (h.setFld (F.HST_RING_CTRL.STATE n) st rfl).setFld (F.HST_RING_CTRL.ERR n) err rfl
  unfold State.ringState
  refine writeBack ?_ n
  exact hset

theorem ringFail (n err : Nat) : SameStart a (s.ringFail n err).dev := by
  unfold State.ringFail
  rw [State.map_dev]
  exact ((h.ringState n 3 err).modRing n _).note _ _ _ _

theorem ringLost (n x : Nat) (write : Bool) (err : Nat) : SameStart a (s.ringLost n x write err).dev := (h.ringMiss n x write).ringFail n err

theorem evtSlot (n : Nat) (r : EvRec) : SameStart a (s.evtSlot n r).dev := by
  unfold State.evtSlot
  rw [State.map_dev]
  exact ((h.ringWrite n _ _).modRing n _).consume n false

theorem flushOverflow (n : Nat) : SameStart a (s.flushOverflow n).dev := by
  have hslot := h.evtSlot n (overflowRec s.dev n)
  unfold State.flushOverflow
  dsimp only
  generalize overflowRec s.dev n = r at hslot ⊢
  generalize s.evtSlot n r = u at hslot ⊢
  split_ifs
  · rw [State.map_dev]
    exact ((hslot.counted 0).modRing n _).setOut _
  · exact h

theorem evtPut (n : Nat) (r : EvRec) : SameStart a (s.evtPut n r).dev := by
  have hover := h.flushOverflow n
  unfold State.evtPut
  split_ifs
  · split
    · dsimp only
      split_ifs
      · exact hover.evtSlot n r
      · exact hover.evtDrop n r
    · exact (h.ringLost n _ true _).evtDrop n r
  · exact h.evtDrop n r

end
end SameStart

/-- The record itself goes to the secure ring (R511). -/
def State.routeSecure (r : EvRec) (s : State) : State :=
  if s.dev.on F.EVT_CFG.SEC_EN then
    let n := s.dev.fld F.EVT_CFG.SEC_RING
    if s.dev.evtRing n ∧ s.dev.ringSecure n then s.evtPut n r else s.map Dev.noRing
  else s

/-- A copy goes where the routing of its block sends it (R511, R512). -/
def State.routeCopy (r : EvRec) (s : State) : State :=
  let k := r.src.code - 1
  if s.dev.on (F.EVT_ROUTE.EN k) ∧ s.dev.bitOf (F.EVT_ROUTE.CLASS_MASK k) (evClass r.ev) then
    let n := s.dev.fld (F.EVT_ROUTE.RING k)
    if !s.dev.ringSecure n ∧ !s.dev.mayLeave r then s.map (fun d => (d.inc F.EVT_WORLD_DROP.V).setFld F.EVT_FLAG.WORLD 1)
    else if s.dev.evtRing n then s.evtPut n r
    else s.map Dev.noRing
  else s

theorem State.route_eq (r : EvRec) (s : State) : s.route r = (s.routeSecure r).routeCopy r := rfl

namespace SameStart
section
variable {a : Dev} {s : State} (h : SameStart a s.dev)
include h

theorem routeSecure (r : EvRec) : SameStart a (s.routeSecure r).dev := by
  unfold State.routeSecure
  dsimp only
  split_ifs
  · exact h.evtPut _ r
  · exact h.noRing
  · exact h

theorem routeCopy (r : EvRec) : SameStart a (s.routeCopy r).dev := by
  unfold State.routeCopy
  dsimp only
  split_ifs
  · exact (h.inc F.EVT_WORLD_DROP.V 1 rfl).setFld F.EVT_FLAG.WORLD 1 rfl
  · exact h.evtPut _ r
  · exact h.noRing
  · exact h

/-- Routing a record leaves what the start of the engines decides. -/
theorem route (r : EvRec) : SameStart a (s.route r).dev := by
  rw [State.route_eq]
  exact (h.routeSecure r).routeCopy r

end
end SameStart

/-! ### The offer of the snapshot -/

namespace SameStart
section
variable {a d : Dev} (h : SameStart a d)
include h

theorem setMap (lo hi : Fld) (i : Nat) (b : Bool) (hl : offStart lo.place = true) (hh : offStart hi.place = true) :
    SameStart a (d.setMap lo hi i b) := by
  unfold Dev.setMap
  split_ifs
  · exact h.setFld lo _ hl
  · exact h.setFld hi _ hh

theorem secMaps (i : Nat) : SameStart a (d.secMaps i) := by
  unfold Dev.secMaps
  exact ((h.setMap _ _ i _ rfl rfl).setMap _ _ i _ rfl rfl).setMap _ _ i _ rfl rfl

theorem retCorrupt (region : Nat) : SameStart a (d.retCorrupt region) := (h.setFld F.PWR_TAMPER.RET_CORRUPT 1 rfl).note _ _ _ _

end

theorem snapOffer {a : Dev} {s : State} (h : SameStart a s.dev) : SameStart a s.snapOffer.dev := by
  unfold State.snapOffer
  extract_lets ok same out limit d0 d1 d2 d3
  split_ifs
  · exact h
  have h0 : SameStart a d0 := by
    unfold d0
    split_ifs
    · exact h
    · exact h.retCorrupt 1
  have h3 : SameStart a d3 := by
    unfold d3
    split_ifs
    · refine forL (((h0.setFld F.SEC_SNAP_STAT.SNAP_OFFERED 1 rfl).setFld F.SEC_SNAP_STAT.SNAP_CAUSE_S _ rfl).setFld F.SEC_SNAP_STAT.OUTAGE_S _ rfl)
        (fun i d hd => ?_) _
      have hret (c st : Nat) := (hd.setFld (F.SEC_OFFER.RET_COUNT i) c rfl).setFld (F.SEC_OFFER.RET_STATE i) st rfl
      dsimp only
      split_ifs
      · exact (((hret _ _).setFld (F.SEC_STATE.COUNT i) _ rfl).setFld (F.SEC_STATE.OFFERED i) 1 rfl).secMaps i
      · exact hret _ _
    · exact h0
  exact h3.setFld F.PWR_GLOW_STAT.SNAP_VALID 0 rfl

end SameStart

/-- The records held since reset are routed: the start queue is empty and shown so, Step 6 has ended. -/
theorem State.flushStart_dev (s : State) : s.flushStart.dev.startq = [] ∧ s.flushStart.dev.fld F.EVT_START.START_QUEUE = 0
    ∧ s.flushStart.dev.boot = { s.dev.boot with step6 := true } ∧ s.flushStart.dev.power = s.dev.power
    ∧ s.flushStart.dev.fld F.FLT_STATE.DEV_STATE = s.dev.fld F.FLT_STATE.DEV_STATE := by
  have hroute : SameStart (Dev.setFld { s.dev with startq := [], boot := { s.dev.boot with step6 := true } } F.EVT_START.START_QUEUE 0)
      s.flushStart.dev := by
    unfold State.flushStart
    exact List.foldlRecOn (motive := fun u : State => SameStart _ u.dev) _ _ (SameStart.refl _) (fun _ hu r _ => hu.route r)
  obtain ⟨hb, hw, hq, -, hn, hs⟩ := hroute
  refine ⟨hq, hn.trans (Dev.fld_setFld_same _ _ _ (by decide)), hb, hw, hs.trans ?_⟩
  rw [Dev.fld_setFld_apart _ _ _ _ (by decide) (by decide)]
  rfl

/-! ### What the reactions of the twin leave -/

/-- Two devices agree on whether the engines have started and on whether a HOLD waits to stop its islands (R99). -/
structure SameEngines (a d : Dev) : Prop where
  started : d.boot.started = a.boot.started
  holdDue : d.power.holdDue = a.power.holdDue

namespace SameEngines
section
variable {a d : Dev} (h : SameEngines a d)
include h

theorem upd {d' : Dev} (hb : d'.boot.started = d.boot.started) (hw : d'.power.holdDue = d.power.holdDue) : SameEngines a d' :=
  ⟨hb.trans h.started, hw.trans h.holdDue⟩

theorem ite {e : Dev} {p : Prop} [Decidable p] (he : SameEngines a e) : SameEngines a (if p then d else e) := by
  split_ifs
  · exact h
  · exact he

theorem setFld (f : Fld) (v : Nat) : SameEngines a (d.setFld f v) := h.upd rfl rfl

theorem modTwin (f : TwinSt → TwinSt) : SameEngines a (d.modTwin f) := h.upd rfl rfl

theorem setSlots (t : Tab Stamp) (dirty : Bool) : SameEngines a { d with egExpiry := t, egDirty := dirty } := h.upd rfl rfl

theorem clear (ev : Ev) (src : Src) (sub : Nat) : SameEngines a (d.clear ev src sub) := h.upd rfl rfl

theorem keep (c : Cause) : SameEngines a (d.keep c) := h.upd rfl rfl

theorem raiseAt (st : Stamp) (ev : Ev) (src : Src) (cls : Nat) (pay : List Byte) : SameEngines a (d.raiseAt st ev src cls pay) :=
  h.upd (by rw [Dev.raiseAt_boot]) (by rw [Dev.raiseAt_power])

theorem note (ev : Ev) (src : Src) (related : Nat) (detail : List Byte) : SameEngines a (d.note ev src related detail) := h.raiseAt _ _ _ _ _

theorem forL {α : Type} {f : α → Dev → Dev} (hf : ∀ x d, SameEngines a d → SameEngines a (f x d)) (l : List α) : SameEngines a (forL l f d) :=
  List.foldlRecOn l _ h (fun d hd x _ => hf x d hd)

theorem moveShared (b : Stamp) : SameEngines a (d.moveShared b) := by
  refine h.forL (fun c d hd => ?_) _
  unfold Dev.chanMove Dev.chanMoved
  dsimp only
  split_ifs
  all_goals exact hd.upd rfl rfl

theorem safeState (cls : Nat) (ev : Ev) (src : Src) : SameEngines a (d.safeState cls ev src) := by
  unfold Dev.safeState
  dsimp only
  split_ifs
  all_goals exact h.upd rfl rfl

theorem fault (ev : Ev) (src : Src) (sub related : Nat) (detail : List Byte) (st : Stamp) :
    SameEngines a (d.fault ev src sub related detail st) := by
  have hgroups (c : Cause) (g : Nat) : SameEngines a (if evClass ev = 3 then (d.keep c).underGroups g else d.keep c) :=
    ite ((h.keep c).setFld _ _) (h.keep c)
  unfold Dev.fault
  exact ite h ((ite ((hgroups _ _).safeState _ _ _) (hgroups _ _)).raiseAt _ _ _ _ _)

theorem egEnter (k cause obj sys : Nat) (st : Stamp) : SameEngines a (d.egEnter k cause obj sys st) := by
  unfold Dev.egEnter
  have hslot := ((((h.setFld (F.FLT_EG_SLOT_A.CAUSE k) cause).setFld (F.FLT_EG_SLOT_A.CAUSE_GONE k) 0).setFld (F.FLT_EG_SLOT_A.SYSTEM k) sys).setFld
    (F.FLT_EG_SLOT_A.OBJECT k) obj).setFld (F.FLT_EG_SLOT_A.AXLES_USED k) 0
  exact (((hslot.setSlots _ true).setFld F.FLT_STATE.EG_ACTIVE _).forL (fun e d hd => hd.setFld _ _) _).note _ _ _ _

theorem fault2 (ev : Ev) (obj sub sys related : Nat) (detail : List Byte) (enter : Bool) (st : Stamp) :
    SameEngines a (d.fault2 ev obj sub sys related detail enter st) := by
  unfold Dev.fault2
  extract_lets cause src expCls expGrp refuse accept r
  have hrefuse : SameEngines a (refuse d) := by
    unfold refuse
    dsimp only
    split_ifs
    · exact ((h.keep _).setFld _ _).raiseAt _ _ _ _ _
    · exact (h.keep _).raiseAt _ _ _ _ _
  have haccept : SameEngines a (accept d) := (h.keep _).raiseAt _ _ _ _ _
  refine ite h (ite hrefuse ?_)
  cases d.egFind cause obj with
  | some k => exact (haccept.setFld (F.FLT_EG_SLOT_A.CAUSE_GONE k) 0).setSlots _ true
  | none =>
    cases d.egFree with
    | some k => exact ite (haccept.egEnter _ _ _ _ _) (hrefuse.note _ _ _ _)
    | none => exact hrefuse.note _ _ _ _

theorem egGone (cause obj : Nat) : SameEngines a (d.egGone cause obj) := by
  unfold Dev.egGone
  split
  · split_ifs
    · exact h
    · exact (h.setFld _ 1).setSlots _ true
  · exact h

theorem twinLostReact (why : Nat) : SameEngines a (d.twinLostReact why) := by
  have hset := (h.setFld F.TWN_FLAG.LOST 1).setFld F.TWN_STAT.STATE 4
  unfold Dev.twinLostReact
  dsimp only
  split_ifs
  · exact hset.fault2 _ _ _ _ _ _ _ _
  · exact hset.fault _ _ _ _ _ _

theorem twinIsolate : SameEngines a d.twinIsolate := ((h.setFld _ _).setFld _ _).fault _ _ _ _ _ _

theorem twinPair : SameEngines a d.twinPair := by
  have hnote := ((h.setFld F.TWN_STAT.STATE 3).setFld F.TWN_FLAG.PAIRED 1).note .twinPaired .twn 0 (leBytes 1 (d.fld F.TWN_STAT.ROLE))
  unfold Dev.twinPair
  exact (((hnote.clear _ _ 0).clear _ _ 0).egGone 3 0).modTwin _

/-- What the start does to the twin leaves the started engines and a waiting HOLD (R474, R504, R505). -/
theorem twinStarted : SameEngines a d.twinStarted := by
  unfold Dev.twinStarted
  dsimp only
  have hrun := ((h.setFld F.TWN_STAT.RUNNING 1).modTwin (fun w => { w with held := false, startAt := none })).moveShared (ceilStamp 10 d.now)
  split_ifs
  · exact h
  · exact hrun.twinLostReact 1
  · exact hrun.twinIsolate
  · exact hrun.twinPair

end
end SameEngines

/-! ### The start -/

/-- The device state that the start enters: that of the worst cause, or RUN (R21). -/
def Dev.startClass (d : Dev) : Nat :=
  let worst := d.causes.foldl (fun m c => max m c.cls) d.boot.worst
  if 4 ≤ worst then worst else 1

/-- The engines have started and the device has left STARTUP; nothing has followed yet. -/
def Dev.leaveStartup (d : Dev) : Dev :=
  { d.setFld F.FLT_STATE.DEV_STATE d.startClass with boot := { d.boot with startDue := false, started := true } }

theorem State.engineStart_idle {s : State} (hdue : s.dev.boot.startDue = false) : s.engineStart = s := by
  simp [State.engineStart, hdue]

theorem State.engineStart_held {s : State} (hdue : s.dev.boot.startDue = true) (htwin : s.dev.twinLets = false) :
    s.engineStart = s.flushStart := by
  simp [State.engineStart, hdue, htwin]

theorem State.engineStart_due {s : State} (hdue : s.dev.boot.startDue = true) (htwin : s.dev.twinLets = true) :
    s.engineStart = ((s.map Dev.leaveStartup).snapOffer.map Dev.twinStarted).flushStart := by
  simp only [State.engineStart, hdue, htwin, Bool.not_true, Bool.false_eq_true, if_false]
  rfl

/-- Without a HOLD that waits for it, the start stops no island. -/
theorem State.enginesStart_plain {s : State} (h : s.engineStart.dev.boot.started = false ∨ s.engineStart.dev.power.holdDue = false) :
    s.enginesStart = s.engineStart := by
  unfold State.enginesStart
  rcases h with h | h <;> simp [h]

/-- A HOLD that an S has held back stops its islands once the engines have started (R99). -/
theorem State.enginesStart_hold {s : State} (hs : s.engineStart.dev.boot.started = true) (hd : s.engineStart.dev.power.holdDue = true) :
    s.enginesStart = s.engineStart.holdStop := by
  simp [State.enginesStart, hs, hd]

theorem State.enginesStart_idle {s : State} (hdue : s.dev.boot.startDue = false) (h : s.dev.boot.started = false ∨ s.dev.power.holdDue = false) :
    s.enginesStart = s := by
  have hs := State.engineStart_idle hdue
  rw [State.enginesStart_plain (by rwa [hs]), hs]

/-- Routing what the start queue holds leaves started engines and a waiting HOLD. -/
theorem SameEngines.flushStart {a : Dev} {s : State} (h : SameEngines a s.dev) : SameEngines a s.flushStart.dev := by
  obtain ⟨-, -, hboot, hpower, -⟩ := s.flushStart_dev
  exact h.upd (by rw [hboot]) (by rw [hpower])

theorem State.leaveStartup_offered (s : State) : SameStart s.dev.leaveStartup (s.map Dev.leaveStartup).snapOffer.dev :=
  SameStart.snapOffer (SameStart.refl _)

/-- After the start the engines run, and a HOLD that waited waits still. -/
theorem State.engineStart_engines {s : State} (hdue : s.dev.boot.startDue = true) (htwin : s.dev.twinLets = true) :
    s.engineStart.dev.boot.started = true ∧ s.engineStart.dev.power.holdDue = s.dev.power.holdDue := by
  have hsnap := s.leaveStartup_offered
  have hoffered : SameEngines s.dev.leaveStartup (s.map Dev.leaveStartup).snapOffer.dev := ⟨by rw [hsnap.boot], by rw [hsnap.power]⟩
  have hstart : SameEngines s.dev.leaveStartup s.engineStart.dev := by
    rw [State.engineStart_due hdue htwin]
    exact SameEngines.flushStart (s := State.map _ _) hoffered.twinStarted
  exact ⟨hstart.started, hstart.holdDue⟩

theorem Dev.twinStarted_of_not_held {d : Dev} (h : d.twin.held = false) : d.twinStarted = d := by
  simp [Dev.twinStarted, h]

/-- Without a twin that holds the engines, the device state after the start is that of the worst cause. -/
theorem State.engineStart_devState {s : State} (hdue : s.dev.boot.startDue = true) (hheld : s.dev.twin.held = false)
    (hclass : s.dev.startClass < 8) : s.engineStart.dev.fld F.FLT_STATE.DEV_STATE = s.dev.startClass ∧ s.engineStart.dev.boot.startDue = false := by
  have hsnap := s.leaveStartup_offered
  have htwin : s.dev.twinLets = true := by simp [Dev.twinLets, hheld]
  have hstarted : (s.map Dev.leaveStartup).snapOffer.dev.twinStarted = (s.map Dev.leaveStartup).snapOffer.dev :=
    Dev.twinStarted_of_not_held (by rw [hsnap.twin]; exact hheld)
  obtain ⟨-, -, hboot, -, hstate⟩ := ((s.map Dev.leaveStartup).snapOffer.map Dev.twinStarted).flushStart_dev
  rw [State.map_dev, hstarted] at hboot hstate
  rw [State.engineStart_due hdue htwin, hstate, hboot, hsnap.devState, hsnap.boot]
  exact ⟨(Dev.fld_setFld_same s.dev F.FLT_STATE.DEV_STATE _ (by decide)).trans (Nat.mod_eq_of_lt hclass), rfl⟩

/-! ### LOCK_WAIT_MS -/

/-- What the end of LOCK_WAIT_MS makes of a held twin (R505): it is to start now, ALONE or ISOLATED. -/
def Dev.endWait (d : Dev) : Dev :=
  let b := d.modTwin (fun w => { w with startAt := some d.now, trims := 0 })
  if d.loopsQuiet (d.now - BitVec.ofNat 48 (d.fld F.TWN_TIME.PROMOTE_US)) then (b.setFld F.TWN_STAT.ROLE 0).setFld F.TWN_STAT.STATE 4
  else (b.setFld F.TWN_STAT.ROLE 1).setFld F.TWN_STAT.STATE 5

theorem Dev.lockWait_due {d : Dev} (hheld : d.twin.held = true) (hat : d.twin.startAt = none)
    (hwait : d.fld F.TWN_CFG.LOCK_WAIT_MS * 1000 ≤ d.now.since d.twin.heldAt) : d.lockWait = d.endWait := by
  have hc : (d.twin.held && d.twin.startAt.isNone && d.fld F.TWN_CFG.LOCK_WAIT_MS * 1000 ≤ d.now.since d.twin.heldAt) = true := by
    simp [hheld, hat, hwait]
  unfold Dev.lockWait
  rw [if_pos hc]
  rfl

theorem Dev.lockWait_early {d : Dev} (h : d.twin.held = false ∨ d.twin.startAt ≠ none
    ∨ d.now.since d.twin.heldAt < d.fld F.TWN_CFG.LOCK_WAIT_MS * 1000) : d.lockWait = d := by
  unfold Dev.lockWait
  refine if_neg ?_
  simp only [Bool.and_eq_true, decide_eq_true_eq, Option.isNone_iff_eq_none, not_and, not_le]
  intro ⟨hheld, hat⟩
  rcases h with h | h | h
  · exact absurd (hheld.symm.trans h) (by decide)
  · exact absurd hat h
  · exact h

/-- A stamp is reached at itself. -/
theorem reached_self (t : Stamp) : t.reached t = true := by
  simp [Stamp.reached, Stamp.since]

theorem Dev.endWait_twinLets (d : Dev) : d.endWait.twinLets = true := by
  have hreach : d.now.reached d.now = true := reached_self d.now
  unfold Dev.endWait
  dsimp only
  split_ifs <;> simp [Dev.twinLets, Dev.modTwin, hreach]

theorem Dev.endWait_keeps (d : Dev) : d.endWait.boot = d.boot ∧ d.endWait.power = d.power := by
  unfold Dev.endWait
  dsimp only
  split_ifs <;> exact ⟨rfl, rfl⟩

theorem Dev.endWait_regs (d : Dev) : sameRegsBut [F.TWN_STAT.STATE.place] d d.endWait := by
  have hb : sameRegsBut [F.TWN_STAT.STATE.place] d (d.modTwin (fun w => { w with startAt := some d.now, trims := 0 })) := sameRegsBut_of_regs rfl rfl
  have hset (role state : Nat) := (hb.setFld F.TWN_STAT.ROLE role (by decide)).setFld F.TWN_STAT.STATE state (by simp)
  exact (hset 0 4).ite (hset 1 5)

/-- Settles O43: routing, the offer of the snapshot and the reactions of the twin leave the started engines and a waiting HOLD as they are. -/
theorem engineStart : Obligations.EngineStart := by
  unfold Obligations.EngineStart
  intro s t a h hhold
  have hstart : Does (exec (.engineStart t) s) (State.enginesStart { s with dev := a }) := does_run (f := fun s => s.enginesStart) h rfl
  have hexpiry : Does (exec (.lockWaitExpiry t) s) (State.enginesStart { s with dev := a.lockWait }) :=
    does_run (f := fun s => (s.map Dev.lockWait).enginesStart) h rfl
  refine ⟨fun hdue => ?_, fun hdue htwin => ?_, ?_, ?_, fun hearly => ?_⟩
  · rw [State.enginesStart_idle hdue hhold] at hstart
    exact ⟨hstart, sameRegsBut.refl _ _⟩
  · have hheld := State.engineStart_held (s := { s with dev := a }) hdue htwin
    obtain ⟨hq, hn, hboot, hpower, hstate⟩ := State.flushStart_dev { s with dev := a }
    rw [State.enginesStart_plain (by rwa [hheld, hboot, hpower]), hheld] at hstart
    exact ⟨_, hstart, rfl, hq, hn, by rw [hboot], hstate⟩
  · rintro worst d v hdue htwin rfl rfl hfollows
    have hv : State.engineStart { s with dev := a } = v := (State.engineStart_due hdue htwin).trans hfollows.symm
    have hengines := State.engineStart_engines (s := { s with dev := a }) hdue htwin
    rw [hv] at hengines
    obtain ⟨hstarted, hkept⟩ := hengines
    refine ⟨fun hno => ?_, fun hyes => ?_, fun hworst hnot => ?_⟩
    · rw [State.enginesStart_plain (by rw [hv]; exact .inr (hkept.trans hno)), hv] at hstart
      exact hstart
    · rw [State.enginesStart_hold (by rw [hv]; exact hstarted) (by rw [hv]; exact hkept.trans hyes), hv] at hstart
      exact hstart
    · have hclass : a.startClass < 8 := by
        unfold Dev.startClass
        dsimp only
        split_ifs <;> omega
      have hstate := State.engineStart_devState (s := { s with dev := a }) hdue hnot hclass
      rw [hv] at hstate
      obtain ⟨hdev, hover⟩ := hstate
      obtain ⟨hempty, -⟩ := State.flushStart_dev ((State.snapOffer (State.map Dev.leaveStartup { s with dev := a })).map Dev.twinStarted)
      rw [← State.engineStart_due hdue htwin, hv] at hempty
      exact ⟨hdev, hstarted, hover, hempty⟩
  · rintro hheld hat hwait b d rfl rfl
    rw [Dev.lockWait_due hheld hat hwait] at hexpiry
    obtain ⟨hboot, hpower⟩ := a.endWait_keeps
    refine ⟨a.endWait_twinLets, hexpiry, fun hdue => ⟨?_, a.endWait_regs⟩⟩
    rw [State.enginesStart_idle (by rw [hboot]; exact hdue) (by rwa [hboot, hpower])] at hexpiry
    exact hexpiry
  · rw [Dev.lockWait_early hearly] at hexpiry
    refine ⟨hexpiry, fun hdue => ⟨?_, sameRegsBut.refl _ _⟩⟩
    rwa [State.enginesStart_idle hdue hhold] at hexpiry

end Sys2Proof.Machine
end

section
/-! ### Frames field by field -/

namespace Sys2Proof.Machine

/-- Two fields share no bit: they lie in different registers or in different bits of one. -/
theorem Fld.apart_iff (f g : Fld) :
    f.apart g = true ↔ f.blk ≠ g.blk ∨ f.off ≠ g.off ∨ f.lo + f.w ≤ g.lo ∨ g.lo + g.w ≤ f.lo := by
  simp [Fld.apart, Fld.place]
  tauto

theorem Fld.apart_of_bits {f g : Fld} (h : f.lo + f.w ≤ g.lo ∨ g.lo + g.w ≤ f.lo) : f.apart g = true := (Fld.apart_iff f g).2 (.inr (.inr h))

theorem Fld.apart_of_off {f g : Fld} (h : f.off ≠ g.off) : f.apart g = true := (Fld.apart_iff f g).2 (.inr (.inl h))

theorem Fld.apart_of_blk {f g : Fld} (h : f.blk ≠ g.blk) : f.apart g = true := (Fld.apart_iff f g).2 (.inl h)

/-- The bits of a field lie in a register. -/
theorem Fld.fits {f : Fld} (h : (f.lo + f.w).ble 32 = true := by rfl) : f.lo + f.w ≤ 32 := Nat.le_of_ble_eq_true h

theorem Dev.fld_lt (d : Dev) (f : Fld) : d.fld f < 2 ^ f.w := BitVec.isLt _

/-- What a change that is none of KVT's leaves of a port's session: the time of the last valid frame, and an empty list of held frames. -/
def KvtSt.Kept (k k' : KvtSt) : Prop := k'.lastValid = k.lastValid ∧ (k.held = [] → k'.held = [])

/-- From one device to the next only the fields of `W` are written. Sample time stands, records are added at most, safety functions stay as
they are, a system that is stuck stays so, and KVT sessions keep what `KvtSt.Kept` says. -/
structure Touches (W : Set Fld) (a d : Dev) : Prop where
  fld : ∀ g, (∀ f ∈ W, f.apart g = true) → d.fld g = a.fld g
  now : d.now = a.now
  evq : a.evq <+: d.evq
  fbs : d.fbs = a.fbs
  stuck : ∀ src x, a.has .headSysStuck src x = true → d.has .headSysStuck src x = true
  kv : ∀ p, (a.kv p).Kept (d.kv p)

namespace Touches

variable {W : Set Fld} {a b d : Dev}

theorem refl (W : Set Fld) (a : Dev) : Touches W a a :=
  ⟨fun _ _ => rfl, rfl, List.prefix_rfl, rfl, fun _ _ h => h, fun _ => ⟨rfl, id⟩⟩

theorem trans (h : Touches W a b) (h' : Touches W b d) : Touches W a d where
  fld g hg := (h'.fld g hg).trans (h.fld g hg)
  now := h'.now.trans h.now
  evq := h.evq.trans h'.evq
  fbs := h'.fbs.trans h.fbs
  stuck src x hx := h'.stuck src x (h.stuck src x hx)
  kv p := ⟨(h'.kv p).1.trans (h.kv p).1, fun hp => (h'.kv p).2 ((h.kv p).2 hp)⟩

theorem mono {W' : Set Fld} (h : Touches W a d) (hW : W ⊆ W') : Touches W' a d :=
  { h with fld := fun g hg => h.fld g (fun f hf => hg f (hW hf)) }

/-- A record of the old device is one of the new one. -/
theorem mem_evq (h : Touches W a d) {r : EvRec} (hr : r ∈ a.evq) : r ∈ d.evq := h.evq.subset hr

theorem on (h : Touches W a d) {g : Fld} (hg : ∀ f ∈ W, f.apart g = true) : d.on g = a.on g := by
  simp only [Dev.on, h.fld g hg]

section
variable (h : Touches W a d)
include h

/-- A change beside registers, sample time, records, causes, safety functions and KVT sessions. -/
theorem upd {d' : Dev} (hr : d'.regs = d.regs) (hp : d'.part = d.part) (hn : d'.now = d.now) (he : d'.evq = d.evq) (hf : d'.fbs = d.fbs)
    (hc : d'.causes = d.causes) (hk : d'.kvt = d.kvt) : Touches W a d' :=
  h.trans ⟨fun g _ => Dev.fld_congr (by simp only [Dev.reg, hr, hp]), hn, by rw [he], hf, fun _ _ => by simp only [Dev.has, hc, imp_self],
    fun p => by simp [KvtSt.Kept, Dev.kv, hk]⟩

theorem setFld (f : Fld) (v : Nat) (hm : f ∈ W) (hf : f.lo + f.w ≤ 32) : Touches W a (d.setFld f v) :=
  h.trans ⟨fun g hg => Dev.fld_setFld_apart d f g v hf (hg f hm), rfl, List.prefix_rfl, rfl, fun _ _ h => h, fun _ => ⟨rfl, id⟩⟩

theorem setBit (f : Fld) (v : Bool) (hm : f ∈ W) (hf : f.lo + f.w ≤ 32) : Touches W a (d.setBit f v) := h.setFld f _ hm hf

theorem setBitOf (f : Fld) (i : Nat) (v : Bool) (hm : f ∈ W) (hf : f.lo + f.w ≤ 32) : Touches W a (d.setBitOf f i v) := h.setFld f _ hm hf

theorem inc (f : Fld) (n : Nat) (hm : f ∈ W) (hf : f.lo + f.w ≤ 32) : Touches W a (d.inc f n) := h.setFld f _ hm hf

theorem incPair (lo hi : Fld) (n : Nat) (hlo : lo ∈ W) (hhi : hi ∈ W) (hl : lo.lo + lo.w ≤ 32) (hh : hi.lo + hi.w ≤ 32) :
    Touches W a (d.incPair lo hi n) := (h.setFld lo _ hlo hl).setFld hi _ hhi hh

/-- A whole register of which every field is one of `W`. -/
theorem setReg (b : Blk) (off : Nat) (v : Word) (hm : ∀ lo w, ⟨b, off, lo, w⟩ ∈ W) : Touches W a (d.setReg b off v) := by
  refine h.trans ⟨fun g hg => ?_, rfl, List.prefix_rfl, rfl, fun _ _ h => h, fun _ => ⟨rfl, id⟩⟩
  by_cases hp : (g.blk, g.off) = (b, off)
  · obtain ⟨rfl, rfl⟩ : g.blk = b ∧ g.off = off := by simpa using hp
    have hw : g.w = 0 := by simpa [Fld.apart_iff] using hg g (hm g.lo g.w)
    have hz : ∀ x : Dev, x.fld g = 0 := fun x => by simpa [hw] using x.fld_lt g
    rw [hz, hz]
  · exact Dev.fld_congr (Dev.reg_setReg_ne d v hp)

theorem keep (c : Cause) : Touches W a (d.keep c) :=
  h.trans ⟨fun _ _ => rfl, rfl, List.prefix_rfl, rfl, fun src x hx => by simp_all [Dev.has, Dev.keep], fun _ => ⟨rfl, id⟩⟩

theorem forL {α : Type} {f : α → Dev → Dev} (hf : ∀ x d, Touches W a d → Touches W a (f x d)) (l : List α) : Touches W a (forL l f d) :=
  List.foldlRecOn l _ h (fun d hd x _ => hf x d hd)

theorem forN {f : Nat → Dev → Dev} (hf : ∀ x d, Touches W a d → Touches W a (f x d)) (n : Nat) : Touches W a (forN n f d) :=
  h.forL hf (List.range n)

end

theorem ite {p : Prop} [Decidable p] {d d' : Dev} (h : Touches W a d) (h' : Touches W a d') : Touches W a (if p then d else d') := by
  split
  · exact h
  · exact h'

end Touches

/-! ### Records -/

/-- The counters of a record of a class (R513). -/
def recFlds (cls : Nat) : Set Fld := {F.FLT_CLASS_CNT.COUNT cls, F.EVT_CNT_LO.V, F.EVT_CNT_HI.V}

@[simp] theorem Dev.raiseAt_evq (d : Dev) (st : Stamp) (ev : Ev) (src : Src) (cls : Nat) (pay : List Byte) :
    (d.raiseAt st ev src cls pay).evq = d.evq ++ [⟨ev, src, st, padTo 20 0 pay⟩] := by
  unfold Dev.raiseAt
  split <;> rfl

@[simp] theorem Dev.note_evq (d : Dev) (ev : Ev) (src : Src) (related : Nat) (detail : List Byte) :
    (d.note ev src related detail).evq = d.evq ++ [⟨ev, src, d.now, padTo 20 0 (payF d 0 related detail)⟩] := Dev.raiseAt_evq ..

theorem Dev.raiseAt_regs (d : Dev) (st : Stamp) (ev : Ev) (src : Src) (cls : Nat) (pay : List Byte) :
    (d.raiseAt st ev src cls pay).regs = ((d.inc (F.FLT_CLASS_CNT.COUNT cls)).incPair F.EVT_CNT_LO.V F.EVT_CNT_HI.V).regs := by
  unfold Dev.raiseAt
  dsimp only
  split
  · rfl
  · exact Dev.pend_regs _ _ _

theorem Dev.raiseAt_fld (d : Dev) (st : Stamp) (ev : Ev) (src : Src) (cls : Nat) (pay : List Byte) (g : Fld) :
    (d.raiseAt st ev src cls pay).fld g = ((d.inc (F.FLT_CLASS_CNT.COUNT cls)).incPair F.EVT_CNT_LO.V F.EVT_CNT_HI.V).fld g :=
  Dev.fld_congr (by simp only [Dev.reg, Dev.raiseAt_regs, Dev.raiseAt_part, Dev.incPair_part, Dev.inc_part])

/-- A record is raised: its counters alone are written. -/
theorem Touches.raiseAt {W : Set Fld} {a d : Dev} (h : Touches W a d) (st : Stamp) (ev : Ev) (src : Src) (cls : Nat) (pay : List Byte)
    (hW : recFlds cls ⊆ W) : Touches W a (d.raiseAt st ev src cls pay) := by
  have hcount : Touches W a ((d.inc (F.FLT_CLASS_CNT.COUNT cls)).incPair F.EVT_CNT_LO.V F.EVT_CNT_HI.V) :=
    (h.inc _ 1 (hW (by simp [recFlds])) (by decide : 0 + 16 ≤ 32)).incPair _ _ 1 (hW (by simp [recFlds])) (hW (by simp [recFlds]))
      (by decide) (by decide)
  refine ⟨fun g hg => ?_, (Dev.raiseAt_now ..).trans h.now, ?_, (Dev.raiseAt_fbs ..).trans h.fbs, fun src x hx => ?_, fun p => ?_⟩
  · rw [Dev.raiseAt_fld, hcount.fld g hg]
  · rw [Dev.raiseAt_evq]
    exact h.evq.trans (List.prefix_append _ _)
  · simpa [Dev.has] using h.stuck src x hx
  · simpa [Dev.kv] using h.kv p

section
variable {W : Set Fld} {a d : Dev} (h : Touches W a d)
include h

theorem Touches.raise (ev : Ev) (src : Src) (pay : List Byte) (hW : recFlds (evClass ev) ⊆ W) : Touches W a (d.raise ev src pay) :=
  h.raiseAt _ _ _ _ _ hW

theorem Touches.note (ev : Ev) (src : Src) (related : Nat) (detail : List Byte) (hW : recFlds (evClass ev) ⊆ W) :
    Touches W a (d.note ev src related detail) := h.raise _ _ _ hW

theorem Touches.strike (ev : Ev) (src : Src) (related : Nat) (detail : List Byte) (hW : recFlds (evClass ev) ⊆ W) :
    Touches W a (d.strike ev src related detail) := h.raise _ _ _ hW

end

/-- A record of a class is counted in its class counter. -/
theorem Dev.raiseAt_count (d : Dev) (st : Stamp) (ev : Ev) (src : Src) (cls : Nat) (pay : List Byte) :
    (d.raiseAt st ev src cls pay).fld (F.FLT_CLASS_CNT.COUNT cls) = min (d.fld (F.FLT_CLASS_CNT.COUNT cls) + 1) (2 ^ 16 - 1) := by
  have hpair : ∀ e : Dev, (e.incPair F.EVT_CNT_LO.V F.EVT_CNT_HI.V).fld (F.FLT_CLASS_CNT.COUNT cls) = e.fld (F.FLT_CLASS_CNT.COUNT cls) := by
    intro e
    refine ((Touches.refl {F.EVT_CNT_LO.V, F.EVT_CNT_HI.V} e).incPair _ _ 1 (by simp) (by simp) (by decide) (by decide)).fld _ ?_
    simp [Fld.apart_iff, F.EVT_CNT_LO.V, F.EVT_CNT_HI.V, F.FLT_CLASS_CNT.COUNT]
  have hinc : (d.inc (F.FLT_CLASS_CNT.COUNT cls)).fld (F.FLT_CLASS_CNT.COUNT cls)
      = min (d.fld (F.FLT_CLASS_CNT.COUNT cls) + 1) (2 ^ 16 - 1) := by
    refine (Dev.fld_setFld_same _ _ _ (by decide : 0 + 16 ≤ 32)).trans (Nat.mod_eq_of_lt ?_)
    show min _ (2 ^ 16 - 1) < 2 ^ 16
    omega
  rw [Dev.raiseAt_fld, hpair, hinc]

end Sys2Proof.Machine
end

section
/-! ### Faults and their reactions (R22, R25, R32) -/

namespace Sys2Proof.Machine

/-! ### The device safe state -/

/-- What the device safe state writes: the device state, and the first cause with its time (R25). -/
def safeFlds : Set Fld :=
  {F.FLT_STATE.DEV_STATE, F.FLT_FIRST_CAUSE.CODE, F.FLT_FIRST_CAUSE.SOURCE, F.FLT_FIRST_TIME_LO.TIME_LO, F.FLT_FIRST_TIME_HI.TIME_HI}

/-- The first cause since the last reset that leaves F4 or F5 is recorded; a later one is not (R25). -/
def Dev.firstCause (d : Dev) (cls : Nat) (ev : Ev) (src : Src) : Dev :=
  if d.fld F.FLT_FIRST_CAUSE.CODE = 0 then
    ((((d.setFld F.FLT_FIRST_CAUSE.CODE (evCode ev)).setFld F.FLT_FIRST_CAUSE.SOURCE src.enc).setFld F.FLT_FIRST_TIME_LO.TIME_LO
      (d.now.toNat % 2 ^ 32)).setFld F.FLT_FIRST_TIME_HI.TIME_HI (d.now.toNat / 2 ^ 32)).logOutage (if cls = 5 then 9 else 8)
  else d

/-- The class is remembered until a reset leaves it. -/
def Dev.setWorst (d : Dev) (cls : Nat) : Dev := { d with boot := { d.boot with worst := max d.boot.worst cls } }

theorem Dev.safeState_eq (d : Dev) (cls : Nat) (ev : Ev) (src : Src) : d.safeState cls ev src =
    let e := (d.firstCause cls ev src).setWorst cls
    if e.fld F.FLT_STATE.DEV_STATE = 0 then e else e.setFld F.FLT_STATE.DEV_STATE (max (e.fld F.FLT_STATE.DEV_STATE) cls) := rfl

theorem Dev.setWorst_fld (d : Dev) (cls : Nat) (g : Fld) : (d.setWorst cls).fld g = d.fld g := Dev.fld_congr rfl

theorem Dev.logOutage_fld (d : Dev) (kind mask : Nat) (g : Fld) : (d.logOutage kind mask).fld g = d.fld g := Dev.fld_congr rfl

theorem evCode_lt (ev : Ev) : evCode ev < 2 ^ 16 := by cases ev <;> decide

theorem evClass_le (ev : Ev) : evClass ev ≤ 5 := by cases ev <;> decide

section
variable (d : Dev) (cls : Nat) (ev : Ev) (src : Src)

theorem Dev.firstCause_code : (d.firstCause cls ev src).fld F.FLT_FIRST_CAUSE.CODE
    = if d.fld F.FLT_FIRST_CAUSE.CODE = 0 then evCode ev else d.fld F.FLT_FIRST_CAUSE.CODE := by
  unfold Dev.firstCause
  split
  · simp (disch := decide) only [Dev.logOutage_fld, Dev.fld_setFld_apart, Dev.fld_setFld_same]
    exact Nat.mod_eq_of_lt (evCode_lt ev)
  · rfl

theorem Dev.firstCause_devState : (d.firstCause cls ev src).fld F.FLT_STATE.DEV_STATE = d.fld F.FLT_STATE.DEV_STATE := by
  unfold Dev.firstCause
  split
  · simp (disch := decide) only [Dev.logOutage_fld, Dev.fld_setFld_apart]
  · rfl

/-- The first cause's time is sample time. -/
theorem Dev.firstCause_time (h : d.fld F.FLT_FIRST_CAUSE.CODE = 0) : (d.firstCause cls ev src).fld F.FLT_FIRST_TIME_LO.TIME_LO
    + 2 ^ 32 * (d.firstCause cls ev src).fld F.FLT_FIRST_TIME_HI.TIME_HI = d.now.toNat := by
  have hnow : d.now.toNat < 2 ^ 48 := d.now.isLt
  unfold Dev.firstCause
  rw [if_pos h]
  simp (disch := decide) only [Dev.logOutage_fld, Dev.fld_setFld_apart, Dev.fld_setFld_same]
  simp only [F.FLT_FIRST_TIME_LO.TIME_LO, F.FLT_FIRST_TIME_HI.TIME_HI]
  omega

/-- The device state moves up to the class, but during STARTUP (R21, R25). -/
theorem Dev.safeState_devState (hc : cls < 8) : (d.safeState cls ev src).fld F.FLT_STATE.DEV_STATE
    = if d.fld F.FLT_STATE.DEV_STATE = 0 then 0 else max (d.fld F.FLT_STATE.DEV_STATE) cls := by
  have hlt : d.fld F.FLT_STATE.DEV_STATE < 8 := d.fld_lt _
  rw [Dev.safeState_eq]
  dsimp only
  rw [Dev.setWorst_fld, Dev.firstCause_devState]
  split
  next h => rw [Dev.setWorst_fld, Dev.firstCause_devState, h]
  next h =>
    rw [Dev.fld_setFld_same _ _ _ (by decide)]
    exact Nat.mod_eq_of_lt (max_lt hlt hc)

/-- Beside the device state itself, the device safe state writes the first cause alone. -/
theorem Dev.safeState_fld {g : Fld} (hg : F.FLT_STATE.DEV_STATE.apart g = true) :
    (d.safeState cls ev src).fld g = (d.firstCause cls ev src).fld g := by
  rw [Dev.safeState_eq]
  dsimp only
  split
  · rfl
  · rw [Dev.fld_setFld_apart _ _ _ _ (by decide) hg, Dev.setWorst_fld]

end

theorem Touches.logOutage {W : Set Fld} {a d : Dev} (h : Touches W a d) (kind mask : Nat) : Touches W a (d.logOutage kind mask) :=
  h.upd rfl rfl rfl rfl rfl rfl rfl

theorem Touches.setWorst {W : Set Fld} {a d : Dev} (h : Touches W a d) (cls : Nat) : Touches W a (d.setWorst cls) :=
  h.upd rfl rfl rfl rfl rfl rfl rfl

theorem Touches.firstCause {W : Set Fld} {a d : Dev} (h : Touches W a d) (cls : Nat) (ev : Ev) (src : Src) (hW : safeFlds ⊆ W) :
    Touches W a (d.firstCause cls ev src) := by
  have hcode := (h.setFld F.FLT_FIRST_CAUSE.CODE (evCode ev) (hW (.inr (.inl rfl))) Fld.fits).setFld F.FLT_FIRST_CAUSE.SOURCE src.enc
    (hW (.inr (.inr (.inl rfl)))) Fld.fits
  have htime := (hcode.setFld F.FLT_FIRST_TIME_LO.TIME_LO (d.now.toNat % 2 ^ 32) (hW (.inr (.inr (.inr (.inl rfl))))) Fld.fits).setFld
    F.FLT_FIRST_TIME_HI.TIME_HI (d.now.toNat / 2 ^ 32) (hW (.inr (.inr (.inr (.inr rfl))))) Fld.fits
  exact Touches.ite (htime.logOutage _ _) h

theorem Touches.safeState {W : Set Fld} {a d : Dev} (h : Touches W a d) (cls : Nat) (ev : Ev) (src : Src) (hW : safeFlds ⊆ W) :
    Touches W a (d.safeState cls ev src) := by
  have hworst : Touches W a ((d.firstCause cls ev src).setWorst cls) := (h.firstCause cls ev src hW).setWorst cls
  rw [Dev.safeState_eq]
  exact hworst.ite (hworst.setFld F.FLT_STATE.DEV_STATE _ (hW (.inl rfl)) Fld.fits)

/-! ### Raising a fault -/

/-- The reaction to a fault whose cause is kept, before its record is raised: groups under F3, the device safe state under F4 and F5. -/
def Dev.react (d : Dev) (ev : Ev) (src : Src) (sub : Nat) : Dev :=
  let groups := if evClass ev = 3 then groupsFor d src else 0
  let e := d.keep ⟨ev, src, sub, evClass ev, groups⟩
  let e := if evClass ev = 3 then e.underGroups groups else e
  if evClass ev ≥ 4 then e.safeState (evClass ev) ev src else e

section
variable {d : Dev} {ev : Ev} {src : Src} {sub : Nat}

theorem Dev.fault_present (h : d.has ev src sub = true) (related : Nat) (detail : List Byte) (st : Stamp) :
    d.fault ev src sub related detail st = d := if_pos h

theorem Dev.fault_fresh (h : d.has ev src sub = false) (related : Nat) (detail : List Byte) (st : Stamp) :
    d.fault ev src sub related detail st
      = (d.react ev src sub).raiseAt st ev src (evClass ev) (payF (d.react ev src sub) (evClass ev) related detail) :=
  if_neg (by simp [h])

theorem Dev.react_of_lt (h : evClass ev < 3) : d.react ev src sub = d.keep ⟨ev, src, sub, evClass ev, 0⟩ := by
  simp [Dev.react, show evClass ev ≠ 3 by omega, show ¬ 4 ≤ evClass ev by omega]

theorem Dev.react_of_eq (h : evClass ev = 3) :
    d.react ev src sub = (d.keep ⟨ev, src, sub, 3, groupsFor d src⟩).underGroups (groupsFor d src) := by
  simp [Dev.react, h]

theorem Dev.react_of_ge (h : 4 ≤ evClass ev) :
    d.react ev src sub = (d.keep ⟨ev, src, sub, evClass ev, 0⟩).safeState (evClass ev) ev src := by
  simp [Dev.react, show evClass ev ≠ 3 by omega, h]

end

/-- What a reaction writes: the groups under F3, and what the device safe state writes. -/
def reactFlds : Set Fld := insert F.FLT_STATE.F3_GROUPS safeFlds

theorem Touches.underGroups {W : Set Fld} {a d : Dev} (h : Touches W a d) (g : Nat) (hW : F.FLT_STATE.F3_GROUPS ∈ W) :
    Touches W a (d.underGroups g) := h.setFld _ _ hW (by decide)

theorem Touches.react {W : Set Fld} {a d : Dev} (h : Touches W a d) (ev : Ev) (src : Src) (sub : Nat) (hW : reactFlds ⊆ W) :
    Touches W a (d.react ev src sub) := by
  have hkeep := h.keep ⟨ev, src, sub, evClass ev, if evClass ev = 3 then groupsFor d src else 0⟩
  have hunder := hkeep.underGroups (if evClass ev = 3 then groupsFor d src else 0) (hW (Set.mem_insert _ _))
  have hsafe : safeFlds ⊆ W := fun f hf => hW (Set.mem_insert_of_mem _ hf)
  exact ((hunder.ite hkeep).safeState _ ev src hsafe).ite (hunder.ite hkeep)

theorem Touches.fault {W : Set Fld} {a d : Dev} (h : Touches W a d) (ev : Ev) (src : Src) (sub related : Nat) (detail : List Byte) (st : Stamp)
    (hW : reactFlds ∪ recFlds (evClass ev) ⊆ W) : Touches W a (d.fault ev src sub related detail st) :=
  h.ite ((h.react ev src sub (fun _ hf => hW (.inl hf))).raiseAt _ _ _ _ _ (fun _ hf => hW (.inr hf)))

end Sys2Proof.Machine
end

section
/-! ### What a fault brings -/

namespace Sys2Proof.Machine

theorem length_padTo {α : Type} (n : Nat) (z : α) (l : List α) : (padTo n z l).length = n := by
  simp [padTo]
  omega

theorem headD_padTo {α : Type} (n : Nat) (z x y : α) (l : List α) (h : 0 < n) : (padTo n z (x :: l)).headD y = x := by
  obtain ⟨m, rfl⟩ := Nat.exists_eq_succ_of_ne_zero h.ne'
  simp [padTo]

/-- Byte 12 of a fault's record is the class applied (Table EVT-3). -/
theorem headD_padTo_payF (d : Dev) (cls related : Nat) (detail : List Byte) :
    (padTo 20 0 (payF d cls related detail)).headD 0 = BitVec.ofNat 8 cls := headD_padTo _ _ _ _ _ (by decide)

theorem Dev.has_keep (d : Dev) (ev : Ev) (src : Src) (sub cls groups : Nat) : (d.keep ⟨ev, src, sub, cls, groups⟩).has ev src sub = true := by
  simp [Dev.has, Dev.keep]

theorem Dev.has_congr {d e : Dev} (h : e.causes = d.causes) (ev : Ev) (src : Src) (sub : Nat) : e.has ev src sub = d.has ev src sub := by
  simp only [Dev.has, h]

/-- What is no register, outage entry or worst class the device safe state leaves alone. -/
theorem Dev.safeState_kept {α : Type} (g : Dev → α) (hfld : ∀ (x : Dev) (f : Fld) (v : Nat), g (x.setFld f v) = g x)
    (hlog : ∀ (x : Dev) (kind mask : Nat), g (x.logOutage kind mask) = g x) (hworst : ∀ (x : Dev) (cls : Nat), g (x.setWorst cls) = g x)
    (d : Dev) (cls : Nat) (ev : Ev) (src : Src) : g (d.safeState cls ev src) = g d := by
  have hfirst : g (d.firstCause cls ev src) = g d := by
    unfold Dev.firstCause
    split
    · simp only [hlog, hfld]
    · rfl
  have hset : g ((d.firstCause cls ev src).setWorst cls) = g d := (hworst _ _).trans hfirst
  rw [Dev.safeState_eq]
  dsimp only
  split
  · exact hset
  · exact (hfld _ _ _).trans hset

theorem Dev.safeState_causes (d : Dev) (cls : Nat) (ev : Ev) (src : Src) : (d.safeState cls ev src).causes = d.causes :=
  Dev.safeState_kept Dev.causes (fun _ _ _ => rfl) (fun _ _ _ => rfl) (fun _ _ => rfl) ..

theorem Dev.safeState_evq (d : Dev) (cls : Nat) (ev : Ev) (src : Src) : (d.safeState cls ev src).evq = d.evq :=
  Dev.safeState_kept Dev.evq (fun _ _ _ => rfl) (fun _ _ _ => rfl) (fun _ _ => rfl) ..

/-- Which of the three reactions a fault's class calls for. -/
theorem Dev.react_cases {P : Dev → Prop} (d : Dev) (ev : Ev) (src : Src) (sub : Nat)
    (hlt : evClass ev < 3 → P (d.keep ⟨ev, src, sub, evClass ev, 0⟩))
    (heq : evClass ev = 3 → P ((d.keep ⟨ev, src, sub, 3, groupsFor d src⟩).underGroups (groupsFor d src)))
    (hge : 4 ≤ evClass ev → P ((d.keep ⟨ev, src, sub, evClass ev, 0⟩).safeState (evClass ev) ev src)) : P (d.react ev src sub) := by
  rcases Nat.lt_trichotomy (evClass ev) 3 with h | h | h
  · rw [Dev.react_of_lt h]; exact hlt h
  · rw [Dev.react_of_eq h]; exact heq h
  · rw [Dev.react_of_ge h]; exact hge h

section
variable (d : Dev) (ev : Ev) (src : Src) (sub : Nat)

theorem Dev.react_has : (d.react ev src sub).has ev src sub = true := by
  refine d.react_cases (P := fun e => e.has ev src sub = true) ev src sub (fun _ => d.has_keep ..) (fun _ => ?_) (fun _ => ?_)
  · exact d.has_keep ..
  · rw [Dev.has_congr (Dev.safeState_causes ..)]
    exact d.has_keep ..

theorem Dev.react_evq : (d.react ev src sub).evq = d.evq :=
  d.react_cases (P := fun e => e.evq = d.evq) ev src sub (fun _ => rfl) (fun _ => rfl) (fun _ => Dev.safeState_evq ..)

/-- The record of a fault is raised after its reaction: a field that the record does not count in reads as the reaction left it. -/
theorem Dev.fault_fld {d : Dev} {ev : Ev} {src : Src} {sub : Nat} (h : d.has ev src sub = false) (related : Nat) (detail : List Byte) (st : Stamp)
    {g : Fld} (hg : ∀ f ∈ recFlds (evClass ev), f.apart g = true) :
    (d.fault ev src sub related detail st).fld g = (d.react ev src sub).fld g := by
  rw [Dev.fault_fresh h]
  exact ((Touches.refl _ _).raiseAt _ _ _ _ _ subset_rfl).fld g hg

theorem Dev.keep_fld (c : Cause) (g : Fld) : (d.keep c).fld g = d.fld g := rfl

theorem Dev.underGroups_groups (g : Nat) (hg : g < 256) :
    (d.underGroups g).fld F.FLT_STATE.F3_GROUPS = d.fld F.FLT_STATE.F3_GROUPS ||| g := by
  refine (Dev.fld_setFld_same _ _ _ (by decide)).trans (Nat.mod_eq_of_lt ?_)
  exact Nat.or_lt_two_pow (d.fld_lt F.FLT_STATE.F3_GROUPS) hg

/-- The fields of the safe state and of the groups are no counters of records. -/
theorem recFlds_apart_flt {cls off lo w : Nat} (h : off < 0x34) : ∀ f ∈ recFlds cls, f.apart ⟨.flt, off, lo, w⟩ = true := by
  simp only [recFlds, Set.mem_insert_iff, Set.mem_singleton_iff, forall_eq_or_imp, forall_eq, Fld.apart_iff, F.FLT_CLASS_CNT.COUNT,
    F.EVT_CNT_LO.V, F.EVT_CNT_HI.V]
  refine ⟨.inr (.inl ?_), .inl (by decide), .inl (by decide)⟩
  omega

/-- A reaction below F4 leaves the device state and the first cause alone. -/
theorem Dev.react_low (h : evClass ev ≤ 3) {g : Fld} (hg : F.FLT_STATE.F3_GROUPS.apart g = true) : (d.react ev src sub).fld g = d.fld g :=
  d.react_cases (P := fun e => e.fld g = d.fld g) ev src sub (fun _ => rfl) (fun _ => Dev.fld_setFld_apart _ _ _ _ (by decide) hg)
    (fun _ => by omega)

theorem Dev.react_groups (h : evClass ev = 3) (hg : groupsFor d src < 256) :
    (d.react ev src sub).fld F.FLT_STATE.F3_GROUPS = d.fld F.FLT_STATE.F3_GROUPS ||| groupsFor d src := by
  rw [Dev.react_of_eq h, Dev.underGroups_groups _ _ hg, Dev.keep_fld]

/-- A fault that was not present counts in the counter of its class. -/
theorem Dev.fault_count {d : Dev} {ev : Ev} {src : Src} {sub : Nat} (h : d.has ev src sub = false) (related : Nat) (detail : List Byte)
    (st : Stamp) : (d.fault ev src sub related detail st).fld (F.FLT_CLASS_CNT.COUNT (evClass ev))
      = min (d.fld (F.FLT_CLASS_CNT.COUNT (evClass ev)) + 1) (2 ^ 16 - 1) := by
  rw [Dev.fault_fresh h, Dev.raiseAt_count]
  congr 2
  refine ((Touches.refl _ d).react ev src sub subset_rfl).fld _ ?_
  simp [reactFlds, safeFlds, Fld.apart_iff, F.FLT_CLASS_CNT.COUNT, F.FLT_STATE.F3_GROUPS, F.FLT_STATE.DEV_STATE, F.FLT_FIRST_CAUSE.CODE,
    F.FLT_FIRST_CAUSE.SOURCE, F.FLT_FIRST_TIME_LO.TIME_LO, F.FLT_FIRST_TIME_HI.TIME_HI]
  omega

end

/-! ### The pins in the device safe state -/

theorem Dev.safeLine_of_devState {d : Dev} (h : 4 ≤ d.fld F.FLT_STATE.DEV_STATE) : d.safeLine = true := by
  simp [Dev.safeLine, show d.fld F.FLT_STATE.DEV_STATE ≠ 1 by omega]

theorem Dev.soCmd_of_safeLine {d : Dev} (h : d.safeLine = true) (o : Nat) : d.soCmd o = false := by
  simp [Dev.soCmd, h]

/-- A bit that is set reads as it was set, whatever is set beside it then. -/
theorem Dev.on_setBit_same (d : Dev) (f : Fld) (b : Bool) (h : f.lo + f.w ≤ 32) (hw : f.w = 1) : (d.setBit f b).on f = b := by
  simp only [Dev.on, Dev.setBit, Dev.fld_setFld_same _ _ _ h, hw]
  cases b <;> rfl

theorem Dev.on_setBit_apart (d : Dev) (f g : Fld) (b : Bool) (h : f.lo + f.w ≤ 32) (hfg : f.apart g = true) : (d.setBit f b).on g = d.on g := by
  simp only [Dev.on, Dev.setBit, Dev.fld_setFld_apart _ _ _ _ h hfg]

/-- Under the safe-state line both gates of a generator show low (R25, R306). -/
theorem Dev.pgShow_of_safeLine {d : Dev} (h : d.safeLine = true) (k : Nat) :
    (d.pgShow k).on (F.PGN_STAT.ON_GATE k) = false ∧ (d.pgShow k).on (F.PGN_STAT.COMP_GATE k) = false := by
  unfold Dev.pgShow
  simp only [h, Bool.not_true, Bool.and_false, Bool.false_and]
  constructor
  · rw [Dev.on_setBit_apart _ _ _ _ (by decide : 5 + 1 ≤ 32) (Fld.apart_of_bits (.inr (by decide : 2 + 1 ≤ 5))),
      Dev.on_setBit_apart _ _ _ _ (by decide : 4 + 1 ≤ 32) (Fld.apart_of_bits (.inr (by decide : 2 + 1 ≤ 4))),
      Dev.on_setBit_apart _ _ _ _ (by decide : 3 + 1 ≤ 32) (Fld.apart_of_bits (.inr (by decide : 2 + 1 ≤ 3))),
      Dev.on_setBit_same _ _ _ (by decide : 2 + 1 ≤ 32) rfl]
  · rw [Dev.on_setBit_apart _ _ _ _ (by decide : 5 + 1 ≤ 32) (Fld.apart_of_bits (.inr (by decide : 3 + 1 ≤ 5))),
      Dev.on_setBit_apart _ _ _ _ (by decide : 4 + 1 ≤ 32) (Fld.apart_of_bits (.inr (by decide : 3 + 1 ≤ 4))),
      Dev.on_setBit_same _ _ _ (by decide : 3 + 1 ≤ 32) rfl]

end Sys2Proof.Machine
end

section
/-! ### Endgame slots (R34, R38) -/

namespace Sys2Proof.Machine

theorem mem_tabIns {α : Type} (t : Tab α) (n : Nat) (x : α) : (n, x) ∈ tabIns t n x := by
  induction t with
  | nil => simp [tabIns]
  | cons e r ih =>
    simp only [tabIns]
    split_ifs <;> simp [ih]

/-- The second words of the slots, and whatever else of block FLT stands eight bytes apart from them. -/
def slotBFlds : Set Fld := {f | f.blk = .flt ∧ f.off % 8 = 4}

/-- The first word of slot `k`. -/
def slotAFlds (k : Nat) : Set Fld := {f | f.blk = .flt ∧ f.off = 0x80 + 8 * k}

theorem Touches.egCount {W : Set Fld} {a d : Dev} (h : Touches W a d) (hW : F.FLT_STATE.EG_ACTIVE ∈ W) : Touches W a d.egCount :=
  h.setFld _ _ hW (by decide)

theorem Touches.egRefresh {W : Set Fld} {a d : Dev} (h : Touches W a d) (hW : slotBFlds ⊆ W) : Touches W a d.egRefresh :=
  h.forL (fun e _ hd => hd.setFld (F.FLT_EG_SLOT_B.REMAIN_S e.1) _ (hW ⟨rfl, show (0x84 + 8 * e.1) % 8 = 4 by omega⟩) (by decide : 0 + 17 ≤ 32)) _

/-! ### An Endgame starts -/

/-- A slot's first word is taken by a cause on an object. -/
def Dev.slotTaken (d : Dev) (k cause obj sys : Nat) : Dev :=
  ((((d.setFld (F.FLT_EG_SLOT_A.CAUSE k) cause).setFld (F.FLT_EG_SLOT_A.CAUSE_GONE k) 0).setFld (F.FLT_EG_SLOT_A.SYSTEM k) sys).setFld
    (F.FLT_EG_SLOT_A.OBJECT k) obj).setFld (F.FLT_EG_SLOT_A.AXLES_USED k) 0

/-- A slot expires at a stamp, and GLOW's copy of the slots is due. -/
def Dev.slotDue (d : Dev) (k : Nat) (due : Stamp) : Dev := { d with egExpiry := tabIns d.egExpiry k due, egDirty := true }

theorem Touches.slotDue {W : Set Fld} {a d : Dev} (h : Touches W a d) (k : Nat) (due : Stamp) : Touches W a (d.slotDue k due) :=
  h.upd rfl rfl rfl rfl rfl rfl rfl

theorem Dev.egEnter_eq (d : Dev) (k cause obj sys : Nat) (st : Stamp) : d.egEnter k cause obj sys st =
    let e := d.slotTaken k cause obj sys
    (e.slotDue k (st.plus (e.fld (F.FLT_EG_TIME.LIMIT_S (cause - 1)) * 1000000))).egCount.egRefresh.note .endgameEnter (.slot k)
      (egObject cause obj).enc [BitVec.ofNat 8 cause] := rfl

section
variable (d : Dev) (k cause obj sys : Nat)

theorem Touches.slotTaken : Touches (slotAFlds k) d (d.slotTaken k cause obj sys) := by
  have hm : ∀ lo w, (⟨.flt, 0x80 + 8 * k, lo, w⟩ : Fld) ∈ slotAFlds k := fun _ _ => ⟨rfl, rfl⟩
  exact (((((Touches.refl _ d).setFld (F.FLT_EG_SLOT_A.CAUSE k) _ (hm _ _) Fld.fits).setFld (F.FLT_EG_SLOT_A.CAUSE_GONE k) _ (hm _ _)
    Fld.fits).setFld (F.FLT_EG_SLOT_A.SYSTEM k) _ (hm _ _) Fld.fits).setFld (F.FLT_EG_SLOT_A.OBJECT k) _ (hm _ _) Fld.fits).setFld
    (F.FLT_EG_SLOT_A.AXLES_USED k) _ (hm _ _) Fld.fits

/-- What a taken slot reads as. -/
theorem Dev.slotTaken_fields (hc : cause ≤ 3) (ho : obj < 256) : (d.slotTaken k cause obj sys).fld (F.FLT_EG_SLOT_A.CAUSE k) = cause
    ∧ (d.slotTaken k cause obj sys).fld (F.FLT_EG_SLOT_A.OBJECT k) = obj
    ∧ (d.slotTaken k cause obj sys).fld (F.FLT_EG_SLOT_A.AXLES_USED k) = 0 := by
  unfold Dev.slotTaken
  refine ⟨?_, ?_, ?_⟩
  · rw [Dev.fld_setFld_apart _ _ _ _ (by decide : 16 + 16 ≤ 32) (Fld.apart_of_bits (.inr (by decide : 0 + 2 ≤ 16))),
      Dev.fld_setFld_apart _ _ _ _ (by decide : 8 + 8 ≤ 32) (Fld.apart_of_bits (.inr (by decide : 0 + 2 ≤ 8))),
      Dev.fld_setFld_apart _ _ _ _ (by decide : 3 + 1 ≤ 32) (Fld.apart_of_bits (.inr (by decide : 0 + 2 ≤ 3))),
      Dev.fld_setFld_apart _ _ _ _ (by decide : 2 + 1 ≤ 32) (Fld.apart_of_bits (.inr (by decide : 0 + 2 ≤ 2))),
      Dev.fld_setFld_same _ _ _ (by decide : 0 + 2 ≤ 32)]
    exact Nat.mod_eq_of_lt (show cause < 4 by omega)
  · rw [Dev.fld_setFld_apart _ _ _ _ (by decide : 16 + 16 ≤ 32) (Fld.apart_of_bits (.inr (by decide : 8 + 8 ≤ 16))),
      Dev.fld_setFld_same _ _ _ (by decide : 8 + 8 ≤ 32)]
    exact Nat.mod_eq_of_lt ho
  · rw [Dev.fld_setFld_same _ _ _ (by decide : 16 + 16 ≤ 32)]
    rfl

end

/-- What follows once a slot is taken: the count of active slots, the remaining times, the record. -/
def enterFlds : Set Fld := {F.FLT_STATE.EG_ACTIVE} ∪ slotBFlds ∪ recFlds 0

theorem enterFlds_apart_slotA {f : Fld} (hf : f ∈ enterFlds) {k lo w : Nat} : f.apart ⟨.flt, 0x80 + 8 * k, lo, w⟩ = true := by
  rcases hf with (rfl | ⟨-, h⟩) | rfl | rfl | rfl
  · exact Fld.apart_of_off (show (0 : Nat) ≠ 0x80 + 8 * k by omega)
  · exact Fld.apart_of_off (show f.off ≠ 0x80 + 8 * k by omega)
  · exact Fld.apart_of_off (show 0x34 + 4 * 0 ≠ 0x80 + 8 * k by omega)
  · exact Fld.apart_of_blk (by decide : Blk.evt ≠ Blk.flt)
  · exact Fld.apart_of_blk (by decide : Blk.evt ≠ Blk.flt)

theorem Dev.egRefresh_keeps (d : Dev) : d.egRefresh.egExpiry = d.egExpiry ∧ d.egRefresh.causes = d.causes := by
  unfold Dev.egRefresh Machine.forL
  refine List.foldlRecOn (motive := fun x : Dev => x.egExpiry = d.egExpiry ∧ x.causes = d.causes) _ _ ⟨rfl, rfl⟩ (fun x hx e _ => ?_)
  exact hx

/-- The Endgame of an object is in a slot: the lowest that its cause and object stand in. -/
theorem Dev.egFind_eq_some {d : Dev} {cause obj k : Nat} : d.egFind cause obj = some k ↔
    k < 16 ∧ d.fld (F.FLT_EG_SLOT_A.CAUSE k) = cause ∧ d.fld (F.FLT_EG_SLOT_A.OBJECT k) = obj
      ∧ ∀ j < k, ¬ (d.fld (F.FLT_EG_SLOT_A.CAUSE j) = cause ∧ d.fld (F.FLT_EG_SLOT_A.OBJECT j) = obj) := by
  simp only [Dev.egFind, List.find?_range_eq_some, List.mem_range, Bool.and_eq_true, decide_eq_true_eq, Bool.not_eq_true', Bool.and_eq_false_iff,
    decide_eq_false_iff_not, not_and_or]
  tauto

theorem Dev.egFind_eq_none {d : Dev} {cause obj : Nat} : d.egFind cause obj = none ↔
    ∀ k < 16, ¬ (d.fld (F.FLT_EG_SLOT_A.CAUSE k) = cause ∧ d.fld (F.FLT_EG_SLOT_A.OBJECT k) = obj) := by
  simp [Dev.egFind]

theorem Dev.egFree_eq_some {d : Dev} {k : Nat} : d.egFree = some k ↔
    k < 16 ∧ d.fld (F.FLT_EG_SLOT_A.CAUSE k) = 0 ∧ ∀ j < k, d.fld (F.FLT_EG_SLOT_A.CAUSE j) ≠ 0 := by
  simp only [Dev.egFree, List.find?_range_eq_some, List.mem_range, decide_eq_true_eq, Bool.not_eq_true', decide_eq_false_iff_not]
  tauto

/-- The object of an Endgame cause fits its field. -/
theorem egObject_fits {cause obj : Nat} (h1 : 1 ≤ cause) (h3 : cause ≤ 3) (ho : (cause = 1 → obj < 32) ∧ (cause = 2 → obj < 48)
    ∧ (cause = 3 → obj = 0)) : obj < 256 := by
  omega

section
variable (d : Dev) (k cause obj sys : Nat) (st : Stamp)

/-- What an Endgame's start leaves of its slot: the rest of it writes no slot's first word. -/
theorem Dev.egEnter_slotA (j lo w : Nat) :
    (d.egEnter k cause obj sys st).fld ⟨.flt, 0x80 + 8 * j, lo, w⟩ = (d.slotTaken k cause obj sys).fld ⟨.flt, 0x80 + 8 * j, lo, w⟩ := by
  have h : Touches enterFlds (d.slotTaken k cause obj sys) (d.egEnter k cause obj sys st) := by
    rw [Dev.egEnter_eq]
    dsimp only
    refine Touches.note ?_ _ _ _ _ (fun _ hf => .inr hf)
    refine Touches.egRefresh ?_ (fun _ hf => .inl (.inr hf))
    refine Touches.egCount ?_ (.inl (.inl rfl))
    exact (Touches.refl _ _).slotDue k _
  exact h.fld _ (fun _ hf => enterFlds_apart_slotA hf)

theorem Dev.egEnter_other {j : Nat} (hj : j ≠ k) (lo w : Nat) :
    (d.egEnter k cause obj sys st).fld ⟨.flt, 0x80 + 8 * j, lo, w⟩ = d.fld ⟨.flt, 0x80 + 8 * j, lo, w⟩ := by
  rw [Dev.egEnter_slotA]
  refine (Touches.slotTaken d k cause obj sys).fld _ (fun f hf => Fld.apart_of_off ?_)
  show f.off ≠ 0x80 + 8 * j
  rw [hf.2]
  omega

theorem Dev.egEnter_causes : (d.egEnter k cause obj sys st).causes = d.causes := by
  rw [Dev.egEnter_eq]
  dsimp only
  rw [Dev.note_causes, (Dev.egRefresh_keeps _).2]
  simp only [Dev.egCount, Dev.slotDue, Dev.slotTaken, Dev.setFld_causes]

/-- The slot expires when the time limit of its cause has passed (R34). -/
theorem Dev.egEnter_due (hc : cause ≤ 3) :
    (k, st.plus (d.fld (F.FLT_EG_TIME.LIMIT_S (cause - 1)) * 1000000)) ∈ (d.egEnter k cause obj sys st).egExpiry := by
  have hlimit : (d.slotTaken k cause obj sys).fld (F.FLT_EG_TIME.LIMIT_S (cause - 1)) = d.fld (F.FLT_EG_TIME.LIMIT_S (cause - 1)) := by
    refine (Touches.slotTaken d k cause obj sys).fld _ (fun f hf => Fld.apart_of_off ?_)
    show f.off ≠ 0x10 + 4 * (cause - 1)
    rw [hf.2]
    omega
  rw [Dev.egEnter_eq]
  dsimp only
  rw [Dev.note_egExpiry, (Dev.egRefresh_keeps _).1, hlimit]
  exact mem_tabIns _ _ _

theorem Dev.egEnter_record : ∃ r ∈ (d.egEnter k cause obj sys st).evq, r.ev = .endgameEnter ∧ r.src = .slot k ∧ r.stamp = d.now := by
  rw [Dev.egEnter_eq]
  dsimp only
  rw [Dev.note_evq]
  refine ⟨_, List.mem_append_right _ (List.mem_singleton_self _), rfl, rfl, ?_⟩
  dsimp only
  rw [((Touches.refl slotBFlds _).egRefresh subset_rfl).now]
  simp only [Dev.egCount, Dev.slotDue, Dev.slotTaken, Dev.setFld_now]

/-- Entered into the lowest free slot, an object that stood in none is found there. -/
theorem Dev.egFind_egEnter (hc : cause ≤ 3) (ho : obj < 256) (hk : d.egFree = some k) (hn : d.egFind cause obj = none) :
    (d.egEnter k cause obj sys st).egFind cause obj = some k := by
  obtain ⟨hlt, -, -⟩ := Dev.egFree_eq_some.1 hk
  obtain ⟨hcause, hobj, -⟩ := d.slotTaken_fields k cause obj sys hc ho
  refine Dev.egFind_eq_some.2 ⟨hlt, (d.egEnter_slotA ..).trans hcause, (d.egEnter_slotA ..).trans hobj, fun j hj => ?_⟩
  rw [F.FLT_EG_SLOT_A.CAUSE, F.FLT_EG_SLOT_A.OBJECT, d.egEnter_other k cause obj sys st hj.ne, d.egEnter_other k cause obj sys st hj.ne]
  exact Dev.egFind_eq_none.1 hn j (by omega)

end

end Sys2Proof.Machine
end

section
/-! ### Faults of class F2, and O58 -/

namespace Sys2Proof.Machine

/-- The class an F2 cause takes when its Endgame cannot be entered (R38): F3 for TWIN_LOST, F1 for the others. -/
def expiryClass (cause : Nat) : Nat := if cause = 3 then 3 else 1

/-- An F2 fault whose Endgame is entered: the cause is kept as F2 and recorded. -/
def Dev.accept2 (d : Dev) (ev : Ev) (src : Src) (sub related : Nat) (detail : List Byte) (st : Stamp) : Dev :=
  (d.keep ⟨ev, src, sub, 2, 0⟩).raiseAt st ev src 2 (payF d 2 related detail)

/-- The reaction of an F2 fault that takes its expiry class, before its record is raised. -/
def Dev.reactExpiry (d : Dev) (cause : Nat) (ev : Ev) (src : Src) (sub : Nat) : Dev :=
  let e := d.keep ⟨ev, src, sub, expiryClass cause, if cause = 3 then 0xFF else 0⟩
  if cause = 3 then e.underGroups 0xFF else e

def Dev.refuse2 (d : Dev) (cause : Nat) (ev : Ev) (src : Src) (sub related : Nat) (detail : List Byte) (st : Stamp) : Dev :=
  (d.reactExpiry cause ev src sub).raiseAt st ev src (expiryClass cause) (payF (d.reactExpiry cause ev src sub) (expiryClass cause) related detail)

section
variable {d : Dev} {ev : Ev} {cause obj sub : Nat} (hc : egCauseOf ev = cause) (hhas : d.has ev (egObject cause obj) sub = false)
  (hfind : d.egFind cause obj = none)
include hc hhas hfind

theorem Dev.fault2_enters {k : Nat} (hfree : d.egFree = some k) (hr : d.egRefusal cause obj = 0) (sys related : Nat) (detail : List Byte) (st : Stamp) :
    d.fault2 ev obj sub sys related detail true st
      = (d.accept2 ev (egObject cause obj) sub related detail st).egEnter k cause obj sys st := by
  subst hc
  simp only [Dev.fault2, hhas, hfind, hfree, hr, Bool.not_true, Bool.false_eq_true, if_false, if_true]
  rfl

theorem Dev.fault2_refused (hr : d.egRefusal cause obj ≠ 0) (sys related : Nat) (detail : List Byte) (st : Stamp) :
    d.fault2 ev obj sub sys related detail true st
      = (d.refuse2 cause ev (egObject cause obj) sub related detail st).note .endgameRefused (.slot 0) (egObject cause obj).enc
          [BitVec.ofNat 8 cause, BitVec.ofNat 8 (d.egRefusal cause obj)] := by
  subst hc
  simp only [Dev.fault2, hhas, hfind, hr, Bool.not_true, Bool.false_eq_true, if_false]
  cases d.egFree <;> rfl

end

/-! ### Why an Endgame is refused (R34, R42) -/

/-- HEAD_SINGLE is refused when it is disabled, else when the head is locked, else when no slot is free. -/
theorem Dev.egRefusal_head (d : Dev) (obj : Nat) : d.egRefusal 1 obj =
    if d.on F.FLT_EG_ENABLE.HEAD_SINGLE = false then 1 else if d.egLocked 1 obj = true then 2 else if d.egFree = none then 3 else 0 := by
  simp [Dev.egRefusal]

/-! ### What the slots hold beside an F2 fault -/

/-- No counter of records, group or device state stands in a slot's first word. -/
theorem recFlds_apart_slotA {cls : Nat} (hcls : cls ≤ 5) {f : Fld} (hf : f ∈ recFlds cls) (k lo w : Nat) :
    f.apart ⟨.flt, 0x80 + 8 * k, lo, w⟩ = true := by
  rcases hf with rfl | rfl | rfl
  · exact Fld.apart_of_off (show 0x34 + 4 * cls ≠ 0x80 + 8 * k by omega)
  · exact Fld.apart_of_blk (by decide : Blk.evt ≠ Blk.flt)
  · exact Fld.apart_of_blk (by decide : Blk.evt ≠ Blk.flt)

theorem expiryClass_le (cause : Nat) : expiryClass cause ≤ 3 := by
  unfold expiryClass
  split <;> decide

/-- The object is found in the slot it was in when the slots' first words are the same. -/
theorem Dev.egFind_congr {d e : Dev} (h : ∀ k lo w, e.fld ⟨.flt, 0x80 + 8 * k, lo, w⟩ = d.fld ⟨.flt, 0x80 + 8 * k, lo, w⟩) (cause obj : Nat) :
    e.egFind cause obj = d.egFind cause obj := by
  refine congrArg (fun p => List.find? p (List.range 16)) (funext fun k => ?_)
  rw [show e.fld (F.FLT_EG_SLOT_A.CAUSE k) = _ from h k 0 2, show e.fld (F.FLT_EG_SLOT_A.OBJECT k) = _ from h k 8 8]
  rfl

theorem Dev.egFree_congr {d e : Dev} (h : ∀ k lo w, e.fld ⟨.flt, 0x80 + 8 * k, lo, w⟩ = d.fld ⟨.flt, 0x80 + 8 * k, lo, w⟩) :
    e.egFree = d.egFree := by
  refine congrArg (fun p => List.find? p (List.range 16)) (funext fun k => ?_)
  rw [show e.fld (F.FLT_EG_SLOT_A.CAUSE k) = _ from h k 0 2]
  rfl

section
variable (d : Dev) (cause : Nat) (ev : Ev) (src : Src) (sub related : Nat) (detail : List Byte) (st : Stamp)

theorem Touches.accept2 : Touches (recFlds 2) d (d.accept2 ev src sub related detail st) :=
  ((Touches.refl _ d).keep _).raiseAt _ _ _ _ _ subset_rfl

theorem Dev.accept2_slotA (k lo w : Nat) :
    (d.accept2 ev src sub related detail st).fld ⟨.flt, 0x80 + 8 * k, lo, w⟩ = d.fld ⟨.flt, 0x80 + 8 * k, lo, w⟩ :=
  (Touches.accept2 d ev src sub related detail st).fld _ (fun _ hf => recFlds_apart_slotA (by decide) hf k lo w)

theorem Touches.reactExpiry {W : Set Fld} {a d : Dev} (h : Touches W a d) (hW : F.FLT_STATE.F3_GROUPS ∈ W) :
    Touches W a (d.reactExpiry cause ev src sub) :=
  Touches.ite ((h.keep _).underGroups _ hW) (h.keep _)

theorem Touches.refuse2 : Touches (insert F.FLT_STATE.F3_GROUPS (recFlds (expiryClass cause))) d (d.refuse2 cause ev src sub related detail st) :=
  ((Touches.refl _ d).reactExpiry cause ev src sub (Set.mem_insert _ _)).raiseAt _ _ _ _ _ (Set.subset_insert _ _)

theorem Dev.refuse2_slotA (k lo w : Nat) :
    (d.refuse2 cause ev src sub related detail st).fld ⟨.flt, 0x80 + 8 * k, lo, w⟩ = d.fld ⟨.flt, 0x80 + 8 * k, lo, w⟩ := by
  refine (Touches.refuse2 d cause ev src sub related detail st).fld _ (fun f hf => ?_)
  rcases hf with rfl | hf
  · exact Fld.apart_of_off (show 0 ≠ 0x80 + 8 * k by omega)
  · exact recFlds_apart_slotA ((expiryClass_le cause).trans (by decide)) hf k lo w

theorem Dev.reactExpiry_keeps : (d.reactExpiry cause ev src sub).has ev src sub = true ∧ (d.reactExpiry cause ev src sub).egExpiry = d.egExpiry
    ∧ (d.reactExpiry cause ev src sub).evq = d.evq := by
  unfold Dev.reactExpiry
  dsimp only
  split <;> exact ⟨d.has_keep .., rfl, rfl⟩

theorem or_all_groups (n : Nat) (h : n < 256) : n ||| 255 = 255 := by
  refine Nat.eq_of_testBit_eq (fun i => ?_)
  have hb : Nat.testBit 255 i = decide (i < 8) := Nat.testBit_two_pow_sub_one (n := 8) (i := i)
  rw [Nat.testBit_or, hb]
  by_cases hi : i < 8
  · simp [hi]
  · have h0 : n.testBit i = false := Nat.testBit_lt_two_pow (h.trans_le (Nat.pow_le_pow_right (n := 2) (by decide) (by omega : 8 ≤ i)))
    simp [hi, h0]

/-- All groups go under F3. -/
theorem Dev.underGroups_all : (d.underGroups 0xFF).fld F.FLT_STATE.F3_GROUPS = 255 := by
  rw [Dev.underGroups_groups _ _ (by decide)]
  exact or_all_groups _ (d.fld_lt F.FLT_STATE.F3_GROUPS)

theorem Dev.refuse2_groups (h3 : cause = 3) : (d.refuse2 cause ev src sub related detail st).fld F.FLT_STATE.F3_GROUPS = 255 := by
  refine (((Touches.refl _ _).raiseAt _ _ _ _ _ subset_rfl).fld _ (recFlds_apart_flt (by decide))).trans ?_
  rw [Dev.reactExpiry, h3]
  exact Dev.underGroups_all _

theorem Dev.refuse2_record : (d.refuse2 cause ev src sub related detail st).evq
    = d.evq ++ [⟨ev, src, st, padTo 20 0 (payF (d.reactExpiry cause ev src sub) (expiryClass cause) related detail)⟩] := by
  rw [Dev.refuse2, Dev.raiseAt_evq, (d.reactExpiry_keeps cause ev src sub).2.2]

end

/-! ### Statements of the family -/

/-- What a fault does that was not present. -/
theorem Dev.fault_reacts {d e : Dev} {ev : Ev} {src : Src} {sub related : Nat} {detail : List Byte} {cls : Nat} (hcls : evClass ev = cls)
    (he : d.fault ev src sub related detail = e) (h : d.has ev src sub = false) :
    e.has ev src sub = true
    ∧ (∃ r : EvRec, e.evq = d.evq ++ [r] ∧ r.ev = ev ∧ r.src = src ∧ r.stamp = d.now ∧ r.pay.length = 20 ∧ r.pay.headD 0 = BitVec.ofNat 8 cls)
    ∧ (cls = 3 → groupsFor d src < 256 → e.fld F.FLT_STATE.F3_GROUPS = d.fld F.FLT_STATE.F3_GROUPS ||| groupsFor d src)
    ∧ (cls ≤ 3 → e.fld F.FLT_STATE.DEV_STATE = d.fld F.FLT_STATE.DEV_STATE ∧ e.fld F.FLT_FIRST_CAUSE.CODE = d.fld F.FLT_FIRST_CAUSE.CODE)
    ∧ (4 ≤ cls → d.fld F.FLT_STATE.DEV_STATE ≠ 0 → e.fld F.FLT_STATE.DEV_STATE = max (d.fld F.FLT_STATE.DEV_STATE) cls ∧ e.safeLine = true)
    ∧ (4 ≤ cls → d.fld F.FLT_STATE.DEV_STATE = 0 → e.fld F.FLT_STATE.DEV_STATE = 0)
    ∧ (4 ≤ cls → d.fld F.FLT_FIRST_CAUSE.CODE = 0 → e.fld F.FLT_FIRST_CAUSE.CODE = evCode ev
      ∧ e.fld F.FLT_FIRST_TIME_LO.TIME_LO + 2 ^ 32 * e.fld F.FLT_FIRST_TIME_HI.TIME_HI = d.now.toNat)
    ∧ (4 ≤ cls → d.fld F.FLT_FIRST_CAUSE.CODE ≠ 0 → e.fld F.FLT_FIRST_CAUSE.CODE = d.fld F.FLT_FIRST_CAUSE.CODE)
    ∧ e.fld (F.FLT_CLASS_CNT.COUNT cls) = min (d.fld (F.FLT_CLASS_CNT.COUNT cls) + 1) (2 ^ (F.FLT_CLASS_CNT.COUNT cls).w - 1) := by
  subst he hcls
  have hfld : ∀ off lo w, off < 0x34 → (d.fault ev src sub related detail).fld ⟨.flt, off, lo, w⟩ = (d.react ev src sub).fld ⟨.flt, off, lo, w⟩ :=
    fun off lo w ho => Dev.fault_fld h related detail d.now (recFlds_apart_flt ho)
  have hstate := hfld 0 0 3 (by decide)
  have hcode := hfld 4 0 16 (by decide)
  have hlow : evClass ev ≤ 3 → ∀ g : Fld, F.FLT_STATE.F3_GROUPS.apart g = true → (d.react ev src sub).fld g = d.fld g :=
    fun hle g hg => d.react_low ev src sub hle hg
  have hmax : 4 ≤ evClass ev → (d.react ev src sub).fld F.FLT_STATE.DEV_STATE
      = if d.fld F.FLT_STATE.DEV_STATE = 0 then 0 else max (d.fld F.FLT_STATE.DEV_STATE) (evClass ev) := fun hge => by
    rw [Dev.react_of_ge hge, Dev.safeState_devState _ _ _ _ (by have := evClass_le ev; omega), Dev.keep_fld]
  have hfirst : 4 ≤ evClass ev → ∀ g : Fld, F.FLT_STATE.DEV_STATE.apart g = true → (d.react ev src sub).fld g
      = ((d.keep ⟨ev, src, sub, evClass ev, 0⟩).firstCause (evClass ev) ev src).fld g := fun hge g hg => by
    rw [Dev.react_of_ge hge, Dev.safeState_fld _ _ _ _ hg]
  have hnew : 4 ≤ evClass ev → (d.react ev src sub).fld F.FLT_FIRST_CAUSE.CODE
      = if d.fld F.FLT_FIRST_CAUSE.CODE = 0 then evCode ev else d.fld F.FLT_FIRST_CAUSE.CODE := fun hge => by
    rw [hfirst hge _ (by decide), Dev.firstCause_code, Dev.keep_fld]
  refine ⟨?_, ?_, fun h3 hg => (hfld 0 16 8 (by decide)).trans (d.react_groups ev src sub h3 hg),
    fun hle => ⟨hstate.trans (hlow hle _ (by decide)), hcode.trans (hlow hle _ (by decide))⟩, fun hge h0 => ?_,
    fun hge h0 => hstate.trans ((hmax hge).trans (if_pos h0)), fun hge h0 => ⟨hcode.trans ((hnew hge).trans (if_pos h0)), ?_⟩,
    fun hge h0 => hcode.trans ((hnew hge).trans (if_neg h0)), Dev.fault_count h ..⟩
  · rw [Dev.fault_fresh h, Dev.has_congr (Dev.raiseAt_causes ..)]
    exact d.react_has ev src sub
  · rw [Dev.fault_fresh h, Dev.raiseAt_evq, d.react_evq]
    exact ⟨_, rfl, rfl, rfl, rfl, length_padTo .., headD_padTo_payF ..⟩
  · have hm := hstate.trans ((hmax hge).trans (if_neg h0))
    exact ⟨hm, Dev.safeLine_of_devState (hm ▸ hge.trans (le_max_right _ _))⟩
  · have ht := (d.keep ⟨ev, src, sub, evClass ev, 0⟩).firstCause_time (evClass ev) ev src h0
    rw [← hfirst hge _ (by decide), ← hfirst hge _ (by decide)] at ht
    rw [show (d.fault ev src sub related detail).fld F.FLT_FIRST_TIME_LO.TIME_LO = _ from hfld 8 0 32 (by decide),
      show (d.fault ev src sub related detail).fld F.FLT_FIRST_TIME_HI.TIME_HI = _ from hfld 0xc 0 16 (by decide)]
    exact ht

section
variable {d : Dev} {ev : Ev} {cause obj : Nat} (hc : egCauseOf ev = cause) (hhas : d.has ev (egObject cause obj) 0 = false)
  (hfind : d.egFind cause obj = none) (sys related : Nat) (detail : List Byte)
include hc hhas hfind

/-- An F2 fault whose Endgame may be entered starts it in the lowest free slot. -/
theorem Dev.fault2_endgame (h3 : cause ≤ 3) (hobj : obj < 256) {k : Nat} (hr : d.egRefusal cause obj = 0) (hk : d.egFree = some k) {e : Dev}
    (he : d.fault2 ev obj 0 sys related detail = e) :
    e.fld (F.FLT_EG_SLOT_A.CAUSE k) = cause ∧ e.fld (F.FLT_EG_SLOT_A.OBJECT k) = obj ∧ e.fld (F.FLT_EG_SLOT_A.AXLES_USED k) = 0
    ∧ e.egFind cause obj = some k ∧ (∀ j < k, d.fld (F.FLT_EG_SLOT_A.CAUSE j) ≠ 0)
    ∧ (k, d.now.plus (d.fld (F.FLT_EG_TIME.LIMIT_S (cause - 1)) * 1000000)) ∈ e.egExpiry ∧ e.has ev (egObject cause obj) 0 = true
    ∧ ∃ r ∈ e.evq, r.ev = .endgameEnter ∧ r.src = .slot k ∧ r.stamp = d.now := by
  rw [Dev.fault2_enters hc hhas hfind hk hr] at he
  subst he
  have hacc := Touches.accept2 d ev (egObject cause obj) 0 related detail d.now
  have hslot := d.accept2_slotA ev (egObject cause obj) 0 related detail d.now
  obtain ⟨hcause, hobject, haxles⟩ := (d.accept2 ev (egObject cause obj) 0 related detail d.now).slotTaken_fields k cause obj sys h3 hobj
  refine ⟨(Dev.egEnter_slotA ..).trans hcause, (Dev.egEnter_slotA ..).trans hobject, (Dev.egEnter_slotA ..).trans haxles,
    Dev.egFind_egEnter _ _ _ _ _ _ h3 hobj ((Dev.egFree_congr hslot).trans hk) ((Dev.egFind_congr hslot ..).trans hfind),
    (Dev.egFree_eq_some.1 hk).2.2, ?_, ?_, ?_⟩
  · rw [← hacc.fld (F.FLT_EG_TIME.LIMIT_S (cause - 1)) (recFlds_apart_flt (by omega))]
    exact Dev.egEnter_due _ k cause obj sys d.now h3
  · rw [Dev.has_congr (Dev.egEnter_causes ..), Dev.accept2, Dev.has_congr (Dev.raiseAt_causes ..)]
    exact d.has_keep ..
  · have hrec := Dev.egEnter_record (d.accept2 ev (egObject cause obj) 0 related detail d.now) k cause obj sys d.now
    rwa [hacc.now] at hrec

/-- An F2 fault whose Endgame is refused takes the class of its expiry. -/
theorem Dev.fault2_expiry (h0 : d.egRefusal cause obj ≠ 0) {e : Dev} (he : d.fault2 ev obj 0 sys related detail = e) :
    e.egFind cause obj = none ∧ e.egExpiry = d.egExpiry ∧ e.has ev (egObject cause obj) 0 = true
    ∧ (cause = 3 → e.fld F.FLT_STATE.F3_GROUPS = 255)
    ∧ (∃ r ∈ e.evq, r.ev = ev ∧ r.src = egObject cause obj ∧ r.pay.headD 0 = (if cause = 3 then 3#8 else 1#8))
    ∧ ∃ r ∈ e.evq, r.ev = .endgameRefused ∧ r.stamp = d.now := by
  rw [Dev.fault2_refused hc hhas hfind h0] at he
  subst he
  obtain ⟨hkept, hexp, -⟩ := d.reactExpiry_keeps cause ev (egObject cause obj) 0
  have hnote := (Touches.refl (recFlds 0) (d.refuse2 cause ev (egObject cause obj) 0 related detail d.now)).note .endgameRefused (.slot 0)
    (egObject cause obj).enc [BitVec.ofNat 8 cause, BitVec.ofNat 8 (d.egRefusal cause obj)] subset_rfl
  refine ⟨?_, ?_, ?_, fun hc3 => ?_, ?_, ?_⟩
  · rw [Dev.egFind_congr (fun k lo w => hnote.fld _ (fun _ hf => recFlds_apart_slotA (by decide) hf k lo w)),
      Dev.egFind_congr (d.refuse2_slotA cause ev _ 0 related detail d.now), hfind]
  · rw [Dev.note_egExpiry, Dev.refuse2, Dev.raiseAt_egExpiry, hexp]
  · rw [Dev.has_congr (Dev.note_causes ..), Dev.refuse2, Dev.has_congr (Dev.raiseAt_causes ..), hkept]
  · exact (hnote.fld F.FLT_STATE.F3_GROUPS (recFlds_apart_flt (by decide))).trans (Dev.refuse2_groups _ _ _ _ _ _ _ _ hc3)
  · refine ⟨_, hnote.mem_evq (Dev.refuse2_record .. ▸ List.mem_append_right _ (List.mem_singleton_self _)), rfl, rfl, ?_⟩
    rw [headD_padTo_payF]
    unfold expiryClass
    split <;> rfl
  · rw [Dev.note_evq]
    exact ⟨_, List.mem_append_right _ (List.mem_singleton_self _), rfl,
      (Touches.refuse2 d cause ev _ 0 related detail d.now).now⟩

end

/-- Settles O58: the reaction of each class, the start of an Endgame or its refusal, and the pins under the safe-state line. -/
theorem faultReactions : Obligations.FaultReactions := by
  unfold Obligations.FaultReactions
  refine ⟨fun d e ev src sub related detail cls hcls he => ⟨fun h => he ▸ Dev.fault_present h .., Dev.fault_reacts hcls he⟩, ?_, ?_,
    fun d k h => ⟨Dev.soCmd_of_safeLine h, fun _ => Dev.pgShow_of_safeLine h k⟩⟩
  · intro d e ev cause obj sys related detail src hc h1 h3 hobj1 hobj2 hobj3 _ hsrc hhas hfind he
    subst hsrc
    have hobj : obj < 256 := egObject_fits h1 h3 ⟨hobj1, hobj2, hobj3⟩
    refine ⟨fun k hr hk => Dev.fault2_endgame hc hhas hfind sys related detail h3 hobj hr hk he, fun x hx h0 => ?_⟩
    subst hx
    exact Dev.fault2_expiry hc hhas hfind sys related detail h0 he
  · intro d obj _
    rw [Dev.egRefusal_head]
    refine ⟨fun h => if_pos h, fun h hl => ?_, fun h hl hf => ?_, fun h hl hf => ?_⟩ <;> simp [*]

end Sys2Proof.Machine
end

section
-- One proof at a time: checked side by side, the later proofs wait in threads of their own, past the memory limit.
set_option Elab.async false
/-! ### What raising records and sending messages writes -/

namespace Sys2Proof.Machine

/-- What raising a record or a fault, moving Endgame slots and sending a message may write: blocks FLT and EVT, the drop counters of the ports,
and of KVT the state of a session, its sending half and its losses. -/
def outFlds : Set Fld :=
  {f | f.blk = .flt ∨ f.blk = .evt ∨ f.blk = .net ∨ (f.blk = .kvt ∧ f.off % 0x100 ∈ [0x1c, 0x28, 0x30, 0x34, 0x4c, 0x64])}

theorem kvt_mem_outFlds {base p lo w : Nat} (h : base % 0x100 ∈ [0x1c, 0x28, 0x30, 0x34, 0x4c, 0x64]) :
    (⟨.kvt, base + 0x100 * p, lo, w⟩ : Fld) ∈ outFlds :=
  .inr (.inr (.inr ⟨rfl, show (base + 0x100 * p) % 0x100 ∈ _ by rwa [Nat.add_mul_mod_self_left]⟩))

theorem flt_mem_outFlds (off lo w : Nat) : (⟨.flt, off, lo, w⟩ : Fld) ∈ outFlds := .inl rfl

theorem recFlds_subset_outFlds (cls : Nat) : recFlds cls ⊆ outFlds := by
  rintro f (rfl | rfl | rfl)
  · exact .inl rfl
  · exact .inr (.inl rfl)
  · exact .inr (.inl rfl)

theorem reactFlds_subset_outFlds : reactFlds ⊆ outFlds := by
  rintro f (rfl | rfl | rfl | rfl | rfl | rfl) <;> exact .inl rfl

@[simp] theorem Dev.setFld_kv (d : Dev) (f : Fld) (v p : Nat) : (d.setFld f v).kv p = d.kv p := rfl

@[simp] theorem Dev.inc_kv (d : Dev) (f : Fld) (n p : Nat) : (d.inc f n).kv p = d.kv p := rfl

namespace Touches

section
variable {W : Set Fld} {a d : Dev} (h : Touches W a d) (hW : outFlds ⊆ W)
include h hW

/-- A record is raised. -/
theorem raiseAt' (st : Stamp) (ev : Ev) (src : Src) (cls : Nat) (pay : List Byte) : Touches W a (d.raiseAt st ev src cls pay) :=
  h.raiseAt _ _ _ _ _ ((recFlds_subset_outFlds _).trans hW)

theorem raise' (ev : Ev) (src : Src) (pay : List Byte) : Touches W a (d.raise ev src pay) := h.raiseAt' hW ..

theorem note' (ev : Ev) (src : Src) (related : Nat) (detail : List Byte) : Touches W a (d.note ev src related detail) := h.raiseAt' hW ..

theorem strike' (ev : Ev) (src : Src) (related : Nat) (detail : List Byte) : Touches W a (d.strike ev src related detail) := h.raiseAt' hW ..

theorem fault' (ev : Ev) (src : Src) (sub related : Nat) (detail : List Byte) (st : Stamp) :
    Touches W a (d.fault ev src sub related detail st) :=
  h.fault _ _ _ _ _ _ ((Set.union_subset reactFlds_subset_outFlds (recFlds_subset_outFlds _)).trans hW)

/-! ### KVT's sending half -/

omit hW in
theorem putKvt (p : Nat) (k : KvtSt) (hk : (d.kv p).Kept k) : Touches W a { d with kvt := tabPut {} d.kvt p k } := by
  refine h.trans ⟨fun g _ => Dev.fld_congr rfl, rfl, List.prefix_rfl, rfl, fun _ _ hx => hx, fun q => ?_⟩
  by_cases hq : q = p
  · subst hq
    simpa [Dev.kv] using hk
  · simp [KvtSt.Kept, Dev.kv, tabGet_tabPut_ne, hq]

theorem setKv (p : Nat) (k : KvtSt) (hk : (d.kv p).Kept k) : Touches W a (d.setKv p k) := by
  have h1 := (h.putKvt p k hk).setFld (F.KVT_STAT.UNACKED p) k.unacked.length (hW (kvt_mem_outFlds (by decide))) Fld.fits
  have h2 := h1.setFld (F.KVT_STAT.QUEUED p) k.queue.length (hW (kvt_mem_outFlds (by decide))) Fld.fits
  exact h2.setFld (F.KVT_STAT.HELD p) k.held.length (hW (kvt_mem_outFlds (by decide))) Fld.fits

theorem modKv (p : Nat) (f : KvtSt → KvtSt) (hf : ∀ k : KvtSt, k.Kept (f k)) : Touches W a (d.modKv p f) := h.setKv hW p _ (hf _)

theorem kvtEmit (p : Nat) (f : KvtFrame) : Touches W a (d.kvtEmit p f) := by
  unfold Dev.kvtEmit
  refine h.ite (Touches.ite (h.inc (F.NET_TX_DROP.LINK_DROP p) 1 (hW (.inr (.inr (.inl rfl)))) Fld.fits) ?_)
  exact h.upd rfl rfl rfl rfl rfl rfl rfl

theorem kvtSyn (p : Nat) : Touches W a (d.kvtSyn p) := by
  unfold Dev.kvtSyn
  exact Touches.modKv (h.kvtEmit hW p _) hW p _ (fun _ => ⟨rfl, id⟩)

omit hW in
theorem putLost (l : List Nat) : Touches W a { d with kvtLost := l } := h.upd rfl rfl rfl rfl rfl rfl rfl

theorem kvtLose (p reason : Nat) : Touches W a (d.kvtLose p reason) := by
  unfold Dev.kvtLose
  extract_lets k d1 d2 d3 d4 d5
  have h1 : Touches W a d1 := h.setFld (F.KVT_STAT.STATE p) _ (hW (kvt_mem_outFlds (by decide))) Fld.fits
  have h2 : Touches W a d2 := (h1.setFld (F.KVT_LAST_LOSS.REASON p) _ (hW (kvt_mem_outFlds (by decide))) Fld.fits).setFld
    (F.KVT_LAST_LOSS.RETX p) _ (hW (kvt_mem_outFlds (by decide))) Fld.fits
  have h3 : Touches W a d3 := h2.inc (F.KVT_SESS_CNT.LOSSES p) 1 (hW (kvt_mem_outFlds (by decide))) Fld.fits
  have h4 : Touches W a d4 := h3.setKv hW p _ (by simp [KvtSt.Kept, d3, d2, d1, k])
  exact (h4.putLost _).note' hW _ _ _ _

theorem kvtFrame (p type : Nat) (payload : List Byte) : Touches W a (d.kvtFrame p type payload) := by
  unfold Dev.kvtFrame
  dsimp only
  refine Touches.modKv ?_ hW p _ (fun _ => ⟨rfl, id⟩)
  exact ((h.kvtEmit hW p _).setFld (F.KVT_SEQ_TX.SEQ p) _ (hW (kvt_mem_outFlds (by decide))) Fld.fits).incPair (F.KVT_TXMSG_LO.V p)
    (F.KVT_TXMSG_HI.V p) 1 (hW (kvt_mem_outFlds (by decide))) (hW (kvt_mem_outFlds (by decide))) Fld.fits Fld.fits

theorem kvtSend (p type : Nat) (payload : List Byte) : Touches W a (d.kvtSend p type payload) := by
  unfold Dev.kvtSend
  dsimp only
  refine h.ite ((h.kvtFrame hW p type payload).ite (Touches.ite ?_ (h.kvtLose hW p 5)))
  exact h.setKv hW p _ ⟨rfl, id⟩

theorem kvtPublish (sel : Nat → Bool) (type : Nat) (payload : List Byte) : Touches W a (d.kvtPublish sel type payload) :=
  h.forN (fun p _ hd => Touches.ite (hd.kvtSend hW p type payload) hd) 4

/-! ### Endgame slots -/

omit hW in
theorem clear {ev : Ev} (hev : ev ≠ .headSysStuck) (src : Src) (sub : Nat) : Touches W a (d.clear ev src sub) := by
  refine h.trans ⟨fun _ _ => rfl, rfl, List.prefix_rfl, rfl, fun src' x hx => ?_, fun _ => ⟨rfl, id⟩⟩
  simp only [Dev.has, Dev.clear, List.any_eq_true, List.mem_filter] at hx ⊢
  obtain ⟨c, hc, hx⟩ := hx
  refine ⟨c, ⟨hc, ?_⟩, hx⟩
  simp only [Bool.and_eq_true, decide_eq_true_eq] at hx
  simp [hx.1.1, Ne.symm hev]

omit hW in
theorem putSlots (t : Tab Stamp) (b : Bool) : Touches W a { d with egExpiry := t, egDirty := b } := h.upd rfl rfl rfl rfl rfl rfl rfl

theorem egRelease (k : Nat) : Touches W a (d.egRelease k) := by
  have h1 := (h.setReg .flt (F.FLT_EG_SLOT_A.CAUSE k).off 0 (fun _ _ => hW (flt_mem_outFlds ..))).setReg .flt (F.FLT_EG_SLOT_B.REMAIN_S k).off 0
    (fun _ _ => hW (flt_mem_outFlds ..))
  exact (h1.putSlots _ true).egCount (hW (flt_mem_outFlds ..))

theorem egSetLock (cause obj : Nat) (b : Bool) : Touches W a (d.egSetLock cause obj b) :=
  (h.setBitOf (F.FLT_EG_LOCK.BITS (lockBit cause obj).1) (lockBit cause obj).2 b (hW (flt_mem_outFlds ..)) Fld.fits).putSlots _ true

omit hW in
/-- The classes and groups of causes change, the causes stay. -/
theorem mapCauses (f : Cause → Cause) (hf : ∀ c, (f c).ev = c.ev ∧ (f c).src = c.src ∧ (f c).sub = c.sub) :
    Touches W a { d with causes := d.causes.map f } := by
  refine h.trans ⟨fun _ _ => rfl, rfl, List.prefix_rfl, rfl, fun src x hx => ?_, fun _ => ⟨rfl, id⟩⟩
  simp only [Dev.has, List.any_map, List.any_eq_true] at hx ⊢
  obtain ⟨c, hc, hx⟩ := hx
  obtain ⟨h1, h2, h3⟩ := hf c
  exact ⟨c, hc, by simpa [h1, h2, h3] using hx⟩

theorem egExpire (k how : Nat) : Touches W a (d.egExpire k how) := by
  unfold Dev.egExpire
  extract_lets cause obj src cls grp d1 d2 d3 d4 kept d5
  have h1 : Touches W a d1 := (h.egRelease hW k).egSetLock hW _ _ _
  have h2 : Touches W a d2 := h1.note' hW _ _ _ _
  have h3 : Touches W a d3 := h2.inc (F.FLT_CLASS_CNT.COUNT cls) 1 (hW (flt_mem_outFlds ..)) Fld.fits
  have h4 : Touches W a d4 := h3.mapCauses _ (fun c => by split <;> exact ⟨rfl, rfl, rfl⟩)
  have h5 : Touches W a d5 := h4.ite (h4.keep _)
  exact (h5.underGroups _ (hW (flt_mem_outFlds ..))).ite h5

end

end Touches

end Sys2Proof.Machine
end

section
-- One proof at a time: checked side by side, the later proofs wait in threads of their own, past the memory limit.
set_option Elab.async false
/-! ### What sections write -/

namespace Sys2Proof.Machine

/-- What a section's state, count and causes write beside `outFlds`: its registers SEC_STATE and SEC_CAUSE, and the maps. -/
def secFlds (i : Nat) : Set Fld :=
  outFlds ∪ {f | f.blk = .sec ∧ (f.off < 0x1000 ∨ f.off = 0x1014 + 0x40 * i ∨ f.off = 0x1018 + 0x40 * i)}

/-- The maps of the sections. -/
def mapFlds : Set Fld := {f | f.blk = .sec ∧ f.off < 0x1000}

theorem outFlds_subset_secFlds (i : Nat) : outFlds ⊆ secFlds i := fun _ => .inl

theorem mapFlds_subset_secFlds (i : Nat) : mapFlds ⊆ secFlds i := fun _ hf => .inr ⟨hf.1, .inl hf.2⟩

theorem secMap_mem {off lo w : Nat} (h : off < 0x1000 := by decide) : (⟨.sec, off, lo, w⟩ : Fld) ∈ mapFlds := ⟨rfl, h⟩

theorem secState_mem {i lo w : Nat} : (⟨.sec, 0x1014 + 0x40 * i, lo, w⟩ : Fld) ∈ secFlds i := .inr ⟨rfl, .inr (.inl rfl)⟩

theorem secCause_mem {i lo w : Nat} : (⟨.sec, 0x1018 + 0x40 * i, lo, w⟩ : Fld) ∈ secFlds i := .inr ⟨rfl, .inr (.inr rfl)⟩

/-- What an authorisation of a section writes: the record of the last reset and its counters beside what the reset itself writes. -/
def authFlds (i : Nat) : Set Fld :=
  secFlds i ∪ {f | f.blk = .sec ∧ (f.off = 0x1020 + 0x40 * i ∨ f.off = 0x1024 + 0x40 * i ∨ f.off = 0x102c + 0x40 * i)}

namespace Touches

section
variable {W : Set Fld} {a d : Dev} (h : Touches W a d)
include h

theorem modSec (i : Nat) (f : SecSt → SecSt) : Touches W a (d.modSec i f) := h.upd rfl rfl rfl rfl rfl rfl rfl

theorem putDecq (l : List Decision) : Touches W a { d with decq := l } := h.upd rfl rfl rfl rfl rfl rfl rfl

theorem decideAt (st : Stamp) (code : Nat) (src : Src) (content : List Byte) : Touches W a (d.decideAt st code src content) :=
  Touches.ite (h.putDecq _) h

theorem decide (code : Nat) (src : Src) (content : List Byte) : Touches W a (d.decide code src content) := h.decideAt _ _ _ _

theorem setMap (lo hi : Fld) (i : Nat) (b : Bool) (hlo : lo ∈ W) (hhi : hi ∈ W) (hl : lo.lo + lo.w ≤ 32) (hh : hi.lo + hi.w ≤ 32) :
    Touches W a (d.setMap lo hi i b) := Touches.ite (h.setBitOf _ _ _ hlo hl) (h.setBitOf _ _ _ hhi hh)

theorem secMaps (i : Nat) (hW : mapFlds ⊆ W) : Touches W a (d.secMaps i) := by
  unfold Dev.secMaps
  extract_lets d1 d2
  have h1 : Touches W a d1 := h.setMap _ _ _ _ (hW secMap_mem) (hW secMap_mem) Fld.fits Fld.fits
  have h2 : Touches W a d2 := h1.setMap _ _ _ _ (hW secMap_mem) (hW secMap_mem) Fld.fits Fld.fits
  exact h2.setMap _ _ _ _ (hW secMap_mem) (hW secMap_mem) Fld.fits Fld.fits

theorem secPublish (i : Nat) (hW : outFlds ⊆ W) : Touches W a (d.secPublish i) := h.kvtPublish hW _ _ _

theorem secTell (i old : Nat) (hW : outFlds ⊆ W) : Touches W a (d.secTell i old) := by
  unfold Dev.secTell
  extract_lets new d1
  have h1 : Touches W a d1 := h.raise' hW _ _ _
  exact (h1.decide _ _ _).secPublish i hW

variable (i : Nat) (hW : secFlds i ⊆ W)
include hW

theorem secTo (new : Nat) : Touches W a (d.secTo i new) := by
  unfold Dev.secTo
  extract_lets old d1
  have h1 : Touches W a d1 := (h.setFld (F.SEC_STATE.STATE i) _ (hW secState_mem) Fld.fits).setFld (F.SEC_STATE.TIMING i) _ (hW secState_mem) Fld.fits
  exact h.ite (((h1.modSec i _).secMaps i ((mapFlds_subset_secFlds i).trans hW)).secTell i _ ((outFlds_subset_secFlds i).trans hW))

theorem secDisturb (causes : Nat) : Touches W a (d.secDisturb i causes) :=
  (h.setFld (F.SEC_CAUSE.CAUSES i) _ (hW secCause_mem) Fld.fits).modSec i _

theorem secUnoffer : Touches W a (d.secUnoffer i) := (h.setFld (F.SEC_STATE.OFFERED i) _ (hW secState_mem) Fld.fits).secMaps i
  ((mapFlds_subset_secFlds i).trans hW)

theorem secSetCount (c : Int) : Touches W a (d.secSetCount i c) := by
  unfold Dev.secSetCount
  extract_lets c' d1 neg lim d2 d3
  have hout : outFlds ⊆ W := (outFlds_subset_secFlds i).trans hW
  have h1 : Touches W a d1 := h.setFld (F.SEC_STATE.COUNT i) _ (hW secState_mem) Fld.fits
  have h2 : Touches W a d2 := Touches.ite (h1.secUnoffer i hW) h1
  have h3 : Touches W a d3 :=
    Touches.ite (h2.ite ((h2.fault' hout _ _ _ _ _ _).secDisturb i hW 4)) (h2.clear (by decide) _ _)
  exact Touches.ite (h3.ite ((h3.fault' hout _ _ _ _ _ _).secDisturb i hW 8)) (h3.clear (by decide) _ _)

theorem secReset (proc : Nat) : Touches W a (d.secReset i proc) := by
  unfold Dev.secReset
  extract_lets d1 d2 d3 d4
  have h2 : Touches W a d2 := (h.secUnoffer i hW).modSec i _
  have h3 : Touches W a d3 := (h2.secSetCount i hW 0).setFld (F.SEC_STATE.PROV i) _ (hW secState_mem) Fld.fits
  have h4 : Touches W a d4 := (h3.setFld (F.SEC_STATE.ENTERED i) _ (hW secState_mem) Fld.fits).modSec i _
  exact Touches.ite (h4.secTo i hW 3) (Touches.ite (h3.secTo i hW 1) (h2.secTo i hW 1))

omit hW in
theorem secAuthorise (proc source : Nat) (auth : Bool) (origin ref : Nat) (hA : authFlds i ⊆ W) :
    Touches W a (d.secAuthorise i proc source auth origin ref).1 := by
  have hW : secFlds i ⊆ W := fun _ hf => hA (.inl hf)
  have hout : outFlds ⊆ W := (outFlds_subset_secFlds i).trans hW
  have hlast : ∀ lo w, (⟨.sec, 0x1020 + 0x40 * i, lo, w⟩ : Fld) ∈ W := fun _ _ => hA (.inr ⟨rfl, .inl rfl⟩)
  have href : ∀ lo w, (⟨.sec, 0x1024 + 0x40 * i, lo, w⟩ : Fld) ∈ W := fun _ _ => hA (.inr ⟨rfl, .inr (.inl rfl)⟩)
  have hcnt : ∀ lo w, (⟨.sec, 0x102c + 0x40 * i, lo, w⟩ : Fld) ∈ W := fun _ _ => hA (.inr ⟨rfl, .inr (.inr rfl)⟩)
  unfold Dev.secAuthorise
  extract_lets det d1 d2 d3 d4 d5 d6
  have h1 : Touches W a d1 := h.setFld (F.SEC_LAST_RESET.PROC i) _ (hlast _ _) Fld.fits
  have h2 : Touches W a d2 := h1.setFld (F.SEC_LAST_RESET.SOURCE i) _ (hlast _ _) Fld.fits
  have h3 : Touches W a d3 := h2.setBit (F.SEC_LAST_RESET.REFUSED i) _ (hlast _ _) Fld.fits
  have h4 : Touches W a d4 := h3.setFld (F.SEC_LAST_RESET.DETAIL i) _ (hlast _ _) Fld.fits
  have h5 : Touches W a d5 := h4.ite (h4.setFld (F.SEC_RESET_REF.REFERENCE i) _ (href _ _) Fld.fits)
  split
  · exact ((h5.inc (F.SEC_STAT_CNT.RESETS i) 1 (hcnt _ _) Fld.fits).raise' hout _ _ _).secReset i hW proc
  · exact (h5.inc (F.SEC_STAT_CNT.REFUSALS i) 1 (hcnt _ _) Fld.fits).raise' hout _ _ _

end

end Touches

end Sys2Proof.Machine
end

section
-- One proof at a time: checked side by side, the later proofs wait in threads of their own, past the memory limit.
set_option Elab.async false
/-! ### What heads write -/

namespace Sys2Proof.Machine

/-- What a head's record, its counting and the end of a gambit write, the sections it bounds with them. -/
def pubFlds (h : Nat) : Set Fld := outFlds ∪ {f | f.blk = .sec} ∪ {F.HED_STATE.QUEUE h, F.HED_FAULT.FLAGS h}

/-- What a cancel of the open gambit writes. -/
def cancelFlds (h : Nat) : Set Fld := pubFlds h ∪ {F.HED_STATE.GAMBIT_OPEN h, F.HED_STATE.CONFIRMED h, F.HED_STAT_CNT.CANCELS h}

/-- What a head writes that leaves service. -/
def leaveFlds (h : Nat) : Set Fld := cancelFlds h ∪ {F.HED_STATE.PATTERN h, F.HED_STATE.SINGLE h}

theorem outFlds_subset_pubFlds (h : Nat) : outFlds ⊆ pubFlds h := fun _ hf => .inl (.inl hf)

theorem pubFlds_subset_cancelFlds (h : Nat) : pubFlds h ⊆ cancelFlds h := fun _ hf => .inl hf

theorem cancelFlds_subset_leaveFlds (h : Nat) : cancelFlds h ⊆ leaveFlds h := fun _ hf => .inl hf

theorem outFlds_apart {g : Fld} (hg : g.blk = .hed ∨ g.blk = .sec) : ∀ f ∈ outFlds, f.apart g = true := by
  rintro f (hf | hf | hf | ⟨hf, -⟩) <;> exact Fld.apart_of_blk (by rcases hg with hg | hg <;> simp [hf, hg])

/-- A field of a head's own registers is none of those its records write if it lies beside the queue and the fault flags. -/
theorem pubFlds_apart {h : Nat} {g : Fld} (hb : g.blk = .hed) (hq : (F.HED_STATE.QUEUE h).apart g = true)
    (hf : (F.HED_FAULT.FLAGS h).apart g = true) : ∀ f ∈ pubFlds h, f.apart g = true := by
  rintro f ((hm | hm) | (rfl | rfl))
  · exact outFlds_apart (.inl hb) f hm
  · exact Fld.apart_of_blk (by simp [show f.blk = .sec from hm, hb])
  · exact hq
  · exact hf

theorem pubFlds_apart_open (h : Nat) : ∀ f ∈ pubFlds h, f.apart (F.HED_STATE.GAMBIT_OPEN h) = true :=
  pubFlds_apart rfl (Fld.apart_of_bits (.inr (by decide : 8 + 1 ≤ 24)))
    (Fld.apart_of_off (show 0x28 + 0x40 * h ≠ 0x24 + 0x40 * h by omega))

theorem pubFlds_apart_pattern (h : Nat) : ∀ f ∈ pubFlds h, f.apart (F.HED_STATE.PATTERN h) = true :=
  pubFlds_apart rfl (Fld.apart_of_bits (.inr (by decide : 0 + 3 ≤ 24)))
    (Fld.apart_of_off (show 0x28 + 0x40 * h ≠ 0x24 + 0x40 * h by omega))

theorem leaveFlds_apart_patterns (h : Nat) : ∀ f ∈ leaveFlds h, f.apart (F.HED_STAT_CNT.PATTERNS h) = true := by
  have hstate : ∀ lo w, (⟨.hed, 0x24 + 0x40 * h, lo, w⟩ : Fld).apart (F.HED_STAT_CNT.PATTERNS h) = true := fun _ _ =>
    Fld.apart_of_off (show 0x24 + 0x40 * h ≠ 0x3c + 0x40 * h by omega)
  rintro f ((hm | (rfl | rfl | rfl)) | (rfl | rfl))
  · exact pubFlds_apart rfl (hstate _ _) (Fld.apart_of_off (show 0x28 + 0x40 * h ≠ 0x3c + 0x40 * h by omega)) f hm
  · exact hstate _ _
  · exact hstate _ _
  · exact Fld.apart_of_bits (.inl (by decide : 8 + 8 ≤ 16))
  · exact hstate _ _
  · exact hstate _ _

theorem secFlds_subset {W : Set Fld} (i : Nat) (hout : outFlds ⊆ W) (hsec : {f : Fld | f.blk = .sec} ⊆ W) : secFlds i ⊆ W :=
  Set.union_subset hout (fun _ hf => hsec hf.1)

namespace Touches

section
variable {W : Set Fld} {a d : Dev} (h : Touches W a d)
include h

theorem setHead (n : Nat) (x : HeadSt) : Touches W a (d.setHead n x) := h.upd rfl rfl rfl rfl rfl rfl rfl

theorem modHead (n : Nat) (f : HeadSt → HeadSt) : Touches W a (d.modHead n f) := h.setHead n _

theorem putHeadq (l : List (Nat × HeadRec)) : Touches W a { d with headq := l } := h.upd rfl rfl rfl rfl rfl rfl rfl

theorem headEnqueue (n : Nat) (hq : F.HED_STATE.QUEUE n ∈ W) : Touches W a (d.headEnqueue n) :=
  (h.setFld (F.HED_STATE.QUEUE n) _ hq Fld.fits).modHead n _

theorem headFlag (n : Nat) (ev : Ev) (hf : F.HED_FAULT.FLAGS n ∈ W) : Touches W a (d.headFlag n ev) :=
  h.setBitOf (F.HED_FAULT.FLAGS n) _ _ hf Fld.fits

theorem headOutRec (n : Nat) (r : HeadRec) (hW : outFlds ⊆ W) : Touches W a (d.headOutRec n r) := by
  unfold Dev.headOutRec
  extract_lets d1 decided d2
  have h1 : Touches W a d1 := h.raise' hW _ _ _
  have h2 : Touches W a d2 := (h1.decide _ _ _).putHeadq _
  exact Touches.ite h2 (h2.kvtPublish hW _ _ _)

theorem headEndgameOver (n : Nat) (hW : outFlds ⊆ W) : Touches W a (d.headEndgameOver n) := by
  unfold Dev.headEndgameOver
  split
  · exact h.ite (h.egExpire hW _ _)
  · exact h

theorem headPub (n : Nat) (r : HeadRec) (hW : pubFlds n ⊆ W) : Touches W a (d.headPub n r).1 := by
  have hout : outFlds ⊆ W := (outFlds_subset_pubFlds n).trans hW
  have hflag : F.HED_FAULT.FLAGS n ∈ W := hW (.inr (.inr rfl))
  unfold Dev.headPub
  split
  · exact (h.headEnqueue n (hW (.inr (.inl rfl)))).headOutRec n r hout
  · split
    · exact h
    · exact ((h.headFlag n .headRecordOverrun hflag).fault' hout ..).headEndgameOver n hout

theorem secGambitEnd (n dir : Nat) (cancel : Bool) (hW : {f : Fld | f.blk = .sec} ⊆ W) : Touches W a (d.secGambitEnd n dir cancel) := by
  refine h.forL (fun i d hd => hd.forL (fun b d hd => ?_) _) _
  have hprov : Touches W a (d.setFld (F.SEC_STATE.PROV i) (d.fld (F.SEC_STATE.PROV i) - 1)) := hd.setFld (F.SEC_STATE.PROV i) _ (hW rfl) Fld.fits
  exact Touches.ite ((hprov.modSec i _).setFld (F.SEC_STATE.TIMING i) _ (hW rfl) Fld.fits) hprov

theorem secHeadLost (n : Nat) (expired : Bool) (hout : outFlds ⊆ W) (hsec : {f : Fld | f.blk = .sec} ⊆ W) :
    Touches W a (d.secHeadLost n expired) := by
  refine h.forL (fun i d hd => ?_) _
  have hdist : Touches W a (d.secDisturb i 2) := hd.secDisturb i (secFlds_subset i hout hsec) 2
  exact Touches.ite (hdist.secUnoffer i (secFlds_subset i hout hsec)) hdist

theorem headCancel (n reason : Nat) (sent : Option Stamp) (hW : cancelFlds n ⊆ W) : Touches W a (d.headCancel n reason sent) := by
  have hpub : pubFlds n ⊆ W := (pubFlds_subset_cancelFlds n).trans hW
  unfold Dev.headCancel
  extract_lets s d1 d2
  have h1 : Touches W a d1 := (h.setFld (F.HED_STATE.GAMBIT_OPEN n) _ (hW (.inr (.inl rfl))) Fld.fits).setFld (F.HED_STATE.CONFIRMED n) _
    (hW (.inr (.inr (.inl rfl)))) Fld.fits
  have h2 : Touches W a d2 := h1.inc (F.HED_STAT_CNT.CANCELS n) 1 (hW (.inr (.inr (.inr rfl)))) Fld.fits
  exact Touches.ite ((h2.headPub n _ hpub).secGambitEnd n _ _ (fun _ hf => hpub (.inl (.inr hf)))) h

theorem headLeave (n : Nat) (expired : Bool) (hW : leaveFlds n ⊆ W) : Touches W a (d.headLeave n expired) := by
  have hcan : cancelFlds n ⊆ W := (cancelFlds_subset_leaveFlds n).trans hW
  have hpub : pubFlds n ⊆ W := (pubFlds_subset_cancelFlds n).trans hcan
  unfold Dev.headLeave
  extract_lets serving d1 d2 d3 d4
  have h1 : Touches W a d1 := h.headCancel n 5 none hcan
  have h2 : Touches W a d2 := (h1.setFld (F.HED_STATE.PATTERN n) _ (hW (.inr (.inl rfl))) Fld.fits).setFld (F.HED_STATE.SINGLE n) _
    (hW (.inr (.inr rfl))) Fld.fits
  have h3 : Touches W a d3 := h2.modHead n _
  have h4 : Touches W a d4 := Touches.ite (h3.headPub n _ hpub) h3
  exact h.ite (h4.secHeadLost n _ ((outFlds_subset_pubFlds n).trans hpub) (fun _ hf => hpub (.inl (.inr hf))))

theorem headFault (n : Nat) (ev : Ev) (sub : Nat) (hW : leaveFlds n ⊆ W) : Touches W a (d.headFault n ev sub) := by
  have hcan : cancelFlds n ⊆ W := (cancelFlds_subset_leaveFlds n).trans hW
  have hpub : pubFlds n ⊆ W := (pubFlds_subset_cancelFlds n).trans hcan
  have hout : outFlds ⊆ W := (outFlds_subset_pubFlds n).trans hpub
  unfold Dev.headFault
  extract_lets d1 d2
  have h1 : Touches W a d1 := h.headCancel n 5 none hcan
  have h2 : Touches W a d2 := (h1.headFlag n ev (hpub (.inr (.inr rfl)))).fault' hout ..
  exact h.ite ((h2.headEndgameOver n hout).headLeave n _ hW)

end

end Touches

end Sys2Proof.Machine
end

section
-- One proof at a time: checked side by side, the later proofs wait in threads of their own, past the memory limit.
set_option Elab.async false
/-! ### An Endgame ends by expiry (R37, R38, R41) -/

namespace Sys2Proof.Machine

/-- Other expiry times of the slots; GLOW's copy is due. -/
def Dev.withSlots (d : Dev) (t : Tab Stamp) : Dev := { d with egExpiry := t, egDirty := true }

/-- The causes of an object's Endgame take a class and groups. -/
def Dev.reclass (d : Dev) (cause : Nat) (src : Src) (cls grp : Nat) : Dev :=
  { d with causes := d.causes.map (fun c => if c.src = src ∧ egCauseOf c.ev = cause then { c with cls := cls, groups := grp } else c) }

theorem Dev.egRelease_eq (d : Dev) (k : Nat) : d.egRelease k
    = (((d.setReg .flt (0x80 + 8 * k) 0).setReg .flt (0x84 + 8 * k) 0).withSlots (tabDel d.egExpiry k)).egCount := rfl

theorem Dev.egSetLock_eq (d : Dev) (cause obj : Nat) (b : Bool) : d.egSetLock cause obj b
    = (d.setBitOf (F.FLT_EG_LOCK.BITS (lockBit cause obj).1) (lockBit cause obj).2 b).withSlots d.egExpiry := rfl

theorem Dev.withSlots_fld (d : Dev) (t : Tab Stamp) (f : Fld) : (d.withSlots t).fld f = d.fld f := rfl

theorem Dev.withSlots_egExpiry (d : Dev) (t : Tab Stamp) : (d.withSlots t).egExpiry = t := rfl

theorem Dev.withSlots_egDirty (d : Dev) (t : Tab Stamp) : (d.withSlots t).egDirty = true := rfl

theorem Dev.withSlots_now (d : Dev) (t : Tab Stamp) : (d.withSlots t).now = d.now := rfl

/-- The device once the slot is free and its object locked. -/
def Dev.egFreed (d : Dev) (k : Nat) : Dev :=
  (d.egRelease k).egSetLock (d.fld (F.FLT_EG_SLOT_A.CAUSE k)) (d.fld (F.FLT_EG_SLOT_A.OBJECT k)) true

/-- The expiry's record is raised and its class counted; its causes take the class. -/
def Dev.egTold (d : Dev) (k cause : Nat) (src : Src) (cls grp how : Nat) : Dev :=
  ((d.note .endgameExpired (.slot k) src.enc [BitVec.ofNat 8 cause, BitVec.ofNat 8 how]).inc (F.FLT_CLASS_CNT.COUNT cls)).reclass cause src cls grp

/-- The mark ENDGAME_EXPIRED on an object none of whose causes stays. -/
def Dev.egMark (d : Dev) (cause : Nat) (src : Src) (cls how : Nat) : Dev :=
  if (d.causes.any (fun c => c.src = src && egCauseOf c.ev = cause) && (cause ≠ 1 || how = 3)) || d.has .endgameExpired src then d
  else d.keep ⟨.endgameExpired, src, 0, cls, 0⟩

theorem Dev.egExpire_eq (d : Dev) (k how : Nat) : d.egExpire k how =
    let cause := d.fld (F.FLT_EG_SLOT_A.CAUSE k)
    let src := egObject cause (d.fld (F.FLT_EG_SLOT_A.OBJECT k))
    let cls := if cause = 3 then 3 else 1
    let d := ((d.egFreed k).egTold k cause src cls (if cause = 3 then 0xFF else 0) how).egMark cause src cls how
    if cause = 3 then d.underGroups 0xFF else d := rfl

/-- What an expiry writes once its slot is free and its object locked. -/
def expireFlds : Set Fld := {f | f.blk = .evt ∨ (f.blk = .flt ∧ (f = F.FLT_STATE.F3_GROUPS ∨ (0x34 ≤ f.off ∧ f.off ≤ 0x40)))}

theorem expireFlds_apart {off lo w : Nat} (hoff : (off ≠ 0 ∧ off < 0x34) ∨ 0x40 < off) : ∀ f ∈ expireFlds, f.apart ⟨.flt, off, lo, w⟩ = true := by
  rintro f (hf | ⟨-, rfl | ⟨h1, h2⟩⟩)
  · exact Fld.apart_of_blk (by simp [hf])
  · exact Fld.apart_of_off (show 0 ≠ off by omega)
  · exact Fld.apart_of_off (show f.off ≠ off by omega)

section
variable {W : Set Fld} {a d : Dev} (h : Touches W a d)
include h

theorem Touches.withSlots (t : Tab Stamp) : Touches W a (d.withSlots t) := h.putSlots t true

theorem Touches.egMark (cause : Nat) (src : Src) (cls how : Nat) : Touches W a (d.egMark cause src cls how) := h.ite (h.keep _)

theorem Touches.egTold {k cause : Nat} {src : Src} {cls grp how : Nat} (hcls : cls ≤ 3) (hW : expireFlds ⊆ W) :
    Touches W a (d.egTold k cause src cls grp how) := by
  have hrec : recFlds 0 ⊆ W := by
    rintro f (rfl | rfl | rfl)
    · exact hW (.inr ⟨rfl, .inr ⟨by decide, by decide⟩⟩)
    · exact hW (.inl rfl)
    · exact hW (.inl rfl)
  have hinc := (h.note .endgameExpired (.slot k) src.enc [BitVec.ofNat 8 cause, BitVec.ofNat 8 how] hrec).inc (F.FLT_CLASS_CNT.COUNT cls) 1
    (hW (.inr ⟨rfl, .inr ⟨show 0x34 ≤ 0x34 + 0x4 * cls by omega, show 0x34 + 0x4 * cls ≤ 0x40 by omega⟩⟩)) Fld.fits
  exact hinc.mapCauses _ (fun c => by split <;> exact ⟨rfl, rfl, rfl⟩)

end

section
variable (d : Dev) (k how : Nat)

theorem Touches.egExpired : Touches expireFlds (d.egFreed k) (d.egExpire k how) := by
  rw [Dev.egExpire_eq]
  extract_lets cause src cls e
  have hcls : cls ≤ 3 := by simp only [cls]; split <;> decide
  have he : Touches expireFlds (d.egFreed k) e := ((Touches.refl _ _).egTold hcls subset_rfl).egMark _ _ _ _
  exact (he.underGroups _ (.inr ⟨rfl, .inl rfl⟩)).ite he

/-- What is neither a register nor a cause an expiry changes in freeing the slot and in raising its record alone. -/
theorem Dev.egExpire_kept {α : Type} (g : Dev → α) (hfld : ∀ (x : Dev) (f : Fld) (v : Nat), g (x.setFld f v) = g x)
    (hmap : ∀ (x : Dev) (cause : Nat) (src : Src) (cls grp : Nat), g (x.reclass cause src cls grp) = g x)
    (hkeep : ∀ (x : Dev) (c : Cause), g (x.keep c) = g x) :
    ∃ related detail, g (d.egExpire k how) = g ((d.egFreed k).note .endgameExpired (.slot k) related detail) := by
  rw [Dev.egExpire_eq]
  extract_lets cause src cls e
  have htold : ∀ grp, g ((d.egFreed k).egTold k cause src cls grp how)
      = g ((d.egFreed k).note .endgameExpired (.slot k) src.enc [BitVec.ofNat 8 cause, BitVec.ofNat 8 how]) := fun _ => by
    simp only [Dev.egTold, hmap, Dev.inc, hfld]
  have hmark : ∀ x : Dev, g (x.egMark cause src cls how) = g x := fun x => by
    unfold Dev.egMark
    split
    · rfl
    · exact hkeep _ _
  have he : g e = g ((d.egFreed k).note .endgameExpired (.slot k) src.enc [BitVec.ofNat 8 cause, BitVec.ofNat 8 how]) :=
    (hmark _).trans (htold _)
  refine ⟨src.enc, [BitVec.ofNat 8 cause, BitVec.ofNat 8 how], ?_⟩
  split
  · exact (hfld _ _ _).trans he
  · exact he

theorem Dev.egFreed_slots : (d.egFreed k).egExpiry = tabDel d.egExpiry k ∧ (d.egFreed k).egDirty = true ∧ (d.egFreed k).now = d.now := by
  have hrelease : (d.egRelease k).egExpiry = tabDel d.egExpiry k ∧ (d.egRelease k).now = d.now := by
    simp only [Dev.egRelease_eq, Dev.egCount, Dev.setFld_egExpiry, Dev.setFld_now, Dev.withSlots_egExpiry, Dev.withSlots_now, Dev.setReg_now,
      and_self]
  simp only [Dev.egFreed, Dev.egSetLock_eq, Dev.withSlots_egExpiry, Dev.withSlots_egDirty, Dev.withSlots_now, Dev.setBitOf, Dev.setFld_now,
    hrelease, and_self]

theorem Dev.egExpire_egExpiry : (d.egExpire k how).egExpiry = tabDel d.egExpiry k := by
  obtain ⟨related, detail, h⟩ := d.egExpire_kept k how Dev.egExpiry (fun _ _ _ => rfl) (fun _ _ _ _ _ => rfl) (fun _ _ => rfl)
  rw [h, Dev.note_egExpiry, (d.egFreed_slots k).1]

theorem Dev.egExpire_egDirty : (d.egExpire k how).egDirty = true := by
  obtain ⟨related, detail, h⟩ := d.egExpire_kept k how Dev.egDirty (fun _ _ _ => rfl) (fun _ _ _ _ _ => rfl) (fun _ _ => rfl)
  rw [h, Dev.note_egDirty, (d.egFreed_slots k).2.1]

theorem Dev.egExpire_record : ∃ r ∈ (d.egExpire k how).evq, r.ev = .endgameExpired ∧ r.src = .slot k ∧ r.stamp = d.now := by
  obtain ⟨related, detail, h⟩ := d.egExpire_kept k how Dev.evq (fun _ _ _ => rfl) (fun _ _ _ _ _ => rfl) (fun _ _ => rfl)
  rw [h, Dev.note_evq]
  exact ⟨_, List.mem_append_right _ (List.mem_singleton_self _), rfl, rfl, (d.egFreed_slots k).2.2⟩

theorem Dev.fld_setReg_zero (b : Blk) (off lo w : Nat) : (d.setReg b off 0).fld ⟨b, off, lo, w⟩ = 0 := by
  simp [Dev.fld, Dev.reg_setReg_same]

/-- Freeing the slot writes its first word once; what else it writes is apart from that. -/
theorem Touches.egFreed : Touches {f | f.blk = .flt ∧ f.off ≠ 0x80 + 8 * k} (d.setReg .flt (0x80 + 8 * k) 0) (d.egFreed k) := by
  have hlock : (lockBit (d.fld (F.FLT_EG_SLOT_A.CAUSE k)) (d.fld (F.FLT_EG_SLOT_A.OBJECT k))).1 ≤ 8 := by
    have hobj : d.fld (F.FLT_EG_SLOT_A.OBJECT k) < 2 ^ 8 := d.fld_lt _
    simp only [lockBit]
    split_ifs <;> simp only [] <;> omega
  rw [Dev.egFreed, Dev.egSetLock_eq, Dev.egRelease_eq]
  have hslot := ((Touches.refl {f | f.blk = .flt ∧ f.off ≠ 0x80 + 8 * k} (d.setReg .flt (0x80 + 8 * k) 0)).setReg .flt (0x84 + 8 * k) 0
    (fun _ _ => ⟨rfl, show 0x84 + 8 * k ≠ 0x80 + 8 * k by omega⟩)).withSlots (tabDel d.egExpiry k)
  have hcount := hslot.egCount ⟨rfl, show 0 ≠ 0x80 + 8 * k by omega⟩
  exact (hcount.setBitOf (F.FLT_EG_LOCK.BITS _) _ true ⟨rfl, show 0x28 + 0x4 * _ ≠ 0x80 + 8 * k by omega⟩ Fld.fits).withSlots _

theorem Dev.egExpire_cause : (d.egExpire k how).fld (F.FLT_EG_SLOT_A.CAUSE k) = 0 := by
  refine ((Touches.egExpired d k how).fld (F.FLT_EG_SLOT_A.CAUSE k) (expireFlds_apart (.inr (by omega)))).trans ?_
  exact ((Touches.egFreed d k).fld _ (fun f hf => Fld.apart_of_off hf.2)).trans (d.fld_setReg_zero _ _ _ _)

end

/-- A bit of a mask that is set reads as set. -/
theorem Dev.bitOf_setBitOf_true (d : Dev) (f : Fld) (i : Nat) (hf : f.lo + f.w ≤ 32) (hi : i < f.w) : (d.setBitOf f i true).bitOf f i = true := by
  simp [Dev.bitOf, Dev.setBitOf, Dev.fld_setFld_same _ _ _ hf, setMask, hi]

section
variable {d : Dev} {k how cause obj : Nat}

theorem Dev.egExpire_locked (hc : d.fld (F.FLT_EG_SLOT_A.CAUSE k) = cause)
    (ho : d.fld (F.FLT_EG_SLOT_A.OBJECT k) = obj) (h1 : cause = 1 → obj < 32) (h2 : cause = 2 → obj < 48) :
    (d.egExpire k how).egLocked cause obj = true := by
  have hlock : (lockBit cause obj).1 ≤ 2 ∧ (lockBit cause obj).2 < 32 := by
    simp only [lockBit]
    split_ifs <;> simp only [] <;> omega
  have hfreed : (d.egFreed k).bitOf (F.FLT_EG_LOCK.BITS (lockBit cause obj).1) (lockBit cause obj).2 = true := by
    rw [Dev.egFreed, Dev.egSetLock_eq, hc, ho, Dev.bitOf, Dev.withSlots_fld]
    exact (d.egRelease k).bitOf_setBitOf_true (F.FLT_EG_LOCK.BITS (lockBit cause obj).1) (lockBit cause obj).2 Fld.fits hlock.2
  have hsame := (Touches.egExpired d k how).fld (F.FLT_EG_LOCK.BITS (lockBit cause obj).1)
    (expireFlds_apart (.inl ⟨by omega, by omega⟩))
  rw [Dev.egLocked, Dev.bitOf, hsame]
  exact hfreed

theorem Dev.egExpire_groups (hc : d.fld (F.FLT_EG_SLOT_A.CAUSE k) = 3) : (d.egExpire k how).fld F.FLT_STATE.F3_GROUPS = 255 := by
  rw [Dev.egExpire_eq]
  extract_lets cause src cls e
  rw [if_pos hc]
  exact e.underGroups_all

/-- One slot whose limit has been reached expires; the table of limits holds none other then. -/
theorem Dev.egExpireDue_single {e : Stamp} (hx : d.egExpiry = [(k, e)]) (hn : d.now.reached e = true) : d.egExpireDue = d.egExpire k 1 := by
  simp [Dev.egExpireDue, forL, hx, hn]

theorem Dev.egExpireDue_none (h : ∀ e ∈ d.egExpiry, d.now.reached e.2 = false) : d.egExpireDue = d := by
  have key : ∀ l : Tab Stamp, (∀ e ∈ l, d.now.reached e.2 = false) →
      Machine.forL l (fun e d => if d.now.reached e.2 then d.egExpire e.1 1 else d) d = d := by
    intro l hl
    induction l with
    | nil => rfl
    | cons e r ih =>
      obtain ⟨he, hr⟩ := List.forall_mem_cons.1 hl
      simpa [Machine.forL, he] using ih hr
  exact key _ h

end

end Sys2Proof.Machine
end

section
-- One proof at a time: checked side by side, the later proofs wait in threads of their own, past the memory limit.
set_option Elab.async false
/-! ### Heads in time (R235, R248) -/

namespace Sys2Proof.Machine

/-- A bit that is set to 0 reads 0. -/
theorem Dev.on_setFld_zero (d : Dev) (f : Fld) (h : f.lo + f.w ≤ 32) : (d.setFld f 0).on f = false := by
  simp [Dev.on, Dev.fld_setFld_same _ _ _ h]

/-- A counter that counts up stays at its greatest value (R463). -/
theorem Dev.fld_inc (d : Dev) (f : Fld) (n : Nat) (h : f.lo + f.w ≤ 32) : (d.inc f n).fld f = min (d.fld f + n) (2 ^ f.w - 1) := by
  refine (Dev.fld_setFld_same _ _ _ h).trans (Nat.mod_eq_of_lt ?_)
  have hpos : 0 < 2 ^ f.w := Nat.two_pow_pos _
  omega

/-- A record that has been raised waits for its ring, whatever follows. -/
theorem Touches.raised {W : Set Fld} {d e : Dev} {ev : Ev} {src : Src} {pay : List Byte} (h : Touches W (d.raise ev src pay) e) :
    ∃ r ∈ e.evq, r.ev = ev ∧ r.src = src ∧ r.stamp = d.now := by
  refine ⟨⟨ev, src, d.now, padTo 20 0 pay⟩, h.mem_evq ?_, rfl, rfl, rfl⟩
  rw [Dev.raise, Dev.raiseAt_evq]
  exact List.mem_append_right _ (List.mem_singleton_self _)

section
variable (d : Dev) (h : Nat)

/-- After a cancel no gambit is open. -/
theorem Dev.headCancel_open (reason : Nat) (sent : Option Stamp) : (d.headCancel h reason sent).on (F.HED_STATE.GAMBIT_OPEN h) = false := by
  unfold Dev.headCancel
  split
  · extract_lets s d1 d2
    have hclosed : d2.on (F.HED_STATE.GAMBIT_OPEN h) = false := by
      have hrest : Touches {F.HED_STATE.CONFIRMED h, F.HED_STAT_CNT.CANCELS h} (d.setFld (F.HED_STATE.GAMBIT_OPEN h) 0) d2 :=
        ((Touches.refl _ _).setFld (F.HED_STATE.CONFIRMED h) _ (.inl rfl) Fld.fits).inc (F.HED_STAT_CNT.CANCELS h) 1 (.inr rfl) Fld.fits
      refine (hrest.on ?_).trans (d.on_setFld_zero (F.HED_STATE.GAMBIT_OPEN h) Fld.fits)
      rintro f (rfl | rfl)
      · exact Fld.apart_of_bits (.inr (by decide : 8 + 1 ≤ 9))
      · exact Fld.apart_of_off (show 0x3c + 0x40 * h ≠ 0x24 + 0x40 * h by omega)
    exact ((((Touches.refl _ d2).headPub h _ subset_rfl).secGambitEnd h _ _ (fun _ hf => .inl (.inr hf))).on (pubFlds_apart_open h)).trans hclosed
  · next hopen => simpa using hopen

/-- A head that leaves service is FAULTED. -/
theorem Dev.headLeave_pattern (expired : Bool) : (d.headLeave h expired).pattern h = 7 := by
  unfold Dev.headLeave
  split
  · assumption
  · extract_lets serving d1 d2 d3 d4
    have hset : d2.pattern h = 7 := by
      refine (Dev.fld_setFld_apart _ (F.HED_STATE.SINGLE h) _ _ Fld.fits (Fld.apart_of_bits (.inr (by decide : 0 + 3 ≤ 10)))).trans ?_
      exact Dev.fld_setFld_same _ (F.HED_STATE.PATTERN h) _ Fld.fits
    have h3 : Touches (pubFlds h) d2 d3 := (Touches.refl _ _).modHead h _
    have h4 : Touches (pubFlds h) d2 d4 := Touches.ite (h3.headPub h _ subset_rfl) h3
    exact ((h4.secHeadLost h _ (outFlds_subset_pubFlds h) (fun _ hf => .inl (.inr hf))).fld _ (pubFlds_apart_pattern h)).trans hset

/-- A head that leaves service opens no gambit. -/
theorem Dev.headLeave_open (expired : Bool) (hopen : d.on (F.HED_STATE.GAMBIT_OPEN h) = false) :
    (d.headLeave h expired).on (F.HED_STATE.GAMBIT_OPEN h) = false := by
  unfold Dev.headLeave
  split
  · exact hopen
  · extract_lets serving d1 d2 d3 d4
    have h2 : Touches ({F.HED_STATE.PATTERN h, F.HED_STATE.SINGLE h} ∪ pubFlds h) d1 d2 :=
      ((Touches.refl _ d1).setFld (F.HED_STATE.PATTERN h) _ (.inl (.inl rfl)) Fld.fits).setFld (F.HED_STATE.SINGLE h) _ (.inl (.inr rfl)) Fld.fits
    have h3 : Touches ({F.HED_STATE.PATTERN h, F.HED_STATE.SINGLE h} ∪ pubFlds h) d1 d3 := h2.modHead h _
    have h4 : Touches ({F.HED_STATE.PATTERN h, F.HED_STATE.SINGLE h} ∪ pubFlds h) d1 d4 := Touches.ite (h3.headPub h _ (fun _ => .inr)) h3
    refine ((h4.secHeadLost h _ (fun _ hf => .inr (outFlds_subset_pubFlds h hf)) (fun _ hf => .inr (.inl (.inr hf)))).on ?_).trans
      (d.headCancel_open h 5 none)
    rintro f ((rfl | rfl) | hf)
    · exact Fld.apart_of_bits (.inl (by decide : 0 + 3 ≤ 8))
    · exact Fld.apart_of_bits (.inr (by decide : 8 + 1 ≤ 10))
    · exact pubFlds_apart_open h f hf

/-! ### Faults of heads -/

/-- A fault is present once it has been raised. -/
theorem Dev.fault_has (ev : Ev) (src : Src) (sub related : Nat) (detail : List Byte) (st : Stamp) :
    (d.fault ev src sub related detail st).has ev src sub = true := by
  by_cases hp : d.has ev src sub = true
  · rw [Dev.fault_present hp, hp]
  · rw [Dev.fault_fresh (by simpa using hp), Dev.has_congr (Dev.raiseAt_causes ..)]
    exact Dev.react_has ..

/-- A head's fault that is fresh leaves it FAULTED without a gambit. -/
theorem Dev.headFault_fresh {ev : Ev} {sub : Nat} (hn : d.has ev (.head h) sub = false) :
    (d.headFault h ev sub).pattern h = 7 ∧ (d.headFault h ev sub).on (F.HED_STATE.GAMBIT_OPEN h) = false := by
  unfold Dev.headFault
  rw [if_neg (by simp [hn])]
  extract_lets d1 d2
  refine ⟨Dev.headLeave_pattern .., Dev.headLeave_open _ _ _ ?_⟩
  have h2 : Touches (pubFlds h) d1 d2 := ((Touches.refl _ d1).headFlag h ev (.inr (.inr rfl))).fault' (outFlds_subset_pubFlds h) ..
  exact ((h2.headEndgameOver h (outFlds_subset_pubFlds h)).on (pubFlds_apart_open h)).trans (d.headCancel_open h 5 none)

/-- A head that is FAULTED without a gambit stays so under a further fault. -/
theorem Dev.headFault_out {ev : Ev} {sub : Nat} (hout : d.pattern h = 7 ∧ d.on (F.HED_STATE.GAMBIT_OPEN h) = false) :
    (d.headFault h ev sub).pattern h = 7 ∧ (d.headFault h ev sub).on (F.HED_STATE.GAMBIT_OPEN h) = false := by
  by_cases hn : d.has ev (.head h) sub = true
  · rwa [Dev.headFault, if_pos hn]
  · exact d.headFault_fresh h (by simpa using hn)

/-- A system reported stuck DAMPED has the fault (R248). -/
theorem Dev.headFault_stuck (x : Nat) : (d.headFault h .headSysStuck x).has .headSysStuck (.head h) x = true := by
  unfold Dev.headFault
  split
  · assumption
  · extract_lets d1 d2
    have h2 : Touches (leaveFlds h) d2 ((d2.headEndgameOver h).headLeave h) := ((Touches.refl _ d2).headEndgameOver h
      (((outFlds_subset_pubFlds h).trans (pubFlds_subset_cancelFlds h)).trans (cancelFlds_subset_leaveFlds h))).headLeave h _ subset_rfl
    exact h2.stuck _ _ (Dev.fault_has ..)

/-- The systems of a head that are stuck have their faults, and a fault that is fresh puts the head out of service (R248). -/
theorem Dev.headFaults_stuck {stuck : Nat → Bool} {b e : Dev} (hb : b = if stuck 0 then d.headFault h .headSysStuck 0 else d)
    (he : e = if stuck 1 then b.headFault h .headSysStuck 1 else b) :
    (∀ x < 2, stuck x = true → e.has .headSysStuck (.head h) x = true)
    ∧ (∀ x < 2, stuck x = true → d.has .headSysStuck (.head h) x = false → e.pattern h = 7 ∧ e.on (F.HED_STATE.GAMBIT_OPEN h) = false) := by
  have hfirst : stuck 0 = true → d.has .headSysStuck (.head h) 0 = false → b.pattern h = 7 ∧ b.on (F.HED_STATE.GAMBIT_OPEN h) = false := by
    intro h0 hn0
    rw [hb, if_pos h0]
    exact d.headFault_fresh h hn0
  have hkeep : b.pattern h = 7 ∧ b.on (F.HED_STATE.GAMBIT_OPEN h) = false → e.pattern h = 7 ∧ e.on (F.HED_STATE.GAMBIT_OPEN h) = false := by
    intro hb7
    rw [he]
    split
    · exact b.headFault_out h hb7
    · exact hb7
  refine ⟨fun x hx hsx => ?_, fun x hx hsx hn => ?_⟩
  · obtain rfl | rfl : x = 0 ∨ x = 1 := by omega
    · have hsecond : Touches (leaveFlds h) b (b.headFault h .headSysStuck 1) := (Touches.refl _ b).headFault h _ 1 subset_rfl
      rw [he]
      refine (Touches.ite hsecond (Touches.refl _ b)).stuck _ _ ?_
      rw [hb, if_pos hsx]
      exact d.headFault_stuck h 0
    · rw [he, if_pos hsx]
      exact b.headFault_stuck h 1
  · obtain rfl | rfl : x = 0 ∨ x = 1 := by omega
    · exact hkeep (hfirst hsx hn)
    · by_cases hb1 : b.has .headSysStuck (.head h) 1 = true
      · -- then the first system's fault was fresh: nothing else has raised a cause
        by_cases h0 : stuck 0 = true ∧ d.has .headSysStuck (.head h) 0 = false
        · exact hkeep (hfirst h0.1 h0.2)
        · have hbd : b = d := by
            rw [hb]
            split
            · next hs => exact if_pos (by simpa [hs] using h0)
            · rfl
          rw [hbd, hn] at hb1
          cases hb1
      · rw [he, if_pos hsx]
        exact b.headFault_fresh h (by simpa using hb1)

/-- A strike for a pattern counts it, cancels the gambit, and leaves the head FAULTED with one record (R541). -/
theorem Dev.headStrike_pattern : (d.headStrike h .headPattern).pattern h = 7
    ∧ (d.headStrike h .headPattern).on (F.HED_STATE.GAMBIT_OPEN h) = false
    ∧ (d.headStrike h .headPattern).fld (F.HED_STAT_CNT.PATTERNS h)
      = min (d.fld (F.HED_STAT_CNT.PATTERNS h) + 1) (2 ^ (F.HED_STAT_CNT.PATTERNS h).w - 1)
    ∧ ∃ e ∈ (d.headStrike h .headPattern).evq, e.ev = .headPattern ∧ e.src = .head h ∧ e.stamp = d.now := by
  have hpub : pubFlds h ⊆ leaveFlds h := (pubFlds_subset_cancelFlds h).trans (cancelFlds_subset_leaveFlds h)
  have hout : outFlds ⊆ leaveFlds h := (outFlds_subset_pubFlds h).trans hpub
  unfold Dev.headStrike
  rw [if_pos rfl]
  extract_lets d1 d2 d3
  have h2 : Touches (leaveFlds h) d1 d2 := (Touches.refl _ d1).headCancel h 5 none (cancelFlds_subset_leaveFlds h)
  have hflag : Touches (pubFlds h) d2 (d2.headFlag h .headPattern) := (Touches.refl _ d2).headFlag h .headPattern (.inr (.inr rfl))
  have h3 : Touches (pubFlds h) d2 d3 := hflag.strike' (outFlds_subset_pubFlds h) ..
  have hover : Touches (pubFlds h) d2 (d3.headEndgameOver h) := h3.headEndgameOver h (outFlds_subset_pubFlds h)
  have hleave : Touches (leaveFlds h) d3 ((d3.headEndgameOver h).headLeave h) :=
    ((Touches.refl _ d3).headEndgameOver h hout).headLeave h _ subset_rfl
  refine ⟨Dev.headLeave_pattern .., Dev.headLeave_open _ _ _ ?_, ?_, ?_⟩
  · exact (hover.on (pubFlds_apart_open h)).trans (d1.headCancel_open h 5 none)
  · have hall : Touches (leaveFlds h) d1 ((d3.headEndgameOver h).headLeave h) := (h2.trans (h3.mono hpub)).trans hleave
    exact (hall.fld _ (leaveFlds_apart_patterns h)).trans (d.fld_inc (F.HED_STAT_CNT.PATTERNS h) 1 Fld.fits)
  · obtain ⟨e, he, hev, hsrc, hstamp⟩ := hleave.raised
    exact ⟨e, he, hev, hsrc, hstamp.trans (hflag.now.trans h2.now)⟩

/-! ### The window of a gambit, and a system that is stuck -/

/-- A gambit window that ends without a confirm leaves the head FAULTED (R235). -/
theorem Dev.windowOver_strikes : ((d.headCancel h 4).headStrike h .headPattern).pattern h = 7
    ∧ ((d.headCancel h 4).headStrike h .headPattern).on (F.HED_STATE.GAMBIT_OPEN h) = false
    ∧ ((d.headCancel h 4).headStrike h .headPattern).fld (F.HED_STAT_CNT.PATTERNS h)
      = min (2 ^ (F.HED_STAT_CNT.PATTERNS h).w - 1) (d.fld (F.HED_STAT_CNT.PATTERNS h) + 1)
    ∧ ∃ e ∈ ((d.headCancel h 4).headStrike h .headPattern).evq, e.ev = .headPattern ∧ e.src = .head h ∧ e.stamp = d.now := by
  have hcancel : Touches (leaveFlds h) d (d.headCancel h 4) := (Touches.refl _ d).headCancel h 4 none (cancelFlds_subset_leaveFlds h)
  obtain ⟨hpat, hopen, hcount, e, he, hev, hsrc, hstamp⟩ := (d.headCancel h 4).headStrike_pattern h
  rw [hcancel.fld _ (leaveFlds_apart_patterns h), Nat.min_comm] at hcount
  exact ⟨hpat, hopen, hcount, e, he, hev, hsrc, hstamp.trans hcancel.now⟩

/-- Before its end, or with nothing left to confirm, the window brings nothing. -/
theorem Dev.windowOver_idle (hn : d.pattern h ≠ 1 ∨ d.on (F.HED_STATE.GAMBIT_OPEN h) = false ∨ d.on (F.HED_STATE.CONFIRMED h) = true
    ∨ d.now.since (d.head h).gAt < d.fld (F.HED_GEOM.GAMBIT_WIN_MS h) * 1000) : d.windowOver h = d := by
  unfold Dev.windowOver
  rw [if_neg]
  simp only [Bool.and_eq_true, decide_eq_true_eq, Bool.not_eq_true', not_and, Nat.not_le]
  intro ⟨⟨⟨hpat, hopen⟩, hconf⟩, hlocal⟩
  rcases hn with hn | hn | hn | hn
  · exact absurd hpat hn
  · simp [hn] at hopen
  · simp [hn] at hconf
  · exact hn

end

end Sys2Proof.Machine
end

section
-- One proof at a time: checked side by side, the later proofs wait in threads of their own, past the memory limit.
set_option Elab.async false
/-! ### Sections in time (R261, R270, R277) -/

namespace Sys2Proof.Machine

/-! ### What sending leaves of the sections -/

section
variable (d : Dev) (p : Nat)

@[simp] theorem Dev.setKv_secs (k : KvtSt) : (d.setKv p k).secs = d.secs := by simp only [Dev.setKv, Dev.setFld_secs]

@[simp] theorem Dev.modKv_secs (f : KvtSt → KvtSt) : (d.modKv p f).secs = d.secs := Dev.setKv_secs ..

@[simp] theorem Dev.kvtEmit_secs (f : KvtFrame) : (d.kvtEmit p f).secs = d.secs := by
  unfold Dev.kvtEmit
  split
  · rfl
  · split <;> rfl

@[simp] theorem Dev.kvtFrame_secs (type : Nat) (payload : List Byte) : (d.kvtFrame p type payload).secs = d.secs := by
  simp only [Dev.kvtFrame, Dev.modKv_secs, Dev.incPair, Dev.setFld_secs, Dev.kvtEmit_secs]

@[simp] theorem Dev.kvtLose_secs (reason : Nat) : (d.kvtLose p reason).secs = d.secs := by
  simp only [Dev.kvtLose, Dev.note_secs, Dev.setKv_secs, Dev.inc, Dev.setFld_secs]

@[simp] theorem Dev.kvtSend_secs (type : Nat) (payload : List Byte) : (d.kvtSend p type payload).secs = d.secs := by
  unfold Dev.kvtSend
  dsimp only
  split_ifs
  · rfl
  · exact Dev.kvtFrame_secs ..
  · exact Dev.setKv_secs ..
  · exact Dev.kvtLose_secs ..

@[simp] theorem Dev.kvtPublish_secs (sel : Nat → Bool) (type : Nat) (payload : List Byte) : (d.kvtPublish sel type payload).secs = d.secs := by
  refine List.foldlRecOn (motive := fun e : Dev => e.secs = d.secs) _ _ rfl (fun e he q _ => ?_)
  dsimp only
  split
  · exact (Dev.kvtSend_secs ..).trans he
  · exact he

@[simp] theorem Dev.decide_secs (code : Nat) (src : Src) (content : List Byte) : (d.decide code src content).secs = d.secs := by
  unfold Dev.decide Dev.decideAt
  split <;> rfl

@[simp] theorem Dev.secTell_secs (i old : Nat) : (d.secTell i old).secs = d.secs := by
  simp only [Dev.secTell, Dev.secPublish, Dev.kvtPublish_secs, Dev.decide_secs, Dev.raise_secs]

@[simp] theorem Dev.setMap_secs (lo hi : Fld) (i : Nat) (b : Bool) : (d.setMap lo hi i b).secs = d.secs := by
  unfold Dev.setMap
  split <;> rfl

@[simp] theorem Dev.secMaps_secs (i : Nat) : (d.secMaps i).secs = d.secs := by
  simp only [Dev.secMaps, Dev.setMap_secs]

end

/-! ### A section takes another state -/

/-- A field of a section's own registers is none of the maps. -/
theorem mapFlds_apart {off lo w : Nat} (h : 0x1000 ≤ off) : ∀ f ∈ mapFlds, f.apart ⟨.sec, off, lo, w⟩ = true :=
  fun _ hf => Fld.apart_of_off (by have := hf.2; dsimp only; omega)

/-- The registers and maps of a section that takes a state, before it tells so. -/
def Dev.secSet (d : Dev) (i new : Nat) : Dev :=
  (((d.setFld (F.SEC_STATE.STATE i) new).setFld (F.SEC_STATE.TIMING i) 0).modSec i (fun s => { s with start := none })).secMaps i

theorem Dev.secTo_eq {d : Dev} {i new : Nat} (h : d.secState i ≠ new) : d.secTo i new = (d.secSet i new).secTell i (d.secState i) := if_neg h

theorem Dev.secSet_fld (d : Dev) (i new lo w : Nat) : (d.secSet i new).fld ⟨.sec, 0x1014 + 0x40 * i, lo, w⟩
    = ((d.setFld (F.SEC_STATE.STATE i) new).setFld (F.SEC_STATE.TIMING i) 0).fld ⟨.sec, 0x1014 + 0x40 * i, lo, w⟩ :=
  (((Touches.refl mapFlds _).modSec i _).secMaps i subset_rfl).fld _ (mapFlds_apart (by omega))

theorem Dev.secSet_now (d : Dev) (i new : Nat) : (d.secSet i new).now = d.now :=
  (((Touches.refl mapFlds ((d.setFld (F.SEC_STATE.STATE i) new).setFld (F.SEC_STATE.TIMING i) 0)).modSec i _).secMaps i subset_rfl).now

/-- A section that takes another state stops its timer and raises SEC_STATE (R263). -/
theorem Dev.secTo_takes {d : Dev} {i new : Nat} (h : d.secState i ≠ new) (hn : new < 8) : (d.secTo i new).secState i = new
    ∧ ((d.secTo i new).sec i).start = none ∧ (d.secTo i new).fld (F.SEC_STATE.TIMING i) = 0
    ∧ ∃ e ∈ (d.secTo i new).evq, e.ev = .secState ∧ e.src = .sec i ∧ e.stamp = d.now := by
  rw [Dev.secTo_eq h]
  have htell : Touches outFlds (d.secSet i new) ((d.secSet i new).secTell i (d.secState i)) := (Touches.refl _ _).secTell i _ subset_rfl
  have hfld : ∀ lo w, ((d.secSet i new).secTell i (d.secState i)).fld ⟨.sec, 0x1014 + 0x40 * i, lo, w⟩
      = ((d.setFld (F.SEC_STATE.STATE i) new).setFld (F.SEC_STATE.TIMING i) 0).fld ⟨.sec, 0x1014 + 0x40 * i, lo, w⟩ :=
    fun lo w => (htell.fld _ (outFlds_apart (.inr rfl))).trans (d.secSet_fld ..)
  refine ⟨(hfld 0 3).trans ?_, ?_, (hfld 6 1).trans ?_, ?_⟩
  · refine (Dev.fld_setFld_apart _ (F.SEC_STATE.TIMING i) _ _ Fld.fits (Fld.apart_of_bits (.inr (by decide : 0 + 3 ≤ 6)))).trans ?_
    exact (Dev.fld_setFld_same _ (F.SEC_STATE.STATE i) _ Fld.fits).trans (Nat.mod_eq_of_lt hn)
  · simp only [Dev.sec, Dev.secTell_secs, Dev.secSet, Dev.secMaps_secs, Dev.modSec, tabMod, tabGet_tabPut_same]
  · exact (Dev.fld_setFld_same _ (F.SEC_STATE.TIMING i) _ Fld.fits).trans (Nat.zero_mod _)
  · have hraised : Touches outFlds ((d.secSet i new).raise .secState (.sec i)
        (secPayload (d.secSet i new) leBytes i ((d.secSet i new).secState i) (d.secState i))) ((d.secSet i new).secTell i (d.secState i)) :=
      ((Touches.refl _ _).decide _ _ _).secPublish i subset_rfl
    obtain ⟨e, he, hev, hsrc, hstamp⟩ := hraised.raised
    exact ⟨e, he, hev, hsrc, hstamp.trans (d.secSet_now i new)⟩

/-- A section that waits and is confirmed clears (R261, R274). -/
theorem Dev.secConfirm_clears {d : Dev} {i : Nat} (he : d.secEnabled i = true) (hw : d.secWaits i = true) (hr : d.secReady i = true)
    (hc : d.secConfirmed i = true) (hn : d.secCauses i = 0) :
    (d.secConfirm i).secState i = (if d.on (F.SEC_STATE.IN_SCOPE i) then 4 else 0) ∧ ((d.secConfirm i).sec i).start = none
    ∧ (d.secConfirm i).fld (F.SEC_STATE.TIMING i) = 0
    ∧ ∃ e ∈ (d.secConfirm i).evq, e.ev = .secState ∧ e.src = .sec i ∧ e.stamp = d.now := by
  have heq : d.secConfirm i = d.secTo i (if d.on (F.SEC_STATE.IN_SCOPE i) then 4 else 0) := by simp [Dev.secConfirm, Dev.secClear, *]
  have hold : d.secState i = 1 ∨ d.secState i = 3 := by
    simp only [Dev.secWaits, Bool.or_eq_true, decide_eq_true_eq, Bool.and_eq_true] at hw
    exact hw.imp_right And.left
  rw [heq]
  refine Dev.secTo_takes ?_ ?_
  · split <;> omega
  · split <;> decide

/-- A section that is not due to clear stays as it is. -/
theorem Dev.secConfirm_idle {d : Dev} {i : Nat} (h : d.secEnabled i = false ∨ d.secWaits i = false ∨ d.secReady i = false
    ∨ d.secConfirmed i = false ∨ d.secCauses i ≠ 0) : d.secConfirm i = d := by
  refine if_neg ?_
  rcases h with h | h | h | h | h <;> simp [h]

/-! ### The sweep's timeout -/

theorem Dev.modSec_fld (d : Dev) (i : Nat) (f : SecSt → SecSt) (g : Fld) : (d.modSec i f).fld g = d.fld g := rfl

/-- Causes that disturb a section stand in its CAUSES, and it falls when it is next evaluated (R260). -/
theorem Dev.secDisturb_effect (d : Dev) (i causes : Nat) : ((d.secDisturb i causes).sec i).fall = true
    ∧ (d.secDisturb i causes).fld (F.SEC_CAUSE.CAUSES i) = (d.fld (F.SEC_CAUSE.CAUSES i) ||| causes) % 2 ^ 9 := by
  constructor
  · simp only [Dev.secDisturb, Dev.sec, Dev.modSec, tabMod, tabGet_tabPut_same]
  · rw [Dev.secDisturb, Dev.modSec_fld]
    exact Dev.fld_setFld_same _ (F.SEC_CAUSE.CAUSES i) _ Fld.fits

/-- A sweep that is not entered in time disturbs its section with a record (R270). -/
theorem Dev.secSweepTimeout_late {d : Dev} {i : Nat} (he : d.secEnabled i = true) (hs : d.secState i = 3)
    (hn : d.on (F.SEC_STATE.ENTERED i) = false) (hl : d.fld (F.SEC_RESET.SWEEP_TIMEOUT_S i) ≠ 0)
    (ht : d.fld (F.SEC_RESET.SWEEP_TIMEOUT_S i) * 1000000 ≤ d.now.since (d.sec i).prepared) :
    ((d.secSweepTimeout i).sec i).fall = true ∧ ((d.secSweepTimeout i).fld (F.SEC_CAUSE.CAUSES i)).testBit 5 = true
    ∧ ∃ e ∈ (d.secSweepTimeout i).evq, e.ev = .secSweepTimeout ∧ e.src = .sec i ∧ e.stamp = d.now := by
  have heq : d.secSweepTimeout i = (d.strike .secSweepTimeout (.sec i) 0 (leBytes 2 (unsgn 16 (d.secCount i)))).secDisturb i 32 := by
    simp [Dev.secSweepTimeout, *]
  rw [heq]
  obtain ⟨hfall, hcauses⟩ := (d.strike .secSweepTimeout (.sec i) 0 (leBytes 2 (unsgn 16 (d.secCount i)))).secDisturb_effect i 32
  refine ⟨hfall, ?_, ((Touches.refl (secFlds i) _).secDisturb i subset_rfl 32).raised⟩
  rw [hcauses, Nat.testBit_mod_two_pow, Nat.testBit_or, show Nat.testBit 32 5 = true by decide, Bool.or_true]
  rfl

theorem Dev.secSweepTimeout_idle {d : Dev} {i : Nat} (h : d.secEnabled i = false ∨ d.secState i ≠ 3 ∨ d.on (F.SEC_STATE.ENTERED i) = true
    ∨ d.fld (F.SEC_RESET.SWEEP_TIMEOUT_S i) = 0 ∨ d.now.since (d.sec i).prepared < d.fld (F.SEC_RESET.SWEEP_TIMEOUT_S i) * 1000000) :
    d.secSweepTimeout i = d := by
  refine if_neg ?_
  rcases h with h | h | h | h | h
  case inr.inr.inr.inr => simp [Nat.not_le.2 h]
  all_goals simp [h]

end Sys2Proof.Machine
end

section
-- One proof at a time: checked side by side, the later proofs wait in threads of their own, past the memory limit.
set_option Elab.async false
/-! ### A panel's authorisations (R277), and the timers of heads and sections -/

namespace Sys2Proof.Machine

/-- A section's record of its last reset is written by its own authorisations alone. -/
theorem authFlds_apart_last {i j : Nat} (h : j ≠ i) (lo w : Nat) : ∀ f ∈ authFlds j, f.apart ⟨.sec, 0x1020 + 0x40 * i, lo, w⟩ = true := by
  rintro f ((hf | ⟨-, hf⟩) | ⟨-, hf⟩)
  · exact outFlds_apart (.inr rfl) f hf
  · exact Fld.apart_of_off (show f.off ≠ 0x1020 + 0x40 * i by omega)
  · exact Fld.apart_of_off (show f.off ≠ 0x1020 + 0x40 * i by omega)

/-- No authorisation writes what the image permits of resets. -/
theorem authFlds_apart_permit (i j lo w : Nat) : ∀ f ∈ authFlds j, f.apart ⟨.sec, 0x100c + 0x40 * i, lo, w⟩ = true := by
  rintro f ((hf | ⟨-, hf⟩) | ⟨-, hf⟩)
  · exact outFlds_apart (.inr rfl) f hf
  · exact Fld.apart_of_off (show f.off ≠ 0x100c + 0x40 * i by omega)
  · exact Fld.apart_of_off (show f.off ≠ 0x100c + 0x40 * i by omega)

/-- What an authorisation writes once its procedure and source stand in SEC_LAST_RESET. -/
def judgeFlds (i : Nat) : Set Fld :=
  secFlds i ∪ {f | f.blk = .sec ∧ ((f.off = 0x1020 + 0x40 * i ∧ 4 ≤ f.lo) ∨ f.off = 0x1024 + 0x40 * i ∨ f.off = 0x102c + 0x40 * i)}

theorem judgeFlds_apart {i lo w : Nat} (h : lo + w ≤ 4) : ∀ f ∈ judgeFlds i, f.apart ⟨.sec, 0x1020 + 0x40 * i, lo, w⟩ = true := by
  rintro f ((hf | ⟨-, hf⟩) | ⟨-, ⟨-, hf⟩ | hf⟩)
  · exact outFlds_apart (.inr rfl) f hf
  · exact Fld.apart_of_off (show f.off ≠ 0x1020 + 0x40 * i by omega)
  · exact Fld.apart_of_bits (.inr (show lo + w ≤ f.lo by omega))
  · exact Fld.apart_of_off (show f.off ≠ 0x1020 + 0x40 * i by omega)

/-- An authorisation stands in SEC_LAST_RESET, and one record says how it was judged (R265). -/
theorem Dev.secAuthorise_last (d : Dev) (i proc source : Nat) (auth : Bool) (origin ref : Nat) :
    (d.secAuthorise i proc source auth origin ref).1.fld (F.SEC_LAST_RESET.PROC i) = proc % 2 ^ 2
    ∧ (d.secAuthorise i proc source auth origin ref).1.fld (F.SEC_LAST_RESET.SOURCE i) = source % 2 ^ 2
    ∧ ∃ e ∈ (d.secAuthorise i proc source auth origin ref).1.evq, (e.ev = .secResetDone ∨ e.ev = .secResetRefused) ∧ e.src = .sec i
      ∧ e.stamp = d.now := by
  unfold Dev.secAuthorise
  extract_lets det d1 d2 d3 d4 d5 d6
  have hproc : d2.fld (F.SEC_LAST_RESET.PROC i) = proc % 2 ^ 2 :=
    (Dev.fld_setFld_apart _ (F.SEC_LAST_RESET.SOURCE i) _ _ Fld.fits (Fld.apart_of_bits (.inr (by decide : 0 + 2 ≤ 2)))).trans
      (Dev.fld_setFld_same _ (F.SEC_LAST_RESET.PROC i) _ Fld.fits)
  have hsource : d2.fld (F.SEC_LAST_RESET.SOURCE i) = source % 2 ^ 2 := Dev.fld_setFld_same _ (F.SEC_LAST_RESET.SOURCE i) _ Fld.fits
  have h4 : Touches (judgeFlds i) d2 d4 := ((Touches.refl _ d2).setBit (F.SEC_LAST_RESET.REFUSED i) _
    (.inr ⟨rfl, .inl ⟨rfl, Nat.le_refl 4⟩⟩) Fld.fits).setFld (F.SEC_LAST_RESET.DETAIL i) _ (.inr ⟨rfl, .inl ⟨rfl, show 4 ≤ 8 by decide⟩⟩) Fld.fits
  have h5 : Touches (judgeFlds i) d2 d5 := h4.ite (h4.setFld (F.SEC_RESET_REF.REFERENCE i) _ (.inr ⟨rfl, .inr (.inl rfl)⟩) Fld.fits)
  have hsec : secFlds i ⊆ judgeFlds i := fun _ => .inl
  have hout : outFlds ⊆ judgeFlds i := (outFlds_subset_secFlds i).trans hsec
  split
  · have hcount : Touches (judgeFlds i) d2 (d5.inc (F.SEC_STAT_CNT.RESETS i)) :=
      h5.inc (F.SEC_STAT_CNT.RESETS i) 1 (.inr ⟨rfl, .inr (.inr rfl)⟩) Fld.fits
    have hreset : Touches (judgeFlds i) d6 (d6.secReset i proc) := (Touches.refl _ d6).secReset i hsec proc
    have hall : Touches (judgeFlds i) d2 (d6.secReset i proc) := (hcount.raise' hout ..).trans hreset
    obtain ⟨e, he, hev, hsrc, hstamp⟩ := hreset.raised
    exact ⟨(hall.fld _ (judgeFlds_apart (by decide))).trans hproc, (hall.fld _ (judgeFlds_apart (by decide))).trans hsource,
      e, he, .inl hev, hsrc, hstamp.trans hcount.now⟩
  · have hcount : Touches (judgeFlds i) d2 (d5.inc (F.SEC_STAT_CNT.REFUSALS i)) :=
      h5.inc (F.SEC_STAT_CNT.REFUSALS i) 1 (.inr ⟨rfl, .inr (.inr rfl)⟩) Fld.fits
    have hall := hcount.raise' hout .secResetRefused (.sec i) (payR proc det origin ref)
    obtain ⟨e, he, hev, hsrc, hstamp⟩ := (Touches.refl (judgeFlds i) ((d5.inc (F.SEC_STAT_CNT.REFUSALS i)).raise .secResetRefused (.sec i)
      (payR proc det origin ref))).raised
    exact ⟨(hall.fld _ (judgeFlds_apart (by decide))).trans hproc, (hall.fld _ (judgeFlds_apart (by decide))).trans hsource,
      e, he, .inr hev, hsrc, hstamp.trans hcount.now⟩

/-- The sections that take a panel's authorisation. -/
def Dev.panelSecs (d : Dev) (f : Nat) : List Nat :=
  (List.range 64).filter (fun i => d.on (F.SEC_RESET.AUTH_PANEL i) && d.fld (F.SEC_RESET.PANEL_FB i) = f)

/-- A section judges a panel's authorisation. -/
def panelJudge (i : Nat) (d : Dev) : Dev := (d.secAuthorise i (d.fld (F.SEC_RESET.PANEL_PROC i)) 1 true 0x81 0).1

/-- Each section of a list judges the panel's authorisation once, by its own procedure. -/
theorem forL_panelJudge {d : Dev} {i : Nat} {l : List Nat} (hl : l.Nodup) (hi : i ∈ l) :
    (forL l panelJudge d).fld (F.SEC_LAST_RESET.SOURCE i) = 1
    ∧ (forL l panelJudge d).fld (F.SEC_LAST_RESET.PROC i) = d.fld (F.SEC_RESET.PANEL_PROC i)
    ∧ ∃ e ∈ (forL l panelJudge d).evq, (e.ev = .secResetDone ∨ e.ev = .secResetRefused) ∧ e.src = .sec i ∧ e.stamp = d.now := by
  obtain ⟨before, after, rfl⟩ := List.append_of_mem hi
  obtain ⟨-, hnodup, -⟩ := List.nodup_append.1 hl
  have hafter : ∀ j ∈ after, j ≠ i := fun j hj hji => (List.nodup_cons.1 hnodup).1 (hji ▸ hj)
  have hsplit : forL (before ++ i :: after) panelJudge d = forL after panelJudge (panelJudge i (forL before panelJudge d)) := by
    simp [forL]
  generalize hb : forL before panelJudge d = b at hsplit
  have hbefore : Touches {f | f.apart (F.SEC_RESET.PANEL_PROC i) = true} d b :=
    hb ▸ (Touches.refl _ d).forL (fun j _ hd => hd.secAuthorise j _ _ _ _ _ (authFlds_apart_permit i j 12 2)) before
  have hrest : Touches {f | f.apart (F.SEC_LAST_RESET.SOURCE i) = true ∧ f.apart (F.SEC_LAST_RESET.PROC i) = true} (panelJudge i b)
      (forL after panelJudge (panelJudge i b)) :=
    List.foldlRecOn (motive := fun x => Touches _ (panelJudge i b) x) _ _ (Touches.refl _ _) (fun x hx j hj => hx.secAuthorise j _ _ _ _ _
      (fun f hf => ⟨authFlds_apart_last (hafter j hj) 2 2 f hf, authFlds_apart_last (hafter j hj) 0 2 f hf⟩))
  obtain ⟨hproc, hsource, e, he, hev, hsrc, hstamp⟩ := b.secAuthorise_last i (b.fld (F.SEC_RESET.PANEL_PROC i)) 1 true 0x81 0
  have hlt : b.fld (F.SEC_RESET.PANEL_PROC i) < 2 ^ 2 := b.fld_lt _
  have hown : (panelJudge i b).fld (F.SEC_LAST_RESET.PROC i) = d.fld (F.SEC_RESET.PANEL_PROC i) :=
    (hproc.trans (Nat.mod_eq_of_lt hlt)).trans (hbefore.fld _ (fun _ hf => hf))
  rw [hsplit]
  exact ⟨(hrest.fld _ (fun _ hf => hf.1)).trans hsource, (hrest.fld _ (fun _ hf => hf.2)).trans hown,
    e, hrest.mem_evq he, hev, hsrc, hstamp.trans hbefore.now⟩

theorem forL_panelJudge_fbs (d : Dev) (l : List Nat) : (forL l panelJudge d).fbs = d.fbs :=
  ((Touches.refl Set.univ d).forL (fun j _ hd => hd.secAuthorise j _ _ _ _ _ (Set.subset_univ _)) l).fbs

theorem Dev.modFb_auth (d : Dev) (f : Nat) : ((d.modFb f (fun y => { y with auth := none })).fb f).auth = none := by
  simp [Dev.modFb, Dev.fb, tabMod]

theorem Dev.panelAuthorise_due {d : Dev} {f : Nat} {x : Stamp} (hx : (d.fb f).auth = some x) (ht : d.now.later x = true) :
    d.panelAuthorise f = forL ((d.modFb f (fun y => { y with auth := none })).panelSecs f) panelJudge
      (d.modFb f (fun y => { y with auth := none })) := by
  unfold Dev.panelAuthorise
  simp only [hx, ht, if_true]
  rfl

theorem Dev.panelAuthorise_idle {d : Dev} {f : Nat} (h : ∀ x, (d.fb f).auth = some x → d.now.later x = false) : d.panelAuthorise f = d := by
  unfold Dev.panelAuthorise
  split
  · next x hx => simp [h x hx]
  · rfl

/-! ### The timers judged only while the engines evaluate -/

theorem Dev.whileEvaluating_true {d : Dev} (f : Dev → Dev) (h : d.evaluating = true) : Dev.whileEvaluating f d = f d := if_pos h

theorem Dev.whileEvaluating_idle {d : Dev} {f : Dev → Dev} (h : d.evaluating = false ∨ f d = d) : Dev.whileEvaluating f d = d := by
  unfold Dev.whileEvaluating
  split
  · next he => exact h.resolve_left (by simp [he])
  · rfl

/-- A command whose effect waits for the evaluation, where that is nothing, turns nothing. -/
theorem turns_idle {s : State} {t : Stamp} {ns : Nat} {a : Dev} (h : At s t ns a) {f : Dev → Dev} (hf : a.evaluating = false ∨ f a = a) :
    Turns (.next (s.runDev t ns (Dev.whileEvaluating f))) s [] a a :=
  turns_runDev h (Dev.whileEvaluating_idle hf) (sameRegsBut.refl _ _)

theorem does_evaluating {s : State} {t : Stamp} {ns : Nat} {a d : Dev} (h : At s t ns a) {f : Dev → Dev} (he : a.evaluating = true) (hf : f a = d) :
    Does (.next (s.runDev t ns (Dev.whileEvaluating f))) { s with dev := d } :=
  does_runDev h ((Dev.whileEvaluating_true f he).trans hf)

/-- GAMBIT_WINDOW_EXPIRY: the head waits for the records of the window's last stamp, then is FAULTED (R235, R246). -/
theorem gambitWindow {s : State} {t : Stamp} {a : Dev} (ha : At s t 0 a) (h : Fin 32) {win past : Nat}
    (hwin : win = a.fld (F.HED_GEOM.GAMBIT_WIN_MS h.val) * 1000) (hpast : past = a.now.since (a.head h.val).gAt) :
    ((a.evaluating = false ∨ a.headEnabled h.val = false ∨ past < win) → Turns (exec (.gambitWindowExpiry t h) s) s [] a a)
    ∧ (a.evaluating = true → a.headEnabled h.val = true → past = win → (a.head h.val).seen ≠ some a.now →
      Turns (exec (.gambitWindowExpiry t h) s) s [] a (a.modHead h.val (fun x => { x with winOver := true })))
    ∧ ((a.pattern h.val ≠ 1 ∨ a.on (F.HED_STATE.GAMBIT_OPEN h.val) = false ∨ a.on (F.HED_STATE.CONFIRMED h.val) = true) →
        (past ≠ win ∨ (a.head h.val).seen = some a.now) → Turns (exec (.gambitWindowExpiry t h) s) s [] a a)
    ∧ (a.evaluating = true → a.headEnabled h.val = true → a.pattern h.val = 1 → a.on (F.HED_STATE.GAMBIT_OPEN h.val) = true →
        a.on (F.HED_STATE.CONFIRMED h.val) = false → win ≤ past → (past ≠ win ∨ (a.head h.val).seen = some a.now) → ∃ d,
      Does (exec (.gambitWindowExpiry t h) s) { s with dev := d } ∧ d = (a.headCancel h.val 4).headStrike h.val .headPattern
      ∧ d.pattern h.val = 7 ∧ d.on (F.HED_STATE.GAMBIT_OPEN h.val) = false
      ∧ d.fld (F.HED_STAT_CNT.PATTERNS h.val) = min (2 ^ (F.HED_STAT_CNT.PATTERNS h.val).w - 1) (a.fld (F.HED_STAT_CNT.PATTERNS h.val) + 1)
      ∧ ∃ e ∈ d.evq, e.ev = .headPattern ∧ e.src = .head h.val ∧ e.stamp = a.now) := by
  subst hwin hpast
  have hidle : a.headEnabled h.val = false → a.gambitTimeout h.val = a := fun hx => if_pos (by simp [hx])
  have hover : (a.now.since (a.head h.val).gAt ≠ a.fld (F.HED_GEOM.GAMBIT_WIN_MS h.val) * 1000 ∨ (a.head h.val).seen = some a.now) →
      a.headEnabled h.val = true → a.gambitTimeout h.val = a.windowOver h.val := by
    intro hx he
    unfold Dev.gambitTimeout
    rw [if_neg (by simp [he]), if_neg]
    rcases hx with hx | hx <;> simp [hx]
  refine ⟨fun hx => turns_idle ha ?_, fun he hen hp hs => ?_, fun hx hp => turns_idle ha (.inr ?_), fun he hen h1 h2 h3 hle hp => ?_⟩
  · refine hx.imp_right (fun hx => ?_)
    by_cases hen : a.headEnabled h.val = true
    · have hlt := hx.resolve_left (by simp [hen])
      rw [hover (.inl hlt.ne) hen, a.windowOver_idle h.val (.inr (.inr (.inr hlt)))]
    · exact hidle (by simpa using hen)
  · refine ⟨does_evaluating ha he ?_, sameRegsBut_of_regs rfl rfl⟩
    unfold Dev.gambitTimeout
    rw [if_neg (by simp [hen]), if_pos (by simp [hp, hs])]
  · by_cases hen : a.headEnabled h.val = true
    · rw [hover hp hen, a.windowOver_idle h.val (by tauto)]
    · exact hidle (by simpa using hen)
  · have hdue : a.windowOver h.val = (a.headCancel h.val 4).headStrike h.val .headPattern := by
      have hlocal : remote h.val = false := by simp [remote]
      simp [Dev.windowOver, h1, h2, h3, hle, hlocal]
    exact ⟨_, does_evaluating ha he ((hover hp hen).trans hdue), rfl, a.windowOver_strikes h.val⟩

/-- HEAD_SYS_STUCK: each healthy system that has been DAMPED for T_STUCK has its fault (R248). -/
theorem stuckSystems {s : State} {t : Stamp} {a : Dev} (ha : At s t 0 a) (h : Fin 32) {stuck : Nat → Bool}
    (hs : stuck = (fun x => ((a.head h.val).sys x).st = 1
      && a.fld (F.HED_LIMIT.T_STUCK h.val) * 1000000 ≤ a.now.since ((a.head h.val).sys x).dampedAt
      && !a.sysFaulty h.val x && !a.sysHeld h.val x)) :
    ((a.evaluating = false ∨ a.headEnabled h.val = false ∨ (stuck 0 = false ∧ stuck 1 = false)) →
      Turns (exec (.headSysStuck t h) s) s [] a a)
    ∧ (∀ b d : Dev, a.evaluating = true → a.headEnabled h.val = true → b = (if stuck 0 then a.headFault h.val .headSysStuck 0 else a) →
      d = (if stuck 1 then b.headFault h.val .headSysStuck 1 else b) → Does (exec (.headSysStuck t h) s) { s with dev := d }
      ∧ (∀ x < 2, stuck x = true → d.has .headSysStuck (.head h.val) x = true)
      ∧ (∀ x < 2, stuck x = true → a.has .headSysStuck (.head h.val) x = false → d.pattern h.val = 7
        ∧ d.on (F.HED_STATE.GAMBIT_OPEN h.val) = false)) := by
  have heq : a.headStuck h.val = if a.headEnabled h.val then
      (if stuck 1 then (if stuck 0 then a.headFault h.val .headSysStuck 0 else a).headFault h.val .headSysStuck 1
        else if stuck 0 then a.headFault h.val .headSysStuck 0 else a) else a := by
    have hlocal : remote h.val = false := by simp [remote]
    subst hs
    simp only [Dev.headStuck, hlocal, Bool.not_false, Bool.and_true]
  refine ⟨fun hx => turns_idle ha (hx.imp_right (fun hx => ?_)), fun b d he hen hb hd =>
    ⟨does_evaluating ha he ?_, a.headFaults_stuck h.val hb hd⟩⟩
  · rw [heq]
    rcases hx with hx | ⟨h0, h1⟩
    · simp [hx]
    · simp [h0, h1]
  · rw [heq, if_pos hen, hd, hb]

/-- Settles O48: each timer's row acts only while the engines evaluate and once its time has come, and does then what the head, the slot or the
section does by itself. -/
theorem headAndSectionTimers : Obligations.HeadAndSectionTimers := by
  unfold Obligations.HeadAndSectionTimers
  refine ⟨fun s t a ha => ⟨fun h => ⟨fun win past hwin hpast => gambitWindow ha h hwin hpast, fun stuck hs => stuckSystems ha h hs⟩,
    fun hn => turns_runDev ha (Dev.egExpireDue_none hn) (sameRegsBut.refl _ _), ?_, fun i => ⟨?_, ?_, ?_⟩, fun f => ⟨?_, ?_⟩⟩, ?_⟩
  · intro k e cause obj hx hn _ hc ho _ _ h1 h2
    refine ⟨_, does_runDev ha (Dev.egExpireDue_single hx hn), rfl, ?_, Dev.egExpire_cause _ _ _, Dev.egExpire_locked hc ho h1 h2,
      Dev.egExpire_record _ _ _⟩
    simp [Dev.egExpire_egExpiry, hx, tabDel]
  · exact fun hx => turns_idle ha (hx.imp_right Dev.secConfirm_idle)
  · intro he hen hw hr hc hn
    exact ⟨_, does_evaluating ha he rfl, Dev.secConfirm_clears hen hw hr hc hn⟩
  · rintro lim rfl
    refine ⟨fun hx => turns_idle ha (hx.imp_right Dev.secSweepTimeout_idle), fun he hen hs hn hl ht => ?_⟩
    exact ⟨_, does_evaluating ha he rfl, Dev.secSweepTimeout_late hen hs hn hl ht⟩
  · exact fun hx => turns_idle ha (hx.imp_right Dev.panelAuthorise_idle)
  · rintro x b he hx hl rfl
    refine ⟨_, does_evaluating ha he (Dev.panelAuthorise_due hx hl), rfl, ?_, fun i hp hf => ?_⟩
    · simpa only [Dev.fb, forL_panelJudge_fbs] using a.modFb_auth f.val
    · have hmem : i.val ∈ (a.modFb f.val (fun y => { y with auth := none })).panelSecs f.val :=
        List.mem_filter.2 ⟨List.mem_range.2 i.isLt, by simpa using ⟨hp, hf⟩⟩
      exact forL_panelJudge (List.nodup_range.filter _) hmem
  · rintro d e k how cause obj _ hc ho _ _ h1 h2 rfl
    refine ⟨d.egExpire_cause k how, Dev.egExpire_locked hc ho h1 h2, ?_, d.egExpire_egDirty k how, fun h3 => Dev.egExpire_groups (hc.trans h3),
      d.egExpire_record k how⟩
    rw [Dev.egExpire_egExpiry]
    simp [tabDel]

end Sys2Proof.Machine
end

section
-- One proof at a time: checked side by side, the later proofs wait in threads of their own, past the memory limit.
set_option Elab.async false
/-! ### What a delivered message writes (Table KVT-3) -/

namespace Sys2Proof.Machine

/-- Every field but those of a session's partner and of its next number. -/
def besideSeq : Set Fld := {f | f.blk = .kvt → f.off % 0x100 ≠ 0x24 ∧ f.off % 0x100 ≠ 0x2c}

theorem mem_besideSeq {f : Fld} (h : f.blk ≠ .kvt) : f ∈ besideSeq := fun e => absurd e h

theorem kvt_mem_besideSeq {base p lo w : Nat} (h : base % 0x100 ≠ 0x24 ∧ base % 0x100 ≠ 0x2c) :
    (⟨.kvt, base + 0x100 * p, lo, w⟩ : Fld) ∈ besideSeq := fun _ => by
  show (base + 0x100 * p) % 0x100 ≠ 0x24 ∧ (base + 0x100 * p) % 0x100 ≠ 0x2c
  rwa [Nat.add_mul_mod_self_left]

theorem outFlds_subset_besideSeq : outFlds ⊆ besideSeq := by
  rintro f (h | h | h | ⟨-, h⟩)
  · exact mem_besideSeq (by simp [h])
  · exact mem_besideSeq (by simp [h])
  · exact mem_besideSeq (by simp [h])
  · refine fun _ => ⟨?_, ?_⟩ <;> (intro e; simp [e] at h)

theorem sec_subset_besideSeq : {f : Fld | f.blk = .sec} ⊆ besideSeq := fun f h => mem_besideSeq (by simp [show f.blk = .sec from h])

theorem pubFlds_subset_besideSeq (h : Nat) : pubFlds h ⊆ besideSeq := by
  rintro f ((hf | hf) | (rfl | rfl))
  · exact outFlds_subset_besideSeq hf
  · exact sec_subset_besideSeq hf
  · exact mem_besideSeq nofun
  · exact mem_besideSeq nofun

theorem cancelFlds_subset_besideSeq (h : Nat) : cancelFlds h ⊆ besideSeq := by
  rintro f (hf | (rfl | rfl | rfl))
  · exact pubFlds_subset_besideSeq h hf
  · exact mem_besideSeq nofun
  · exact mem_besideSeq nofun
  · exact mem_besideSeq nofun

theorem leaveFlds_subset_besideSeq (h : Nat) : leaveFlds h ⊆ besideSeq := by
  rintro f (hf | (rfl | rfl))
  · exact cancelFlds_subset_besideSeq h hf
  · exact mem_besideSeq nofun
  · exact mem_besideSeq nofun

theorem secFlds_subset_besideSeq (i : Nat) : secFlds i ⊆ besideSeq := secFlds_subset i outFlds_subset_besideSeq sec_subset_besideSeq

theorem authFlds_subset_besideSeq (i : Nat) : authFlds i ⊆ besideSeq :=
  Set.union_subset (secFlds_subset_besideSeq i) (fun _ hf => sec_subset_besideSeq hf.1)

namespace Touches

section
variable {a d : Dev} (h : Touches besideSeq a d)
include h

/-! ### Sections at a head's records -/

theorem secEntered (i : Nat) : Touches besideSeq a (d.secEntered i) :=
  Touches.ite (((h.setFld (F.SEC_STATE.ENTERED i) _ (mem_besideSeq nofun) Fld.fits).modSec i _).setFld (F.SEC_STATE.TIMING i) _
    (mem_besideSeq nofun) Fld.fits) h

theorem secWheel (n dir : Nat) : Touches besideSeq a (d.secWheel n dir) := by
  refine h.forL (fun i d hd => hd.forL (fun b d hd => ?_) _) _
  have hin : Touches besideSeq a (d.incWrap (F.SEC_AXLES_IN.AXLES_IN i)) :=
    hd.setFld (F.SEC_AXLES_IN.AXLES_IN i) _ (mem_besideSeq nofun) Fld.fits
  exact Touches.ite ((hin.secSetCount i (secFlds_subset_besideSeq i) _).secEntered i)
    ((hd.secSetCount i (secFlds_subset_besideSeq i) _).secEntered i)

theorem secGambit (n dir : Nat) : Touches besideSeq a (d.secGambit n dir) :=
  h.forL (fun i _ hd => hd.forL (fun _ _ hd => hd.setFld (F.SEC_STATE.PROV i) _ (mem_besideSeq nofun) Fld.fits) _) _

theorem speedCheck (n : Nat) (r : HeadRec) : Touches besideSeq a (d.speedCheck n r) := by
  unfold Dev.speedCheck
  dsimp only
  exact Touches.ite ((h.strike' outFlds_subset_besideSeq ..).forL (fun i _ hd => hd.secDisturb i (secFlds_subset_besideSeq i) 128) _) h

/-! ### Heads -/

theorem patternTo (n p : Nat) : Touches besideSeq a (d.patternTo n p) :=
  (h.setFld (F.HED_STATE.PATTERN n) _ (mem_besideSeq nofun) Fld.fits).modHead n _

theorem headCount (n : Nat) (ba : Bool) : Touches besideSeq a (d.headCount n ba) := by
  have hsplit : ∀ cnt wrap : Fld, cnt.blk = .hed → wrap.blk = .hed → cnt.lo + cnt.w ≤ 32 → wrap.lo + wrap.w ≤ 32 →
      Touches besideSeq a (if d.fld cnt = 2 ^ 32 - 1 then (d.setFld cnt 0).setFld wrap 1 else d.setFld cnt (d.fld cnt + 1)) := by
    intro cnt wrap hc hw hcf hwf
    have hcm : cnt ∈ besideSeq := mem_besideSeq (by simp [hc])
    exact Touches.ite ((h.setFld cnt _ hcm hcf).setFld wrap _ (mem_besideSeq (by simp [hw])) hwf) (h.setFld cnt _ hcm hcf)
  cases ba
  · exact hsplit (F.HED_CNT_AB.COUNT n) (F.HED_STAT_CNT.WRAP_AB n) rfl rfl Fld.fits Fld.fits
  · exact hsplit (F.HED_CNT_BA.COUNT n) (F.HED_STAT_CNT.WRAP_BA n) rfl rfl Fld.fits Fld.fits

/-- Causes go that are not of systems stuck. -/
theorem dropCauses (p : Cause → Bool) (hp : ∀ c, c.ev = .headSysStuck → p c = true) :
    Touches besideSeq a { d with causes := d.causes.filter p } := by
  refine h.trans ⟨fun _ _ => rfl, rfl, List.prefix_rfl, rfl, fun src x hx => ?_, fun _ => ⟨rfl, id⟩⟩
  simp only [Dev.has, List.any_eq_true, List.mem_filter, Bool.and_eq_true, decide_eq_true_eq] at hx ⊢
  obtain ⟨c, hc, hx⟩ := hx
  exact ⟨c, ⟨hc, hp c hx.1.1⟩, hx⟩

theorem headEnter (n : Nat) (recovered : Bool) : Touches besideSeq a (d.headEnter n recovered) := by
  unfold Dev.headEnter
  extract_lets d1 d2 d3 d4
  have h1 : Touches besideSeq a d1 := h.setFld (F.HED_STATE.PATTERN n) _ (mem_besideSeq nofun) Fld.fits
  have h2 : Touches besideSeq a d2 := h1.modHead n _
  have h3 : Touches besideSeq a d3 := h2.dropCauses _ (fun c hc => by simp [hc])
  have h4 : Touches besideSeq a d4 := h3.headPub n _ (pubFlds_subset_besideSeq n)
  exact Touches.ite (h4.note' outFlds_subset_besideSeq ..) h4

theorem egAxle (k : Nat) : Touches besideSeq a { d.inc (F.FLT_EG_SLOT_A.AXLES_USED k) with egDirty := true } :=
  (h.inc (F.FLT_EG_SLOT_A.AXLES_USED k) 1 (mem_besideSeq nofun) Fld.fits).putSlots _ true

theorem headWheel (n : Nat) (r : HeadRec) : Touches besideSeq a (d.headWheel n r) := by
  have hpub : Touches besideSeq a (d.headPub n r).1 := h.headPub n r (pubFlds_subset_besideSeq n)
  unfold Dev.headWheel
  split
  · next x hx => rwa [hx] at hpub
  · next x hx =>
    rw [hx] at hpub
    extract_lets gDir d1 d2 d3 d4 d5 d6 d7 d8 d9
    have h1 : Touches besideSeq a d1 := Touches.ite (((hpub.setFld (F.HED_STATE.GAMBIT_OPEN n) _ (mem_besideSeq nofun) Fld.fits).setFld
      (F.HED_STATE.CONFIRMED n) _ (mem_besideSeq nofun) Fld.fits).secGambitEnd n gDir false sec_subset_besideSeq) hpub
    have h3 : Touches besideSeq a d3 := (h1.secWheel n r.dir).headCount n _
    have h5 : Touches besideSeq a d5 := (h3.setFld (F.HED_LAST.SPEED n) _ (mem_besideSeq nofun) Fld.fits).setFld (F.HED_LAST.DIR n) _
      (mem_besideSeq nofun) Fld.fits
    have h6 : Touches besideSeq a d6 := ((h5.setBit (F.HED_LAST.FAST n) _ (mem_besideSeq nofun) Fld.fits).setBit (F.HED_LAST.SLOW n) _
      (mem_besideSeq nofun) Fld.fits).setBit (F.HED_LAST.SINGLE n) _ (mem_besideSeq nofun) Fld.fits
    have h7 : Touches besideSeq a d7 := (h6.setFld (F.HED_LAST_T.DAMP_US n) _ (mem_besideSeq nofun) Fld.fits).setFld
      (F.HED_LAST_T.GAMBIT_ID n) _ (mem_besideSeq nofun) Fld.fits
    have h9 : Touches besideSeq a d9 := (h7.modHead n _).speedCheck n r
    split
    · split
      · next k hk => exact Touches.ite ((h9.egAxle k).egExpire outFlds_subset_besideSeq k 2) (h9.egAxle k)
      · exact h9
    · exact h9

/-- A record of a neighbour's head reaches the remote head bound to it (R240). -/
theorem remoteRecord (n : Nat) (r : HeadRec) : Touches besideSeq a (d.remoteRecord n r) := by
  have hpub : ∀ {e : Dev}, Touches besideSeq a e → Touches besideSeq a (e.headPub n r).1 := fun he => he.headPub n r (pubFlds_subset_besideSeq n)
  have hcancel : ∀ {e : Dev} (reason : Nat) (sent : Option Stamp), Touches besideSeq a e → Touches besideSeq a (e.headCancel n reason sent) :=
    fun _ _ he => he.headCancel n _ _ (cancelFlds_subset_besideSeq n)
  unfold Dev.remoteRecord
  split
  · split
    · exact Touches.ite (h.headFault n _ _ (leaveFlds_subset_besideSeq n)) h
    · have hclear : Touches besideSeq a (d.clear .remoteHeadLost (.head n)) := h.clear (by decide) _ _
      exact Touches.ite (hclear.headEnter n false) hclear
  · split
    · exact h
    · split
      · have hp := hpub (hcancel 3 none h)
        dsimp only
        split
        · next x hx =>
          rw [hx] at hp
          have h1 := (hp.patternTo n 1).setFld (F.HED_STATE.GAMBIT_ID n) r.gid (mem_besideSeq nofun) Fld.fits
          have h2 := (h1.setFld (F.HED_STATE.GAMBIT_OPEN n) 1 (mem_besideSeq nofun) Fld.fits).setFld (F.HED_STATE.CONFIRMED n) 0
            (mem_besideSeq nofun) Fld.fits
          exact (h2.modHead n _).secGambit n r.dir
        · next x hx => rwa [hx] at hp
      · split
        · have hp := hpub h
          split
          · next x hx =>
            rw [hx] at hp
            exact Touches.ite (hp.setFld (F.HED_STATE.CONFIRMED n) 1 (mem_besideSeq nofun) Fld.fits) hp
          · next x hx => rwa [hx] at hp
        · split
          · exact Touches.ite (hcancel _ _ (h.patternTo n 0)) h
          · exact Touches.ite ((h.headWheel n r).patternTo n 0) (h.headWheel n r)

/-! ### The other messages, and what follows a delivery -/

theorem unused (p : Nat) : Touches besideSeq a (d.kvtUnused p) := h.inc (F.KVT_ERR3.UNUSED p) 1 (kvt_mem_besideSeq (by decide)) Fld.fits

theorem aspectRequest (s aspect : Nat) (night interlocking : Bool) (origin ref : Nat) :
    Touches besideSeq a (d.aspectRequest s aspect night interlocking origin ref).1 := by
  unfold Dev.aspectRequest
  extract_lets src allowed det
  split
  · exact (h.setFld (F.LMP_SIG_STAT.REQUESTED s) _ (mem_besideSeq nofun) Fld.fits).setBit (F.LMP_SIG_STAT.NIGHT s) _ (mem_besideSeq nofun) Fld.fits
  · exact (h.setFld (F.LMP_SIG_STAT.REQUESTED s) _ (mem_besideSeq nofun) Fld.fits).raise' outFlds_subset_besideSeq ..

theorem fallbackRx (port rule sig : Nat) (active : Bool) : Touches besideSeq a (d.fallbackRx port rule sig active) :=
  h.upd rfl rfl rfl rfl rfl rfl rfl

theorem putAppq (l : List (Nat × List Byte)) : Touches besideSeq a { d with appq := l } := h.upd rfl rfl rfl rfl rfl rfl rfl

/-- A delivered message leaves KVT's numbers and held frames alone. -/
theorem kvtEffect (p : Nat) (f : KvtFrame) : Touches besideSeq a (d.kvtEffect p f) := by
  unfold Dev.kvtEffect
  extract_lets b interlocking
  refine h.ite ?_
  split
  · split
    · exact h.unused p
    · exact h.forL (fun n _ hd => hd.remoteRecord n _) _
  · split
    · refine Touches.ite (h.inc (F.KVT_ERR3.ROLE_REJ p) 1 (kvt_mem_besideSeq (by decide)) Fld.fits) ?_
      exact Touches.ite (Touches.ite (h.aspectRequest ..) (h.unused p))
        (Touches.ite (h.secAuthorise _ _ _ _ _ _ (authFlds_subset_besideSeq _)) (h.unused p))
    · refine Touches.ite (Touches.ite (h.fallbackRx ..) (h.unused p)) ?_
      split
      · split
        · exact h.putAppq _
        · exact h.unused p
      · exact h.unused p

theorem kvtDrain (p n : Nat) : Touches besideSeq a (d.kvtDrain p n) := by
  induction n generalizing d with
  | zero => exact h
  | succ n ih =>
    unfold Dev.kvtDrain
    extract_lets k
    split
    · exact h
    · next m r hq =>
      have hset : Touches besideSeq a (d.setKv p { k with queue := r }) := h.setKv outFlds_subset_besideSeq p _ ⟨rfl, id⟩
      exact Touches.ite (ih (hset.kvtFrame outFlds_subset_besideSeq p _ _)) h

theorem kvtAcked (p ack : Nat) : Touches besideSeq a (d.kvtAcked p ack) := by
  unfold Dev.kvtAcked
  extract_lets d1
  have h1 : Touches besideSeq a d1 := h.modKv outFlds_subset_besideSeq p _ (fun _ => ⟨rfl, id⟩)
  exact h.ite (h1.kvtDrain p 64)

end

end Touches

end Sys2Proof.Machine
end

section
-- One proof at a time: checked side by side, the later proofs wait in threads of their own, past the memory limit.
set_option Elab.async false
/-! ### A frame of the OPEN session (R454, R455, R458) -/

namespace Sys2Proof.Machine

/-! ### The state of a session -/

theorem Dev.setKv_now (d : Dev) (p : Nat) (k : KvtSt) : (d.setKv p k).now = d.now := by simp only [Dev.setKv, Dev.setFld_now]

theorem Dev.kv_setKv (d : Dev) (p : Nat) (k : KvtSt) : (d.setKv p k).kv p = k := by
  simp only [Dev.setKv, Dev.setFld_kv]
  simp only [Dev.kv, tabGet_tabPut_same]

theorem Dev.kv_modKv (d : Dev) (p : Nat) (f : KvtSt → KvtSt) : (d.modKv p f).kv p = f (d.kv p) := Dev.kv_setKv ..

/-- A change of a session's state shows in KVT_STAT alone. -/
theorem Dev.modKv_fld (d : Dev) (p : Nat) (f : KvtSt → KvtSt) {g : Fld} (hg : g.off ≠ 0x11c + 0x100 * p) : (d.modKv p f).fld g = d.fld g := by
  have hapart : ∀ lo w, (⟨.kvt, 0x11c + 0x100 * p, lo, w⟩ : Fld).apart g = true := fun _ _ => Fld.apart_of_off (Ne.symm hg)
  unfold Dev.modKv Dev.setKv
  refine (Dev.fld_setFld_apart _ (F.KVT_STAT.HELD p) g _ Fld.fits (hapart _ _)).trans ?_
  refine (Dev.fld_setFld_apart _ (F.KVT_STAT.QUEUED p) g _ Fld.fits (hapart _ _)).trans ?_
  exact Dev.fld_setFld_apart _ (F.KVT_STAT.UNACKED p) g _ Fld.fits (hapart _ _)

/-! ### The number of a frame -/

/-- How far a number lies ahead of the next one. -/
def seqAhead (seq e : Nat) : Nat := (seq + 2 ^ 32 - e) % 2 ^ 32

/-- The frame is valid: the session's time-out starts anew. -/
def Dev.kvtValid (d : Dev) (p : Nat) : Dev := d.modKv p (fun k => { k with lastValid := d.now })

section
variable (d : Dev) (p : Nat) (f : KvtFrame)

theorem Dev.kvtSequence_ack (ht : f.type = 15) : d.kvtSequence p f = (d.kvtValid p).kvtAcked p f.ack := if_pos ht

/-- A sequenced frame is judged by how far its number lies ahead, and how far behind. -/
theorem Dev.kvtSequence_message (ht : f.type ≠ 15) : d.kvtSequence p f =
    if seqAhead f.seq (d.fld (F.KVT_SEQ_E.SEQ p)) = 0 then (((d.kvtValid p).kvtDeliver p f).kvtDeliverHeld p 64).kvtAcked p f.ack
    else if seqAhead f.seq (d.fld (F.KVT_SEQ_E.SEQ p)) ≤ 63 then ((d.kvtValid p).modKv p (fun k =>
      { k with held := if k.held.any (fun g => g.seq = f.seq) then k.held else k.held ++ [f] })).kvtAcked p f.ack
    else if seqAhead (d.fld (F.KVT_SEQ_E.SEQ p)) f.seq ≤ 64 then (((d.kvtValid p).inc (F.KVT_ERR3.DUP_RX p)).kvtAck p true).kvtAcked p f.ack
    else if seqAhead (d.fld (F.KVT_SEQ_E.SEQ p)) f.seq ≤ 2 ^ 31 then d.inc (F.KVT_ERR3.STALE p)
    else d.inc (F.KVT_ERR2.OUT_OF_WINDOW p) := if_neg ht

end

/-- Check 6 of Table KVT-2, by the number of the frame. -/
theorem kvtSequence_cases {d : Dev} {p : Nat} {f : KvtFrame} {e : Nat} {v : Dev} (he : d.fld (F.KVT_SEQ_E.SEQ p) = e) (hs : f.seq < 2 ^ 32)
    (hv : v = d.modKv p (fun k => { k with lastValid := d.now })) :
    (f.type = 15 → d.kvtSequence p f = v.kvtAcked p f.ack)
    ∧ (f.type ≠ 15 → f.seq = e → d.kvtSequence p f = ((v.kvtDeliver p f).kvtDeliverHeld p 64).kvtAcked p f.ack)
    ∧ (f.type ≠ 15 → (∃ k, 1 ≤ k ∧ k ≤ 63 ∧ f.seq = (e + k) % 2 ^ 32) → ((d.kv p).held.any (fun g => g.seq = f.seq)) = false → ∃ w : Dev,
        w = v.modKv p (fun k => { k with held := k.held ++ [f] }) ∧ d.kvtSequence p f = w.kvtAcked p f.ack)
    ∧ (f.type ≠ 15 → (∃ k, 1 ≤ k ∧ k ≤ 64 ∧ (f.seq + k) % 2 ^ 32 = e) →
        d.kvtSequence p f = ((v.inc (F.KVT_ERR3.DUP_RX p)).kvtAck p true).kvtAcked p f.ack)
    ∧ (f.type ≠ 15 → (∃ k, 65 ≤ k ∧ k ≤ 2 ^ 31 ∧ (f.seq + k) % 2 ^ 32 = e) → d.kvtSequence p f = d.inc (F.KVT_ERR3.STALE p))
    ∧ (f.type ≠ 15 → (∃ k, 64 ≤ k ∧ k < 2 ^ 31 ∧ f.seq = (e + k) % 2 ^ 32) → d.kvtSequence p f = d.inc (F.KVT_ERR2.OUT_OF_WINDOW p)) := by
  have hlt : e < 2 ^ 32 := he ▸ d.fld_lt (F.KVT_SEQ_E.SEQ p)
  obtain rfl : v = d.kvtValid p := hv
  refine ⟨d.kvtSequence_ack p f, fun ht hn => ?_, fun ht hn hnew => ⟨_, rfl, ?_⟩, fun ht hn => ?_, fun ht hn => ?_, fun ht hn => ?_⟩
  · rw [d.kvtSequence_message p f ht, he, if_pos (by simp only [seqAhead]; omega)]
  · obtain ⟨k, h1, h2, h3⟩ := hn
    have hahead : seqAhead f.seq e = k := by simp only [seqAhead]; omega
    rw [d.kvtSequence_message p f ht, he, if_neg (by omega), if_pos (by omega)]
    have hheld : ((d.kvtValid p).kv p).held = (d.kv p).held := by rw [Dev.kvtValid, Dev.kv_modKv]
    simp only [Dev.modKv, hheld, hnew]
    rfl
  · obtain ⟨k, h1, h2, h3⟩ := hn
    have hahead : seqAhead f.seq e = 2 ^ 32 - k := by simp only [seqAhead]; omega
    have hbehind : seqAhead e f.seq = k := by simp only [seqAhead]; omega
    rw [d.kvtSequence_message p f ht, he, if_neg (by omega), if_neg (by omega), if_pos (by omega)]
  · obtain ⟨k, h1, h2, h3⟩ := hn
    have hahead : seqAhead f.seq e = 2 ^ 32 - k := by simp only [seqAhead]; omega
    have hbehind : seqAhead e f.seq = k := by simp only [seqAhead]; omega
    rw [d.kvtSequence_message p f ht, he, if_neg (by omega), if_neg (by omega), if_neg (by omega), if_pos (by omega)]
  · obtain ⟨k, h1, h2, h3⟩ := hn
    have hahead : seqAhead f.seq e = k := by simp only [seqAhead]; omega
    have hbehind : seqAhead e f.seq = 2 ^ 32 - k := by simp only [seqAhead]; omega
    rw [d.kvtSequence_message p f ht, he, if_neg (by omega), if_neg (by omega), if_neg (by omega), if_neg (by omega)]

/-! ### The age of a frame -/

theorem outFlds_apart_kvt {off lo w : Nat} (h : off % 0x100 ∉ [0x1c, 0x28, 0x30, 0x34, 0x4c, 0x64]) :
    ∀ f ∈ outFlds, f.apart ⟨.kvt, off, lo, w⟩ = true := by
  rintro f (hf | hf | hf | ⟨-, hf⟩)
  · exact Fld.apart_of_blk (by simp [hf])
  · exact Fld.apart_of_blk (by simp [hf])
  · exact Fld.apart_of_blk (by simp [hf])
  · exact Fld.apart_of_off (fun e => h (by rwa [show f.off = off from e] at hf))

section
variable {d : Dev} {p : Nat} {f : KvtFrame}

theorem Touches.kvtRate {a : Dev} (h : Touches outFlds a d) (ev : Ev) (p : Nat) (last : Option Stamp) (count : Nat) :
    Touches outFlds a (d.kvtRate ev p last count).2 := by
  unfold Dev.kvtRate
  extract_lets quiet
  split
  · exact h
  · exact h.note' subset_rfl ..

/-- A frame that is too old is discarded: beside its count, it leaves D_REF and the next number alone (R458). -/
theorem Dev.kvtAge_old (h : ((d.fld (F.KVT_TIME2.MAX_AGE_MS p) * 1000 : Nat) : Int) < d.kvtD f - d.dref p) :
    (d.kvtAge p f).1 = false ∧ Touches outFlds (d.inc (F.KVT_ERR2.AGED p)) (d.kvtAge p f).2 := by
  unfold Dev.kvtAge
  extract_lets x ref l d1
  rw [if_pos h]
  have h1 : Touches outFlds (d.inc (F.KVT_ERR2.AGED p)) d1 := (Touches.refl _ _).modKv subset_rfl p _ (fun _ => ⟨rfl, id⟩)
  have hrate := h1.kvtRate .kvtAged p (d1.kv p).agedEv l.length
  split
  · next y hy =>
    rw [hy] at hrate
    have hlast : Touches outFlds (d.inc (F.KVT_ERR2.AGED p)) (y.modKv p (fun k => { k with agedEv := some y.now })) :=
      hrate.modKv subset_rfl p _ (fun _ => ⟨rfl, id⟩)
    exact ⟨rfl, hlast⟩
  · next y hy =>
    rw [hy] at hrate
    exact ⟨rfl, hrate⟩

theorem Dev.kvtAge_fresh (h : d.kvtD f - d.dref p ≤ ((d.fld (F.KVT_TIME2.MAX_AGE_MS p) * 1000 : Nat) : Int)) :
    d.kvtAge p f = (true, d.setDref p (min (d.kvtD f) (d.dref p + (d.now.since (d.kv p).drefAt / 5000 : Nat)))) := if_neg (by omega)

end

end Sys2Proof.Machine
end

section
-- One proof at a time: checked side by side, the later proofs wait in threads of their own, past the memory limit.
set_option Elab.async false
/-! ### Sessions, effects, and the frames that reach KVT -/

namespace Sys2Proof.Machine

section
variable {d : Dev} {p : Nat} {f : KvtFrame}

/-! ### The OPEN session (R452, R453) -/

/-- A frame is a SYN by its flag and its type both. -/
theorem syn_false (h : f.syn = false ∨ f.type ≠ 1) : (f.syn && decide (f.type = 1)) = false := by
  rcases h with h | h <;> simp [h]

theorem syn_false_or (h : f.syn = false ∨ f.type ≠ 1 ∨ d.kvtOfLink p f.sid = false) :
    ¬ ((f.syn && decide (f.type = 1)) = true ∧ d.kvtOfLink p f.sid = true) := by
  rcases h with h | h | h <;> simp [h]

/-- A frame of the OPEN session that is no SYN is judged by its age first. -/
theorem Dev.kvtSession_numbered (h2 : d.fld (F.KVT_STAT.STATE p) = 2) (hsid : f.sid = d.fld (F.KVT_PEER_SID.PEER_SID p))
    (hn : f.syn = false ∨ f.type ≠ 1) :
    d.kvtSession p f = if (d.kvtAge p f).1 then (d.kvtAge p f).2.kvtSequence p f else (d.kvtAge p f).2 := by
  have hsyn : ¬ (f.syn && (f.type = 1 : Bool)) = true := by simp [syn_false hn]
  unfold Dev.kvtSession
  extract_lets st peer syn ours wrong
  rw [if_neg (show ¬ st = 1 by omega), if_pos (show st = 2 from h2), if_neg (fun e => hsyn e.1), if_neg (not_not.2 hsid)]
  split
  · next x hx =>
    rw [hx]
    exact (if_neg Bool.false_ne_true).symm
  · next x hx =>
    rw [hx, if_neg hsyn]
    exact (if_pos rfl).symm

/-- A frame of the OPEN session that is no SYN and not too old is judged by its number once D_REF has followed. -/
theorem Dev.kvtSession_fresh (h2 : d.fld (F.KVT_STAT.STATE p) = 2) (hsid : f.sid = d.fld (F.KVT_PEER_SID.PEER_SID p))
    (hn : f.syn = false ∨ f.type ≠ 1) (hage : d.kvtD f - d.dref p ≤ ((d.fld (F.KVT_TIME2.MAX_AGE_MS p) * 1000 : Nat) : Int)) :
    d.kvtSession p f = (d.setDref p (min (d.kvtD f) (d.dref p + (d.now.since (d.kv p).drefAt / 5000 : Nat)))).kvtSequence p f := by
  rw [Dev.kvtSession_numbered h2 hsid hn, Dev.kvtAge_fresh hage]
  exact if_pos rfl

/-- One that is too old is discarded. -/
theorem Dev.kvtSession_old (h2 : d.fld (F.KVT_STAT.STATE p) = 2) (hsid : f.sid = d.fld (F.KVT_PEER_SID.PEER_SID p))
    (hn : f.syn = false ∨ f.type ≠ 1) (hage : ((d.fld (F.KVT_TIME2.MAX_AGE_MS p) * 1000 : Nat) : Int) < d.kvtD f - d.dref p) :
    Touches outFlds (d.inc (F.KVT_ERR2.AGED p)) (d.kvtSession p f) := by
  obtain ⟨hdrop, htouch⟩ := Dev.kvtAge_old hage
  have hsession : d.kvtSession p f = (d.kvtAge p f).2 := by
    rw [Dev.kvtSession_numbered h2 hsid hn, hdrop]
    exact if_neg Bool.false_ne_true
  rwa [hsession]

/-- What a frame too old leaves of the session, and its count. -/
theorem Dev.kvtSession_aged (h2 : d.fld (F.KVT_STAT.STATE p) = 2) (hsid : f.sid = d.fld (F.KVT_PEER_SID.PEER_SID p))
    (hn : f.syn = false ∨ f.type ≠ 1) (hage : ((d.fld (F.KVT_TIME2.MAX_AGE_MS p) * 1000 : Nat) : Int) < d.kvtD f - d.dref p) :
    (d.kvtSession p f).dref p = d.dref p ∧ (d.kvtSession p f).fld (F.KVT_SEQ_E.SEQ p) = d.fld (F.KVT_SEQ_E.SEQ p)
    ∧ (d.kvtSession p f).fld (F.KVT_ERR2.AGED p) = min (d.fld (F.KVT_ERR2.AGED p) + 1) (2 ^ (F.KVT_ERR2.AGED p).w - 1) := by
  have hold := Dev.kvtSession_old h2 hsid hn hage
  have hout : ∀ {base lo w : Nat}, base % 0x100 ∉ [0x1c, 0x28, 0x30, 0x34, 0x4c, 0x64] →
      (d.kvtSession p f).fld ⟨.kvt, base + 0x100 * p, lo, w⟩ = (d.inc (F.KVT_ERR2.AGED p)).fld ⟨.kvt, base + 0x100 * p, lo, w⟩ :=
    fun {base lo w} hb => hold.fld _ (outFlds_apart_kvt (by rwa [Nat.add_mul_mod_self_left]))
  have hinc : ∀ {base lo w : Nat}, base ≠ 0x144 →
      (d.inc (F.KVT_ERR2.AGED p)).fld ⟨.kvt, base + 0x100 * p, lo, w⟩ = d.fld ⟨.kvt, base + 0x100 * p, lo, w⟩ :=
    fun {base lo w} hb => Dev.fld_setFld_apart _ (F.KVT_ERR2.AGED p) _ _ Fld.fits
      (Fld.apart_of_off (show 0x144 + 0x100 * p ≠ base + 0x100 * p by omega))
  refine ⟨?_, (hout (by decide)).trans (hinc (by decide)), (hout (by decide)).trans (d.fld_inc (F.KVT_ERR2.AGED p) 1 Fld.fits)⟩
  have hlo : (d.kvtSession p f).fld (F.KVT_DREF_LO.V p) = d.fld (F.KVT_DREF_LO.V p) := (hout (by decide)).trans (hinc (by decide))
  have hhi : (d.kvtSession p f).fld (F.KVT_DREF_HI.V p) = d.fld (F.KVT_DREF_HI.V p) := (hout (by decide)).trans (hinc (by decide))
  simp only [Dev.dref, hlo, hhi]

end

/-- The checks of session and age, by the state of the session. -/
theorem kvtSession_cases (d : Dev) (p : Nat) (f : KvtFrame) :
    (d.fld (F.KVT_STAT.STATE p) = 0 → d.kvtSession p f = d.inc (F.KVT_ERR2.WRONG_SID p))
    ∧ (d.fld (F.KVT_STAT.STATE p) = 3 → (f.syn = false ∨ f.type ≠ 1 ∨ d.kvtOfLink p f.sid = false) →
        d.kvtSession p f = d.inc (F.KVT_ERR2.WRONG_SID p))
    ∧ (d.fld (F.KVT_STAT.STATE p) = 3 → f.syn = true → f.type = 1 → d.kvtOfLink p f.sid = true → d.kvtSession p f = (d.kvtEnter p).kvtTake p f)
    ∧ (d.fld (F.KVT_STAT.STATE p) = 1 → f.syn = true → f.type = 1 → d.kvtOfLink p f.sid = true → d.kvtSession p f = d.kvtTake p f)
    ∧ (d.fld (F.KVT_STAT.STATE p) = 2 → f.sid ≠ d.fld (F.KVT_PEER_SID.PEER_SID p) → (f.syn = false ∨ f.type ≠ 1 ∨ d.kvtOfLink p f.sid = false) →
        d.kvtSession p f = d.inc (F.KVT_ERR2.WRONG_SID p))
    ∧ (d.fld (F.KVT_STAT.STATE p) = 2 → f.syn = true → f.type = 1 → d.kvtOfLink p f.sid = true →
        (f.sid ≠ d.fld (F.KVT_PEER_SID.PEER_SID p) ∨ namedSid f ≠ d.ownSid p) → d.kvtSession p f = ((d.kvtLose p 3).kvtEnter p).kvtTake p f)
    ∧ (d.fld (F.KVT_STAT.STATE p) = 2 → f.sid = d.fld (F.KVT_PEER_SID.PEER_SID p) → (f.syn = false ∨ f.type ≠ 1) →
      (((d.fld (F.KVT_TIME2.MAX_AGE_MS p) * 1000 : Nat) : Int) < d.kvtD f - d.dref p → ∀ e, d.kvtSession p f = e →
        e.dref p = d.dref p ∧ e.fld (F.KVT_SEQ_E.SEQ p) = d.fld (F.KVT_SEQ_E.SEQ p)
        ∧ e.fld (F.KVT_ERR2.AGED p) = min (d.fld (F.KVT_ERR2.AGED p) + 1) (2 ^ (F.KVT_ERR2.AGED p).w - 1))
      ∧ (d.kvtD f - d.dref p ≤ ((d.fld (F.KVT_TIME2.MAX_AGE_MS p) * 1000 : Nat) : Int) → ∀ r,
        r = min (d.kvtD f) (d.dref p + (d.now.since (d.kv p).drefAt / 5000 : Nat)) → d.kvtSession p f = (d.setDref p r).kvtSequence p f)) := by
  refine ⟨fun h0 => ?_, fun h3 hn => ?_, fun h3 hs ht ho => ?_, fun h1 hs ht ho => ?_, fun h2 hsid hn => ?_, fun h2 hs ht ho hsid => ?_,
    fun h2 hsid hn => ⟨?_, ?_⟩⟩
  · simp [Dev.kvtSession, h0]
  · have hno := syn_false_or hn
    simp only [Dev.kvtSession, h3, hno, and_false, if_false]
    simp
  · simp [Dev.kvtSession, h3, hs, ht, ho]
  · simp [Dev.kvtSession, h1, hs, ht, ho]
  · rcases hn with hn | hn | hn <;> simp [Dev.kvtSession, h2, hsid, hn]
  · unfold Dev.kvtSession
    extract_lets st peer syn ours wrong
    rw [if_neg (show ¬ st = 1 by omega), if_pos (show st = 2 from h2), if_pos ⟨by simp [syn, hs, ht], ho, hsid⟩]
  · rintro hage e rfl
    exact Dev.kvtSession_aged h2 hsid hn hage
  · rintro hage r rfl
    exact Dev.kvtSession_fresh h2 hsid hn hage

/-! ### The effect of a message -/

/-- An APP message goes to the secure ring bound to its port, if there is one (R466). -/
theorem Dev.kvtEffect_app {d : Dev} {p : Nat} {f : KvtFrame} (h : f.type = 12) :
    d.kvtEffect p f = (d.secureRing 4 p).elim (d.kvtUnused p) (fun _ => { d with appq := d.appq ++ [(p, f.payload)] }) := by
  unfold Dev.kvtEffect
  extract_lets b interlocking
  rw [if_neg (by omega), if_neg (by omega), if_neg (by omega), if_neg (by omega), if_pos h]
  cases d.secureRing 4 p <;> rfl

/-- A message takes effect by its type and the role of the port (Table KVT-3). -/
theorem kvtEffect_cases {d : Dev} {p : Nat} {f : KvtFrame} {b : Nat → Nat → Nat} (hb : b = (fun i n => ofBe ((f.payload.drop i).take n))) :
    (f.type = 1 → d.kvtEffect p f = d)
    ∧ ((f.type = 6 ∨ f.type = 9 ∨ f.type = 11) → d.kvtEffect p f = d.inc (F.KVT_ERR3.UNUSED p))
    ∧ (2 ≤ f.type → f.type ≤ 5 → d.remoteOf p (b 0 1) = [] → d.kvtEffect p f = d.inc (F.KVT_ERR3.UNUSED p))
    ∧ (∀ h, 2 ≤ f.type → f.type ≤ 5 → d.remoteOf p (b 0 1) = [h] → d.kvtEffect p f = d.remoteRecord h (readHead f.type b))
    ∧ ((f.type = 7 ∨ f.type = 10) → d.netRole p ≠ 2 → d.kvtEffect p f = d.inc (F.KVT_ERR3.ROLE_REJ p))
    ∧ (f.type = 7 → d.netRole p = 2 → b 0 1 < 16 →
        d.kvtEffect p f = (d.aspectRequest (b 0 1) (b 1 1) ((b 2 1).testBit 0) true 0xC0 (b 4 4)).1)
    ∧ (f.type = 10 → d.netRole p = 2 → b 0 1 < 64 →
        d.kvtEffect p f = (d.secAuthorise (b 0 1) (b 1 1) 3 (d.on (F.SEC_RESET.AUTH_PERMIT (b 0 1))) 0x83 (b 4 4)).1)
    ∧ (f.type = 8 → b 1 1 < 16 → d.kvtEffect p f = d.fallbackRx p (b 0 1) (b 1 1) (b 2 1 = 1))
    ∧ (∀ r, f.type = 12 → d.boundRing 4 p = some r → d.ringSecure r = true →
        (d.kvtEffect p f).appq = d.appq ++ [(p, f.payload)] ∧ sameRegsBut [] d (d.kvtEffect p f))
    ∧ (f.type = 12 → (∀ r, d.boundRing 4 p = some r → d.ringSecure r = false) → d.kvtEffect p f = d.inc (F.KVT_ERR3.UNUSED p)) := by
  subst hb
  refine ⟨fun h => ?_, fun h => ?_, fun h2 h5 hr => ?_, fun h h2 h5 hr => ?_, fun h hr => ?_, fun h hr hs => ?_, fun h hr hs => ?_, fun h hs => ?_,
    fun r h hr hs => ?_, fun h hr => ?_⟩
  · exact if_pos h
  · rcases h with h | h | h <;> simp [Dev.kvtEffect, Dev.kvtUnused, h]
  · unfold Dev.kvtEffect
    extract_lets b interlocking
    rw [if_neg (by omega), if_pos ⟨h2, h5⟩, show d.remoteOf p (b 0 1) = [] from hr]
    rfl
  · unfold Dev.kvtEffect
    extract_lets b interlocking
    rw [if_neg (by omega), if_pos ⟨h2, h5⟩, show d.remoteOf p (b 0 1) = [h] from hr]
    rfl
  · unfold Dev.kvtEffect
    extract_lets b interlocking
    rw [if_neg (by omega), if_neg (by omega), if_pos h, if_pos (by simp [interlocking, hr])]
  · unfold Dev.kvtEffect
    extract_lets b interlocking
    rw [if_neg (by omega), if_neg (by omega), if_pos (.inl h), if_neg (by simp [interlocking, hr]), if_pos h, if_pos hs]
  · unfold Dev.kvtEffect
    extract_lets b interlocking
    rw [if_neg (by omega), if_neg (by omega), if_pos (.inr h), if_neg (by simp [interlocking, hr]), if_neg (by omega), if_pos hs]
  · unfold Dev.kvtEffect
    extract_lets b interlocking
    rw [if_neg (by omega), if_neg (by omega), if_neg (by omega), if_pos h, if_pos hs]
  · have hring : d.secureRing 4 p = some r := by simp [Dev.secureRing, hr, hs]
    rw [Dev.kvtEffect_app h, hring]
    exact ⟨rfl, sameRegsBut_of_regs rfl rfl⟩
  · have hring : d.secureRing 4 p = none := by simpa [Dev.secureRing, Option.filter_eq_none_iff] using hr
    rw [Dev.kvtEffect_app h, hring]
    rfl

end Sys2Proof.Machine
end

section
-- One proof at a time: checked side by side, the later proofs wait in threads of their own, past the memory limit.
set_option Elab.async false
/-! ### The rows of received KVT frames -/

namespace Sys2Proof.Machine

/-! ### A frame in sequence (R454, R456) -/

/-- The delivery of a message moves the next number on and leaves the partner's SID, the held frames and the last valid frame as they are. -/
theorem Touches.kvtDeliver (d : Dev) (p : Nat) (f : KvtFrame) :
    Touches besideSeq (d.setFld (F.KVT_SEQ_E.SEQ p) ((f.seq + 1) % 2 ^ 32)) (d.kvtDeliver p f) := by
  unfold Dev.kvtDeliver
  extract_lets d1 d2 d3
  have h2 : Touches besideSeq d1 d2 := (Touches.refl _ d1).incPair (F.KVT_RXMSG_LO.V p) (F.KVT_RXMSG_HI.V p) 1
    (kvt_mem_besideSeq (by decide)) (kvt_mem_besideSeq (by decide)) Fld.fits Fld.fits
  have h3 : Touches besideSeq d1 d3 := h2.modKv outFlds_subset_besideSeq p _ (fun _ => ⟨rfl, id⟩)
  exact h3.kvtEffect p f

theorem Dev.kvtDeliverHeld_nil {d : Dev} {p : Nat} (n : Nat) (h : (d.kv p).held = []) : d.kvtDeliverHeld p n = d := by
  cases n with
  | zero => rfl
  | succ n =>
    unfold Dev.kvtDeliverHeld
    simp [h]

theorem besideSeq_apart_seq (p : Nat) : ∀ f ∈ besideSeq, f.apart (F.KVT_SEQ_E.SEQ p) = true := by
  intro f hf
  by_cases hb : f.blk = .kvt
  · refine Fld.apart_of_off (fun e => (hf hb).2 ?_)
    rw [show f.off = 0x12c + 0x100 * p from e, Nat.add_mul_mod_self_left]
  · exact Fld.apart_of_blk hb

theorem Dev.kvtValid_kept (d : Dev) (p : Nat) : ((d.kvtValid p).kv p).lastValid = d.now ∧ ((d.kvtValid p).kv p).held = (d.kv p).held := by
  rw [Dev.kvtValid, Dev.kv_modKv]
  exact ⟨rfl, rfl⟩

/-- A frame in sequence, with none held back, starts the time-out anew and moves the next number on; an ACK does the first alone. -/
theorem Dev.kvtSequence_valid {d : Dev} {p : Nat} {f : KvtFrame} (h : f.type ≠ 15 → f.seq = d.fld (F.KVT_SEQ_E.SEQ p) ∧ (d.kv p).held = []) :
    ((d.kvtSequence p f).kv p).lastValid = d.now
    ∧ (f.type ≠ 15 → (d.kvtSequence p f).fld (F.KVT_SEQ_E.SEQ p) = (d.fld (F.KVT_SEQ_E.SEQ p) + 1) % 2 ^ 32) := by
  by_cases ht : f.type = 15
  · rw [d.kvtSequence_ack p f ht]
    exact ⟨(((Touches.refl besideSeq (d.kvtValid p)).kvtAcked p f.ack).kv p).1.trans (d.kvtValid_kept p).1, fun hn => absurd ht hn⟩
  · obtain ⟨hseq, hheld⟩ := h ht
    have hahead : seqAhead f.seq (d.fld (F.KVT_SEQ_E.SEQ p)) = 0 := by
      simp only [seqAhead, hseq]
      omega
    have hdel := Touches.kvtDeliver (d.kvtValid p) p f
    have hnone : (((d.kvtValid p).kvtDeliver p f).kv p).held = [] :=
      (hdel.kv p).2 (by rw [Dev.setFld_kv, (d.kvtValid_kept p).2, hheld])
    rw [d.kvtSequence_message p f ht, if_pos hahead, Dev.kvtDeliverHeld_nil 64 hnone]
    have hall := hdel.trans ((Touches.refl besideSeq ((d.kvtValid p).kvtDeliver p f)).kvtAcked p f.ack)
    refine ⟨(hall.kv p).1.trans (by rw [Dev.setFld_kv, (d.kvtValid_kept p).1]), fun _ => ?_⟩
    rw [hall.fld _ (besideSeq_apart_seq p), ← hseq]
    exact (Dev.fld_setFld_same _ (F.KVT_SEQ_E.SEQ p) _ Fld.fits).trans (Nat.mod_mod _ _)

/-- D_REF follows: the session's numbers and held frames stay. -/
theorem Dev.setDref_keeps (d : Dev) (p : Nat) (r : Int) : (d.setDref p r).now = d.now ∧ ((d.setDref p r).kv p).held = (d.kv p).held
    ∧ ∀ base lo w, base ≠ 0x168 → base ≠ 0x16c → base ≠ 0x11c →
      (d.setDref p r).fld ⟨.kvt, base + 0x100 * p, lo, w⟩ = d.fld ⟨.kvt, base + 0x100 * p, lo, w⟩ := by
  unfold Dev.setDref
  extract_lets u
  refine ⟨?_, ?_, fun base lo w h1 h2 h3 => ?_⟩
  · simp only [Dev.modKv, Dev.setKv_now, Dev.setFld_now]
  · simp only [Dev.kv_modKv, Dev.setFld_kv]
  · refine (Dev.modKv_fld _ p _ (show base + 0x100 * p ≠ 0x11c + 0x100 * p by omega)).trans ?_
    have hapart : ∀ {off w' : Nat}, off ≠ base → (⟨.kvt, off + 0x100 * p, 0, w'⟩ : Fld).apart ⟨.kvt, base + 0x100 * p, lo, w⟩ = true :=
      fun {off w'} ho => Fld.apart_of_off (show off + 0x100 * p ≠ base + 0x100 * p by omega)
    refine (Dev.fld_setFld_apart _ (F.KVT_DREF_HI.V p) _ _ Fld.fits (hapart h2.symm)).trans ?_
    exact Dev.fld_setFld_apart _ (F.KVT_DREF_LO.V p) _ _ Fld.fits (hapart h1.symm)

/-! ### A session that opens (R452, R459, R467) -/

theorem Touches.kvtOpenPublish {a d : Dev} (h : Touches outFlds a d) (p : Nat) : Touches outFlds a (d.kvtOpenPublish p) := by
  unfold Dev.kvtOpenPublish
  extract_lets d1 d2 secs d3 d4 d5
  have h1 : Touches outFlds a d1 := h.kvtSend subset_rfl p 1 _
  have h2 : Touches outFlds a d2 := h1.forL (fun _ _ hd => hd.kvtSend subset_rfl p 2 _) _
  have h3 : Touches outFlds a d3 := h2.forL (fun _ _ hd => hd.kvtSend subset_rfl p 6 _) _
  have h4 : Touches outFlds a d4 := h3.forL (fun _ _ hd => hd.kvtSend subset_rfl p 9 _) _
  have h5 : Touches outFlds a d5 := Touches.ite (h4.kvtSend subset_rfl p 11 _) h4
  exact h5.forN (fun _ _ hd => Touches.ite (hd.kvtSend subset_rfl _ 8 _) hd) 64

theorem Dev.kvtEnterOpen_peer (d : Dev) (p : Nat) : (d.kvtEnterOpen p).fld (F.KVT_PEER_SID.PEER_SID p) = d.fld (F.KVT_PEER_SID.PEER_SID p) := by
  have hbeside : ∀ {base lo w : Nat}, base ≠ 0x124 → (⟨.kvt, base + 0x100 * p, lo, w⟩ : Fld).apart (F.KVT_PEER_SID.PEER_SID p) = true :=
    fun {base lo w} hb => Fld.apart_of_off (show base + 0x100 * p ≠ 0x124 + 0x100 * p by omega)
  unfold Dev.kvtEnterOpen
  extract_lets d1 d2 d3 d4
  have h4 : Touches outFlds d3 (d4.kvtOpenPublish p) := ((Touches.refl _ d3).note' subset_rfl ..).kvtOpenPublish p
  have h2 : Touches {f | f.apart (F.KVT_PEER_SID.PEER_SID p) = true} d d2 :=
    ((((Touches.refl _ d).setFld (F.KVT_STAT.STATE p) _ (hbeside (by decide)) Fld.fits).setFld (F.KVT_SEQ_TX.SEQ p) _ (hbeside (by decide))
      Fld.fits).setFld (F.KVT_SEQ_E.SEQ p) _ (hbeside (by decide)) Fld.fits).inc (F.KVT_SESS_CNT.OPENS p) 1 (hbeside (by decide)) Fld.fits
  refine (h4.fld _ (outFlds_apart_kvt ?_)).trans ((Dev.modKv_fld _ p _ ?_).trans (h2.fld _ (fun _ hf => hf)))
  · rw [Nat.add_mul_mod_self_left]
    decide
  · show 0x124 + 0x100 * p ≠ 0x11c + 0x100 * p
    omega

/-- An OPENING port that takes a SYN takes its SID (R452). -/
theorem Dev.kvtTake_peer (d : Dev) (p : Nat) (f : KvtFrame) : (d.kvtTake p f).fld (F.KVT_PEER_SID.PEER_SID p) = f.sid % 2 ^ 32 := by
  unfold Dev.kvtTake
  extract_lets d1 d2
  have h1 : d1.fld (F.KVT_PEER_SID.PEER_SID p) = f.sid % 2 ^ 32 :=
    ((Dev.setDref_keeps _ p _).2.2 0x124 0 32 (by decide) (by decide) (by decide)).trans
      (Dev.fld_setFld_same _ (F.KVT_PEER_SID.PEER_SID p) _ Fld.fits)
  have h2 : d2.fld (F.KVT_PEER_SID.PEER_SID p) = f.sid % 2 ^ 32 := by
    refine (((Touches.refl outFlds d1).kvtSyn subset_rfl p).fld _ (outFlds_apart_kvt ?_)).trans h1
    rw [Nat.add_mul_mod_self_left]
    decide
  split
  · exact (d2.kvtEnterOpen_peer p).trans h2
  · exact h2

/-! ### The way of a frame to its session (R430, R460) -/

section
variable {d : Dev} {p : Nat} {f : KvtFrame} {crcOk tagOk : Bool}

theorem Dev.kvtArrives_shut (h : d.netRuns p = false ∨ d.netUp p = false ∨ d.netRole p = 0 ∨ d.netRole p = 3 ∨ d.on (F.KVT_PCFG.ENABLE p) = false
    ∨ d.fld F.FLT_STATE.DEV_STATE = 5) : d.kvtArrives p f crcOk tagOk = d := by
  refine if_pos ?_
  rcases h with h | h | h | h | h | h <;> simp [h]

/-- A running, linked KVT port hands a frame on by its length. -/
theorem Dev.kvtArrives_open (hr : d.netRuns p = true) (hu : d.netUp p = true) (hk : d.netRole p = 1 ∨ d.netRole p = 2)
    (he : d.on (F.KVT_PCFG.ENABLE p) = true) (hs : d.fld F.FLT_STATE.DEV_STATE ≠ 5) :
    d.kvtArrives p f crcOk tagOk
      = if kvtLenOk f.type f.payload.length then d.kvtJudge p f crcOk tagOk else d.inc (F.KVT_ERR2.FORM_ERR p) := by
  refine if_neg ?_
  rcases hk with hk | hk <;> simp [hr, hu, hk, he, hs]

theorem Dev.kvtJudge_session (hc : crcOk = true) (ht : tagOk = true ∨ d.on (F.KVT_PCFG.AUTH_EN p) = false) :
    d.kvtJudge p f crcOk tagOk = d.kvtSession p f := by
  unfold Dev.kvtJudge
  rw [if_neg (by simp [hc]), if_neg]
  rcases ht with ht | ht <;> simp [ht]

end

/-- The commands of received KVT frames, each with the frame that it brings. -/
def kvtRows (t : Stamp) (p : Fin 4) (f : KvtFrame) (crcOk tagOk : Bool) : List (Instr × KvtFrame) :=
  [(Instr.kvtHeartbeatRx t p f crcOk tagOk, { f with type := 1, syn := false }), (.kvtSynRx t p f crcOk tagOk, { f with type := 1, syn := true }),
    (.kvtHeadEventRx t p f crcOk tagOk, { f with type := 2 }), (.kvtGambitRx t p f crcOk tagOk, { f with type := 3 }),
    (.kvtGambitConfirmRx t p f crcOk tagOk, { f with type := 4 }), (.kvtGambitCancelRx t p f crcOk tagOk, { f with type := 5 }),
    (.kvtSectionStateRx t p f crcOk tagOk, { f with type := 6 }), (.kvtAspectRequestRx t p f crcOk tagOk, { f with type := 7 }),
    (.kvtAspectFallbackRx t p f crcOk tagOk, { f with type := 8 }), (.kvtLampStatusRx t p f crcOk tagOk, { f with type := 9 }),
    (.resetPermit t p f crcOk tagOk, { f with type := 10 }), (.kvtSafetyStateRx t p f crcOk tagOk, { f with type := 11 }),
    (.kvtAppRx t p f crcOk tagOk, { f with type := 12 }), (.kvtAckRx t p f crcOk tagOk, { f with type := 15 })]

/-- Each row hands its frame to KVT, with the type that it names. -/
theorem exec_kvtRows {t : Stamp} {p : Fin 4} {f : KvtFrame} {crcOk tagOk : Bool} {x : Instr × KvtFrame} (hx : x ∈ kvtRows t p f crcOk tagOk)
    (s : State) : exec x.1 s = .next (s.runDev t 0 (fun d => d.kvtArrives p.val x.2 crcOk tagOk))
    ∧ x.2.payload = f.payload ∧ x.2.sid = f.sid ∧ x.2.seq = f.seq ∧ x.2.stamp = f.stamp := by
  simp only [kvtRows, List.mem_cons, List.not_mem_nil, or_false] at hx
  rcases hx with rfl | rfl | rfl | rfl | rfl | rfl | rfl | rfl | rfl | rfl | rfl | rfl | rfl | rfl <;> exact ⟨rfl, rfl, rfl, rfl, rfl⟩

/-- Settles O54: a frame goes by its row to the checks of Table KVT-2; each of them is then an equation of the check's own function. -/
theorem kvtFramesReceived : Obligations.KvtFramesReceived := by
  unfold Obligations.KvtFramesReceived
  refine ⟨fun s t p f crcOk tagOk a ha x hx => ?_, fun d p f _ => kvtSession_cases d p f,
    fun d p f e v _ he hs hv => kvtSequence_cases he hs hv, fun d p f b _ hb => kvtEffect_cases hb⟩
  obtain ⟨hexec, hpay, hsid, hseq, hstamp⟩ := exec_kvtRows (show x ∈ kvtRows t p f crcOk tagOk from hx) s
  rw [hexec, ← hpay, ← hsid, ← hseq]
  refine ⟨fun hshut => turns_runDev ha (Dev.kvtArrives_shut hshut) (sameRegsBut.refl _ _), fun hr hu hk he hs => ?_⟩
  have harrive := Dev.kvtArrives_open (f := x.2) (crcOk := crcOk) (tagOk := tagOk) hr hu hk he hs
  refine ⟨fun hlen => turns_runDev ha (harrive.trans (if_neg (by simp [hlen]))) (sameRegsBut_setFld _ _ (F.KVT_ERR2.FORM_ERR p.val) _ (by simp)),
    fun hlen hc => does_runDev ha ?_, fun hlen hc ht hauth => does_runDev ha ?_, fun hlen hc ht => ?_⟩
  · rw [harrive, if_pos hlen]
    exact if_pos (by simp [hc])
  · rw [harrive, if_pos hlen]
    simp [Dev.kvtJudge, hc, ht, hauth]
  · have hsession : a.kvtArrives p.val x.2 crcOk tagOk = a.kvtSession p.val x.2 := by
      rw [harrive, if_pos hlen, Dev.kvtJudge_session hc ht]
    obtain ⟨h0, -, -, h1, -, -, -⟩ := kvtSession_cases a p.val x.2
    refine ⟨does_runDev ha hsession, fun hst => turns_runDev ha (hsession.trans (h0 hst))
      (sameRegsBut_setFld _ _ (F.KVT_ERR2.WRONG_SID p.val) _ (by simp)), fun hst hsyn htype hlink => ?_, fun hst hpeer hn hage hnext => ?_⟩
    · exact ⟨_, does_runDev ha (hsession.trans (h1 hst hsyn htype hlink)), a.kvtTake_peer p.val x.2⟩
    · have hage' : a.kvtD x.2 - a.dref p.val ≤ ((a.fld (F.KVT_TIME2.MAX_AGE_MS p.val) * 1000 : Nat) : Int) := by
        rwa [Dev.kvtD, hstamp]
      have hdref := a.setDref_keeps p.val (min (a.kvtD x.2) (a.dref p.val + (a.now.since (a.kv p.val).drefAt / 5000 : Nat)))
      obtain ⟨hnow, hheld, hfld⟩ := hdref
      have hnumber := hfld 0x12c 0 32 (by decide) (by decide) (by decide)
      obtain ⟨hvalid, hmoved⟩ := Dev.kvtSequence_valid (f := x.2) (fun ht => ⟨(hnext ht).1.trans hnumber.symm, hheld.trans (hnext ht).2⟩)
      refine ⟨_, does_runDev ha (hsession.trans (Dev.kvtSession_fresh hst hpeer hn hage')), hvalid.trans hnow, fun ht => (hmoved ht).trans ?_⟩
      exact congrArg (fun n => (n + 1) % 2 ^ 32) hnumber

end Sys2Proof.Machine
end

section
/-! ### Sample time at the moment of a command (R56, R57) -/

namespace Sys2Proof.Machine

/-! ### What comes due at a moment leaves sample time -/

theorem forL_now {α : Type} {f : α → Dev → Dev} (hf : ∀ x d, (f x d).now = d.now) (l : List α) (d : Dev) : (forL l f d).now = d.now := by
  induction l generalizing d with
  | nil => rfl
  | cons x l ih => exact (ih (f x d)).trans (hf x d)

theorem ite_now {p : Prop} [Decidable p] {d e : Dev} {t : Stamp} (h : d.now = t) (h' : e.now = t) : (if p then d else e).now = t := by
  split
  · exact h
  · exact h'

section
variable (d : Dev) (m k : Nat)

@[simp] theorem Dev.stream_now (rings : List Nat) (data : List Byte) : (d.stream rings data).now = d.now := rfl

@[simp] theorem Dev.winSegment_now : (d.winSegment m).now = d.now := by
  unfold Dev.winSegment
  split <;> rfl

/-- A latch sets at the moment it has come due, and time stands where it stood. -/
@[simp] theorem Dev.winHeld_now (hi : Bool) : (d.winHeld m hi).now = d.now := by
  unfold Dev.winHeld
  split
  · exact ite_now rfl rfl
  · rfl

@[simp] theorem Dev.winSync_now : (d.winSync m).now = d.now := by
  refine forL_now (fun e d => ?_) _ _
  exact ite_now rfl rfl

@[simp] theorem Dev.winCapture_now (hi active : Bool) : (d.winCapture m hi active).now = d.now := by
  unfold Dev.winCapture
  extract_lets sel last near frac d1 d2 d3
  split
  · rfl
  · rw [Dev.stream_now]
    rfl

@[simp] theorem Dev.winEdge_now (hi : Bool) : (d.winEdge m hi).now = d.now := by
  unfold Dev.winEdge
  extract_lets q act d1 x
  have h1 : d1.now = d.now := by
    unfold d1
    split_ifs
    · exact d.winSync_now m
    · rfl
    · exact d.winHeld_now m hi
  split
  · rfl
  · exact (Dev.winCapture_now ..).trans h1

@[simp] theorem Dev.winTrack_now : (d.winTrack m).now = d.now := ((d.winEdge m true).winEdge_now m false).trans (d.winEdge_now m true)

theorem Dev.winMod_now {f : Dev → Dev} (hf : ∀ d, (f d).now = d.now) : (d.winMod m f).now = d.now := by
  unfold Dev.winMod
  split
  · exact hf d
  · rw [Dev.winTrack_now, hf, Dev.winSegment_now]

@[simp] theorem Dev.winTimed_now (ns : Nat) (hold : Bool) : (d.winTimed m ns hold).now = d.now := by
  unfold Dev.winTimed
  split
  · rfl
  · exact d.winMod_now m (fun _ => rfl)

/-- What has come due at a monitor happens at its own moment. -/
@[simp] theorem Dev.winDue_now : (d.winDue m).now = d.now := by
  have htested : (d.winTested m).now = d.now := by
    unfold Dev.winTested
    split
    · exact ite_now rfl (by dsimp only; split <;> rfl)
    · rfl
  have hended (e : Dev) : (e.winTimedEnd m).now = e.now := by
    unfold Dev.winTimedEnd
    split
    · exact ite_now rfl rfl
    · rfl
  rw [Dev.winDue, Dev.winHeld_now, Dev.winHeld_now, hended, htested]

theorem Dev.winDueAll_now : d.winDueAll.now = d.now := by
  unfold Dev.winDueAll
  refine forL_now (fun e d => ?_) _ _
  exact d.winDue_now e.1

@[simp] theorem Dev.pgDrive_now (on comp : Bool) : (d.pgDrive k on comp).now = d.now := by
  unfold Dev.pgDrive
  extract_lets g set ms
  split
  · rfl
  · rw [forL_now (fun m d => d.winTrack_now m)]
    exact forL_now (fun m d => d.winSegment_now m) _ _

@[simp] theorem Dev.pgLow_now : (d.pgLow k).now = d.now := Dev.pgDrive_now ..

@[simp] theorem Dev.bankEval_now : (d.bankEval m).now = d.now := by
  have hreleased (e : Dev) : (e.bankRelease m).now = e.now := by
    unfold Dev.bankRelease
    split <;> rfl
  unfold Dev.bankEval
  extract_lets d1 on
  exact ite_now rfl (ite_now (ite_now rfl rfl) (hreleased d1))

@[simp] theorem Dev.pgTrip_now (ms : List Nat) : (d.pgTrip k ms).now = d.now := by
  unfold Dev.pgTrip
  extract_lets g d1 d2 d3 d4 d5
  have h1 : d1.now = d.now := by
    unfold d1
    have htimed (l : List Nat) : (forL l (fun m d => d.winTimed m (20 * d.fld (F.WIN_BLANK.TRAIL m)) true) d).now = d.now :=
      forL_now (fun m d => d.winTimed_now m (20 * d.fld (F.WIN_BLANK.TRAIL m)) true) l d
    refine ite_now ((forL_now (fun b d => ?_) _ _).trans (htimed _)) rfl
    exact Dev.bankEval_now ..
  have h5 : d5.now = d.now := by simp only [d5, d4, d3, d2, Dev.setFld_now, Dev.inc_now, Dev.pgLow_now, h1]
  clear_value d5
  exact ite_now ((Dev.note_now ..).trans h5) h5

theorem Dev.contribEval_now : d.contribEval.now = d.now := by
  refine forL_now (fun m d => ?_) _ _
  exact ite_now rfl (ite_now rfl (ite_now (Dev.raise_now ..) rfl))

theorem Dev.tripEval_now : d.tripEval.now = d.now := by
  unfold Dev.tripEval
  refine (forL_now (fun x d => ?_) _ _).trans d.contribEval_now
  exact ite_now rfl (ite_now rfl (forL_now (fun k d => d.pgTrip_now k x.2) _ _))

/-- A boundary that a sync edge makes happens at the moment of the edge. -/
theorem Dev.pgSync_now : (d.pgSync k).now = d.now := by
  unfold Dev.pgSync
  split
  · exact ite_now rfl rfl
  · rfl

theorem Dev.pgSyncAll_now : d.pgSyncAll.now = d.now := by
  rw [Dev.pgSyncAll, forL_now (fun k d => d.pgSync_now k), Dev.tripEval_now, Dev.tripEval_now]

/-! ### Sample time goes on -/

theorem Dev.movesDue_now : d.movesDue.now = d.now := by
  refine forL_now (fun e d => ?_) _ _
  split
  · exact ite_now rfl rfl
  · rfl

theorem Dev.advance_now (t : Stamp) : (d.advance t).now = t := by
  unfold Dev.advance
  extract_lets us d1 d2
  exact (Dev.movesDue_now _).trans (forL_now (f := fun c d => d.timerEval c) (fun _ _ => rfl) _ _)

/-- Sample time goes on to a later stamp, and stands at an earlier one. -/
theorem Dev.passTo_now (t : Stamp) : (d.passTo t).now = if t.later d.now then t else d.now := by
  unfold Dev.passTo
  split
  · exact Dev.advance_now _ t
  · rfl

/-- The moment of a command has the command's stamp, if that is a later one. -/
theorem Dev.arrive_now (t : Stamp) (ns : Nat) : (d.arrive t ns).now = if t.later d.now then t else d.now := by
  unfold Dev.arrive
  extract_lets d1 d2
  have h2 : d2.now = if t.later d.now then t else d.now := (Dev.winDueAll_now _).trans (Dev.passTo_now _ t)
  split
  · exact d2.pgSyncAll_now.trans h2
  · exact h2

end

theorem Stamp.later_succ (t : Stamp) : (t + 1).later t = true := by
  simp [Stamp.later, Stamp.since]

/-- Settles O2: without a command a step is the idle tick, which goes on to the next stamp. -/
theorem emptyQueueTicks : Obligations.EmptyQueueTicks := by
  unfold Obligations.EmptyQueueTicks
  rintro s a hempty ⟨hruns, harrive⟩
  have hnow : a.now = s.dev.now + 1 := by rw [← harrive, Dev.arrive_now, if_pos (Stamp.later_succ _)]
  refine ⟨?_, hnow, ?_⟩
  · have hstep : step s = .next (idle s) := by simp only [step, hempty]
    rw [hstep]
    exact does_run (f := fun s => s) ⟨hruns, harrive⟩ rfl
  · rw [hnow, BitVec.toNat_add]
    rfl

end Sys2Proof.Machine
end

section
/-! ### Mapping pairs (R61, R62, R65) -/

namespace Sys2Proof.Machine

/-! ### The words of a pair -/

/-- The words of a mapping pair are written. -/
def Dev.putPair (d : Dev) (words : List Nat) : Dev := forL (mapWords.zip words) (fun e d => d.setFld e.1 e.2) d

section
variable (d : Dev) (lo hi secLo secHi ns : Nat)

theorem Dev.putPair_eq : d.putPair [lo, hi, secLo, secHi, ns] = ((((d.setFld F.ISL_MAP_ST_LO.V lo).setFld F.ISL_MAP_ST_HI.V hi).setFld
    F.ISL_MAP_SEC_LO.V secLo).setFld F.ISL_MAP_SEC_HI.V secHi).setFld F.ISL_MAP_NS.NS ns := rfl

theorem Dev.putPair_words : (d.putPair [lo, hi, secLo, secHi, ns]).fld F.ISL_MAP_ST_LO.V = lo % 2 ^ 32
    ∧ (d.putPair [lo, hi, secLo, secHi, ns]).fld F.ISL_MAP_ST_HI.V = hi % 2 ^ 16
    ∧ (d.putPair [lo, hi, secLo, secHi, ns]).fld F.ISL_MAP_SEC_LO.V = secLo % 2 ^ 32
    ∧ (d.putPair [lo, hi, secLo, secHi, ns]).fld F.ISL_MAP_SEC_HI.V = secHi % 2 ^ 16
    ∧ (d.putPair [lo, hi, secLo, secHi, ns]).fld F.ISL_MAP_NS.NS = ns % 2 ^ 30 := by
  rw [Dev.putPair_eq]
  simp (disch := decide) only [Dev.fld_setFld_apart, Dev.fld_setFld_same]
  exact ⟨rfl, rfl, rfl, rfl, rfl⟩

theorem Dev.putPair_regs : sameRegsBut [F.ISL_MAP_ST_LO.V.place, F.ISL_MAP_ST_HI.V.place, F.ISL_MAP_SEC_LO.V.place,
    F.ISL_MAP_SEC_HI.V.place, F.ISL_MAP_NS.NS.place] d (d.putPair [lo, hi, secLo, secHi, ns]) := by
  have hlo := (sameRegsBut.refl [F.ISL_MAP_ST_LO.V.place, F.ISL_MAP_ST_HI.V.place, F.ISL_MAP_SEC_LO.V.place,
    F.ISL_MAP_SEC_HI.V.place, F.ISL_MAP_NS.NS.place] d).setFld F.ISL_MAP_ST_LO.V lo (by simp)
  exact (((hlo.setFld F.ISL_MAP_ST_HI.V hi (by simp)).setFld F.ISL_MAP_SEC_LO.V secLo (by simp)).setFld F.ISL_MAP_SEC_HI.V secHi
    (by simp)).setFld F.ISL_MAP_NS.NS ns (by simp)

end

theorem Dev.putPair_clocks (d : Dev) (words : List Nat) : (d.putPair words).clocks = d.clocks :=
  List.foldlRecOn (motive := fun e : Dev => e.clocks = d.clocks) _ _ rfl (fun _ he _ _ => he)

theorem Dev.putPair_evq (d : Dev) (words : List Nat) : (d.putPair words).evq = d.evq :=
  List.foldlRecOn (motive := fun e : Dev => e.evq = d.evq) _ _ rfl (fun _ he _ _ => he)

theorem Dev.putPair_now (d : Dev) (words : List Nat) : (d.putPair words).now = d.now :=
  List.foldlRecOn (motive := fun e : Dev => e.now = d.now) _ _ rfl (fun _ he _ _ => he)

/-- Another pair is remembered, or none. -/
def Dev.keepPair (d : Dev) (x : Option (List Nat × Bool)) : Dev := { d with clocks := { d.clocks with mapPair := x } }

/-! ### Capture -/

/-- A mapping pair is captured: sample time and the clock of the port that ISL_PTP_SRC names; the words before it are remembered until the
tick has passed (R65). -/
def Dev.mapLatched (d : Dev) : Dev :=
  (d.keepPair (some (mapWords.map d.fld, d.now.toNat % 1000000 = 0))).putPair [d.now.toNat % 2 ^ 32, d.now.toNat / 2 ^ 32,
    d.fld (F.NET_PTP_SEC_LO.V (d.fld F.ISL_PTP_SRC.PORT)), d.fld (F.NET_PTP_SEC_HI.V (d.fld F.ISL_PTP_SRC.PORT)),
    d.fld (F.NET_PTP_NS.NS (d.fld F.ISL_PTP_SRC.PORT))]

/-- Setting a word of ISL leaves the clocks of the ports. -/
theorem Dev.fld_setFld_isl (d : Dev) (f g : Fld) (v : Nat) (hw : f.lo + f.w ≤ 32) (hf : f.blk = .isl) (hg : g.blk ≠ .isl) :
    (d.setFld f v).fld g = d.fld g := Dev.fld_setFld_apart d f g v hw (Fld.apart_of_blk (by rw [hf]; exact hg.symm))

section
variable {d : Dev}

theorem Dev.mapCapture_off (h : d.on F.ISL_PTP_SRC.ENABLE = false) : d.mapCapture = d := by
  simp [Dev.mapCapture, h]

theorem Dev.mapCapture_between (hdue : d.clocks.mapDue = none) (hm : d.now.toNat % 1000 ≠ 0) : d.mapCapture = d := by
  simp [Dev.mapCapture, hdue, hm]

theorem Dev.mapCapture_due (hon : d.on F.ISL_PTP_SRC.ENABLE = true) (hdue : d.clocks.mapDue = none) (hm : d.now.toNat % 1000 = 0) :
    d.mapCapture = d.mapLatched := by
  have hst (e : Dev) (lo hi : Nat) {g : Fld} (hg : g.blk ≠ .isl) :
      ((e.setFld F.ISL_MAP_ST_LO.V lo).setFld F.ISL_MAP_ST_HI.V hi).fld g = e.fld g :=
    (Dev.fld_setFld_isl _ F.ISL_MAP_ST_HI.V g _ Fld.fits rfl hg).trans (Dev.fld_setFld_isl _ F.ISL_MAP_ST_LO.V g _ Fld.fits rfl hg)
  have hsec (e : Dev) (lo hi : Nat) {g : Fld} (hg : g.blk ≠ .isl) :
      ((e.setFld F.ISL_MAP_SEC_LO.V lo).setFld F.ISL_MAP_SEC_HI.V hi).fld g = e.fld g :=
    (Dev.fld_setFld_isl _ F.ISL_MAP_SEC_HI.V g _ Fld.fits rfl hg).trans (Dev.fld_setFld_isl _ F.ISL_MAP_SEC_LO.V g _ Fld.fits rfl hg)
  have hnet : Blk.net ≠ .isl := by decide
  unfold Dev.mapCapture
  rw [if_neg (by simp [hon, hdue, hm])]
  simp only [hdue, Bool.false_eq_true, if_false]
  rw [hsec _ _ _ (g := F.NET_PTP_NS.NS _) hnet, hst _ _ _ (g := F.NET_PTP_NS.NS _) hnet, hst _ _ _ (g := F.NET_PTP_SEC_LO.V _) hnet,
    hst _ _ _ (g := F.NET_PTP_SEC_HI.V _) hnet]
  rw [Dev.mapLatched, Dev.putPair_eq, ← hdue]
  rfl

variable (d)

theorem Dev.mapLatched_pair : d.mapLatched.clocks.mapPair = some (mapWords.map d.fld, Decidable.decide (d.now.toNat % 1000000 = 0)) := by
  rw [Dev.mapLatched, Dev.putPair_clocks]
  rfl

theorem Dev.mapLatched_keeps : d.mapLatched.evq = d.evq ∧ d.mapLatched.now = d.now := by
  rw [Dev.mapLatched, Dev.putPair_evq, Dev.putPair_now]
  exact ⟨rfl, rfl⟩

theorem Dev.mapLatched_regs : sameRegsBut [F.ISL_MAP_ST_LO.V.place, F.ISL_MAP_ST_HI.V.place, F.ISL_MAP_SEC_LO.V.place,
    F.ISL_MAP_SEC_HI.V.place, F.ISL_MAP_NS.NS.place] d d.mapLatched := by
  rw [Dev.mapLatched]
  exact sameRegsBut.trans (d' := d.keepPair _) (sameRegsBut_of_regs rfl rfl) (Dev.putPair_regs _ _ _ _ _ _)

/-- The words captured are those of sample time and of the port's clock. -/
theorem Dev.mapLatched_words : d.mapLatched.fld F.ISL_MAP_ST_LO.V + 2 ^ 32 * d.mapLatched.fld F.ISL_MAP_ST_HI.V = d.now.toNat
    ∧ d.mapLatched.fld F.ISL_MAP_SEC_LO.V = d.fld (F.NET_PTP_SEC_LO.V (d.fld F.ISL_PTP_SRC.PORT))
    ∧ d.mapLatched.fld F.ISL_MAP_SEC_HI.V = d.fld (F.NET_PTP_SEC_HI.V (d.fld F.ISL_PTP_SRC.PORT))
    ∧ d.mapLatched.fld F.ISL_MAP_NS.NS = d.fld (F.NET_PTP_NS.NS (d.fld F.ISL_PTP_SRC.PORT)) := by
  have hnow : d.now.toNat < 2 ^ 48 := d.now.isLt
  obtain ⟨hlo, hhi, hsecLo, hsecHi, hns⟩ := Dev.putPair_words
    (d.keepPair (some (mapWords.map d.fld, Decidable.decide (d.now.toNat % 1000000 = 0))))
    (d.now.toNat % 2 ^ 32) (d.now.toNat / 2 ^ 32) (d.fld (F.NET_PTP_SEC_LO.V (d.fld F.ISL_PTP_SRC.PORT)))
    (d.fld (F.NET_PTP_SEC_HI.V (d.fld F.ISL_PTP_SRC.PORT))) (d.fld (F.NET_PTP_NS.NS (d.fld F.ISL_PTP_SRC.PORT)))
  refine ⟨?_, hsecLo.trans (Nat.mod_eq_of_lt (d.fld_lt _)), hsecHi.trans (Nat.mod_eq_of_lt (d.fld_lt _)),
    hns.trans (Nat.mod_eq_of_lt (d.fld_lt _))⟩
  rw [Dev.mapLatched, hlo, hhi]
  omega

end

/-! ### The tick ends, or a step displaces the pair -/

/-- The tick ends on a captured pair: no pair waits any more, and one captured at a multiple of 1,000,000 is recorded. -/
theorem Dev.mapClose_pair {d : Dev} {old : List Nat} {due : Bool} (h : d.clocks.mapPair = some (old, due)) :
    d.mapClose.clocks.mapPair = none ∧ (due = false → d.mapClose.evq = d.evq)
    ∧ (due = true → ∃ r, d.mapClose.evq = d.evq ++ [r] ∧ r.ev = .timeMap ∧ r.stamp = d.now) := by
  unfold Dev.mapClose
  rw [h]
  cases due with
  | false => exact ⟨rfl, fun _ => rfl, nofun⟩
  | true =>
    refine ⟨?_, nofun, fun _ => ⟨_, Dev.raiseAt_evq .., rfl, rfl⟩⟩
    simp only [if_true, Dev.raise_clocks]

theorem Dev.mapDiscard_eq {d : Dev} {old : List Nat} {due : Bool} (h : d.clocks.mapPair = some (old, due)) :
    d.mapDiscard = (d.putPair old).keepPair none := by
  unfold Dev.mapDiscard
  rw [h]
  rfl

/-- A record writes no register of ISL. -/
theorem Dev.raise_fld_isl (d : Dev) (ev : Ev) (src : Src) (pay : List Byte) {g : Fld} (hg : g.blk = .isl) :
    (d.raise ev src pay).fld g = d.fld g := by
  refine ((Touches.refl (recFlds (evClass ev)) d).raise ev src pay subset_rfl).fld g ?_
  rintro f (rfl | rfl | rfl)
  all_goals exact Fld.apart_of_blk (by rw [hg]; simp [F.FLT_CLASS_CNT.COUNT, F.EVT_CNT_LO.V, F.EVT_CNT_HI.V])

/-- A step of the port that ISL_PTP_SRC names discards the pair captured in its tick: the words before it stand again, and a new pair is due at
the next tick (R65). -/
theorem Dev.ptpStep_discards {a d : Dev} {due : Bool} (h : d.clocks.mapPair = some (mapWords.map a.fld, due)) {k : Nat}
    (hk : d.fld F.ISL_PTP_SRC.PORT = k) (x : Int) : (d.ptpStep k x).clocks.mapPair = none
      ∧ (d.ptpStep k x).clocks.mapDue = some (d.now.plus 1)
      ∧ (d.ptpStep k x).fld F.ISL_MAP_ST_LO.V = a.fld F.ISL_MAP_ST_LO.V ∧ (d.ptpStep k x).fld F.ISL_MAP_NS.NS = a.fld F.ISL_MAP_NS.NS := by
  have hport : (d.incWrap (F.NET_PTP_STAT.STEPS k)).fld F.ISL_PTP_SRC.PORT = k := by
    refine (Dev.fld_setFld_apart _ (F.NET_PTP_STAT.STEPS k) F.ISL_PTP_SRC.PORT _ Fld.fits ?_).trans hk
    exact Fld.apart_of_blk (show Blk.net ≠ Blk.isl by simp)
  have hdiscard : (d.incWrap (F.NET_PTP_STAT.STEPS k)).mapDiscard
      = ((d.incWrap (F.NET_PTP_STAT.STEPS k)).putPair (mapWords.map a.fld)).keepPair none := Dev.mapDiscard_eq h
  obtain ⟨hst, -, -, -, hns⟩ := Dev.putPair_words (d.incWrap (F.NET_PTP_STAT.STEPS k)) (a.fld F.ISL_MAP_ST_LO.V) (a.fld F.ISL_MAP_ST_HI.V)
    (a.fld F.ISL_MAP_SEC_LO.V) (a.fld F.ISL_MAP_SEC_HI.V) (a.fld F.ISL_MAP_NS.NS)
  have hepoch (e : Dev) (c : ClockSt) {g : Fld} (hg : F.ISL_MAP_EPOCH.EPOCH.apart g = true) :
      ({ (e.keepPair none).incWrap F.ISL_MAP_EPOCH.EPOCH with clocks := c } : Dev).fld g = e.fld g :=
    Dev.fld_setFld_apart (e.keepPair none) F.ISL_MAP_EPOCH.EPOCH g _ Fld.fits hg
  have hnow (e : Dev) (l : List Nat) : ((e.putPair l).keepPair none).now = e.now := Dev.putPair_now e l
  unfold Dev.ptpStep
  simp only [if_true, hport, hdiscard, Dev.raise_clocks]
  refine ⟨rfl, ?_, ?_, ?_⟩
  · rw [hnow, Dev.incWrap, Dev.setFld_now]
  · rw [Dev.raise_fld_isl _ _ _ _ rfl, hepoch _ _ (by decide)]
    exact hst.trans (Nat.mod_eq_of_lt (a.fld_lt _))
  · rw [Dev.raise_fld_isl _ _ _ _ rfl, hepoch _ _ (by decide)]
    exact hns.trans (Nat.mod_eq_of_lt (a.fld_lt _))

end Sys2Proof.Machine
end

section
/-! ### Clock monitors and the die-to-die link (R63, R64, R68 to R73) -/

namespace Sys2Proof.Machine

/-! ### What a gate does -/

/-- A gate of the clock's monitor says nothing: the clock is gated, its port is absent, or its island is held in reset. -/
def Dev.gateSilent (d : Dev) (i : Nat) : Bool :=
  d.clockGated i || (9 ≤ i && !d.part.hasPort (i - 9)) || (8 ≤ i && !d.clockVital i && d.islandHeld (clockIsland i))

/-- A clock has been reported out of window, and nothing has followed yet (R63). -/
def Dev.clockReported (d : Dev) (i : Nat) : Dev :=
  ((d.setBitOf F.ISL_CLK_OK.IN_WINDOW i false).setBitOf F.ISL_CLK_FLAG.OUT_SEEN i true).pend 69

section
variable {s : State} {i count : Nat} {stopped : Bool}

theorem State.clockGate_silent (h : s.dev.gateSilent i = true) : s.clockGate i count stopped = s := if_pos h

section
variable (h : s.dev.gateSilent i = false) (hc : count < 2 ^ 24) {b : Dev} (hb : b = s.dev.setFld (F.ISL_CLK_MEAS.COUNT i) count)
include h hc hb

/-- The first full gate after both clocks started is only measured (R73). -/
theorem State.clockGate_first (hj : s.dev.clocks.judging.testBit i = false) : s.clockGate i count stopped
    = { s with dev := { b with clocks := { b.clocks with judging := setMask b.clocks.judging i (!stopped) } } } := by
  have hm : min count (2 ^ 24 - 1) = count := by omega
  unfold State.clockGate
  rw [if_neg (by rw [← Dev.gateSilent, h]; simp), hm, hb]
  simp [hj, State.map]

/-- A clock in window ends its causes. -/
theorem State.clockGate_good (hj : s.dev.clocks.judging.testBit i = true) (hs : stopped = false) (hoff : b.clockOff i count = 0) :
    s.clockGate i count stopped = { s with dev :=
      ((b.setBitOf F.ISL_CLK_OK.IN_WINDOW i true).clear .clkWindowVital (.clock i)).clear .clkWindowCore (.clock i) } := by
  have hm : min count (2 ^ 24 - 1) = count := by omega
  have hr : b.clockReports i count stopped = (false, b) := by simp [Dev.clockReports, hs, hoff]
  unfold State.clockGate
  rw [if_neg (by rw [← Dev.gateSilent, h]; simp), hm]
  simp only [State.map, ← hb, hr]
  rw [if_neg (by simp [hb, hj]), if_neg (by simp)]
  rfl

/-- A clock far out of window, or stopped, is reported. -/
theorem State.clockGate_bad (hj : s.dev.clocks.judging.testBit i = true) (hbad : stopped = true ∨ b.clockOff i count = 2) :
    s.clockGate i count stopped = State.clockReact i { s with dev := b.clockReported i } := by
  have hm : min count (2 ^ 24 - 1) = count := by omega
  have hr : b.clockReports i count stopped = (true, b) := by
    rcases hbad with hs | hoff
    · simp [Dev.clockReports, hs]
    · cases stopped <;> simp [Dev.clockReports, hoff]
  unfold State.clockGate
  rw [if_neg (by rw [← Dev.gateSilent, h]; simp), hm]
  simp only [State.map, ← hb, hr]
  rw [if_neg (by simp [hb, hj]), if_pos trivial]
  rfl

end
end

/-! ### What a report leads to -/

section
variable (d : Dev) (i count : Nat)

theorem Dev.clockReported_regs {l : List (Blk × Nat)} {a : Dev} (h : sameRegsBut l a d) (h1 : F.ISL_CLK_OK.IN_WINDOW.place ∈ l)
    (h2 : F.ISL_CLK_FLAG.OUT_SEEN.place ∈ l) : sameRegsBut l a (d.clockReported i) :=
  ((h.setFld F.ISL_CLK_OK.IN_WINDOW _ h1).setFld F.ISL_CLK_FLAG.OUT_SEEN _ h2).pend _ _

/-- The registers of the ports, and so the part that a clock plays, stand through the report. -/
theorem Dev.clockReported_vital : ((d.setFld (F.ISL_CLK_MEAS.COUNT i) count).clockReported i).clockVital i = d.clockVital i := by
  have hrole : ((d.setFld (F.ISL_CLK_MEAS.COUNT i) count).clockReported i).netRole (i - 9) = d.netRole (i - 9) := by
    have h0 := (sameRegsBut.refl [(F.ISL_CLK_MEAS.COUNT i).place, F.ISL_CLK_OK.IN_WINDOW.place, F.ISL_CLK_FLAG.OUT_SEEN.place] d).setFld
      (F.ISL_CLK_MEAS.COUNT i) count (by simp)
    have h := Dev.clockReported_regs _ i h0 (by simp) (by simp)
    refine Dev.fld_congr (h .net _ ?_)
    simp [Fld.place, F.ISL_CLK_MEAS.COUNT, F.ISL_CLK_OK.IN_WINDOW, F.ISL_CLK_FLAG.OUT_SEEN]
  simp only [Dev.clockVital, hrole]

/-- The count that a report tells is the one just measured. -/
theorem Dev.clockReported_count (hc : count < 2 ^ 24) :
    ((d.setFld (F.ISL_CLK_MEAS.COUNT i) count).clockReported i).fld (F.ISL_CLK_MEAS.COUNT i) = count := by
  have hbits (e : Dev) : (e.clockReported i).fld (F.ISL_CLK_MEAS.COUNT i) = e.fld (F.ISL_CLK_MEAS.COUNT i) := by
    refine Dev.fld_congr (Dev.clockReported_regs (l := [F.ISL_CLK_OK.IN_WINDOW.place, F.ISL_CLK_FLAG.OUT_SEEN.place]) e i
      (sameRegsBut.refl _ e) (by simp) (by simp) .isl _ ?_)
    simp [Fld.place, F.ISL_CLK_OK.IN_WINDOW, F.ISL_CLK_FLAG.OUT_SEEN, F.ISL_CLK_MEAS.COUNT]
    omega
  rw [hbits, Dev.fld_setFld_same _ _ _ Fld.fits]
  exact Nat.mod_eq_of_lt hc

end

/-- A core's clock out of window holds every core (R70). -/
def Dev.coresHold (d : Dev) : Dev := { d with clocks := { d.clocks with coresHeld := true }, worlds := { d.worlds with apRunning := 0 } }

section
variable {s : State} {i n : Nat} {d : Dev} (hn : d.fld (F.ISL_CLK_MEAS.COUNT i) = n)
include hn

theorem State.clockReact_vital (hv : d.clockVital i = true) : State.clockReact i { s with dev := d } = { s with dev := (
    if d.has .clkWindowVital (.clock i) then d
    else (d.fault .clkWindowVital (.clock i) 0 0 (leBytes 4 n)).clockFirst i) } := by
  rw [← hn]
  exact if_pos hv

theorem State.clockReact_core (hv : d.clockVital i = false) (hi : i < 8) : State.clockReact i { s with dev := d }
    = { s with dev := (d.fault .clkWindowCore (.clock i) 0 0 (leBytes 4 n)).coresHold } := by
  unfold State.clockReact
  rw [if_neg (by simp [hv]), if_pos hi, ← hn]
  rfl

theorem State.clockReact_island (hv : d.clockVital i = false) (hi : 8 ≤ i) : State.clockReact i { s with dev := d }
    = State.clockIslandReset i { s with dev := d.note .clkWindowIsland (.clock i) 0 (leBytes 4 n) } := by
  unfold State.clockReact
  rw [if_neg (by simp [hv]), if_neg (by omega), ← hn]
  rfl

end

/-- Naming the first of several clocks writes the first cause alone (R66). -/
theorem sameRegsBut.clockFirst {l : List (Blk × Nat)} {a d : Dev} (h : sameRegsBut l a d) (i : Nat) (hm : F.FLT_FIRST_CAUSE.CODE.place ∈ l) :
    sameRegsBut l a (d.clockFirst i) :=
  sameRegsBut.ite (h.setFld F.FLT_FIRST_CAUSE.SOURCE _ hm) h

/-! ### The rows -/

/-- SAMPLE_TIME_WRAP: sample time goes on from its last stamp to 0, and from no other (R56). -/
theorem sampleTimeWrap_rows {s : State} (h : Runs s) :
    (s.dev.now = 0xFFFFFFFFFFFF#48 → Does (exec .sampleTimeWrap s) { s with dev := s.dev.arrive 0 0 } ∧ (s.dev.arrive 0 0).now = 0)
    ∧ (s.dev.now ≠ 0xFFFFFFFFFFFF#48 → Does (exec .sampleTimeWrap s) { s with dev := s.dev.arrive s.dev.now 0 }
      ∧ (s.dev.arrive s.dev.now 0).now = s.dev.now) := by
  have hexec : exec .sampleTimeWrap s
      = .next (if s.dev.now = 0xFFFFFFFFFFFF#48 then s.run 0 0 (fun s => s) else s.run s.dev.now 0 (fun s => s)) := rfl
  rw [hexec]
  refine ⟨fun hlast => ?_, fun hne => ?_⟩
  · rw [if_pos hlast]
    refine ⟨does_run (f := fun s => s) ⟨h, rfl⟩ rfl, ?_⟩
    rw [Dev.arrive_now, hlast, if_pos (by decide)]
  · rw [if_neg hne]
    refine ⟨does_run (f := fun s => s) ⟨h, rfl⟩ rfl, ?_⟩
    rw [Dev.arrive_now, ite_self]

/-- MAPPING_PAIR_CAPTURE captures a pair at a multiple of 1,000; what becomes of it is decided by what the tick still brings (R61, R62, R65). -/
theorem mappingPairCapture_due {s : State} {t : Stamp} {a : Dev} (h : At s t 0 a) (hon : a.on F.ISL_PTP_SRC.ENABLE = true)
    (hdue : a.clocks.mapDue = none) (hm : a.now.toNat % 1000 = 0) :
    Turns (exec (.mappingPairCapture t) s) s [F.ISL_MAP_ST_LO.V.place, F.ISL_MAP_ST_HI.V.place, F.ISL_MAP_SEC_LO.V.place,
      F.ISL_MAP_SEC_HI.V.place, F.ISL_MAP_NS.NS.place] a a.mapLatched :=
  turns_runDev h (Dev.mapCapture_due hon hdue hm) a.mapLatched_regs

section
variable {s : State} {t : Stamp} {i : Fin 13} {count : BitVec 24} {stopped : Bool} {a b : Dev}

/-- A gate of the clock's monitor whose effect on the state is known. -/
theorem does_clockGate {u : State} (h : At s t 0 a) (hu : State.clockGate i.val count.toNat stopped { s with dev := a } = u) :
    Does (exec (.clockMonitorGate t i count stopped) s) u :=
  does_run (f := fun s => s.clockGate i.val count.toNat stopped) h hu

/-- A clock reported out of window (R64, R68 to R70). -/
theorem clockMonitorGate_bad (h : At s t 0 a) (hb : b = a.setFld (F.ISL_CLK_MEAS.COUNT i.val) count.toNat) (hn : a.gateSilent i.val = false)
    (hj : a.clocks.judging.testBit i.val = true) (hbad : stopped = true ∨ b.clockOff i.val count.toNat = 2) {d : Dev}
    (hd : d = b.clockReported i.val) :
    (a.clockVital i.val = true → Turns (exec (.clockMonitorGate t i count stopped) s) s ([(F.ISL_CLK_MEAS.COUNT i.val).place,
        F.ISL_CLK_OK.IN_WINDOW.place, F.ISL_CLK_FLAG.OUT_SEEN.place] ++ faultRegs (evClass .clkWindowVital)) a
      (if d.has .clkWindowVital (.clock i) then d else (d.fault .clkWindowVital (.clock i) 0 0 (leBytes 4 count.toNat)).clockFirst i.val))
    ∧ (a.clockVital i.val = false → i.val < 8 → Turns (exec (.clockMonitorGate t i count stopped) s) s
      ([(F.ISL_CLK_MEAS.COUNT i.val).place, F.ISL_CLK_OK.IN_WINDOW.place, F.ISL_CLK_FLAG.OUT_SEEN.place]
        ++ faultRegs (evClass .clkWindowCore)) a (d.fault .clkWindowCore (.clock i) 0 0 (leBytes 4 count.toNat)).coresHold)
    ∧ (a.clockVital i.val = false → 8 ≤ i.val → Does (exec (.clockMonitorGate t i count stopped) s) (State.clockIslandReset i.val
      { s with dev := d.note .clkWindowIsland (.clock i) 0 (leBytes 4 count.toNat) })) := by
  have hgate := State.clockGate_bad (s := { s with dev := a }) hn count.isLt hb hj hbad
  have hvital : d.clockVital i.val = a.clockVital i.val := by rw [hd, hb, Dev.clockReported_vital]
  have hcount : d.fld (F.ISL_CLK_MEAS.COUNT i.val) = count.toNat := by rw [hd, hb, Dev.clockReported_count _ _ _ count.isLt]
  have hregs (l : List (Blk × Nat)) : sameRegsBut ([(F.ISL_CLK_MEAS.COUNT i.val).place, F.ISL_CLK_OK.IN_WINDOW.place,
      F.ISL_CLK_FLAG.OUT_SEEN.place] ++ l) a d := by
    rw [hd, hb]
    exact Dev.clockReported_regs _ _ ((sameRegsBut.refl _ a).setFld _ _ (by simp)) (by simp) (by simp)
  rw [← hd] at hgate
  clear hd hb hbad hj hn
  refine ⟨fun hv => ⟨does_clockGate h (hgate.trans ?_), ?_⟩, fun hv hi => ⟨does_clockGate h (hgate.trans ?_), ?_⟩,
    fun hv hi => does_clockGate h (hgate.trans ?_)⟩
  · exact State.clockReact_vital hcount (hvital.trans hv)
  · exact (hregs _).ite (sameRegsBut.clockFirst ((hregs _).fault _ _ _ _ _ _ (List.subset_append_right _ _)) _ (by simp [faultRegs]))
  · exact State.clockReact_core hcount (hvital.trans hv) hi
  · exact ((hregs _).fault _ _ _ _ _ _ (List.subset_append_right _ _)).upd rfl rfl
  · exact State.clockReact_island hcount (hvital.trans hv) hi

/-- D2D_LINK_LOST counts the words that failed, raises the loss with its reason, or ends it (R71). -/
theorem d2dLinkLost_rows (h : At s t 0 a) (silent : Bool) (bad : BitVec 16) {d : Dev} (hd : d = a.inc F.ISL_D2D_STAT.CRC_ERR bad.toNat) :
    ((silent = true ∨ 3 ≤ bad.toNat) → Turns (exec (.d2dLinkLost t silent bad) s) s (F.ISL_D2D_STAT.CRC_ERR.place
        :: faultRegs (evClass .d2dLinkLost)) a (d.fault .d2dLinkLost (.clock 0) 0 0 (leBytes 1 (if silent then 1 else 2))))
    ∧ (silent = false → bad.toNat < 3 → Turns (exec (.d2dLinkLost t silent bad) s) s [F.ISL_D2D_STAT.CRC_ERR.place] a
        (d.clear .d2dLinkLost (.clock 0))) := by
  have hregs (l : List (Blk × Nat)) : sameRegsBut (F.ISL_D2D_STAT.CRC_ERR.place :: l) a d := by
    rw [hd]
    exact (sameRegsBut.refl _ a).inc _ _ (by simp)
  refine ⟨fun hlost => turns_runDev h ?_ ((hregs _).fault _ _ _ _ _ _ (List.subset_cons_self _ _)),
    fun hword hfew => turns_runDev h ?_ ((hregs _).upd rfl rfl)⟩
  · cases silent with
    | true => rw [Dev.d2d, hd, if_pos rfl, if_pos rfl]
    | false =>
      have h3 : 3 ≤ bad.toNat := hlost.resolve_left (by decide)
      subst hd
      simp only [Dev.d2d, h3, if_true, Bool.false_eq_true, if_false]
  · subst hd
    simp only [Dev.d2d, hword, show ¬ 3 ≤ bad.toNat by omega, Bool.false_eq_true, if_false]

end

/-- Settles O44: sample time, the captured pair, each verdict of a clock's monitor and the die-to-die link, row by row. -/
theorem sampleTimePairsAndClockMonitors : Obligations.SampleTimePairsAndClockMonitors := by
  unfold Obligations.SampleTimePairsAndClockMonitors
  refine ⟨⟨fun s h => (sampleTimeWrap_rows h).1, fun s h => (sampleTimeWrap_rows h).2, fun s t a h => ⟨?_, ?_, fun hon hdue hm => ?_⟩⟩, ?_⟩
  · exact fun hoff => turns_runDev h (Dev.mapCapture_off hoff) (sameRegsBut.refl _ _)
  · exact fun hdue hm => turns_runDev h (Dev.mapCapture_between hdue hm) (sameRegsBut.refl _ _)
  · obtain ⟨hst, hlo, hhi, hns⟩ := a.mapLatched_words
    obtain ⟨hevq, hnow⟩ := a.mapLatched_keeps
    obtain ⟨hclosed, hquiet, htold⟩ := Dev.mapClose_pair a.mapLatched_pair
    rw [hevq] at hquiet htold
    rw [hnow] at htold
    refine ⟨a.mapLatched, mappingPairCapture_due h hon hdue hm, hst, hlo, hhi, hns, hevq, hclosed, fun hn => hquiet (by simpa using hn),
      fun hy => htold (by simpa using hy), fun k x hk => ?_⟩
    have hport : a.mapLatched.fld F.ISL_PTP_SRC.PORT = k := (Dev.fld_congr (a.mapLatched_regs .isl _ (by decide))).trans hk
    obtain ⟨hnone, hnext, h1, h2⟩ := Dev.ptpStep_discards a.mapLatched_pair hport x
    rw [hnow] at hnext
    exact ⟨hnone, hnext, h1, h2⟩
  · intro s t i count stopped a b h hb
    refine ⟨fun hg => ⟨does_clockGate h (State.clockGate_silent (by simp [Dev.gateSilent, hg])), sameRegsBut.refl _ _⟩,
      fun hg hport hheld => ?_, fun silent bad d hd => d2dLinkLost_rows h silent bad hd⟩
    have hn : a.gateSilent i.val = false := by
      rw [Dev.gateSilent, hg, Bool.false_or, Bool.or_eq_false_iff]
      constructor
      · rcases hport with hp | hp
        · simp [show ¬ 9 ≤ i.val by omega]
        · simp [hp]
      · rcases hheld with hp | hp | hp
        · simp [show ¬ 8 ≤ i.val by omega]
        · simp [hp]
        · simp [hp]
    have hcount : sameRegsBut [(F.ISL_CLK_MEAS.COUNT i.val).place] a b := by
      rw [hb]
      exact sameRegsBut_setFld _ _ _ _ (by simp)
    refine ⟨fun hj => ⟨does_clockGate h (State.clockGate_first (s := { s with dev := a }) hn count.isLt hb hj), hcount.upd rfl rfl⟩,
      fun hj hs hoff => ⟨does_clockGate h (State.clockGate_good (s := { s with dev := a }) hn count.isLt hb hj hs hoff), ?_⟩,
      fun hj hbad d hd => ?_⟩
    · exact ((hcount.mono (by simp)).setFld F.ISL_CLK_OK.IN_WINDOW _ (by simp)).upd rfl rfl
    · obtain ⟨hvital, hcore, hisland⟩ := clockMonitorGate_bad h hb hn hj hbad hd
      refine ⟨hvital, fun hv hi => ⟨_, hcore hv hi, rfl, rfl, ?_⟩, hisland⟩
      exact Dev.fault_has ..

end Sys2Proof.Machine
end

section
/-! ### Fields after a reset (R8, R105) -/

namespace Sys2Proof.Machine

/-- Of every bit of the field, the register's fields that hold it are kept, and there is one. -/
def keepsFld (lost : Blk → Nat → FieldDef → Bool) (f : Fld) : Bool := match findReg f.off (regDefs f.blk) with
  | none => false
  | some (r, _, _) => (List.range f.w).all (fun k => r.fields.any (fun g => g.mask.testBit (f.lo + k))
      && r.fields.all (fun g => !g.mask.testBit (f.lo + k) || !lost f.blk f.off g))

/-- Of every bit of the field, the register's fields that hold it are lost, and its Reset value is 0. -/
def zeroesFld (lost : Blk → Nat → FieldDef → Bool) (f : Fld) : Bool := match findReg f.off (regDefs f.blk) with
  | none => false
  | some (r, _, _) => (List.range f.w).all (fun k => r.fields.all (fun g => !g.mask.testBit (f.lo + k) || lost f.blk f.off g)
      && [Part.dx8856, .dx8828].all (fun p => !(resetAt p f.blk f.off).getLsbD (f.lo + k)))

section
variable {d d' : Dev} {lost : Blk → Nat → FieldDef → Bool} (hr : d'.regs = d.resetRegs lost) (hp : d'.part = d.part) {f : Fld}
include hr hp

/-- A field that is kept holds its value after a reset. -/
theorem Dev.fld_of_keepsFld (hk : keepsFld lost f = true) (hf : f.lo + f.w ≤ 32) : d'.fld f = d.fld f := by
  unfold keepsFld at hk
  cases hreg : findReg f.off (regDefs f.blk) with
  | none => simp [hreg] at hk
  | some x =>
    obtain ⟨r, i, j⟩ := x
    simp only [hreg, List.all_eq_true, List.mem_range, Bool.and_eq_true, List.any_eq_true, Bool.or_eq_true, Bool.not_eq_true'] at hk
    unfold Dev.fld
    congr 1
    refine BitVec.eq_of_getLsbD_eq (fun k hkw => ?_)
    obtain ⟨⟨g, hg, hbit⟩, hall⟩ := hk k hkw
    rw [BitVec.getLsbD_extractLsb', BitVec.getLsbD_extractLsb', Dev.reg_of_resetRegs lost hr hp hreg,
      RegDef.getLsbD_after _ _ _ _ _ (by omega), Bool.eq_iff_iff]
    simp only [hkw, decide_true, Bool.true_and, List.any_eq_true, Bool.and_eq_true]
    constructor
    · rintro ⟨e, he, hv, hm⟩
      rwa [(hall e he).resolve_left (by simp [hm]), if_neg (by simp)] at hv
    · intro hv
      exact ⟨g, hg, by rwa [(hall g hg).resolve_left (by simp [hbit]), if_neg (by simp)], hbit⟩

/-- A field that is lost, of Reset value 0, is 0 after a reset. -/
theorem Dev.fld_of_zeroesFld (hk : zeroesFld lost f = true) (hf : f.lo + f.w ≤ 32) : d'.fld f = 0 := by
  unfold zeroesFld at hk
  cases hreg : findReg f.off (regDefs f.blk) with
  | none => simp [hreg] at hk
  | some x =>
    obtain ⟨r, i, j⟩ := x
    simp only [hreg, List.all_eq_true, List.mem_range, Bool.and_eq_true, Bool.or_eq_true, Bool.not_eq_true'] at hk
    have hz : (d'.reg f.blk f.off).extractLsb' f.lo f.w = 0#f.w := by
      refine BitVec.eq_of_getLsbD_eq (fun k hkw => ?_)
      obtain ⟨hall, hrst⟩ := hk k hkw
      rw [BitVec.getLsbD_extractLsb', Dev.reg_of_resetRegs lost hr hp hreg, RegDef.getLsbD_after _ _ _ _ _ (by omega), BitVec.getLsbD_zero,
        Bool.and_eq_false_iff]
      refine .inr (List.any_eq_false.2 (fun e he hm => ?_))
      obtain ⟨hv, hm⟩ := (Bool.and_eq_true ..).mp hm
      rw [(hall e he).resolve_left (by simp [hm]), if_pos rfl, hrst d.part (by cases d.part <;> simp)] at hv
      cases hv
    rw [Dev.fld, hz]
    rfl

end

/-! ### A write of ISL_ISLAND_RESET (R69) -/

/-- The WO bits on which a write of ISL_ISLAND_RESET acts: those of islands that the part has. -/
def islandBits (p : Part) (v : Word) : Nat := match findReg O.ISL_ISLAND_RESET (regDefs .isl) with
  | none => 0
  | some (r, _, _) => r.woBits v.toNat (0xFFFFFFFF - (0xFFFFFFFF &&& deadBits p .isl O.ISL_ISLAND_RESET))

/-- The register takes any write of an SV pair, and the islands of the bits written follow. -/
theorem sv_islandReset {s : State} {acc : Access} (v : Word) (hsv : Sv acc) :
    s.busWrite acc (blkBase .isl + O.ISL_ISLAND_RESET) v {}
      = State.islandWrite (islandBits s.dev.part v) { s with dev := s.dev.stored .isl O.ISL_ISLAND_RESET v } := by
  have hwr : s.dev.writable .isl O.ISL_ISLAND_RESET v.toNat 0xFFFFFFFF
      = 0xFFFFFFFF - (0xFFFFFFFF &&& deadBits s.dev.part .isl O.ISL_ISLAND_RESET) := by simp [Dev.writable, Dev.frozen]
  obtain ⟨r, hf⟩ : ∃ r, findReg O.ISL_ISLAND_RESET (regDefs .isl) = some (r, 0, 0) := ⟨_, rfl⟩
  rw [sv_write hsv hf (by decide) (by decide) (by decide) (by decide) (by decide) (by decide) (by cases s.dev.part <;> decide) ?_ rfl, hwr]
  · simp only [State.afterWrite, if_true, islandBits, hf]
  · obtain rfl : r = _ := congrArg Prod.fst (Option.some.inj hf).symm
    rw [hwr]
    cases s.dev.part <;> cases s.dev.on F.BOT_STATUS.LOCKED <;> decide

/-- The write itself changes its own register alone. -/
theorem Dev.stored_islandReset (d : Dev) (v : Word) :
    ∃ w, d.stored .isl O.ISL_ISLAND_RESET v = d.setReg .isl O.ISL_ISLAND_RESET w := by
  obtain ⟨r, hf⟩ : ∃ r, findReg O.ISL_ISLAND_RESET (regDefs .isl) = some (r, 0, 0) := ⟨_, rfl⟩
  simp only [Dev.stored, hf, Dev.storeReg, Dev.crossFix, show (Blk.isl = Blk.pwr) = False by simp, show (Blk.isl = Blk.pgn) = False by simp,
    show (Blk.isl = Blk.lmp) = False by simp, false_and, if_false]
  exact ⟨_, rfl⟩

theorem bitsOf_islandBits_dusk (p : Part) : bitsOf 6 (islandBits p 1) = [0] := by cases p <;> decide
theorem bitsOf_islandBits_ser (p : Part) : bitsOf 6 (islandBits p 2) = [1] := by cases p <;> decide
theorem bitsOf_islandBits_port (p : Part) (n : Fin 4) (h : p.hasPort n.val = true) : bitsOf 6 (islandBits p (4#32 <<< n.val)) = [2 + n.val] := by
  revert h n
  cases p <;> decide

/-- An island that is not to be reset: a port that is absent or in TWIN role, or the island's reset has been performed at this stamp. -/
def Dev.islandSpared (d : Dev) (i : Nat) : Prop :=
  (2 ≤ i ∧ (d.netRole (i - 2) = 0 ∨ d.part.hasPort (i - 2) = false)) ∨ d.now ∈ tabGet [] d.clocks.resets i

section
variable {s : State} {d : Dev} {mask i : Nat} (hm : bitsOf 6 mask = [i])
include hm

theorem State.islandWrite_spared (h : d.islandSpared i) : State.islandWrite mask { s with dev := d } = { s with dev := d } := by
  unfold State.islandWrite
  rw [hm, List.foldl_cons, List.foldl_nil, if_pos (by simpa [Dev.islandSpared] using h)]

theorem State.islandWrite_held (h : ¬ d.islandSpared i) (hh : d.islandHeld i = true) : State.islandWrite mask { s with dev := d } = { s with dev :=
    ({ d.setBitOf F.ISL_ISLAND_HELD.HELD i false with clocks := { d.clocks with resets := tabDel d.clocks.resets i } }) } := by
  unfold State.islandWrite
  rw [hm, List.foldl_cons, List.foldl_nil, if_neg (by simpa [Dev.islandSpared] using h), if_pos hh]
  rfl

theorem State.islandWrite_reset (h : ¬ d.islandSpared i) (hh : d.islandHeld i = false) :
    State.islandWrite mask { s with dev := d } = State.island i { s with dev := d } := by
  unfold State.islandWrite
  rw [hm, List.foldl_cons, List.foldl_nil, if_neg (by simpa [Dev.islandSpared] using h), if_neg (by simp [hh])]

end

end Sys2Proof.Machine
end

section
namespace Sys2Proof.Machine

/-! ### What a write of ISL_ISLAND_RESET does to its island -/

section
variable {a b : Dev} {v : Word} (hb : b = a.stored .isl O.ISL_ISLAND_RESET v)
include hb

theorem islandStored_regs : sameRegsBut [(.isl, O.ISL_ISLAND_RESET)] a b := by
  obtain ⟨w, hw⟩ := a.stored_islandReset v
  rw [hb, hw]
  exact sameRegsBut_setReg _ _ _ _ _ (by simp)

theorem islandStored_keeps : b.part = a.part ∧ b.now = a.now ∧ b.clocks = a.clocks ∧ b.causes = a.causes := by
  obtain ⟨w, hw⟩ := a.stored_islandReset v
  rw [hb, hw]
  exact ⟨rfl, rfl, rfl, rfl⟩

theorem islandStored_fld {f : Fld} (hf : f.place ≠ (.isl, O.ISL_ISLAND_RESET)) : b.fld f = a.fld f :=
  Dev.fld_congr (islandStored_regs hb _ _ (fun hm => hf (List.mem_singleton.1 hm)))

theorem islandStored_spared (i : Nat) : b.islandSpared i ↔ a.islandSpared i := by
  obtain ⟨hp, hn, hc, -⟩ := islandStored_keeps hb
  have hrole : b.netRole (i - 2) = a.netRole (i - 2) := islandStored_fld hb (by simp [Fld.place, F.NET_CFG.ROLE])
  rw [Dev.islandSpared, Dev.islandSpared, hp, hn, hc, hrole]

theorem islandStored_held (i : Nat) : b.islandHeld i = a.islandHeld i := by
  rw [Dev.islandHeld, Dev.islandHeld, Dev.bitOf, Dev.bitOf, islandStored_fld hb (by decide)]

end

section
variable {s : State} {t : Stamp} {acc : Access} {a b : Dev} {v : Word} {i : Nat} (h : At s t 0 a) (hsv : Sv acc)
  (hb : b = a.stored .isl O.ISL_ISLAND_RESET v) (hm : bitsOf 6 (islandBits a.part v) = [i])
include h hsv hb

/-- The command of a row of Table ISL-10. -/
theorem does_islandReset {u : State} (hu : State.islandWrite (islandBits a.part v) { s with dev := b } = u) :
    Does (.next (s.run t 0 (fun s => s.busWrite acc (blkBase .isl + O.ISL_ISLAND_RESET) v {}))) u :=
  does_run h ((sv_islandReset v hsv).trans (by rw [← hu, hb]))

include hm

/-- A port in TWIN role is not reset. -/
theorem turns_islandReset_spared (hs : a.islandSpared i) :
    Turns (.next (s.run t 0 (fun s => s.busWrite acc (blkBase .isl + O.ISL_ISLAND_RESET) v {}))) s [(.isl, O.ISL_ISLAND_RESET)] a b :=
  ⟨does_islandReset h hsv hb (State.islandWrite_spared hm ((islandStored_spared hb i).2 hs)), islandStored_regs hb⟩

/-- A held island is released (R69). -/
theorem turns_islandReset_held (hs : ¬ a.islandSpared i) (hh : a.islandHeld i = true) :
    Turns (.next (s.run t 0 (fun s => s.busWrite acc (blkBase .isl + O.ISL_ISLAND_RESET) v {}))) s
      [(.isl, O.ISL_ISLAND_RESET), F.ISL_ISLAND_HELD.HELD.place] a
      { b.setBitOf F.ISL_ISLAND_HELD.HELD i false with clocks := { a.clocks with resets := tabDel a.clocks.resets i } } := by
  obtain ⟨-, -, hc, -⟩ := islandStored_keeps hb
  refine ⟨does_islandReset h hsv hb ?_, ?_⟩
  · rw [State.islandWrite_held hm (fun hx => hs ((islandStored_spared hb i).1 hx)) ((islandStored_held hb i).trans hh), hc]
  · exact (((islandStored_regs hb).mono (by simp)).setFld F.ISL_ISLAND_HELD.HELD _ (by simp)).upd rfl rfl

/-- An island that is not held is reset. -/
theorem does_islandReset_island (hs : ¬ a.islandSpared i) (hh : a.islandHeld i = false) :
    Does (.next (s.run t 0 (fun s => s.busWrite acc (blkBase .isl + O.ISL_ISLAND_RESET) v {}))) (State.island i { s with dev := b }) :=
  does_islandReset h hsv hb
    (State.islandWrite_reset hm (fun hx => hs ((islandStored_spared hb i).1 hx)) ((islandStored_held hb i).trans hh))

end

/-! ### The record of an I (R97) -/

/-- The I is recorded, and its moment. -/
def Dev.markI (d : Dev) (i : Nat) : Dev :=
  { d.recordReset (2 ^ Rst.i.bit) with clocks := { d.clocks with islandAt := tabPut 0 d.clocks.islandAt i (d.now.toNat + 1) } }

theorem Dev.markI_regs (d : Dev) (i : Nat) : sameRegsBut [F.PWR_RESET_CAUSE.EVENT.place] d (d.markI i) :=
  ((sameRegsBut.refl _ d).setFld F.PWR_RESET_CAUSE.EVENT _ (by simp)).upd rfl rfl

theorem Dev.markI_fld (d : Dev) (i : Nat) {f : Fld} (hf : f.place ≠ F.PWR_RESET_CAUSE.EVENT.place) : (d.markI i).fld f = d.fld f :=
  Dev.fld_congr (d.markI_regs i _ _ (fun hm => hf (List.mem_singleton.1 hm)))

theorem Dev.markI_event (d : Dev) (i : Nat) : (d.markI i).bitOf F.PWR_RESET_CAUSE.EVENT Rst.i.bit = true := by
  have hf : (d.markI i).fld F.PWR_RESET_CAUSE.EVENT = (d.fld F.PWR_RESET_CAUSE.EVENT ||| 2 ^ Rst.i.bit) % 2 ^ 9 :=
    d.fld_setFld_same F.PWR_RESET_CAUSE.EVENT _ Fld.fits
  rw [Dev.bitOf, hf, Nat.testBit_mod_two_pow, Nat.testBit_or]
  exact (Bool.and_eq_true ..).mpr ⟨rfl, by simp [Rst.bit, show Nat.testBit 128 7 = true by decide]⟩

theorem State.island_dusk (s : State) (b : Dev) : State.island 0 { s with dev := b } = { s with dev := (b.markI 0).islandDusk } := rfl

theorem State.island_ser (s : State) (b : Dev) : State.island 1 { s with dev := b } = State.islandSer { s with dev := b.markI 1 } := rfl

theorem State.island_port (s : State) (b : Dev) (n : Nat) :
    State.island (2 + n) { s with dev := b } = { s with dev := (b.markI (2 + n)).islandPort n } := by
  unfold State.island
  rw [if_neg (by omega), if_neg (by omega), show 2 + n - 2 = n by omega]
  rfl

/-- An I of an island keeps PWR_RESET_CAUSE. -/
theorem keepsFld_event : ∀ i < 6, keepsFld (lostI i) F.PWR_RESET_CAUSE.EVENT = true := by decide

/-! ### An I of DUSK (R190) -/

/-- The registers of DUSK reset, and its rings gone. -/
def Dev.duskReset (d : Dev) : Dev := { d with regs := d.resetRegs (lostI 0), rings := [] }

/-- HST_STATUS once the link is lost. -/
def Dev.linkCleared (d : Dev) : Dev :=
  (((d.setFld F.HST_STATUS.LINK_UP 0).setFld F.HST_STATUS.SPEED 0).setFld F.HST_STATUS.WIDTH 0).setFld F.HST_STATUS.MSIX_EN 0

theorem Dev.linkReset_fld (d : Dev) (f : Fld) : d.linkReset.fld f = d.linkCleared.fld f := rfl

theorem Dev.linkReset_regs (d : Dev) : sameRegsBut [F.HST_STATUS.LINK_UP.place] d d.linkReset := by
  have h : sameRegsBut [F.HST_STATUS.LINK_UP.place] d d.linkCleared :=
    ((((sameRegsBut.refl _ d).setFld F.HST_STATUS.LINK_UP 0 (by decide)).setFld F.HST_STATUS.SPEED 0 (by decide)).setFld F.HST_STATUS.WIDTH 0
      (by decide)).setFld F.HST_STATUS.MSIX_EN 0 (by decide)
  exact h.upd rfl rfl

theorem Dev.linkReset_off (d : Dev) : d.linkReset.on F.HST_STATUS.LINK_UP = false ∧ d.linkReset.on F.HST_STATUS.MSIX_EN = false := by
  rw [Dev.on, Dev.on, Dev.linkReset_fld, Dev.linkReset_fld, Dev.linkCleared]
  constructor
  · rw [Dev.fld_setFld_apart _ _ _ _ Fld.fits (by decide), Dev.fld_setFld_apart _ _ _ _ Fld.fits (by decide),
      Dev.fld_setFld_apart _ _ _ _ Fld.fits (by decide), Dev.fld_setFld_same _ _ _ Fld.fits]
    decide
  · rw [Dev.fld_setFld_same _ _ _ Fld.fits]
    decide

theorem Dev.islandDusk_eq (d : Dev) : d.islandDusk = d.duskReset.linkReset := rfl

theorem Dev.islandDusk_fld (d : Dev) {f : Fld} (hf : f.place ≠ F.HST_STATUS.LINK_UP.place) : d.islandDusk.fld f = d.duskReset.fld f :=
  Dev.fld_congr (d.duskReset.linkReset_regs _ _ (fun hm => hf (List.mem_singleton.1 hm)))

theorem zeroesFld_ringEnable : ∀ n < 64, zeroesFld (lostI 0) (F.HST_RING_CTRL.ENABLE n) = true := by decide

theorem Dev.islandDusk_rings (d : Dev) {n : Nat} (hn : n < 64) : d.islandDusk.on (F.HST_RING_CTRL.ENABLE n) = false := by
  have h : d.islandDusk.fld (F.HST_RING_CTRL.ENABLE n) = 0 :=
    (d.islandDusk_fld (by simp [Fld.place, F.HST_RING_CTRL.ENABLE, F.HST_STATUS.LINK_UP])).trans
      (Dev.fld_of_zeroesFld (d := d) (d' := d.duskReset) rfl rfl (zeroesFld_ringEnable n hn) Fld.fits)
  simp [Dev.on, h]

/-- Each register of DUSK loses the fields whose Kept-by column does not name I; every other register keeps its fields. -/
theorem Dev.islandDusk_reg (d : Dev) {blk : Blk} {off i j : Nat} {r : RegDef} (hf : findReg off (regDefs blk) = some (r, i, j))
    (hx : (blk, off) ≠ F.HST_STATUS.LINK_UP.place) :
    d.islandDusk.reg blk off = r.after (resetAt d.part blk off) (d.reg blk off) (fun f => blk = .hst && !f.keep.testBit Rst.i.bit) := by
  have hlost : lostI 0 blk off = fun f => blk = .hst && !f.keep.testBit Rst.i.bit := by
    funext f
    simp [lostI, Rst.bit, Bool.and_comm]
  rw [d.islandDusk_eq, d.duskReset.linkReset_regs _ _ (by simpa using hx),
    Dev.reg_of_resetRegs (d := d) (d' := d.duskReset) (lostI 0) rfl rfl hf, hlost]

theorem Dev.islandDusk_event (d : Dev) (h : d.bitOf F.PWR_RESET_CAUSE.EVENT Rst.i.bit = true) :
    d.islandDusk.bitOf F.PWR_RESET_CAUSE.EVENT Rst.i.bit = true := by
  rw [Dev.bitOf, d.islandDusk_fld (by decide),
    Dev.fld_of_keepsFld (d := d) (d' := d.duskReset) rfl rfl (keepsFld_event 0 (by decide)) Fld.fits]
  exact h

end Sys2Proof.Machine
end

section
/-! ### What rings and records leave of the ports -/

namespace Sys2Proof.Machine

/-- The blocks of the supplies and of the serial and network ports. -/
def portBlk (b : Blk) : Bool := b = .pwr || b = .ser || b = .net

/-- Two devices agree on the ports: the registers of these blocks, the engines of serial and network ports, the frames that wait. -/
structure PortsStand (a d : Dev) : Prop where
  part : d.part = a.part
  sers : d.sers = a.sers
  nets : d.nets = a.nets
  kvtTx : d.kvtTx = a.kvtTx
  reg : ∀ b off, portBlk b = true → d.reg b off = a.reg b off

namespace PortsStand

theorem refl (d : Dev) : PortsStand d d := ⟨rfl, rfl, rfl, rfl, fun _ _ _ => rfl⟩

theorem fld {a d : Dev} (h : PortsStand a d) {f : Fld} (hf : portBlk f.blk = true) : d.fld f = a.fld f := Dev.fld_congr (h.reg _ _ hf)

section
variable {a d : Dev} (h : PortsStand a d)
include h

/-- A change beside registers and ports. -/
theorem upd {d' : Dev} (hr : d'.regs = d.regs) (hp : d'.part = d.part) (hs : d'.sers = d.sers) (hn : d'.nets = d.nets)
    (hk : d'.kvtTx = d.kvtTx) : PortsStand a d' :=
  ⟨hp.trans h.part, hs.trans h.sers, hn.trans h.nets, hk.trans h.kvtTx, fun b off hb => by
    rw [← h.reg b off hb]
    simp only [Dev.reg, hr, hp]⟩

theorem setReg {b : Blk} (off : Nat) (v : Word) (hb : portBlk b = false) : PortsStand a (d.setReg b off v) :=
  ⟨h.part, h.sers, h.nets, h.kvtTx, fun c off' hc => by
    rw [← h.reg c off' hc]
    refine Dev.reg_setReg_ne d v ?_
    rintro ⟨rfl, rfl⟩
    simp [hb] at hc⟩

theorem setFld (f : Fld) (v : Nat) (hb : portBlk f.blk = false) : PortsStand a (d.setFld f v) := h.setReg _ _ hb

theorem inc (f : Fld) (n : Nat) (hb : portBlk f.blk = false) : PortsStand a (d.inc f n) := h.setFld f _ hb

theorem modRing (n : Nat) (f : RingSt → RingSt) : PortsStand a (d.modRing n f) := h.upd rfl rfl rfl rfl rfl

theorem pend (n : Nat) (ns : Bool) : PortsStand a (d.pend n ns) := by cases ns <;> exact h.upd rfl rfl rfl rfl rfl

/-- A record counts in FLT and EVT, and joins the queue. -/
theorem raiseAt (st : Stamp) (ev : Ev) (src : Src) (cls : Nat) (pay : List Byte) : PortsStand a (d.raiseAt st ev src cls pay) := by
  have hc : PortsStand a ((d.inc (F.FLT_CLASS_CNT.COUNT cls)).incPair F.EVT_CNT_LO.V F.EVT_CNT_HI.V) :=
    ((h.inc (F.FLT_CLASS_CNT.COUNT cls) 1 rfl).setFld F.EVT_CNT_LO.V _ rfl).setFld F.EVT_CNT_HI.V _ rfl
  unfold Dev.raiseAt
  by_cases h0 : cls = 0
  · simp only [h0, if_true] at hc ⊢
    exact hc.upd rfl rfl rfl rfl rfl
  · simp only [h0, if_false]
    exact (hc.pend 67 false).upd rfl rfl rfl rfl rfl

theorem raise (ev : Ev) (src : Src) (pay : List Byte) : PortsStand a (d.raise ev src pay) := h.raiseAt _ _ _ _ _

theorem note (ev : Ev) (src : Src) (related : Nat) (detail : List Byte) : PortsStand a (d.note ev src related detail) := h.raise _ _ _

theorem forL {α : Type} {f : α → Dev → Dev} (l : List α) (hf : ∀ x ∈ l, ∀ d, PortsStand a d → PortsStand a (f x d)) :
    PortsStand a (forL l f d) :=
  List.foldlRecOn l _ h (fun d hd x hx => hf x hx d hd)

end

theorem ite {a d d' : Dev} {p : Prop} [Decidable p] (h : PortsStand a d) (h' : PortsStand a d') : PortsStand a (if p then d else d') := by
  split
  · exact h
  · exact h'

section
variable {a d : Dev} (h : PortsStand a d)
include h

/-- Discarding a mapping pair writes words of ISL. -/
theorem mapDiscard : PortsStand a d.mapDiscard := by
  unfold Dev.mapDiscard
  split
  · next old _ _ =>
    refine (h.forL (mapWords.zip old) (fun e he d hd => hd.setFld e.1 e.2 ?_)).upd rfl rfl rfl rfl rfl
    have hw : ∀ f ∈ mapWords, portBlk f.blk = false := by decide
    exact hw _ (List.of_mem_zip (a := e.1) (b := e.2) he).1
  · exact h

theorem doorbell (n : Nat) (v : Word) : PortsStand a (d.doorbell n v) := by
  unfold Dev.doorbell
  dsimp only
  split_ifs
  · exact h.inc (F.HST_RING_CNT.DB_BAD n) 1 rfl
  · exact h
  · exact h.modRing n _
  · exact h.inc (F.HST_RING_CNT.DB_BAD n) 1 rfl

theorem snoop (mem : List Host.Cell) (x len : Nat) : PortsStand a (d.snoop mem x len) :=
  h.forL _ (fun n _ _ hd => (hd.doorbell n _).ite hd)

theorem stalled (x : Nat) : PortsStand a (d.stalled x) := by
  unfold Dev.stalled Dev.regionZeroed
  refine ite (h.ite ?_) h
  exact (h.setFld (F.WLD_REGION_TAG.TAG (_ / 16) (_ % 16)) _ rfl).upd rfl rfl rfl rfl rfl

theorem logViolation (acc : Access) (x : Nat) (write : Bool) (kind : Nat) : PortsStand a (d.logViolation acc x write kind) := by
  unfold Dev.logViolation
  extract_lets ring info next newest st same wrapped d1 d2 d3 d4 d5 d6 d7 d8 d9 d10
  have h4 : PortsStand a d4 := (((h.setFld (F.WLD_VLOG_ADDR.ADDR next) x rfl).setReg (b := .wld) (F.WLD_VLOG_INFO.KIND next).off
    _ rfl).setFld (F.WLD_VLOG_TIME_LO.V next) _ rfl).setFld (F.WLD_VLOG_TIME_HI.V next) _ rfl
  have h7 : PortsStand a d7 := ((h4.setFld F.WLD_VIOL_CNT.NEXT _ rfl).inc F.WLD_VIOL_CNT.ENTRIES 1 rfl).setFld F.WLD_VIOL_FLAG.VIOLATION 1 rfl
  have h8 : PortsStand a d8 := (h7.setFld F.WLD_VIOL_FLAG.WRAPPED 1 rfl).ite h7
  have h10 : PortsStand a d10 := h8.upd rfl rfl rfl rfl rfl
  exact (h.inc (F.WLD_VLOG_INFO.REPEAT newest) 1 rfl).ite ((h10.pend 65 false).note _ _ _ _)

theorem consume (n : Nat) (irq : Bool) : PortsStand a (d.consume n irq) := by
  unfold Dev.consume Dev.ringAdvance
  exact ((h.setFld (F.HST_RING_IDX.DIDX n) _ rfl).setFld (F.HST_RING_IDX.DGEN n) _ rfl).modRing n _

theorem kvtLinkGone (n : Nat) : PortsStand a (d.kvtLinkGone n) := (h.setFld (F.KVT_STAT.STATE n) 0 rfl).ite h

end

end PortsStand

/-- A step of a port's clock counts in NET_PTP_STAT; what else it does stands in ISL and in records. -/
theorem Dev.ptpStep_ports (d : Dev) (n : Nat) (x : Int) : PortsStand (d.incWrap (F.NET_PTP_STAT.STEPS n)) (d.ptpStep n x) := by
  have h : PortsStand (d.incWrap (F.NET_PTP_STAT.STEPS n)) (d.incWrap (F.NET_PTP_STAT.STEPS n)) := .refl _
  unfold Dev.ptpStep
  simp only [if_true]
  refine PortsStand.raise ?_ _ _ _
  split
  · exact (h.mapDiscard.setFld F.ISL_MAP_EPOCH.EPOCH _ rfl).upd rfl rfl rfl rfl rfl
  · exact h

end Sys2Proof.Machine
end

section
/-! ### An I of a port (R446) -/

namespace Sys2Proof.Machine

/-- The registers of a port reset. -/
def Dev.portReset (d : Dev) (n : Nat) : Dev :=
  ({ d with regs := d.resetRegs (lostI (2 + n)) } : Dev).unlatch (fun b off => b = Blk.net && off / 0x1000 = n)

/-- The port's lane is silent and its link down. -/
def Dev.portDown (d : Dev) (n : Nat) : Dev := { (d.setLane n 0).setFld (F.NET_STAT.LINK_UP n) 0 with kvtTx := tabDel d.kvtTx n }

/-- The port trains if it is enabled, with a fresh history. -/
def Dev.portTrains (d : Dev) (n : Nat) : Dev := (d.setFld (F.NET_STAT.STATE n) (d.fld (F.NET_CFG.ENABLE n))).setNet n { trainAt := d.now }

theorem Dev.netIsland_eq (d : Dev) (n old : Nat) :
    d.netIsland n old = ((((d.portDown n).portTrains n).kvtLinkGone n).setPtp n 0).ptpStep n (-(old : Int)) := rfl

theorem Dev.islandPort_eq {d : Dev} {n : Nat} (h : d.netRole n ≠ 0) : d.islandPort n = (d.portReset n).netIsland n (d.ptpNs n) := if_neg h

/-- What the reset of a port keeps: its enable, its role, and PWR_RESET_CAUSE. -/
theorem keepsFld_port : ∀ n < 4, keepsFld (lostI (2 + n)) (F.NET_CFG.ENABLE n) = true ∧ keepsFld (lostI (2 + n)) (F.NET_CFG.ROLE n) = true := by
  decide

theorem Dev.portReset_keeps (d : Dev) {n : Nat} (hn : n < 4) : (d.portReset n).fld (F.NET_CFG.ENABLE n) = d.fld (F.NET_CFG.ENABLE n)
    ∧ (d.portReset n).fld (F.NET_CFG.ROLE n) = d.fld (F.NET_CFG.ROLE n)
    ∧ (d.portReset n).fld F.PWR_RESET_CAUSE.EVENT = d.fld F.PWR_RESET_CAUSE.EVENT := by
  obtain ⟨hen, hrole⟩ := keepsFld_port n hn
  exact ⟨Dev.fld_of_keepsFld (d := d) (d' := d.portReset n) rfl rfl hen Fld.fits,
    Dev.fld_of_keepsFld (d := d) (d' := d.portReset n) rfl rfl hrole Fld.fits,
    Dev.fld_of_keepsFld (d := d) (d' := d.portReset n) rfl rfl (keepsFld_event (2 + n) (by omega)) Fld.fits⟩

section
variable (d : Dev) (n : Nat)

/-- The bits of a port's link status stand in one register. -/
theorem netStat_place : ∀ f ∈ [F.NET_STAT.LINK_UP n, F.NET_STAT.BLOCK_LOCK n, F.NET_STAT.FEC_ALIGNED n, F.NET_STAT.HI_BER n, F.NET_STAT.RX_LF n,
    F.NET_STAT.RX_RF n], f.place ∈ [(F.NET_STAT.STATE n).place] := by
  simp [Fld.place, F.NET_STAT.LINK_UP, F.NET_STAT.BLOCK_LOCK, F.NET_STAT.FEC_ALIGNED, F.NET_STAT.HI_BER, F.NET_STAT.RX_LF, F.NET_STAT.RX_RF,
    F.NET_STAT.STATE]

theorem Dev.setLane_regs (lane : BitVec 5) : sameRegsBut [(F.NET_STAT.STATE n).place] d (d.setLane n lane) := by
  have hp := netStat_place n
  unfold Dev.setLane Dev.setBit
  exact (((((sameRegsBut.refl _ d).setFld _ _ (hp _ (by simp))).setFld _ _ (hp _ (by simp))).setFld _ _ (hp _ (by simp))).setFld _ _
    (hp _ (by simp))).setFld _ _ (hp _ (by simp))

/-- The frames that wait are no register. -/
theorem Dev.withKvtTx_regs (q : Tab (List KvtFrame)) : ({ d with kvtTx := q } : Dev).regs = d.regs ∧ ({ d with kvtTx := q } : Dev).part = d.part :=
  ⟨rfl, rfl⟩

theorem Dev.portDown_regs : sameRegsBut [(F.NET_STAT.STATE n).place] d (d.portDown n) := by
  obtain ⟨hr, hp⟩ := ((d.setLane n 0).setFld (F.NET_STAT.LINK_UP n) 0).withKvtTx_regs (tabDel d.kvtTx n)
  exact ((d.setLane_regs n 0).setFld (F.NET_STAT.LINK_UP n) 0 (netStat_place n _ (by simp))).upd hr hp

theorem Dev.portTrains_regs : sameRegsBut [(F.NET_STAT.STATE n).place] d (d.portTrains n) :=
  ((sameRegsBut.refl _ d).setFld (F.NET_STAT.STATE n) _ List.mem_cons_self).upd rfl rfl

theorem Dev.portDown_up : (d.portDown n).fld (F.NET_STAT.LINK_UP n) = 0 := by
  obtain ⟨hr, hp⟩ := ((d.setLane n 0).setFld (F.NET_STAT.LINK_UP n) 0).withKvtTx_regs (tabDel d.kvtTx n)
  exact (Dev.fld_congr ((sameRegsBut_of_regs (l := []) hr hp) _ _ List.not_mem_nil)).trans (Dev.fld_setFld_same _ (F.NET_STAT.LINK_UP n) 0 Fld.fits)

theorem Dev.portTrains_up : (d.portTrains n).fld (F.NET_STAT.LINK_UP n) = d.fld (F.NET_STAT.LINK_UP n) :=
  Dev.fld_setFld_apart d (F.NET_STAT.STATE n) (F.NET_STAT.LINK_UP n) _ Fld.fits (Fld.apart_of_bits (.inr (Nat.le_refl 1)))

theorem Dev.portTrains_state : (d.portTrains n).fld (F.NET_STAT.STATE n) = d.fld (F.NET_CFG.ENABLE n) := by
  have hlt : d.fld (F.NET_CFG.ENABLE n) < 2 ^ 1 := d.fld_lt _
  exact (Dev.fld_setFld_same d (F.NET_STAT.STATE n) _ Fld.fits).trans (Nat.mod_eq_of_lt (show _ < 2 ^ 3 by omega))

theorem Dev.portTrains_net : (d.portTrains n).net n = { trainAt := d.now } := tabGet_tabPut_same _ _ _ _

theorem Dev.portDown_kvtTx : tabGet [] (d.portDown n).kvtTx n = [] := tabGet_tabDel_same _ _ _

theorem Dev.setPtp_regs (v : Nat) :
    sameRegsBut [(F.NET_PTP_SEC_LO.V n).place, (F.NET_PTP_SEC_HI.V n).place, (F.NET_PTP_NS.NS n).place] d (d.setPtp n v) :=
  (((sameRegsBut.refl _ d).setFld (F.NET_PTP_SEC_LO.V n) _ (by simp)).setFld (F.NET_PTP_SEC_HI.V n) _ (by simp)).setFld (F.NET_PTP_NS.NS n) _
    (by simp)

theorem Dev.setPtp_zero : (d.setPtp n 0).ptpNs n = 0 := by
  have h1 : (d.setPtp n 0).fld (F.NET_PTP_SEC_LO.V n) = 0 := by
    refine (Dev.fld_setFld_apart _ (F.NET_PTP_NS.NS n) _ _ Fld.fits (Fld.apart_of_off ?_)).trans ?_
    · simp [F.NET_PTP_NS.NS, F.NET_PTP_SEC_LO.V]
    refine (Dev.fld_setFld_apart _ (F.NET_PTP_SEC_HI.V n) _ _ Fld.fits (Fld.apart_of_off ?_)).trans ?_
    · simp [F.NET_PTP_SEC_HI.V, F.NET_PTP_SEC_LO.V]
    exact Dev.fld_setFld_same _ _ _ Fld.fits
  have h2 : (d.setPtp n 0).fld (F.NET_PTP_SEC_HI.V n) = 0 := by
    refine (Dev.fld_setFld_apart _ (F.NET_PTP_NS.NS n) _ _ Fld.fits (Fld.apart_of_off ?_)).trans ?_
    · simp [F.NET_PTP_NS.NS, F.NET_PTP_SEC_HI.V]
    exact Dev.fld_setFld_same _ _ _ Fld.fits
  have h3 : (d.setPtp n 0).fld (F.NET_PTP_NS.NS n) = 0 := Dev.fld_setFld_same _ (F.NET_PTP_NS.NS n) _ Fld.fits
  rw [Dev.ptpNs, h1, h2, h3, Nat.zero_mul, Nat.zero_mul]

/-- A field of the ports that counts no step stands through a step. -/
theorem Dev.ptpStep_fld (x : Int) {f : Fld} (hb : portBlk f.blk = true) (hf : (F.NET_PTP_STAT.STEPS n).apart f = true) :
    (d.ptpStep n x).fld f = d.fld f :=
  ((d.ptpStep_ports n x).fld hb).trans (Dev.fld_setFld_apart d (F.NET_PTP_STAT.STEPS n) f _ Fld.fits hf)

end

/-- A field of the ports other than the clock's stands through the end of a port's I. -/
theorem Dev.netIsland_fld (d : Dev) (n old : Nat) {f : Fld} (hb : portBlk f.blk = true)
    (hf : f.place ∉ [(F.NET_PTP_SEC_LO.V n).place, (F.NET_PTP_SEC_HI.V n).place, (F.NET_PTP_NS.NS n).place])
    (hs : (F.NET_PTP_STAT.STEPS n).apart f = true) : (d.netIsland n old).fld f = ((d.portDown n).portTrains n).fld f := by
  rw [Dev.netIsland_eq, Dev.ptpStep_fld _ _ _ hb hs, Dev.fld_congr (Dev.setPtp_regs _ n 0 _ _ hf)]
  exact (PortsStand.refl _).kvtLinkGone n |>.fld hb

/-- Fields of different registers share no bit. -/
theorem Fld.apart_of_place {f g : Fld} (h : g.place ≠ f.place) : f.apart g = true := by
  simp [Fld.apart, Ne.symm h]

theorem Dev.incWrap_tabs (d : Dev) (f : Fld) : (d.incWrap f).nets = d.nets ∧ (d.incWrap f).kvtTx = d.kvtTx := ⟨rfl, rfl⟩

theorem Dev.setPtp_tabs (d : Dev) (n v : Nat) : (d.setPtp n v).nets = d.nets ∧ (d.setPtp n v).kvtTx = d.kvtTx := ⟨rfl, rfl⟩

/-- Nothing follows the fresh history of the port and the discard of its frames. -/
theorem Dev.netIsland_tabs (d : Dev) (n old : Nat) : (d.netIsland n old).nets = ((d.portDown n).portTrains n).nets
    ∧ (d.netIsland n old).kvtTx = (d.portDown n).kvtTx := by
  rw [Dev.netIsland_eq]
  generalize hx : (d.portDown n).portTrains n = x
  have hk : x.kvtTx = (d.portDown n).kvtTx := by
    rw [← hx]
    rfl
  have hgone := (PortsStand.refl x).kvtLinkGone n
  obtain ⟨hpn, hpk⟩ := (x.kvtLinkGone n).setPtp_tabs n 0
  generalize (x.kvtLinkGone n).setPtp n 0 = y at hpn hpk ⊢
  obtain ⟨hyn, hyk⟩ := y.incWrap_tabs (F.NET_PTP_STAT.STEPS n)
  have hstep := y.ptpStep_ports n (-(old : Int))
  exact ⟨hstep.nets.trans (hyn.trans (hpn.trans hgone.nets)), hstep.kvtTx.trans (hyk.trans (hpk.trans (hgone.kvtTx.trans hk)))⟩

/-- The clock restarts at 0. -/
theorem Dev.netIsland_ptp (d : Dev) (n old : Nat) : (d.netIsland n old).ptpNs n = 0 := by
  have h1 : ∀ e : Dev, ((e.setPtp n 0).ptpStep n (-(old : Int))).ptpNs n = (e.setPtp n 0).ptpNs n := by
    intro e
    unfold Dev.ptpNs
    rw [Dev.ptpStep_fld _ _ _ rfl (Fld.apart_of_off ?_), Dev.ptpStep_fld _ _ _ rfl (Fld.apart_of_off ?_),
      Dev.ptpStep_fld _ _ _ rfl (Fld.apart_of_off ?_)]
    all_goals simp [F.NET_PTP_STAT.STEPS, F.NET_PTP_SEC_LO.V, F.NET_PTP_SEC_HI.V, F.NET_PTP_NS.NS]
  rw [Dev.netIsland_eq, h1, Dev.setPtp_zero]

section
variable (d : Dev) (n old : Nat)

theorem Dev.netIsland_up : (d.netIsland n old).fld (F.NET_STAT.LINK_UP n) = 0 := by
  rw [d.netIsland_fld n old rfl (by simp [Fld.place, F.NET_PTP_SEC_LO.V, F.NET_PTP_SEC_HI.V, F.NET_PTP_NS.NS, F.NET_STAT.LINK_UP])
    (Fld.apart_of_off (by simp [F.NET_PTP_STAT.STEPS, F.NET_STAT.LINK_UP])), Dev.portTrains_up, Dev.portDown_up]

theorem Dev.netIsland_state : (d.netIsland n old).fld (F.NET_STAT.STATE n) = d.fld (F.NET_CFG.ENABLE n) := by
  rw [d.netIsland_fld n old rfl (by simp [Fld.place, F.NET_PTP_SEC_LO.V, F.NET_PTP_SEC_HI.V, F.NET_PTP_NS.NS, F.NET_STAT.STATE])
    (Fld.apart_of_off (by simp [F.NET_PTP_STAT.STEPS, F.NET_STAT.STATE])), Dev.portTrains_state]
  exact Dev.fld_congr (d.portDown_regs n _ _ (by simp [Fld.place, F.NET_STAT.STATE, F.NET_CFG.ENABLE]))

/-- A field of the ports outside the link's status and the clock stands. -/
theorem Dev.netIsland_kept {f : Fld} (hb : portBlk f.blk = true) (hf : f.place ∉ [(F.NET_STAT.STATE n).place, (F.NET_PTP_SEC_LO.V n).place,
    (F.NET_PTP_SEC_HI.V n).place, (F.NET_PTP_NS.NS n).place, (F.NET_PTP_STAT.STEPS n).place]) : (d.netIsland n old).fld f = d.fld f := by
  simp only [List.mem_cons, not_or] at hf
  obtain ⟨hstat, hlo, hhi, hns, hsteps, -⟩ := hf
  have hst : f.place ∉ [(F.NET_STAT.STATE n).place] := fun hm => hstat (List.mem_singleton.1 hm)
  rw [d.netIsland_fld n old hb (by simp [hlo, hhi, hns]) (Fld.apart_of_place hsteps)]
  exact (Dev.fld_congr ((d.portDown n).portTrains_regs n _ _ hst)).trans (Dev.fld_congr (d.portDown_regs n _ _ hst))

end

/-- A one-bit field holds its bit. -/
theorem Dev.fld_eq_on (d : Dev) (f : Fld) (hw : f.w = 1) : d.fld f = (d.on f).toNat := by
  have hlt := d.fld_lt f
  rw [hw] at hlt
  obtain h | h : d.fld f = 0 ∨ d.fld f = 1 := by omega
  all_goals simp [Dev.on, h]

/-- What an I of a port leaves. -/
theorem Dev.islandPort_leaves {d : Dev} {n : Nat} (hn : n < 4) (hr : d.netRole n ≠ 0) : (d.islandPort n).netUp n = false
    ∧ (d.islandPort n).fld (F.NET_STAT.STATE n) = (d.on (F.NET_CFG.ENABLE n)).toNat ∧ (d.islandPort n).netRole n = d.netRole n
    ∧ ((d.islandPort n).net n).downs = [] ∧ tabGet [] (d.islandPort n).kvtTx n = [] ∧ (d.islandPort n).ptpNs n = 0
    ∧ (d.islandPort n).fld F.PWR_RESET_CAUSE.EVENT = d.fld F.PWR_RESET_CAUSE.EVENT := by
  obtain ⟨hen, hrole, hev⟩ := d.portReset_keeps hn
  rw [Dev.islandPort_eq hr]
  obtain ⟨hnets, hk⟩ := (d.portReset n).netIsland_tabs n (d.ptpNs n)
  refine ⟨?_, ?_, ?_, ?_, ?_, Dev.netIsland_ptp _ _ _, ?_⟩
  · rw [Dev.netUp, Dev.on, Dev.netIsland_up]
    rfl
  · rw [Dev.netIsland_state, hen, Dev.fld_eq_on _ _ rfl]
  · exact (Dev.netIsland_kept _ _ _ rfl (by simp [Fld.place, F.NET_STAT.STATE, F.NET_PTP_SEC_LO.V, F.NET_PTP_SEC_HI.V, F.NET_PTP_NS.NS,
      F.NET_PTP_STAT.STEPS, F.NET_CFG.ROLE])).trans hrole
  · rw [Dev.net, hnets, ← Dev.net, Dev.portTrains_net]
  · rw [hk, Dev.portDown_kvtTx]
  · exact (Dev.netIsland_kept _ _ _ rfl (by simp [Fld.place, F.NET_STAT.STATE, F.NET_PTP_SEC_LO.V, F.NET_PTP_SEC_HI.V, F.NET_PTP_NS.NS,
      F.NET_PTP_STAT.STEPS, F.PWR_RESET_CAUSE.EVENT])).trans hev

end Sys2Proof.Machine
end

section
/-! ### Flushing the rings of a serial port -/

namespace Sys2Proof.Machine

/-- The device's ports stand, and one-time memory. -/
structure RingWork (s u : State) : Prop where
  dev : PortsStand s.dev u.dev
  otp : u.store.otp = s.store.otp

namespace RingWork

theorem refl (s : State) : RingWork s s := ⟨.refl _, rfl⟩

section
variable {s u : State} (h : RingWork s u)
include h

theorem map {f : Dev → Dev} (hf : ∀ d, PortsStand s.dev d → PortsStand s.dev (f d)) : RingWork s (u.map f) := ⟨hf _ h.dev, h.otp⟩

theorem dmaWrite (x : Nat) (l : List Byte) : RingWork s (u.dmaWrite x l) := by
  unfold State.dmaWrite
  split
  · refine ⟨?_, h.otp⟩
    dsimp only
    exact h.dev.snoop _ _ _
  · split_ifs
    · exact ⟨h.dev, h.otp⟩
    · exact h
  · exact h

theorem ringMiss (n x : Nat) (write : Bool) : RingWork s (u.ringMiss n x write) := by
  unfold State.ringMiss
  split
  · exact h.map (fun d hd => hd.logViolation _ _ _ _)
  · exact h

theorem ringPut (n x : Nat) (l : List Byte) : RingWork s (u.ringPut n x l) := by
  have hst : RingWork s (u.map (fun d => d.stalled x)) := h.map (fun d hd => hd.stalled x)
  unfold State.ringPut
  dsimp only
  split_ifs
  · exact hst.ringMiss n x true
  · exact hst.dmaWrite x l

theorem ringWrite (n x : Nat) (l : List Byte) : RingWork s (u.ringWrite n x l) :=
  List.foldlRecOn (motive := RingWork s) _ _ h (fun _ hu _ _ => hu.ringPut n _ _)

theorem writeBack (n : Nat) : RingWork s (u.writeBack n) := by
  unfold State.writeBack
  exact (h.ringWrite n _ _).map (fun d hd => hd.modRing n _)

theorem ringState (n st err : Nat) : RingWork s (u.ringState n st err) := by
  unfold State.ringState
  exact (h.map (fun d hd => (hd.setFld (F.HST_RING_CTRL.STATE n) st rfl).setFld (F.HST_RING_CTRL.ERR n) err rfl)).writeBack n

theorem ringFail (n err : Nat) : RingWork s (u.ringFail n err) := by
  unfold State.ringFail
  exact (h.ringState n 3 err).map (fun d hd => (hd.modRing n _).note _ _ _ _)

theorem ringLost (n x : Nat) (write : Bool) (err : Nat) : RingWork s (u.ringLost n x write err) := (h.ringMiss n x write).ringFail n err

theorem bufDone (n code detail : Nat) (flushed : Bool) (stamp : Stamp) : RingWork s (u.bufDone n code detail flushed stamp) := by
  unfold State.bufDone
  split
  · exact h
  · dsimp only
    split
    · exact h.ringLost n _ _ _
    · exact ((h.ringWrite n _ _).ringWrite n _ _).map (fun d hd => (hd.modRing n _).consume n _)

theorem bufFlush (n : Nat) : RingWork s (u.bufFlush n) := by
  unfold State.bufFlush
  split
  · split_ifs
    · exact h.bufDone n _ _ _ _
    · exact h
  · exact h

theorem serFlush (n : Nat) : RingWork s (u.serFlush n) := by
  unfold State.serFlush
  split
  · exact h.bufFlush _
  · exact h

end
end RingWork

/-! ### What a serial port touches when it starts -/

/-- Of the serial ports and the supplies, only the state and the status register of port `n` are written. -/
structure SerActs (n : Nat) (a d : Dev) : Prop where
  reg : ∀ b off, b = .pwr ∨ b = .ser → (b, off) ≠ (F.SER_STAT.FIFO n).place → d.reg b off = a.reg b off
  ser : ∀ m, m ≠ n → d.ser m = a.ser m

namespace SerActs

theorem refl (n : Nat) (d : Dev) : SerActs n d d := ⟨fun _ _ _ _ => rfl, fun _ _ => rfl⟩

section
variable {n : Nat} {a d : Dev} (h : SerActs n a d)
include h

theorem ports {d' : Dev} (hd : PortsStand d d') : SerActs n a d' where
  reg b off hb hx := by
    rw [← h.reg b off hb hx]
    exact hd.reg b off (by rcases hb with rfl | rfl <;> rfl)
  ser m hm := by
    rw [← h.ser m hm, Dev.ser, hd.sers, ← Dev.ser]

theorem setReg (off : Nat) (v : Word) (ho : (Blk.ser, off) = (F.SER_STAT.FIFO n).place) : SerActs n a (d.setReg .ser off v) where
  reg b off' hb hx := by
    rw [← h.reg b off' hb hx]
    exact Dev.reg_setReg_ne d v (fun e => hx (e.trans ho))
  ser := h.ser

theorem setFld (f : Fld) (v : Nat) (hf : f.blk = .ser) (ho : f.place = (F.SER_STAT.FIFO n).place) : SerActs n a (d.setFld f v) := by
  obtain ⟨b, off, lo, w⟩ := f
  obtain rfl : b = .ser := hf
  exact h.setReg off _ ho

theorem setSer (q : SerSt) : SerActs n a (d.setSer n q) := by
  refine SerActs.setFld (d := { d with sers := tabPut {} d.sers n q }) ⟨h.reg, fun m hm => ?_⟩ (F.SER_STAT.FIFO n) _ rfl rfl
  rw [← h.ser m hm]
  exact tabGet_tabPut_ne _ _ _ _ hm

theorem modSer (f : SerSt → SerSt) : SerActs n a (d.modSer n f) := h.setSer _

theorem fld {f : Fld} (hf : f.blk = .pwr ∨ f.blk = .ser) (hx : f.place ≠ (F.SER_STAT.FIFO n).place) : d.fld f = a.fld f :=
  Dev.fld_congr (h.reg _ _ hf hx)

end
end SerActs

theorem Dev.ser_setSer (d : Dev) (n : Nat) (q : SerSt) : (d.setSer n q).ser n = q := tabGet_tabPut_same _ _ _ _

theorem Dev.ser_modSer (d : Dev) (n : Nat) (f : SerSt → SerSt) : (d.modSer n f).ser n = f (d.ser n) := d.ser_setSer n _

theorem Dev.ser_setFld (d : Dev) (f : Fld) (v n : Nat) : (d.setFld f v).ser n = d.ser n := rfl

/-- Rate measurement is to be armed where the port starts (R406, R421). -/
def Dev.abDue (d : Dev) (n : Nat) : Bool := d.on (F.SER_CFG.ENABLE n) && d.serMode n = 1 && d.on (F.SER_AB_CFG.AB_EN n)

section
variable (d : Dev) (n : Nat)

theorem Dev.abArm_acts : SerActs n d (d.abArm n) := ((SerActs.refl n d).modSer _).setFld (F.SER_STAT.AB_STATE n) 1 rfl rfl

/-- Arming leaves the words of the port and the mark. -/
theorem Dev.abArm_ser : ((d.abArm n).ser n).fifo = (d.ser n).fifo ∧ ((d.abArm n).ser n).mark = (d.ser n).mark := by
  rw [Dev.abArm, Dev.ser_setFld, Dev.ser_modSer]
  exact ⟨rfl, rfl⟩

theorem Dev.modSer_fld (f : SerSt → SerSt) {g : Fld} (hg : (F.SER_STAT.FIFO n).apart g = true) : (d.modSer n f).fld g = d.fld g :=
  Dev.fld_setFld_apart { d with sers := tabPut {} d.sers n (f (d.ser n)) } (F.SER_STAT.FIFO n) g _ Fld.fits hg

theorem Dev.abArm_stat : (d.abArm n).fld (F.SER_STAT.AB_STATE n) = 1
    ∧ (d.abArm n).fld (F.SER_STAT.CARD_ACTIVE n) = d.fld (F.SER_STAT.CARD_ACTIVE n) := by
  unfold Dev.abArm
  constructor
  · rw [Dev.fld_setFld_same _ _ _ Fld.fits]
    rfl
  · rw [Dev.fld_setFld_apart _ _ _ _ Fld.fits (Fld.apart_of_bits (.inl (show 1 + 2 ≤ 4 by decide))),
      Dev.modSer_fld _ _ _ (Fld.apart_of_bits (.inr (show 4 + 1 ≤ 8 by decide)))]

theorem Dev.abBegin_eq : d.abBegin n = if d.abDue n then d.abArm n else d := rfl

theorem Dev.abBegin_acts : SerActs n d (d.abBegin n) := by
  rw [Dev.abBegin_eq]
  split_ifs
  · exact d.abArm_acts n
  · exact .refl n d

theorem Dev.abBegin_ser : ((d.abBegin n).ser n).fifo = (d.ser n).fifo ∧ ((d.abBegin n).ser n).mark = (d.ser n).mark := by
  rw [Dev.abBegin_eq]
  split_ifs
  · exact d.abArm_ser n
  · exact ⟨rfl, rfl⟩

theorem Dev.abBegin_stat : (d.abBegin n).fld (F.SER_STAT.AB_STATE n) = (if d.abDue n then 1 else d.fld (F.SER_STAT.AB_STATE n))
    ∧ (d.abBegin n).fld (F.SER_STAT.CARD_ACTIVE n) = d.fld (F.SER_STAT.CARD_ACTIVE n) := by
  rw [Dev.abBegin_eq]
  split_ifs
  · exact d.abArm_stat n
  · exact ⟨rfl, rfl⟩

theorem Dev.serFresh_acts : SerActs n d (d.serFresh n) := by
  have h : SerActs n d ((d.setReg .ser (F.SER_STAT.LINE n).off 0).setSer n { lastStop := d.now }) := ((SerActs.refl n d).setReg _ _ rfl).setSer _
  have hb := Dev.abBegin_acts ((d.setReg .ser (F.SER_STAT.LINE n).off 0).setSer n { lastStop := d.now }) n
  exact ⟨fun b off hx hp => (hb.reg b off hx hp).trans (h.reg b off hx hp), fun m hm => (hb.ser m hm).trans (h.ser m hm)⟩

theorem Dev.serFresh_fifo : ((d.serFresh n).ser n).fifo = [] := by
  rw [Dev.serFresh, (Dev.abBegin_ser _ n).1, Dev.ser_setSer]

end

end Sys2Proof.Machine
end

section
/-! ### An I of the serial-port logic (R421) -/

namespace Sys2Proof.Machine

/-! #### One port -/

/-- The rings of an enabled port are flushed: its received words, then what it sent. -/
def State.serRingsDone (n : Nat) (s : State) : State :=
  match (s.serFlush n).dev.boundRing 6 n with
  | some r => (s.serFlush n).bufDone r 7 0 true ((s.serFlush n).dev.ser n).sentAt
  | none => s.serFlush n

/-- The port starts anew, and its next word is marked. -/
def Dev.serRestart (d : Dev) (n : Nat) : Dev := ((d.cardStop n).serFresh n).modSer n (fun q => { q with mark := true })

theorem State.serRingsDone_work (s : State) (n : Nat) : RingWork s (s.serRingsDone n) := by
  have h := (RingWork.refl s).serFlush n
  unfold State.serRingsDone
  split
  · exact h.bufDone _ _ _ _ _
  · exact h

theorem State.serIsland_off {s : State} {n : Nat} (h : s.dev.on (F.SER_CFG.ENABLE n) = false) :
    s.serIsland n = s.map (fun d => d.setSer n {}) := if_pos (by simp [h])

theorem State.serIsland_on {s : State} {n : Nat} (h : s.dev.on (F.SER_CFG.ENABLE n) = true) :
    s.serIsland n = (s.serRingsDone n).map (fun d => d.serRestart n) := by
  unfold State.serIsland
  rw [if_neg (by simp [h])]
  rfl

theorem Dev.cardStop_acts (d : Dev) (n : Nat) : SerActs n d (d.cardStop n) :=
  (((SerActs.refl n d).setFld (F.SER_STAT.CARD_ACTIVE n) 0 rfl rfl).setFld (F.SER_STAT.LINE n) 0 rfl rfl).modSer _

theorem SerActs.trans {n : Nat} {a b d : Dev} (h : SerActs n a b) (h' : SerActs n b d) : SerActs n a d :=
  ⟨fun b off hb hx => (h'.reg b off hb hx).trans (h.reg b off hb hx), fun m hm => (h'.ser m hm).trans (h.ser m hm)⟩

theorem Dev.serRestart_acts (d : Dev) (n : Nat) : SerActs n d (d.serRestart n) :=
  ((d.cardStop_acts n).trans ((d.cardStop n).serFresh_acts n)).modSer _

theorem Dev.serRestart_ser (d : Dev) (n : Nat) : ((d.serRestart n).ser n).fifo = [] ∧ ((d.serRestart n).ser n).mark = true := by
  rw [Dev.serRestart, Dev.ser_modSer]
  exact ⟨(d.cardStop n).serFresh_fifo n, rfl⟩

/-- After the I a port holds no word, and marks its next one if it is enabled; other ports and one-time memory stand. -/
theorem State.serIsland_leaves (s : State) (n : Nat) : SerActs n s.dev (s.serIsland n).dev ∧ (s.serIsland n).store.otp = s.store.otp
    ∧ ((s.serIsland n).dev.ser n).fifo = [] ∧ ((s.serIsland n).dev.ser n).mark = s.dev.on (F.SER_CFG.ENABLE n) := by
  cases hen : s.dev.on (F.SER_CFG.ENABLE n) with
  | false =>
    rw [State.serIsland_off hen, State.map_dev, Dev.ser_setSer]
    exact ⟨(SerActs.refl n _).setSer _, rfl, rfl, rfl⟩
  | true =>
    have hw := s.serRingsDone_work n
    rw [State.serIsland_on hen, State.map_dev]
    obtain ⟨hfifo, hmark⟩ := (s.serRingsDone n).dev.serRestart_ser n
    exact ⟨((SerActs.refl n _).ports hw.dev).trans (Dev.serRestart_acts _ n), hw.otp, hfifo, hmark⟩

/-! #### All ports -/

/-- The supplies' registers and the serial ports' stand, but for the status of the ports. -/
def serKept (a d : Dev) : Prop :=
  ∀ f : Fld, f.blk = .pwr ∨ f.blk = .ser → (∀ n, f.place ≠ (F.SER_STAT.FIFO n).place) → d.fld f = a.fld f

theorem SerActs.kept {n : Nat} {a d : Dev} (h : SerActs n a d) : serKept a d := fun _ hf hx => h.fld hf (hx n)

theorem serKept.trans {a b d : Dev} (h : serKept a b) (h' : serKept b d) : serKept a d := fun f hf hx => (h' f hf hx).trans (h f hf hx)

theorem serKept.enable {a d : Dev} (h : serKept a d) (n : Nat) : d.fld (F.SER_CFG.ENABLE n) = a.fld (F.SER_CFG.ENABLE n) :=
  h _ (.inr rfl) (fun m => by simp [Fld.place, F.SER_CFG.ENABLE, F.SER_STAT.FIFO]; omega)

theorem serKept.mode {a d : Dev} (h : serKept a d) (n : Nat) : d.fld (F.SER_CFG.MODE n) = a.fld (F.SER_CFG.MODE n) :=
  h _ (.inr rfl) (fun m => by simp [Fld.place, F.SER_CFG.MODE, F.SER_STAT.FIFO]; omega)

theorem serKept.abEn {a d : Dev} (h : serKept a d) (n : Nat) : d.fld (F.SER_AB_CFG.AB_EN n) = a.fld (F.SER_AB_CFG.AB_EN n) :=
  h _ (.inr rfl) (fun m => by simp [Fld.place, F.SER_AB_CFG.AB_EN, F.SER_STAT.FIFO]; omega)

theorem serKept.event {a d : Dev} (h : serKept a d) : d.fld F.PWR_RESET_CAUSE.EVENT = a.fld F.PWR_RESET_CAUSE.EVENT :=
  h _ (.inl rfl) (fun m => by simp [Fld.place, F.PWR_RESET_CAUSE.EVENT, F.SER_STAT.FIFO])

/-- Whether measurement is due follows from the configuration. -/
theorem Dev.abDue_congr {a d : Dev} {n : Nat} (hen : d.fld (F.SER_CFG.ENABLE n) = a.fld (F.SER_CFG.ENABLE n))
    (hmode : d.fld (F.SER_CFG.MODE n) = a.fld (F.SER_CFG.MODE n)) (hab : d.fld (F.SER_AB_CFG.AB_EN n) = a.fld (F.SER_AB_CFG.AB_EN n)) :
    d.abDue n = a.abDue n := by
  unfold Dev.abDue Dev.on Dev.serMode
  rw [hen, hmode, hab]

theorem serKept.abDue {a d : Dev} (h : serKept a d) (n : Nat) : d.abDue n = a.abDue n :=
  Dev.abDue_congr (h.enable n) (h.mode n) (h.abEn n)

theorem State.serIslands_leave (l : List Nat) (s : State) : serKept s.dev (l.foldl (fun s n => s.serIsland n) s).dev
    ∧ (l.foldl (fun s n => s.serIsland n) s).store.otp = s.store.otp
    ∧ ∀ m, (m ∈ l → ((l.foldl (fun s n => s.serIsland n) s).dev.ser m).fifo = []
        ∧ ((l.foldl (fun s n => s.serIsland n) s).dev.ser m).mark = s.dev.on (F.SER_CFG.ENABLE m))
      ∧ (m ∉ l → (l.foldl (fun s n => s.serIsland n) s).dev.ser m = s.dev.ser m) := by
  induction l generalizing s with
  | nil => exact ⟨fun _ _ _ => rfl, rfl, fun m => ⟨nofun, fun _ => rfl⟩⟩
  | cons n l ih =>
    obtain ⟨hact, hotp, hfifo, hmark⟩ := s.serIsland_leaves n
    obtain ⟨hk, ho, hser⟩ := ih (s.serIsland n)
    rw [List.foldl_cons]
    refine ⟨hact.kept.trans hk, ho.trans hotp, fun m => ⟨fun hm => ?_, fun hm => ?_⟩⟩
    · by_cases hl : m ∈ l
      · obtain ⟨hf, hmk⟩ := (hser m).1 hl
        refine ⟨hf, ?_⟩
        rw [hmk, Dev.on, hact.kept.enable, ← Dev.on]
      · obtain rfl : m = n := (List.mem_cons.1 hm).resolve_right hl
        rw [(hser m).2 hl]
        exact ⟨hfifo, hmark⟩
    · rw [List.mem_cons, not_or] at hm
      rw [(hser m).2 hm.2, hact.ser m hm.1]

/-- The registers of the ports reset. -/
def Dev.serReset (d : Dev) : Dev :=
  ({ d with regs := d.resetRegs (lostI 1) } : Dev).unlatch (fun b off => b = Blk.ser && off / 0x80 < 7)

theorem State.islandSer_eq (s : State) : State.islandSer s
    = ((List.range 7).foldl (fun s n => s.serIsland n) s).map (fun d => forN 7 (fun n d => d.abBegin n) d.serReset) := rfl

theorem Dev.serReset_ser (d : Dev) (n : Nat) : d.serReset.ser n = d.ser n := rfl

theorem keepsFld_ser : ∀ n < 7, keepsFld (lostI 1) (F.SER_CFG.ENABLE n) = true ∧ keepsFld (lostI 1) (F.SER_CFG.MODE n) = true
    ∧ keepsFld (lostI 1) (F.SER_AB_CFG.AB_EN n) = true := by decide

theorem zeroesFld_ser : ∀ n < 7, zeroesFld (lostI 1) (F.SER_STAT.CARD_ACTIVE n) = true ∧ zeroesFld (lostI 1) (F.SER_STAT.AB_STATE n) = true := by
  decide

section
variable (d : Dev) {n : Nat} (hn : n < 7)
include hn

theorem Dev.serReset_keeps : d.serReset.fld (F.SER_CFG.ENABLE n) = d.fld (F.SER_CFG.ENABLE n) ∧ d.serReset.abDue n = d.abDue n := by
  obtain ⟨hen, hmode, hab⟩ := keepsFld_ser n hn
  have h1 := Dev.fld_of_keepsFld (d := d) (d' := d.serReset) rfl rfl hen Fld.fits
  have h2 := Dev.fld_of_keepsFld (d := d) (d' := d.serReset) rfl rfl hmode Fld.fits
  have h3 := Dev.fld_of_keepsFld (d := d) (d' := d.serReset) rfl rfl hab Fld.fits
  exact ⟨h1, Dev.abDue_congr h1 h2 h3⟩

theorem Dev.serReset_stat : d.serReset.fld (F.SER_STAT.CARD_ACTIVE n) = 0 ∧ d.serReset.fld (F.SER_STAT.AB_STATE n) = 0 := by
  obtain ⟨hcard, hstate⟩ := zeroesFld_ser n hn
  exact ⟨Dev.fld_of_zeroesFld (d := d) (d' := d.serReset) rfl rfl hcard Fld.fits,
    Dev.fld_of_zeroesFld (d := d) (d' := d.serReset) rfl rfl hstate Fld.fits⟩

end

/-- The status of another port stands while a port is armed. -/
theorem SerActs.stat {n m : Nat} {a d : Dev} (h : SerActs n a d) (hm : m ≠ n) :
    d.fld (F.SER_STAT.AB_STATE m) = a.fld (F.SER_STAT.AB_STATE m) ∧ d.fld (F.SER_STAT.CARD_ACTIVE m) = a.fld (F.SER_STAT.CARD_ACTIVE m) :=
  ⟨h.fld (.inr rfl) (by simp [Fld.place, F.SER_STAT.AB_STATE, F.SER_STAT.FIFO, hm]),
    h.fld (.inr rfl) (by simp [Fld.place, F.SER_STAT.CARD_ACTIVE, F.SER_STAT.FIFO, hm])⟩

/-- Arming the ports of a list: where measurement is due it waits for its character; words, marks and cards stand. -/
theorem Dev.abBegins_leave (l : List Nat) (d : Dev) : serKept d (forL l (fun n d => d.abBegin n) d)
    ∧ ∀ m, ((forL l (fun n d => d.abBegin n) d).ser m).fifo = (d.ser m).fifo
      ∧ ((forL l (fun n d => d.abBegin n) d).ser m).mark = (d.ser m).mark
      ∧ (forL l (fun n d => d.abBegin n) d).fld (F.SER_STAT.CARD_ACTIVE m) = d.fld (F.SER_STAT.CARD_ACTIVE m)
      ∧ (forL l (fun n d => d.abBegin n) d).fld (F.SER_STAT.AB_STATE m)
        = if m ∈ l ∧ d.abDue m = true then 1 else d.fld (F.SER_STAT.AB_STATE m) := by
  induction l generalizing d with
  | nil => exact ⟨fun _ _ _ => rfl, fun m => ⟨rfl, rfl, rfl, by simp [forL]⟩⟩
  | cons n l ih =>
    have hact := d.abBegin_acts n
    obtain ⟨hk, hall⟩ := ih (d.abBegin n)
    have hcons : forL (n :: l) (fun n d => d.abBegin n) d = forL l (fun n d => d.abBegin n) (d.abBegin n) := rfl
    rw [hcons]
    refine ⟨hact.kept.trans hk, fun m => ?_⟩
    obtain ⟨hf, hm, hc, ha⟩ := hall m
    rw [hf, hm, hc, ha, hact.kept.abDue]
    by_cases he : m = n
    · subst he
      obtain ⟨h1, h2⟩ := d.abBegin_ser m
      obtain ⟨h3, h4⟩ := d.abBegin_stat m
      refine ⟨h1, h2, h4, ?_⟩
      rw [h3]
      by_cases hd : d.abDue m = true <;> simp [hd]
    · obtain ⟨h1, h2⟩ := hact.stat he
      rw [hact.ser m he, h1, h2]
      exact ⟨rfl, rfl, rfl, by simp [he]⟩

/-- What an I of the serial-port logic leaves of a port. -/
theorem State.islandSer_port (s : State) {n : Nat} (hn : n < 7) : ((State.islandSer s).dev.ser n).fifo = []
    ∧ (State.islandSer s).dev.on (F.SER_STAT.CARD_ACTIVE n) = false
    ∧ ((State.islandSer s).dev.ser n).mark = s.dev.on (F.SER_CFG.ENABLE n)
    ∧ (State.islandSer s).dev.on (F.SER_CFG.ENABLE n) = s.dev.on (F.SER_CFG.ENABLE n)
    ∧ (State.islandSer s).dev.fld (F.SER_STAT.AB_STATE n) = if s.dev.abDue n = true then 1 else 0 := by
  have hmem : n ∈ List.range 7 := List.mem_range.2 hn
  obtain ⟨hk, -, hser⟩ := State.serIslands_leave (List.range 7) s
  obtain ⟨hfifo, hmark⟩ := (hser n).1 hmem
  rw [State.islandSer_eq, State.map_dev, forN]
  generalize ((List.range 7).foldl (fun s n => s.serIsland n) s).dev = d at hk hfifo hmark
  obtain ⟨hak, hall⟩ := Dev.abBegins_leave (List.range 7) d.serReset
  obtain ⟨hf, hm, hc, ha⟩ := hall n
  obtain ⟨hen, hdue⟩ := d.serReset_keeps hn
  obtain ⟨hcard, hstate⟩ := d.serReset_stat hn
  rw [forL] at hf hm hc ha hak
  refine ⟨?_, ?_, ?_, ?_, ?_⟩
  · rw [hf, Dev.serReset_ser, hfifo]
  · rw [Dev.on, hc, hcard]
    rfl
  · rw [hm, Dev.serReset_ser, hmark]
  · rw [Dev.on, hak.enable, hen, hk.enable, ← Dev.on]
  · rw [ha, hstate, hdue, hk.abDue]
    simp [hn]

theorem State.islandSer_event (s : State) : (State.islandSer s).dev.fld F.PWR_RESET_CAUSE.EVENT = s.dev.fld F.PWR_RESET_CAUSE.EVENT := by
  obtain ⟨hk, -, -⟩ := State.serIslands_leave (List.range 7) s
  rw [State.islandSer_eq, State.map_dev, forN]
  generalize ((List.range 7).foldl (fun s n => s.serIsland n) s).dev = d at hk
  obtain ⟨hak, -⟩ := Dev.abBegins_leave (List.range 7) d.serReset
  rw [forL] at hak
  rw [hak.event, Dev.fld_of_keepsFld (d := d) (d' := d.serReset) rfl rfl (keepsFld_event 1 (by decide)) Fld.fits, hk.event]

theorem State.islandSer_otp (s : State) : (State.islandSer s).store.otp = s.store.otp := by
  rw [State.islandSer_eq, State.map_store]
  exact (State.serIslands_leave (List.range 7) s).2.1

end Sys2Proof.Machine
end

section
/-! ### The rows of ISL_ISLAND_RESET -/

namespace Sys2Proof.Machine

/-- DUSK and the serial ports are spared only where their reset has been performed at this stamp. -/
theorem Dev.islandSpared_low {d : Dev} {i : Nat} (hi : i < 2) (h : d.now ∉ tabGet [] d.clocks.resets i) : ¬ d.islandSpared i := by
  rintro (⟨h2, -⟩ | hr)
  · omega
  · exact h hr

/-- A port that the part has, outside TWIN role, likewise. -/
theorem Dev.islandSpared_port {d : Dev} {n : Nat} (hp : d.part.hasPort n = true) (hr : d.netRole n ≠ 0)
    (h : d.now ∉ tabGet [] d.clocks.resets (2 + n)) : ¬ d.islandSpared (2 + n) := by
  rintro (⟨-, hx⟩ | hx)
  · rw [Nat.add_sub_cancel_left] at hx
    rcases hx with hx | hx
    · exact hr hx
    · simp [hp] at hx
  · exact h hx

section
variable {s : State} {t : Stamp} {acc : Access} {a b : Dev} (h : At s t 0 a) (hsv : Sv acc)
include h hsv

/-- The row of DUSK (R190). -/
theorem islandResetDusk_row (hb : b = a.stored .isl O.ISL_ISLAND_RESET 1) (hn : a.now ∉ tabGet [] a.clocks.resets 0)
    (hh : a.islandHeld 0 = false) : ∃ u, Does (exec (.islandResetDusk t acc) s) u ∧ u = State.island 0 { s with dev := b }
      ∧ (∀ blk off r i j, findReg off (regDefs blk) = some (r, i, j) →
          (blk, off) ∉ [(.isl, O.ISL_ISLAND_RESET), F.PWR_RESET_CAUSE.EVENT.place, F.HST_STATUS.LINK_UP.place] →
          u.dev.reg blk off = r.after (resetAt a.part blk off) (a.reg blk off) (fun f => blk = .hst && !f.keep.testBit Rst.i.bit))
      ∧ u.dev.bitOf F.PWR_RESET_CAUSE.EVENT Rst.i.bit = true ∧ u.dev.on F.HST_STATUS.LINK_UP = false ∧ u.dev.on F.HST_STATUS.MSIX_EN = false
      ∧ u.dev.rings = [] ∧ (∀ n < 64, u.dev.on (F.HST_RING_CTRL.ENABLE n) = false) ∧ u.dev.causes = a.causes ∧ u.store = s.store := by
  refine ⟨_, does_islandReset_island h hsv hb (bitsOf_islandBits_dusk _) (Dev.islandSpared_low (by decide) hn) hh, rfl, ?_⟩
  obtain ⟨hpart, -, -, hcauses⟩ := islandStored_keeps hb
  rw [State.island_dusk]
  obtain ⟨hup, hmsix⟩ := (b.markI 0).duskReset.linkReset_off
  refine ⟨fun blk off r i j hf hx => ?_, Dev.islandDusk_event _ (b.markI_event 0), hup, hmsix, rfl, fun n hn => Dev.islandDusk_rings _ hn,
    hcauses, rfl⟩
  simp only [List.mem_cons, List.not_mem_nil, or_false, not_or] at hx
  obtain ⟨hreset, hevent, hlink⟩ := hx
  have hmark : (b.markI 0).reg blk off = a.reg blk off :=
    (b.markI_regs 0 _ _ (by simpa using hevent)).trans (islandStored_regs hb _ _ (by simpa using hreset))
  have hmpart : (b.markI 0).part = a.part := hpart
  rw [← hmark, ← hmpart]
  exact Dev.islandDusk_reg _ hf hlink

/-- The row of the serial ports (R421). -/
theorem islandResetSer_row (hb : b = a.stored .isl O.ISL_ISLAND_RESET 2) (hn : a.now ∉ tabGet [] a.clocks.resets 1)
    (hh : a.islandHeld 1 = false) : ∃ u, Does (exec (.islandResetSer t acc) s) u ∧ u = State.island 1 { s with dev := b }
      ∧ (∀ n < 7, (u.dev.ser n).fifo = [] ∧ u.dev.on (F.SER_STAT.CARD_ACTIVE n) = false ∧ (u.dev.ser n).mark = a.on (F.SER_CFG.ENABLE n)
        ∧ u.dev.on (F.SER_CFG.ENABLE n) = a.on (F.SER_CFG.ENABLE n)
        ∧ u.dev.fld (F.SER_STAT.AB_STATE n) = (if a.on (F.SER_CFG.ENABLE n) && a.serMode n = 1 && a.on (F.SER_AB_CFG.AB_EN n) then 1 else 0))
      ∧ u.dev.bitOf F.PWR_RESET_CAUSE.EVENT Rst.i.bit = true ∧ u.store.otp = s.store.otp := by
  refine ⟨_, does_islandReset_island h hsv hb (bitsOf_islandBits_ser _) (Dev.islandSpared_low (by decide) hn) hh, rfl, ?_⟩
  rw [State.island_ser]
  have hmark {f : Fld} (hf : f.blk = .ser) : (b.markI 1).fld f = a.fld f :=
    (b.markI_fld 1 (by simp [Fld.place, hf, F.PWR_RESET_CAUSE.EVENT])).trans (islandStored_fld hb (by simp [Fld.place, hf]))
  refine ⟨fun n hn => ?_, ?_, State.islandSer_otp _⟩
  · obtain ⟨hfifo, hcard, hword, hen, hab⟩ := State.islandSer_port { s with dev := b.markI 1 } hn
    have hon : (b.markI 1).on (F.SER_CFG.ENABLE n) = a.on (F.SER_CFG.ENABLE n) := by rw [Dev.on, hmark rfl, ← Dev.on]
    have hdue : (b.markI 1).abDue n = a.abDue n := Dev.abDue_congr (hmark rfl) (hmark rfl) (hmark rfl)
    refine ⟨hfifo, hcard, hword.trans hon, hen.trans hon, hab.trans ?_⟩
    rw [hdue]
    rfl
  · rw [Dev.bitOf, State.islandSer_event]
    exact b.markI_event 1

/-- The row of a port (R446). -/
theorem islandResetPort_row (n : Fin 4) (hb : b = a.stored .isl O.ISL_ISLAND_RESET (4#32 <<< n.val)) (hp : a.part.hasPort n.val = true)
    (hr : a.netRole n.val ≠ 0) (hh : a.islandHeld (2 + n.val) = false) (hn : a.now ∉ tabGet [] a.clocks.resets (2 + n.val)) :
    ∃ u, Does (exec (.islandResetPort t acc n) s) u ∧ u = State.island (2 + n.val) { s with dev := b }
      ∧ u.dev.netUp n.val = false ∧ u.dev.fld (F.NET_STAT.STATE n.val) = (a.on (F.NET_CFG.ENABLE n.val)).toNat
      ∧ u.dev.netRole n.val = a.netRole n.val ∧ (u.dev.net n.val).downs = [] ∧ tabGet [] u.dev.kvtTx n.val = [] ∧ u.dev.ptpNs n.val = 0
      ∧ u.dev.bitOf F.PWR_RESET_CAUSE.EVENT Rst.i.bit = true ∧ u.store = s.store := by
  refine ⟨_, does_islandReset_island h hsv hb (bitsOf_islandBits_port _ n hp) (Dev.islandSpared_port hp hr hn) hh, rfl, ?_⟩
  have hmark {f : Fld} (hf : f.blk = .net) : (b.markI (2 + n.val)).fld f = a.fld f :=
    (b.markI_fld _ (by simp [Fld.place, hf, F.PWR_RESET_CAUSE.EVENT])).trans (islandStored_fld hb (by simp [Fld.place, hf]))
  have hrole : (b.markI (2 + n.val)).netRole n.val = a.netRole n.val := hmark rfl
  have hen : (b.markI (2 + n.val)).on (F.NET_CFG.ENABLE n.val) = a.on (F.NET_CFG.ENABLE n.val) := by rw [Dev.on, hmark rfl, ← Dev.on]
  rw [State.island_port]
  obtain ⟨hup, hstate, hkeep, hdowns, htx, hptp, hev⟩ := Dev.islandPort_leaves n.isLt (hrole ▸ hr)
  refine ⟨hup, hstate.trans (by rw [hen]), hkeep.trans hrole, hdowns, htx, hptp, ?_, rfl⟩
  rw [Dev.bitOf, hev]
  exact b.markI_event _

end

/-- Settles O23: a named island is spared, released or reset; each island's reset is followed through its own registers and engines. -/
theorem islandResets : Obligations.IslandResets := by
  unfold Obligations.IslandResets
  intro s t acc a h hsv
  refine ⟨fun b hb hn => ⟨islandResetDusk_row h hsv hb hn, ?_⟩, fun b hb hn => ⟨islandResetSer_row h hsv hb hn, ?_⟩,
    fun n b hb hp => ⟨fun hr hh hn => islandResetPort_row h hsv n hb hp hr hh hn, fun hr hh hn => ?_, fun hr => ?_⟩⟩
  · exact turns_islandReset_held h hsv hb (bitsOf_islandBits_dusk _) (Dev.islandSpared_low (by decide) hn)
  · exact turns_islandReset_held h hsv hb (bitsOf_islandBits_ser _) (Dev.islandSpared_low (by decide) hn)
  · exact turns_islandReset_held h hsv hb (bitsOf_islandBits_port _ n hp) (Dev.islandSpared_port hp hr hn) hh
  · exact turns_islandReset_spared h hsv hb (bitsOf_islandBits_port _ n hp) (.inl ⟨by omega, .inl (by rwa [Nat.add_sub_cancel_left])⟩)

end Sys2Proof.Machine
end

section
/-! ### Commands of the supplies (R97) -/

namespace Sys2Proof.Machine

/-- A command of the supplies does what its effect does to the device as the command finds it. -/
theorem AtPower.next {s : State} {t : Stamp} {a : Dev} (h : AtPower s t a) {f : State → State} {u : State} (hu : f { s with dev := a } = u) :
    (.next (s.runPower t f) : Host.Outcome State Fault Refusal) = .next u.after := by
  rw [← hu, h]
  rfl

/-- Nothing follows while the evaluator does not run. -/
theorem State.after_rests {u : State} (h : u.dev.power.mode ≠ .on) : u.after = u := if_neg h

/-- While the evaluator runs, such a command finds the device at the command's moment. -/
theorem AtPower.atMoment {s : State} {t : Stamp} {a : Dev} (h : AtPower s t a) (hon : a.power.mode = .on) : At s t 0 a := by
  by_cases hs : s.dev.power.mode = .on
  · rw [AtPower, if_pos hs] at h
    exact ⟨hs, h.symm⟩
  · rw [AtPower, if_neg hs] at h
    rw [h] at hon
    exact absurd hon hs

/-! ### What the events leave of the supplies -/

theorem State.outlogPut_power (s : State) (e : List Byte) : (s.outlogPut e).dev.power = s.dev.power := rfl

/-- GLOW's bookkeeping leaves the supply condition. -/
theorem State.glow_power (s : State) : s.glow.dev.power = s.dev.power := by
  have puts (q : List (List Byte)) (u : State) : (q.foldl (fun s e => s.outlogPut e) u).dev.power = u.dev.power := by
    induction q generalizing u with
    | nil => rfl
    | cons e q ih => exact (ih _).trans (u.outlogPut_power e)
  unfold State.glow
  dsimp only
  split
  · rw [State.map_dev]
    exact (congrArg Dev.power (State.retWrite_keeps _ _ _).1).trans (puts _ _)
  · exact puts _ _

theorem State.fullReset_mode (e : Rst) (also : Nat) (m : PMode) (s : State) : (s.fullReset e also m).dev.power.mode = m := rfl

/-- RST_N stands as it stood over a reset event. -/
theorem State.fullReset_rst (e : Rst) (also : Nat) (m : PMode) (s : State) : (s.fullReset e also m).dev.power.rst = s.dev.power.rst := by
  have hlog : (s.logReset e also).dev.power = s.dev.power := by
    unfold State.logReset
    dsimp only
    generalize (if e = .g then 0 else ((topRst (2 ^ e.bit ||| also)).map Rst.kind).getD 0) = kind
    split
    · rfl
    · rfl
  rw [State.fullReset_eq]
  exact congrArg PowerSt.rst (a₁ := (s.beforeReset e also).dev.power) ((State.glow_power _).trans hlog)

/-- The rails read as they were stored. -/
theorem Dev.setRails_inWindow (d : Dev) (rails : BitVec 17) (vmain : Bool) :
    (d.setRails rails vmain).fld F.PWR_RAIL_STAT.IN_WINDOW = rails.toNat % 512 := by
  rw [Dev.setRails, Dev.setBit, Dev.fld_setFld_apart _ _ _ _ (by decide) (by decide), Dev.fld_setFld_apart _ _ _ _ (by decide) (by decide),
    Dev.fld_setFld_same _ _ _ (by decide)]
  exact Nat.mod_mod _ _

theorem Dev.setRails_regs (d : Dev) (rails : BitVec 17) (vmain : Bool) :
    sameRegsBut [F.PWR_RAIL_STAT.IN_WINDOW.place, F.PWR_STATE.VMAIN_OK.place] d (d.setRails rails vmain) :=
  (((sameRegsBut.refl _ d).setFld F.PWR_RAIL_STAT.IN_WINDOW _ (by simp)).setFld F.PWR_RAIL_STAT.VSENS_OK _ (by decide)).setBit
    F.PWR_STATE.VMAIN_OK _ (by simp)

/-- The supplies stored, GLOW's own flags read as they did. -/
theorem Dev.setRails_onVbat (d : Dev) (rails : BitVec 17) (vmain : Bool) :
    (d.setRails rails vmain).on F.PWR_GLOW_STAT.ON_VBAT = d.on F.PWR_GLOW_STAT.ON_VBAT := by
  rw [Dev.on, Dev.on, Dev.fld_congr (d.setRails_regs rails vmain _ _ (by decide))]

/-! ### Power-on reset releases (R76) -/

section
variable {s : State} {a : Dev} {cycles sel also : Nat} {rails : BitVec 17} {vmain : Bool}

/-- The balls BOOT_SEL are latched, the supplies and the clock of GLOW are brought up to date. -/
def Dev.latched (a : Dev) (cycles sel : Nat) (rails : BitVec 17) (vmain : Bool) : Dev :=
  ({ a.rtcTick cycles with power := { a.power with sel := sel } }).setRails rails vmain

/-- The boot waits while RST_N is low (Table PWR-8). -/
def State.bootUnlessLow (u : State) (rst : Bool) : State := if rst then u else u.bootBegin false 0

/-- The reset event of a release in the reset of a B or X (R97): P where GLOW went over to VBAT, else that of the letters that fall together
with it, if they reset anything. -/
def State.releaseHeld (a : Dev) (also : Nat) (u : State) : State :=
  if a.power.fell then u.fullReset .p also .held else match topRst also with
    | some e => u.fullReset e also .held
    | none => u.map (fun d => d.recordReset also)

theorem State.porRelease_idle (h : rails.toNat % 128 ≠ 127 ∨ a.power.mode = .on ∨ (a.power.mode = .standby ∧ a.power.wakeOn = false)) :
    State.porRelease cycles sel rails vmain also { s with dev := a } = { s with dev := a } := by
  unfold State.porRelease
  by_cases hr : rails.toNat % 128 = 127
  · rcases h with h | h | ⟨h, hw⟩
    · exact absurd hr h
    · simp only [hr, ne_eq, not_true_eq_false, if_false, h]
    · simp only [hr, ne_eq, not_true_eq_false, if_false, h, hw, Bool.false_eq_true]
  · rw [if_pos hr]

variable (hr : rails.toNat % 128 = 127)
include hr

theorem State.porRelease_off (h : a.power.mode = .off) : State.porRelease cycles sel rails vmain also { s with dev := a }
    = if a.power.rst then { s with dev := ({ a.latched cycles sel rails vmain with
        power := { (a.latched cycles sel rails vmain).power with letters := also ||| 2 ^ Rst.x.bit } }) }
      else State.bootBegin { s with dev := a.latched cycles sel rails vmain } true also := by
  unfold State.porRelease
  simp only [hr, ne_eq, not_true_eq_false, if_false, h]
  rfl

theorem State.porRelease_held (h : a.power.mode = .held) : State.porRelease cycles sel rails vmain also { s with dev := a }
    = (State.releaseHeld a also { s with dev := a.latched cycles sel rails vmain }).bootUnlessLow a.power.rst := by
  have hrst : (State.releaseHeld a also { s with dev := a.latched cycles sel rails vmain }).dev.power.rst = a.power.rst := by
    unfold State.releaseHeld
    split
    · exact State.fullReset_rst ..
    · split
      · exact State.fullReset_rst ..
      · rfl
  rw [← hrst]
  unfold State.porRelease
  simp only [hr, ne_eq, not_true_eq_false, if_false, h]
  rfl

theorem State.porRelease_wakes (h : a.power.mode = .standby) (hw : a.power.wakeOn = true) :
    State.porRelease cycles sel rails vmain also { s with dev := a }
      = (State.fullReset .y also .held { s with dev := a.latched cycles sel rails vmain }).bootUnlessLow a.power.rst := by
  have hrst : (State.fullReset .y also .held { s with dev := a.latched cycles sel rails vmain }).dev.power.rst = a.power.rst :=
    State.fullReset_rst ..
  rw [← hrst]
  unfold State.porRelease
  simp only [hr, ne_eq, not_true_eq_false, if_false, h, hw, if_true]
  rfl

end

/-- What follows a release that resets: the boot, unless RST_N is low. -/
theorem AtPower.nextBoot {s : State} {t : Stamp} {a : Dev} (h : AtPower s t a) {f : State → State} {u : State}
    (hu : f { s with dev := a } = u.bootUnlessLow a.power.rst) (hm : u.dev.power.mode ≠ .on) :
    (a.power.rst = false → (.next (s.runPower t f) : Host.Outcome State Fault Refusal) = .next (State.bootBegin u false 0).after)
    ∧ (a.power.rst = true → (.next (s.runPower t f) : Host.Outcome State Fault Refusal) = .next u ∧ u.dev.power.mode ≠ .on) := by
  rw [h.next hu]
  constructor
  · intro hrst
    rw [hrst]
    rfl
  · intro hrst
    rw [hrst]
    exact ⟨congrArg _ (State.after_rests hm), hm⟩

/-! ### Brown-out and RST_N (R77, R103) -/

/-- The supplies are stored in the reset of a B; `fell` is that GLOW had gone over to VBAT before it. -/
def Dev.browned (d : Dev) (rails : BitVec 17) (vmain fell : Bool) : Dev :=
  { d.setRails rails vmain with power := { d.power with fell := fell || (d.on F.PWR_GLOW_STAT.ON_VBAT && !rails.getLsbD 4) } }

theorem Dev.browned_inWindow (d : Dev) (rails : BitVec 17) (vmain fell : Bool) :
    (d.browned rails vmain fell).fld F.PWR_RAIL_STAT.IN_WINDOW = rails.toNat % 512 := d.setRails_inWindow rails vmain

theorem Dev.browned_fell (d : Dev) (rails : BitVec 17) (vmain fell : Bool) : (d.browned rails vmain fell).power.fell
    = (fell || ((d.browned rails vmain fell).on F.PWR_GLOW_STAT.ON_VBAT && !rails.getLsbD 4)) :=
  congrArg (fun x => fell || (x && !rails.getLsbD 4)) (d.setRails_onVbat rails vmain).symm

theorem Dev.browned_regs (d : Dev) (rails : BitVec 17) (vmain fell : Bool) :
    sameRegsBut [F.PWR_RAIL_STAT.IN_WINDOW.place, F.PWR_STATE.VMAIN_OK.place] d (d.browned rails vmain fell) :=
  (d.setRails_regs rails vmain).upd rfl rfl

/-- A rail below its threshold holds the evaluator in the reset of a B, and the supplies read as they stand since. -/
theorem State.brownOut_resets {s : State} {rails : BitVec 17} (also : Nat) (hr : rails.toNat % 128 ≠ 127)
    (hm : s.dev.power.mode = .on ∨ s.dev.power.mode = .held) : State.brownOut rails also s
      = (s.fullReset .b also .held).map (fun d => d.browned rails (s.dev.on F.PWR_STATE.VMAIN_OK) s.dev.power.fell) := by
  unfold State.brownOut
  rw [if_neg hr]
  rcases hm with h | h
  · simp only [h]
    rfl
  · simp only [h]
    rfl

/-- What an X keeps of the supply condition `q` that it meets: that GLOW has gone over to VBAT while the evaluator is held, in STANDBY that a
BOOT wake is pending (assumption log 165). -/
def PowerSt.pinLow (p q : PowerSt) (m : PMode) : PowerSt :=
  { p with fell := if m = .held then q.fell else p.fell, wakeOn := if m = .standby then q.wakeOn else p.wakeOn, rst := true }

theorem State.resetPin_resets {s : State} (also : Nat) (hoff : s.dev.power.mode ≠ .off) {m : PMode}
    (hm : m = if s.dev.power.mode = .standby then .standby else .held) :
    s.resetPin also = (s.fullReset .x also m).map (fun d => { d with power := d.power.pinLow s.dev.power m }) := by
  unfold State.resetPin
  cases h : s.dev.power.mode with
  | off => exact absurd h hoff
  | standby =>
    obtain rfl : m = .standby := hm.trans (if_pos h)
    generalize s.fullReset .x also .standby = u
    rfl
  | held | on =>
    obtain rfl : m = .held := hm.trans (if_neg (ne_of_eq_of_ne h (by decide)))
    generalize s.fullReset .x also .held = u
    rfl

theorem State.resetPin_off {s : State} (also : Nat) (hm : s.dev.power.mode = .off) :
    s.resetPin also = s.map (fun d => { d with power := { d.power with rst := true } }) := by
  simp only [State.resetPin, hm]

/-- The device once RST_N has risen. -/
def Dev.pinHigh (a : Dev) : Dev := { a with power := { a.power with rst := false } }

theorem State.pinHigh_mode (s : State) (a : Dev) :
    (State.map (fun d => { d with power := { d.power with rst := false } }) { s with dev := a }).dev.power.mode = a.power.mode := rfl

theorem State.resetPinRise_held {s : State} {a : Dev} (cycles : Nat) (hm : a.power.mode = .held) :
    State.resetPinRise cycles { s with dev := a } = if (a.pinHigh.rtcTick cycles).railsOk && !a.power.fell
      then State.bootBegin { s with dev := a.pinHigh.rtcTick cycles } false 0 else { s with dev := a.pinHigh.rtcTick cycles } := by
  simp only [State.resetPinRise, State.pinHigh_mode, hm]
  rfl

theorem State.resetPinRise_off {s : State} {a : Dev} (cycles : Nat) (hm : a.power.mode = .off) :
    State.resetPinRise cycles { s with dev := a } = if a.pinHigh.railsOk
      then State.bootBegin { s with dev := a.pinHigh } true a.power.letters else { s with dev := a.pinHigh } := by
  simp only [State.resetPinRise, State.pinHigh_mode, hm]
  rfl

theorem State.resetPinRise_standby {s : State} {a : Dev} (cycles : Nat) (hm : a.power.mode = .standby) :
    State.resetPinRise cycles { s with dev := a } = { s with dev := a.pinHigh } := by
  simp only [State.resetPinRise, State.pinHigh_mode, hm]
  rfl

/-! ### The rows of Table PWR-8 -/

section
variable {s : State} {t : Stamp} {a : Dev} (h : AtPower s t a)
include h

theorem standbyPowerOff_row : exec (.standbyPowerOff t) s
    = .next (if a.power.mode = .standby then State.fullReset .g 0 .off { s with dev := a } else { s with dev := a }).after :=
  h.next rfl

/-- A release with its rails in window, after B, X or a BOOT wake. -/
theorem powerOnReset_goesOn (cycles : BitVec 48) (sel : Fin 4) {rails : BitVec 17} (vmain : Bool) (also : BitVec 9) {b : Dev}
    (hb : b = a.latched cycles.toNat sel.val rails vmain) (hr : rails.toNat % 128 = 127) {u : State}
    (hu : (a.power.mode = .held ∧ a.power.fell = false ∧ topRst also.toNat = none ∧ u = { s with dev := b.recordReset also.toNat })
      ∨ (∃ e, a.power.mode = .held ∧ a.power.fell = false ∧ topRst also.toNat = some e
        ∧ u = State.fullReset e also.toNat .held { s with dev := b })
      ∨ (a.power.mode = .held ∧ a.power.fell = true ∧ u = State.fullReset .p also.toNat .held { s with dev := b })
      ∨ (a.power.mode = .standby ∧ a.power.wakeOn = true ∧ u = State.fullReset .y also.toNat .held { s with dev := b })) :
    (a.power.rst = false → exec (.powerOnResetRelease t cycles sel rails vmain also) s = .next (State.bootBegin u false 0).after)
    ∧ (a.power.rst = true → exec (.powerOnResetRelease t cycles sel rails vmain also) s = .next u ∧ u.dev.power.mode ≠ .on) := by
  have held (hm : a.power.mode = .held) (hx : State.releaseHeld a also.toNat { s with dev := b } = u) (hu : u.dev.power.mode = .held) :=
    h.nextBoot (f := fun s => s.porRelease cycles.toNat sel.val rails vmain also.toNat)
      ((State.porRelease_held hr hm).trans (by rw [← hb, hx])) (by rw [hu]; decide)
  rcases hu with ⟨hm, hf, htop, rfl⟩ | ⟨e, hm, hf, htop, rfl⟩ | ⟨hm, hf, rfl⟩ | ⟨hm, hw, rfl⟩
  · exact held hm (by simp only [State.releaseHeld, hf, htop, Bool.false_eq_true, if_false, State.map]) (by rw [hb]; exact hm)
  · exact held hm (by simp only [State.releaseHeld, hf, htop, Bool.false_eq_true, if_false]) rfl
  · exact held hm (by simp only [State.releaseHeld, hf, if_true]) rfl
  · rw [hb]
    exact h.nextBoot (State.porRelease_wakes hr hm hw) (by rw [State.fullReset_mode]; decide)

/-- A release with its rails in window, after G. -/
theorem powerOnReset_fromNothing (cycles : BitVec 48) (sel : Fin 4) {rails : BitVec 17} (vmain : Bool) (also : BitVec 9) {b : Dev}
    (hb : b = a.latched cycles.toNat sel.val rails vmain) (hr : rails.toNat % 128 = 127) (hm : a.power.mode = .off) :
    (a.power.rst = false → exec (.powerOnResetRelease t cycles sel rails vmain also) s
      = .next (State.bootBegin { s with dev := b } true also.toNat).after)
    ∧ (a.power.rst = true → exec (.powerOnResetRelease t cycles sel rails vmain also) s
      = .next { s with dev := { b with power := { b.power with letters := also.toNat ||| 2 ^ Rst.x.bit } } }) := by
  have hoff := State.porRelease_off (s := s) (cycles := cycles.toNat) (sel := sel.val) (also := also.toNat) (vmain := vmain) hr hm
  rw [← hb] at hoff
  constructor
  · intro hrst
    rw [hrst] at hoff
    exact h.next hoff
  · intro hrst
    rw [hrst] at hoff
    refine (h.next hoff).trans (congrArg _ (State.after_rests ?_))
    rw [if_pos rfl, hb]
    exact ne_of_eq_of_ne hm (by decide)

theorem brownOut_row {rails : BitVec 17} (also : BitVec 9) (hr : rails.toNat % 128 ≠ 127) (hm : a.power.mode = .on ∨ a.power.mode = .held) :
    ∃ u, exec (.brownOut t rails also) s = .next u ∧ u.dev.power.mode = .held
      ∧ u.store = (State.fullReset .b also.toNat .held { s with dev := a }).store
      ∧ u.dev.fld F.PWR_RAIL_STAT.IN_WINDOW = rails.toNat % 512
      ∧ u.dev.power.fell = (a.power.fell || (u.dev.on F.PWR_GLOW_STAT.ON_VBAT && !rails.getLsbD 4))
      ∧ sameRegsBut [F.PWR_RAIL_STAT.IN_WINDOW.place, F.PWR_STATE.VMAIN_OK.place] (State.fullReset .b also.toNat .held { s with dev := a }).dev
        u.dev := by
  refine ⟨_, (h.next (State.brownOut_resets also.toNat hr hm)).trans (congrArg _ (State.after_rests ?_)), rfl, rfl,
    Dev.browned_inWindow .., Dev.browned_fell .., Dev.browned_regs _ _ _ _⟩
  exact ne_of_eq_of_ne (b := PMode.held) rfl (by decide)

theorem externalReset_row (also : BitVec 9) (m : PMode) (hmode : m = if a.power.mode = .standby then .standby else .held) :
    (a.power.mode ≠ .off → ∃ u, exec (.externalReset t also) s = .next u ∧ u.dev.power.mode = m
      ∧ u.dev.power.rst = true ∧ u.store = (State.fullReset .x also.toNat m { s with dev := a }).store
      ∧ sameRegsBut [] (State.fullReset .x also.toNat m { s with dev := a }).dev u.dev
      ∧ (m = .held → u.dev.power.fell = a.power.fell) ∧ (m = .standby → u.dev.power.wakeOn = a.power.wakeOn))
    ∧ (a.power.mode = .off → exec (.externalReset t also) s = .next { s with dev := { a with power := { a.power with rst := true } } }) := by
  constructor
  · intro hoff
    have hx := State.resetPin_resets (s := { s with dev := a }) also.toNat hoff hmode
    have hr := State.fullReset_mode .x also.toNat m { s with dev := a }
    have hon : m ≠ .on := by
      rw [hmode]
      split <;> decide
    generalize State.fullReset .x also.toNat m { s with dev := a } = r at hx hr ⊢
    exact ⟨_, (h.next hx).trans (congrArg _ (State.after_rests (ne_of_eq_of_ne hr hon))), hr, rfl, rfl, sameRegsBut_of_regs rfl rfl,
      fun hm => if_pos hm, fun hm => if_pos hm⟩
  · intro hoff
    refine (h.next (State.resetPin_off also.toNat hoff)).trans (congrArg _ (State.after_rests ?_))
    exact ne_of_eq_of_ne hoff (by decide)

theorem rstNRise_row (cycles : BitVec 48) (b : Dev) (hb : b = { a with power := { a.power with rst := false } }) :
    (a.power.mode = .held → a.power.fell = false → (b.rtcTick cycles.toNat).railsOk = true →
      exec (.rstNRise t cycles) s = .next (State.bootBegin { s with dev := b.rtcTick cycles.toNat } false 0).after)
    ∧ (a.power.mode = .off → b.railsOk = true →
      exec (.rstNRise t cycles) s = .next (State.bootBegin { s with dev := b } true a.power.letters).after)
    ∧ (a.power.mode = .held → ((b.rtcTick cycles.toNat).railsOk = false ∨ a.power.fell = true) → exec (.rstNRise t cycles) s
      = .next (State.after { s with dev := b.rtcTick cycles.toNat }))
    ∧ ((a.power.mode = .standby ∨ (a.power.mode = .off ∧ b.railsOk = false)) → exec (.rstNRise t cycles) s = .next { s with dev := b }) := by
  obtain rfl : b = a.pinHigh := hb
  refine ⟨fun hm hf hr => h.next ((State.resetPinRise_held _ hm).trans (if_pos (by rw [hr, hf]; rfl))),
    fun hm hr => h.next ((State.resetPinRise_off _ hm).trans (if_pos hr)),
    fun hm hx => h.next ((State.resetPinRise_held _ hm).trans (if_neg ?_)), fun hx => ?_⟩
  · rcases hx with hr | hf
    · simp [hr]
    · simp [hf]
  · have hne : a.pinHigh.power.mode ≠ .on := by
      rcases hx with hm | ⟨hm, -⟩
      · exact ne_of_eq_of_ne hm (by decide)
      · exact ne_of_eq_of_ne hm (by decide)
    refine (h.next (u := { s with dev := a.pinHigh }) ?_).trans (congrArg _ (State.after_rests hne))
    rcases hx with hm | ⟨hm, hr⟩
    · exact State.resetPinRise_standby _ hm
    · exact (State.resetPinRise_off _ hm).trans (if_neg (by simp [hr]))

theorem watchdogExpiry_row (also : BitVec 9) (hon : a.power.mode = .on) :
    (a.fld F.PWR_WDT_CFG.TIMEOUT_MS ≤ a.wdtMs → Does (exec (.watchdogExpiry t also) s)
      ((State.fullReset .w also.toNat .held { s with dev := a }).bootBegin false 0))
    ∧ (a.wdtMs < a.fld F.PWR_WDT_CFG.TIMEOUT_MS → Turns (exec (.watchdogExpiry t also) s) s [] a a) :=
  ⟨fun hdue => does_run (h.atMoment hon) (if_pos hdue),
    fun hearly => ⟨does_run (h.atMoment hon) (if_neg (by exact Nat.not_le.2 hearly)), sameRegsBut.refl _ _⟩⟩

end

/-- Settles O39: each command of Table PWR-8 by the row lemma of its own. -/
theorem resetCommands : Obligations.ResetCommands := by
  unfold Obligations.ResetCommands
  intro s t a h
  refine ⟨h.next rfl, standbyPowerOff_row h, fun cycles sel rails vmain also b hb => ⟨fun hx => h.next (State.porRelease_idle hx),
      fun hr u hu => powerOnReset_goesOn h cycles sel vmain also hb hr hu, powerOnReset_fromNothing h cycles sel vmain also hb⟩,
    fun rails also hr hm => brownOut_row h also hr hm, fun also m hmode => externalReset_row h also m hmode,
    fun cycles b hb => rstNRise_row h cycles b hb, fun also hon => watchdogExpiry_row h also hon⟩

end Sys2Proof.Machine
end

section
/-! ### The monitors of the supplies (R78, R79, R80) -/

namespace Sys2Proof.Machine

/-- A bit of a field that is cleared reads 0. -/
theorem Dev.bitOf_setBitOf_false (d : Dev) (f : Fld) (i : Nat) (hf : f.lo + f.w ≤ 32) : (d.setBitOf f i false).bitOf f i = false := by
  simp [Dev.bitOf, Dev.setBitOf, Dev.fld_setFld_same _ _ _ hf, setMask, testBit_sub_and]

/-! ### VFIELD and the supplies of the banks -/

section
variable {s : State} {t : Stamp} {a : Dev}

/-- A rail out of window is shown, and stays seen (Table PWR-11). -/
theorem Dev.railOut_low (d : Dev) {i : Nat} (hi : i < 9) :
    d.railOut i = (d.setBitOf F.PWR_RAIL_STAT.IN_WINDOW i false).setBitOf F.PWR_RAIL_FLAG.OUT_SEEN i true := by
  rw [Dev.railOut, if_pos hi]

theorem Dev.railOut_bank (d : Dev) (b : Nat) :
    d.railOut (9 + b) = (d.setBitOf F.PWR_RAIL_STAT.VSENS_OK b false).setBitOf F.PWR_RAIL_FLAG.OUT_SEEN (9 + b) true := by
  rw [Dev.railOut, if_neg (by omega), Nat.add_sub_cancel_left]

/-- The fault of a rail writes the rail's flags beside its own registers. -/
theorem Dev.railFault_regs (d : Dev) (i : Nat) (ev : Ev) (src : Src) (detail : List Byte) :
    sameRegsBut ([F.PWR_RAIL_STAT.IN_WINDOW.place, F.PWR_RAIL_FLAG.OUT_SEEN.place] ++ faultRegs (evClass ev)) d
      ((d.railOut i).fault ev src 0 0 detail) := by
  have hv : F.PWR_RAIL_STAT.VSENS_OK.place = F.PWR_RAIL_STAT.IN_WINDOW.place := by decide
  refine sameRegsBut.fault ?_ _ _ _ _ _ _ (List.subset_append_right _ _)
  unfold Dev.railOut
  split
  · exact ((sameRegsBut.refl _ d).setFld F.PWR_RAIL_STAT.IN_WINDOW _ (by simp)).setFld F.PWR_RAIL_FLAG.OUT_SEEN _ (by simp)
  · exact ((sameRegsBut.refl _ d).setFld F.PWR_RAIL_STAT.VSENS_OK _ (by simp [hv])).setFld F.PWR_RAIL_FLAG.OUT_SEEN _ (by simp)

theorem vfieldRange_row (h : At s t 0 a) (high : Bool) : Turns (exec (.vfieldRange t high) s) s
    ([F.PWR_RAIL_STAT.IN_WINDOW.place, F.PWR_RAIL_FLAG.OUT_SEEN.place] ++ faultRegs (evClass .vfieldRange)) a
    (((a.setBitOf F.PWR_RAIL_STAT.IN_WINDOW 7 false).setBitOf F.PWR_RAIL_FLAG.OUT_SEEN 7 true).fault .vfieldRange (.pwr 0) 0 0
      (leBytes 1 high.toNat)) := by
  rw [← a.railOut_low (by decide)]
  exact turns_runDev h rfl (a.railFault_regs _ _ _ _)

theorem vsensLow_absent (h : At s t 0 a) (b : Fin 8) (hb : a.part.hasBank b.val = false) : Turns (exec (.vsensLow t b) s) s [] a a :=
  turns_runDev h (if_neg (by simp [hb])) (sameRegsBut.refl _ _)

theorem vsensLow_present (h : At s t 0 a) (b : Fin 8) (hb : a.part.hasBank b.val = true) : Turns (exec (.vsensLow t b) s) s
    ([F.PWR_RAIL_STAT.IN_WINDOW.place, F.PWR_RAIL_FLAG.OUT_SEEN.place] ++ faultRegs (evClass .vsensLow)) a
    (((a.setBitOf F.PWR_RAIL_STAT.VSENS_OK b.val false).setBitOf F.PWR_RAIL_FLAG.OUT_SEEN (9 + b.val) true).fault .vsensLow (.pwr b.val)) := by
  rw [← a.railOut_bank b.val]
  exact turns_runDev h (if_pos hb) (a.railFault_regs _ _ _ _)

/-- A bank's supply that is back ends its cause. -/
theorem vsensRestored_row (h : At s t 0 a) (b : Fin 8) : Turns (exec (.vsensRestored t b) s) s [F.PWR_RAIL_STAT.IN_WINDOW.place] a
    ((a.setBitOf F.PWR_RAIL_STAT.VSENS_OK b.val true).clear .vsensLow (.pwr b.val)) :=
  turns_runDev h rfl (((sameRegsBut.refl _ a).setFld F.PWR_RAIL_STAT.VSENS_OK _ (by decide)).upd rfl rfl)

end

/-! ### GLOW's battery and supply -/

section
variable (d : Dev)

/-- The flags of a low battery. -/
def Dev.batteryLow : Dev :=
  ((d.setFld F.PWR_GLOW_STAT.VBAT_LOW 1).setFld F.PWR_TAMPER.VBAT_LOW_SEEN 1).setBitOf F.PWR_RAIL_STAT.IN_WINDOW 8 false

/-- A running device tells of it too. -/
theorem Dev.vbatLow_on (h : d.power.mode = .on) :
    d.vbatLow = (d.batteryLow.setBitOf F.PWR_RAIL_FLAG.OUT_SEEN 8 true).note .vbatLow (.pwr 0) := if_pos h

theorem Dev.vbatLow_rests (h : d.power.mode ≠ .on) : d.vbatLow = d.batteryLow := if_neg h

theorem Dev.batteryLow_flags : d.batteryLow.on F.PWR_GLOW_STAT.VBAT_LOW = true ∧ d.batteryLow.on F.PWR_TAMPER.VBAT_LOW_SEEN = true
    ∧ d.batteryLow.bitOf F.PWR_RAIL_STAT.IN_WINDOW 8 = false := by
  refine ⟨?_, ?_, Dev.bitOf_setBitOf_false _ _ _ (by decide)⟩
  · rw [Dev.on, Dev.batteryLow, Dev.setBitOf, Dev.fld_setFld_apart _ _ _ _ (by decide) (by decide),
      Dev.fld_setFld_apart _ _ _ _ (by decide) (by decide), Dev.fld_setFld_same _ _ _ (by decide)]
    rfl
  · rw [Dev.on, Dev.batteryLow, Dev.setBitOf, Dev.fld_setFld_apart _ _ _ _ (by decide) (by decide), Dev.fld_setFld_same _ _ _ (by decide)]
    rfl

/-- What it tells stands beside the flags. -/
theorem Dev.vbatLow_touches : Touches (insert F.PWR_RAIL_FLAG.OUT_SEEN (recFlds 0)) d.batteryLow d.vbatLow := by
  by_cases h : d.power.mode = .on
  · rw [d.vbatLow_on h]
    exact ((Touches.refl _ _).setBitOf F.PWR_RAIL_FLAG.OUT_SEEN 8 true (Set.mem_insert _ _) Fld.fits).note _ _ _ _ (Set.subset_insert _ _)
  · rw [d.vbatLow_rests h]
    exact Touches.refl _ _

theorem Dev.vbatLow_flags : d.vbatLow.on F.PWR_GLOW_STAT.VBAT_LOW = true ∧ d.vbatLow.on F.PWR_TAMPER.VBAT_LOW_SEEN = true
    ∧ d.vbatLow.bitOf F.PWR_RAIL_STAT.IN_WINDOW 8 = false := by
  have hfld {g : Fld} (hg : g.blk = .pwr) (ho : g.off ≠ F.PWR_RAIL_FLAG.OUT_SEEN.off) : d.vbatLow.fld g = d.batteryLow.fld g := by
    refine d.vbatLow_touches.fld g (fun f hf => ?_)
    simp only [recFlds, Set.mem_insert_iff, Set.mem_singleton_iff] at hf
    rcases hf with rfl | rfl | rfl | rfl
    · exact Fld.apart_of_off (Ne.symm ho)
    all_goals
      exact Fld.apart_of_blk (by rw [hg]; exact Blk.noConfusion)
  rw [Dev.on, Dev.on, Dev.bitOf, hfld rfl (by decide), hfld rfl (by decide), hfld rfl (by decide)]
  exact d.batteryLow_flags

theorem Dev.vbatLow_told (h : d.power.mode = .on) :
    d.vbatLow.bitOf F.PWR_RAIL_FLAG.OUT_SEEN 8 = true ∧ ∃ e ∈ d.vbatLow.evq, e.ev = .vbatLow ∧ e.stamp = d.now := by
  rw [d.vbatLow_on h]
  constructor
  · have hnote := ((Touches.refl (recFlds 0) (d.batteryLow.setBitOf F.PWR_RAIL_FLAG.OUT_SEEN 8 true)).note .vbatLow (.pwr 0) 0 [] Set.Subset.rfl).fld
      F.PWR_RAIL_FLAG.OUT_SEEN (fun f hf => by rcases hf with rfl | rfl | rfl <;> rfl)
    rw [Dev.bitOf, hnote]
    exact Dev.bitOf_setBitOf_true _ _ _ (by decide) (by decide)
  · rw [Dev.note_evq]
    exact ⟨_, List.mem_append_right _ (List.mem_singleton_self _), rfl, rfl⟩

theorem Dev.vbatLow_regs : sameRegsBut ([F.PWR_GLOW_STAT.VBAT_LOW.place, F.PWR_TAMPER.VBAT_LOW_SEEN.place, F.PWR_RAIL_STAT.IN_WINDOW.place,
    F.PWR_RAIL_FLAG.OUT_SEEN.place] ++ eventRegs 0) d d.vbatLow := by
  have hlow : sameRegsBut ([F.PWR_GLOW_STAT.VBAT_LOW.place, F.PWR_TAMPER.VBAT_LOW_SEEN.place, F.PWR_RAIL_STAT.IN_WINDOW.place,
      F.PWR_RAIL_FLAG.OUT_SEEN.place] ++ eventRegs 0) d d.batteryLow :=
    (((sameRegsBut.refl _ d).setFld F.PWR_GLOW_STAT.VBAT_LOW _ (by simp)).setFld F.PWR_TAMPER.VBAT_LOW_SEEN _ (by simp)).setFld
      F.PWR_RAIL_STAT.IN_WINDOW _ (by simp)
  by_cases h : d.power.mode = .on
  · rw [d.vbatLow_on h]
    exact (hlow.setFld F.PWR_RAIL_FLAG.OUT_SEEN _ (by simp)).note _ _ _ _ (List.subset_append_right _ _)
  · rw [d.vbatLow_rests h]
    exact hlow

theorem Dev.vbatBack_flags : d.vbatBack.on F.PWR_GLOW_STAT.VBAT_LOW = false ∧ d.vbatBack.bitOf F.PWR_RAIL_STAT.IN_WINDOW 8 = true := by
  refine ⟨?_, Dev.bitOf_setBitOf_true _ _ _ (by decide) (by decide)⟩
  rw [Dev.on, Dev.vbatBack, Dev.setBitOf, Dev.fld_setFld_apart _ _ _ _ (by decide) (by decide), Dev.fld_setFld_same _ _ _ (by decide)]
  rfl

theorem Dev.vbatBack_regs : sameRegsBut [F.PWR_GLOW_STAT.VBAT_LOW.place, F.PWR_RAIL_STAT.IN_WINDOW.place] d d.vbatBack :=
  ((sameRegsBut.refl _ d).setFld F.PWR_GLOW_STAT.VBAT_LOW _ (by simp)).setFld F.PWR_RAIL_STAT.IN_WINDOW _ (by simp)

/-- A change to VBAT while the evaluator is held is kept for the release. -/
theorem Dev.glowSupply_eq (onVbat : Bool) : d.glowSupply onVbat = { d.setBit F.PWR_GLOW_STAT.ON_VBAT onVbat with
    power := { d.power with fell := d.power.fell || (onVbat && Decidable.decide (d.power.mode = .held)) } } := by
  unfold Dev.glowSupply
  by_cases h : (onVbat && Decidable.decide (d.power.mode = .held)) = true
  · rw [h, Bool.or_true]
    exact if_pos h
  · rw [Bool.not_eq_true] at h
    rw [h, Bool.or_false]
    exact if_neg (ne_of_eq_of_ne h Bool.false_ne_true)

end

/-- Settles O40: each supply's command by what it does to its flags, its cause and its record. -/
theorem supplyMonitors : Obligations.SupplyMonitors := by
  unfold Obligations.SupplyMonitors
  refine ⟨fun s t a h => ⟨vfieldRange_row h, fun b => ⟨vsensLow_absent h b, vsensLow_present h b, vsensRestored_row h b⟩⟩,
    fun s t a h => ⟨?_, ?_, fun onVbat => ?_⟩⟩
  · obtain ⟨hlow, hseen, hrail⟩ := a.vbatLow_flags
    exact ⟨a.vbatLow, h.next rfl, hlow, hseen, hrail, a.vbatLow_told, a.vbatLow_regs⟩
  · obtain ⟨hlow, hrail⟩ := a.vbatBack_flags
    exact ⟨a.vbatBack, h.next rfl, hlow, hrail, a.vbatBack_regs⟩
  · refine ⟨a.glowSupply onVbat, h.next rfl, ?_⟩
    rw [a.glowSupply_eq]
    exact ⟨Dev.on_setBit_same a F.PWR_GLOW_STAT.ON_VBAT onVbat (by decide) rfl,
      ((sameRegsBut.refl _ a).setBit F.PWR_GLOW_STAT.ON_VBAT onVbat (by simp)).upd rfl rfl, rfl⟩

end Sys2Proof.Machine
end

section
/-! ### Full-word writes to registers of PWR and BOT (R9, R94, R99) -/

namespace Sys2Proof.Machine

/-- With every byte enabled the WO bits are those of the written word in the register's WO fields. -/
theorem RegDef.woBits_full (r : RegDef) (v : Word) : r.woBits v.toNat 0xFFFFFFFF = v.toNat &&& r.bitsWhere (fun f => f.acc = .wo) := by
  have hall : v.toNat &&& 0xFFFFFFFF = v.toNat := Nat.and_two_pow_sub_one_of_lt_two_pow (n := 32) v.isLt
  have fold (l : List FieldDef) (a c : Nat) (hac : a = v.toNat &&& c) :
      l.foldl (fun a f => if f.acc = .wo ∧ f.mask &&& 0xFFFFFFFF ≠ 0 then a ||| (v.toNat &&& 0xFFFFFFFF &&& f.mask) else a) a
        = v.toNat &&& l.foldl (fun a f => if Decidable.decide (f.acc = .wo) then a ||| f.mask else a) c := by
    induction l generalizing a c with
    | nil => exact hac
    | cons f l ih =>
      refine ih _ _ ?_
      by_cases hw : f.acc = .wo
      · by_cases hm : f.mask &&& 0xFFFFFFFF = 0
        · have hno : v.toNat &&& f.mask = 0 := by rw [← hall, Nat.and_assoc, Nat.and_comm 0xFFFFFFFF, hm, Nat.and_zero]
          simp [hw, hm, hac, Nat.and_or_distrib_left, hno]
        · simp [hw, hm, hac, hall, Nat.and_or_distrib_left]
      · simp [hw, hac]
  exact fold r.fields 0 0 (Nat.and_zero _).symm

/-- A register whose WO fields fill its low `n` bits, and which takes a full-word secure write on either part, whether or not the seal
locks. -/
def takesAll (b : Blk) (off n : Nat) : Bool :=
  decide (off % 4 = 0) && decide (off < 0x1000) && decide (deadBits .dx8856 b off = 0) && decide (deadBits .dx8828 b off = 0)
    && (findReg off (regDefs b)).any (fun x => decide (x.1.bitsWhere (fun f => f.acc = Acc.wo) = 2 ^ n - 1)
      && x.1.touched 0xFFFFFFFF true true && x.1.touched 0xFFFFFFFF true false)

section
variable {b : Blk} {off : Nat} (hb : b = .pwr ∨ b = .bot)
include hb

/-- Where no field depends on another, the register holds each field by its access code. -/
theorem Dev.stored_eq (d : Dev) (v : Word) {r : RegDef} {i j : Nat} (hf : findReg off (regDefs b) = some (r, i, j))
    (hx : off ≠ O.PWR_WDT_CFG) : d.stored b off v = d.setReg b off
      (r.writeWord (d.reg b off).toNat v.toNat (d.writable b off v.toNat 0xFFFFFFFF) 0 true (d.on F.BOT_STATUS.LOCKED)) := by
  rcases hb with rfl | rfl
  all_goals
    simp only [Dev.stored, hf, Dev.storeReg, Dev.crossFix, hx, and_false, if_false, reduceCtorEq, false_and]

/-- The write itself changes its own register alone. -/
theorem Dev.stored_setReg (d : Dev) (v : Word) (hf : (findReg off (regDefs b)).isSome = true) (hx : off ≠ O.PWR_WDT_CFG) :
    ∃ w, d.stored b off v = d.setReg b off w := by
  obtain ⟨⟨r, i, j⟩, hf⟩ := Option.isSome_iff_exists.1 hf
  exact ⟨_, Dev.stored_eq hb d v hf hx⟩

/-- Such a register takes the word that an SV pair writes, and what the word's WO bits set off follows. -/
theorem sv_openWrite {s : State} {acc : Access} (v : Word) {n : Nat} (hsv : Sv acc) (h : takesAll b off n = true) :
    s.busWrite acc (blkBase b + off) v {}
      = ({ s with dev := s.dev.stored b off v }).afterWrite s.dev b off (v.toNat % 2 ^ n) 0xFFFFFFFF none := by
  simp only [takesAll, Bool.and_eq_true, decide_eq_true_eq, Option.any_eq_true] at h
  obtain ⟨⟨⟨⟨h4, hlt⟩, hd56⟩, hd28⟩, ⟨r, i, j⟩, hf, ⟨hmask, hlocked⟩, hfree⟩ := h
  have hwr : s.dev.writable b off v.toNat 0xFFFFFFFF = 0xFFFFFFFF := by
    refine writable_all _ _ _ _ (by cases s.dev.part; exacts [hd56, hd28]) ?_
    rcases hb with rfl | rfl
    · rfl
    · rfl
  have ht : r.touched 0xFFFFFFFF true (s.dev.on F.BOT_STATUS.LOCKED) = true := by
    cases s.dev.on F.BOT_STATUS.LOCKED
    · exact hfree
    · exact hlocked
  have hbase : (blkBase b + off) / 0x100000 = blkBase b / 0x100000 ∧ (blkBase b + off) % 0x100000 = off := by
    rcases hb with rfl | rfl
    all_goals
      simp only [blkBase]
      omega
  obtain ⟨hat, hwld, hser, habs⟩ : blkAt (blkBase b / 0x100000) = some b ∧ b ≠ .wld ∧ b ≠ .ser ∧ absentReg s.dev.part b off = false := by
    rcases hb with rfl | rfl
    · exact ⟨by decide, by decide, by decide, rfl⟩
    · exact ⟨by decide, by decide, by decide, rfl⟩
  rw [sv_write hsv hf h4 (by omega) (hbase.1 ▸ hat) hbase.2 (fun h => hwld h.1) (fun h => hser h.1) habs (hwr.symm ▸ ht) rfl, hwr,
    RegDef.woBits_full, hmask, Nat.and_two_pow_sub_one_eq_mod]

end

/-! ### What each of these writes comes down to -/

section
variable {s : State} {acc : Access} (hsv : Sv acc) (v : Word)
include hsv

/-- A keyed write of PWR_SW_RESET asks for S and N (R99). -/
theorem sv_swReset : s.busWrite acc (blkBase .pwr + O.PWR_SW_RESET) v {}
    = if v.toNat % 65536 = 0x5C3A then State.softReset (v.getLsbD 16) (v.getLsbD 17) { s with dev := s.dev.stored .pwr O.PWR_SW_RESET v }
      else { s with dev := s.dev.stored .pwr O.PWR_SW_RESET v } := by
  have hkey : v.toNat % 2 ^ 18 % 65536 = v.toNat % 65536 := by omega
  rw [sv_openWrite (n := 18) (.inl rfl) v hsv (by decide)]
  simp only [State.afterWrite, State.pwrHook, if_true, hkey, Nat.testBit_mod_two_pow, BitVec.testBit_toNat]
  rfl

/-- A write of PWR_WDT_KICK kicks the watchdog with its KEY (R94). -/
theorem sv_wdtKick : s.busWrite acc (blkBase .pwr + O.PWR_WDT_KICK) v {}
    = State.wdtKick (v.toNat % 65536) { s with dev := s.dev.stored .pwr O.PWR_WDT_KICK v } := by
  have hkey : v.toNat % 2 ^ 16 % 65536 = v.toNat % 65536 := by omega
  rw [sv_openWrite (n := 16) (.inl rfl) v hsv (by decide)]
  simp only [State.afterWrite, State.pwrHook, if_neg (show O.PWR_WDT_KICK ≠ O.PWR_SW_RESET by decide), if_true, hkey]

/-- A write of PWR_RTC_SEC sets the RTC (R91). -/
theorem sv_rtcSet : s.busWrite acc (blkBase .pwr + O.PWR_RTC_SEC) v {}
    = State.rtcSet s.dev { s with dev := s.dev.stored .pwr O.PWR_RTC_SEC v } := by
  rw [sv_openWrite (n := 0) (.inl rfl) v hsv (by decide)]
  simp only [State.afterWrite, State.pwrHook, if_neg (show O.PWR_RTC_SEC ≠ O.PWR_SW_RESET by decide),
    if_neg (show O.PWR_RTC_SEC ≠ O.PWR_WDT_KICK by decide), if_true]

/-- A keyed write of BOT_CTRL with RELOAD applies X while commissioning (R124). -/
theorem sv_botCtrl : s.busWrite acc (blkBase .bot + O.BOT_CTRL) v {}
    = if v.toNat % 65536 = 0x7A19 ∧ v.getLsbD 16 = true ∧ s.dev.on F.BOT_STATUS.COMMISSIONING = true
      then State.resetBoot .x 0 { s with dev := s.dev.stored .bot O.BOT_CTRL v } else { s with dev := s.dev.stored .bot O.BOT_CTRL v } := by
  have hkey : v.toNat % 2 ^ 17 % 65536 = v.toNat % 65536 := by omega
  have hcom : (s.dev.stored .bot O.BOT_CTRL v).on F.BOT_STATUS.COMMISSIONING = s.dev.on F.BOT_STATUS.COMMISSIONING := by
    obtain ⟨w, hw⟩ := Dev.stored_setReg (.inr rfl) s.dev v (off := O.BOT_CTRL) (by decide) (by decide)
    rw [hw, Dev.on, Dev.on, Dev.fld_congr (Dev.reg_setReg_ne _ _ (by decide))]
  rw [sv_openWrite (n := 17) (.inr rfl) v hsv (by decide)]
  simp only [State.afterWrite, State.botHook, if_true, hkey, Nat.testBit_mod_two_pow, BitVec.testBit_toNat, hcom]
  rfl

end

end Sys2Proof.Machine
end

section
/-! ### Software resets (R99, R103, R124) -/

namespace Sys2Proof.Machine

section
variable {s : State} (wantN : Bool)

/-- In HOLD the request waits. -/
theorem State.softReset_waits (h : s.dev.fld F.PWR_STATE.STATE = 2) : s.softReset true wantN
    = s.map (fun d => { d with power := { d.power with waitS := true, waitN := d.power.waitN || wantN } }) := by
  rw [State.softReset, if_pos h]
  simp only [Bool.or_true]

theorem State.softReset_secure (h : s.dev.fld F.PWR_STATE.STATE ≠ 2) (hr : s.dev.boot.running = false) :
    s.softReset true wantN = s.secureReset (if wantN then 2 ^ Rst.n.bit else 0) := by
  rw [State.softReset, if_neg h, if_pos rfl, if_neg (by simp [hr])]

theorem State.softReset_nonSecure (h : s.dev.fld F.PWR_STATE.STATE ≠ 2) : s.softReset false true = s.nonSecureReset false := by
  rw [State.softReset, if_neg h]
  rfl

end

section
variable {s : State} {t : Stamp} {acc : Access} {v : Word} {a : Dev}

/-- The write itself changes PWR_SW_RESET alone. -/
theorem Dev.stored_swReset (d : Dev) (v : Word) : ∃ w, d.stored .pwr O.PWR_SW_RESET v = d.setReg .pwr O.PWR_SW_RESET w :=
  Dev.stored_setReg (.inl rfl) d v (by decide) (by decide)

theorem Dev.stored_swReset_state (d : Dev) (v : Word) :
    (d.stored .pwr O.PWR_SW_RESET v).fld F.PWR_STATE.STATE = d.fld F.PWR_STATE.STATE := by
  obtain ⟨w, hw⟩ := d.stored_swReset v
  rw [hw, Dev.fld_congr (Dev.reg_setReg_ne _ _ (by decide))]

/-- What the seal block delivers to the scans of the re-application is known. -/
def Dev.withChain (a : Dev) (chain : List (BitVec 64)) : Dev := { a with boot := { a.boot with chain := chain } }

/-- A keyed write with S set applies S, or waits while the evaluator holds. -/
theorem secureWorldReset_row (chain : List (BitVec 64)) {b : Dev} (h : At s t 0 a) (hsv : Sv acc) (hkey : v.toNat % 65536 = 0x5C3A)
    (hS : v.getLsbD 16 = true) (hb : b = (a.withChain chain).stored .pwr O.PWR_SW_RESET v) :
    (a.fld F.PWR_STATE.STATE ≠ 2 → a.boot.running = false →
      Does (exec (.secureWorldReset t acc v chain) s) (State.secureReset (if v.getLsbD 17 then 2 ^ Rst.n.bit else 0) { s with dev := b }))
    ∧ (a.fld F.PWR_STATE.STATE = 2 → Turns (exec (.secureWorldReset t acc v chain) s) s [(.pwr, O.PWR_SW_RESET)] a
        { b with power := { b.power with waitS := true, waitN := b.power.waitN || v.getLsbD 17 } }) := by
  have hdoes {u : State} (hu : State.softReset true (v.getLsbD 17) { s with dev := b } = u) :
      Does (exec (.secureWorldReset t acc v chain) s) u := by
    refine does_run (f := fun s => (s.map (fun d => d.withChain chain)).busWrite acc (blkBase .pwr + O.PWR_SW_RESET) v {}) h
      ((sv_swReset hsv v).trans ?_)
    rw [if_pos hkey, hS, ← hu, hb]
    rfl
  have hstate : b.fld F.PWR_STATE.STATE = a.fld F.PWR_STATE.STATE := by
    rw [hb, Dev.stored_swReset_state]
    rfl
  obtain ⟨w, hw⟩ := (a.withChain chain).stored_swReset v
  rw [← hb] at hw
  constructor
  · intro hstep hrun
    exact hdoes (State.softReset_secure _ (by rwa [hstate]) (by rw [hw]; exact hrun))
  · intro hhold
    refine ⟨hdoes ?_, ?_⟩
    · exact State.softReset_waits _ (hstate.trans hhold)
    · have hregs : sameRegsBut [(.pwr, O.PWR_SW_RESET)] a (a.withChain chain) := sameRegsBut_of_regs rfl rfl
      have hstored := hregs.setReg .pwr O.PWR_SW_RESET w (by simp)
      rw [← hw] at hstored
      exact hstored.upd rfl rfl

/-- A write of PWR_SW_RESET that is no request of S. -/
theorem does_nonSecureWrite (h : At s t 0 a) (hsv : Sv acc) {u : State} (hu : (if v.toNat % 65536 = 0x5C3A
      then State.softReset (v.getLsbD 16) (v.getLsbD 17) { s with dev := a.stored .pwr O.PWR_SW_RESET v }
      else { s with dev := a.stored .pwr O.PWR_SW_RESET v }) = u) : Does (exec (.nonSecureWorldReset t acc v false) s) u :=
  does_run (f := fun s => s.busWrite acc (blkBase .pwr + O.PWR_SW_RESET) v {}) h ((sv_swReset hsv v).trans hu)

/-- With only N set it applies N. -/
theorem nonSecureWrite_row (h : At s t 0 a) (hsv : Sv acc) (hkey : v.toNat % 65536 = 0x5C3A) (hS : v.getLsbD 16 = false)
    (hN : v.getLsbD 17 = true) (hstep : a.fld F.PWR_STATE.STATE ≠ 2) : Does (exec (.nonSecureWorldReset t acc v false) s)
      (State.nonSecureReset false { s with dev := a.stored .pwr O.PWR_SW_RESET v }) := by
  refine does_nonSecureWrite h hsv ?_
  rw [if_pos hkey, hS, hN]
  exact State.softReset_nonSecure (by rwa [Dev.stored_swReset_state])

/-- Without its key it resets nothing. -/
theorem nonSecureWrite_unkeyed (h : At s t 0 a) (hsv : Sv acc) (hkey : v.toNat % 65536 ≠ 0x5C3A) :
    Turns (exec (.nonSecureWorldReset t acc v false) s) s [(.pwr, O.PWR_SW_RESET)] a (a.stored .pwr O.PWR_SW_RESET v) := by
  refine ⟨does_nonSecureWrite h hsv (if_neg hkey), ?_⟩
  obtain ⟨w, hw⟩ := a.stored_swReset v
  rw [hw]
  exact sameRegsBut_setReg _ _ _ _ _ (by simp)

/-- A function-level reset comes over the PCIe link. -/
theorem functionLevelReset_row (acc : Access) (v : Word) (h : At s t 0 a) :
    (a.on F.HST_STATUS.LINK_UP = true → Does (exec (.nonSecureWorldReset t acc v true) s) (State.nonSecureReset true { s with dev := a }))
    ∧ (a.on F.HST_STATUS.LINK_UP = false → Turns (exec (.nonSecureWorldReset t acc v true) s) s [] a a) := by
  have hdoes {u : State} (hu : (if a.on F.HST_STATUS.LINK_UP then State.nonSecureReset true { s with dev := a } else { s with dev := a }) = u) :
      Does (exec (.nonSecureWorldReset t acc v true) s) u := does_run h hu
  exact ⟨fun hup => hdoes (if_pos hup), fun hdown => ⟨hdoes (if_neg (by simp [hdown])), sameRegsBut.refl _ _⟩⟩

/-- What a write of BOT_CTRL does. -/
theorem does_reload (h : At s t 0 a) (hsv : Sv acc) {u : State} (hu : (if v.toNat % 65536 = 0x7A19 ∧ v.getLsbD 16 = true
      ∧ a.on F.BOT_STATUS.COMMISSIONING = true then State.resetBoot .x 0 { s with dev := a.stored .bot O.BOT_CTRL v }
      else { s with dev := a.stored .bot O.BOT_CTRL v }) = u) : Does (exec (.reload t acc v) s) u :=
  does_run (f := fun s => s.busWrite acc (blkBase .bot + O.BOT_CTRL) v {}) h ((sv_botCtrl hsv v).trans hu)

/-- Without its key, without RELOAD or outside commissioning it resets nothing. -/
theorem reload_refused (h : At s t 0 a) (hsv : Sv acc)
    (hno : v.toNat % 65536 ≠ 0x7A19 ∨ v.getLsbD 16 = false ∨ a.on F.BOT_STATUS.COMMISSIONING = false) :
    Turns (exec (.reload t acc v) s) s [(.bot, O.BOT_CTRL)] a (a.stored .bot O.BOT_CTRL v) := by
  refine ⟨does_reload h hsv (if_neg ?_), ?_⟩
  · rintro ⟨hkey, hbit, hcom⟩
    rcases hno with hk | hb | hc
    · exact hk hkey
    · exact absurd (hbit.symm.trans hb) (by decide)
    · exact absurd (hcom.symm.trans hc) (by decide)
  · obtain ⟨w, hw⟩ := Dev.stored_setReg (off := O.BOT_CTRL) (.inr rfl) a v (by decide) (by decide)
    rw [hw]
    exact sameRegsBut_setReg _ _ _ _ _ (by simp)

end

/-- Settles O17: a write without its key stores its word alone; with it the request is judged by the power state. -/
theorem softwareResetsNeedTheirKeys : Obligations.SoftwareResetsNeedTheirKeys := by
  unfold Obligations.SoftwareResetsNeedTheirKeys
  refine ⟨⟨fun s t acc v chain a b h hsv hkey hS hb => secureWorldReset_row chain h hsv hkey hS hb, fun s t acc v a h => ?_⟩,
    fun s t acc v a h hsv => ⟨nonSecureWrite_unkeyed h hsv, reload_refused h hsv⟩⟩
  obtain ⟨hup, hdown⟩ := functionLevelReset_row acc v h
  exact ⟨fun hsv hkey hS hN hstep => nonSecureWrite_row h hsv hkey hS hN hstep, hup, hdown⟩

end Sys2Proof.Machine
end

section
/-! ### The watchdog and the RTC (R91, R94) -/

namespace Sys2Proof.Machine

/-! ### Kicks of the watchdog -/

theorem State.wdtKick_taken {s : State} {k : Nat} (hk : k = 0x6B1E) (hw : s.dev.fld F.PWR_WDT_CFG.WINDOW_MIN_MS ≤ s.dev.wdtMs) :
    s.wdtKick k = s.map (fun d => { d.incWrap F.PWR_WDT_STAT.KICKS with power := { d.power with wdtUs := 0 } }) := if_pos ⟨hk, hw⟩

theorem State.wdtKick_refused {s : State} {k : Nat} (h : k ≠ 0x6B1E ∨ s.dev.wdtMs < s.dev.fld F.PWR_WDT_CFG.WINDOW_MIN_MS) :
    s.wdtKick k = s.resetBoot .w 0 := by
  refine if_neg ?_
  rintro ⟨hk, hw⟩
  rcases h with h | h
  · exact h hk
  · omega

section
variable {s : State} {t : Stamp} {acc : Access} {v : Word} {a b : Dev} (h : At s t 0 a) (hsv : Sv acc)
include h hsv

/-- The row of the watchdog's kick. -/
theorem wdtKick_row (hb : b = a.stored .pwr O.PWR_WDT_KICK v) :
    (v.toNat % 65536 = 0x6B1E → a.fld F.PWR_WDT_CFG.WINDOW_MIN_MS ≤ a.wdtMs →
      Turns (exec (.wdtKick t acc v) s) s [(.pwr, O.PWR_WDT_KICK), F.PWR_WDT_STAT.KICKS.place] a
        { b.incWrap F.PWR_WDT_STAT.KICKS with power := { b.power with wdtUs := 0 } })
    ∧ (v.toNat % 65536 ≠ 0x6B1E ∨ a.wdtMs < a.fld F.PWR_WDT_CFG.WINDOW_MIN_MS →
      Does (exec (.wdtKick t acc v) s) (State.resetBoot .w 0 { s with dev := b })) := by
  obtain ⟨w, hw⟩ := Dev.stored_setReg (off := O.PWR_WDT_KICK) (.inl rfl) a v (by decide) (by decide)
  rw [← hb] at hw
  have hmin : b.fld F.PWR_WDT_CFG.WINDOW_MIN_MS = a.fld F.PWR_WDT_CFG.WINDOW_MIN_MS := by
    rw [hw, Dev.fld_congr (Dev.reg_setReg_ne _ _ (by decide))]
  have hcount : b.wdtMs = a.wdtMs := by
    rw [hw]
    rfl
  have hdoes {u : State} (hu : State.wdtKick (v.toNat % 65536) { s with dev := b } = u) : Does (exec (.wdtKick t acc v) s) u :=
    does_run (f := fun s => s.busWrite acc (blkBase .pwr + O.PWR_WDT_KICK) v {}) h ((sv_wdtKick hsv v).trans (by rw [← hu, hb]))
  constructor
  · intro hk hwin
    refine ⟨hdoes (State.wdtKick_taken hk (by rwa [hmin, hcount])), ?_⟩
    have hstored : sameRegsBut [(.pwr, O.PWR_WDT_KICK), F.PWR_WDT_STAT.KICKS.place] a b :=
      hw ▸ sameRegsBut_setReg _ _ _ _ _ (by simp)
    exact (hstored.incWrap F.PWR_WDT_STAT.KICKS 1 (by simp)).upd rfl rfl
  · intro hno
    exact hdoes (State.wdtKick_refused (by rwa [hmin, hcount]))

end

/-! ### What a set clock shifts in retention RAM -/

/-- From one state to the next only bytes `lo` up to `hi` of retention RAM are written. -/
structure RetWrites (lo hi : Nat) (s u : State) : Prop where
  dev : u.dev = s.dev
  host : u.store.host = s.store.host
  otp : u.store.otp = s.store.otp
  mem : ∀ x, ¬ (retBase + lo ≤ x ∧ x < retBase + hi) → memByte u.store.mem x = memByte s.store.mem x

theorem RetWrites.refl (lo hi : Nat) (s : State) : RetWrites lo hi s s := ⟨rfl, rfl, rfl, fun _ _ => rfl⟩

theorem RetWrites.trans {lo hi : Nat} {s u w : State} (h : RetWrites lo hi s u) (h' : RetWrites lo hi u w) : RetWrites lo hi s w :=
  ⟨h'.dev.trans h.dev, h'.host.trans h.host, h'.otp.trans h.otp, fun x hx => (h'.mem x hx).trans (h.mem x hx)⟩

theorem State.retWrite_writes {lo hi off : Nat} {l : List Byte} (s : State) (hlo : lo ≤ off) (hhi : off + l.length ≤ hi) :
    RetWrites lo hi s (s.retWrite off l) := by
  obtain ⟨hd, ho, hh⟩ := State.retWrite_keeps off l s
  exact ⟨hd, hh, ho, fun x hx => memByte_memWrite_out _ _ _ _ (by omega)⟩

theorem length_leBytes (n v : Nat) : (leBytes n v).length = n := by
  induction n generalizing v with
  | zero => rfl
  | succ n ih => rw [leBytes, List.length_cons, ih]

theorem State.length_retRead (s : State) (off n : Nat) : (s.retRead off n).length = n := by
  simp [State.retRead, memRead]

/-- A slot of the Endgame region with its expiry shifted (R91). -/
def slotShifted (diff : Nat) (b : List Byte) (k : Nat) : List Byte :=
  let x := (b.drop (16 * k)).take 16
  if img x 0 1 = 0 then x else x.take 4 ++ leBytes 4 ((img x 4 4 + diff) % 2 ^ 32) ++ x.drop 8

theorem length_slotShifted (diff : Nat) (b : List Byte) (k : Nat) : (slotShifted diff b k).length ≤ 16 := by
  unfold slotShifted
  dsimp only
  split
  · exact List.length_take_le _ _
  · simp only [List.length_append, List.length_take, List.length_drop, length_leBytes]
    omega

theorem length_slotsShifted (diff : Nat) (b : List Byte) (n : Nat) : ((List.range n).flatMap (slotShifted diff b)).length ≤ 16 * n := by
  induction n with
  | zero => simp
  | succ n ih =>
    have hlast := length_slotShifted diff b n
    rw [List.range_succ, List.flatMap_append, List.length_append, List.flatMap_singleton]
    omega

/-- The Endgame region with every expiry shifted, and its CRC formed again. -/
def egShifted (diff : Nat) (b : List Byte) : List Byte :=
  let body := (List.range 16).flatMap (slotShifted diff b) ++ (b.drop 0x100).take 12
  body ++ leBytes 4 (crc32c body)

theorem length_egShifted (diff : Nat) (b : List Byte) : (egShifted diff b).length ≤ 0x110 := by
  have hslots := length_slotsShifted diff b 16
  have hlocks : ((b.drop 0x100).take 12).length ≤ 12 := List.length_take_le _ _
  rw [egShifted, List.length_append, List.length_append, length_leBytes]
  omega

theorem State.egShift_eq (diff : Nat) (s : State) : s.egShift diff
    = if ofLe ((s.retRead 0xA0 0x110).drop 0x10C) ≠ crc32c ((s.retRead 0xA0 0x110).take 0x10C) then s
      else s.retWrite 0xA0 (egShifted diff (s.retRead 0xA0 0x110)) := rfl

/-- The Endgame region stays in its bytes. -/
theorem State.egShift_writes (diff : Nat) (s : State) : RetWrites 0 0x1B0 s (s.egShift diff) := by
  rw [State.egShift_eq]
  split
  · exact RetWrites.refl _ _ _
  · exact s.retWrite_writes (by decide) (Nat.add_le_add_left (length_egShifted _ _) 0xA0)

/-- The snapshot's clock and CRC stand in its header. -/
theorem State.snapShift_writes (diff : Nat) (s : State) : RetWrites 0 0x1B0 s (s.snapShift diff) := by
  unfold State.snapShift
  split
  · exact RetWrites.refl _ _ _
  · refine s.retWrite_writes (by decide) ?_
    split
    all_goals
      simp only [List.length_append, List.length_take, List.length_drop, length_leBytes, State.length_retRead]
      decide

/-! ### Setting the RTC -/

/-- PWR_RTC_SEC holds the word written to it. -/
theorem Dev.stored_rtcSec (d : Dev) (v : Word) : (d.stored .pwr O.PWR_RTC_SEC v).fld F.PWR_RTC_SEC.SEC = v.toNat := by
  obtain ⟨r, hf⟩ : ∃ r, findReg O.PWR_RTC_SEC (regDefs .pwr) = some (r, 0, 0) := ⟨_, rfl⟩
  have hsec : fd 0 32 .rws 0 0x1fe ∈ r.fields ∧ r.setCnt = none := by
    obtain rfl : r = _ := congrArg Prod.fst (Option.some.inj hf).symm
    exact ⟨List.mem_singleton_self _, rfl⟩
  obtain ⟨hmem, hcnt⟩ := hsec
  have hen : d.writable .pwr O.PWR_RTC_SEC v.toNat 0xFFFFFFFF = 0xFFFFFFFF := writable_all _ _ _ _ (by cases d.part <;> rfl) rfl
  have hget (x : Word) : (fd 0 32 .rws 0 0x1fe).get 0 x.toNat = x.toNat := by
    simpa [FieldDef.get, FieldDef.pos, fd] using Nat.mod_eq_of_lt x.isLt
  have hword := RegDef.get_writeWord (findReg_wf hf) hmem (m := 0) (by decide) (by rw [hcnt]; nofun) (d.reg .pwr O.PWR_RTC_SEC).toNat v.toNat
    0xFFFFFFFF 0 true (d.on F.BOT_STATUS.LOCKED)
  rw [FieldDef.write_whole _ _ _ _ _ _ _ _ (.inr (.inr ⟨rfl, rfl⟩)) (by decide), hget, hget] at hword
  have hfld (x : Dev) : x.fld F.PWR_RTC_SEC.SEC = (x.reg .pwr O.PWR_RTC_SEC).toNat := by
    simp [Dev.fld, F.PWR_RTC_SEC.SEC, O.PWR_RTC_SEC]
  rw [hfld, Dev.stored_eq (.inl rfl) d v hf (by decide), hen, Dev.reg_setReg_same, hword]
  exact Nat.mod_eq_of_lt v.isLt

/-- The row of a write of PWR_RTC_SEC. -/
theorem rtcSet_row {s : State} {t : Stamp} {acc : Access} {v : Word} {a b : Dev} (h : At s t 0 a) (hsv : Sv acc)
    (hb : b = a.stored .pwr O.PWR_RTC_SEC v) {diff : Nat} (hdiff : diff = (v.toNat + 2 ^ 32 - a.fld F.PWR_RTC_SEC.SEC) % 2 ^ 32) :
    ∃ u : State, Does (exec (.rtcSet t acc v) s) u ∧ u.dev = b.setFld F.PWR_RTC_SUB.SUB 0
      ∧ u = (State.egShift diff { s with dev := b.setFld F.PWR_RTC_SUB.SUB 0 }).snapShift diff
      ∧ u.store.host = s.store.host ∧ u.store.otp = s.store.otp
      ∧ ∀ x, ¬ (retBase ≤ x ∧ x < retBase + 0x1B0) → memByte u.store.mem x = memByte s.store.mem x := by
  have hw := (State.egShift_writes diff { s with dev := b.setFld F.PWR_RTC_SUB.SUB 0 }).trans (State.snapShift_writes diff _)
  refine ⟨_, ?_, hw.dev, rfl, hw.host, hw.otp, hw.mem⟩
  refine does_run (f := fun s => s.busWrite acc (blkBase .pwr + O.PWR_RTC_SEC) v {}) h ((sv_rtcSet hsv v).trans ?_)
  rw [State.rtcSet, ← hb, hdiff, ← a.stored_rtcSec v, ← hb]
  rfl

/-- Settles O18: a kick is judged by its key and the window, RELOAD by its key while commissioning; a set clock shifts what retention RAM holds
of the time. -/
theorem watchdogKickReloadAndRtcSet : Obligations.WatchdogKickReloadAndRtcSet := by
  unfold Obligations.WatchdogKickReloadAndRtcSet
  refine ⟨fun s t acc v a b h hsv hb => ?_, fun s t acc v a b h hsv hb => ⟨hb ▸ a.stored_rtcSec v, rtcSet_row h hsv hb rfl⟩⟩
  obtain ⟨hkick, hearly⟩ := wdtKick_row h hsv hb
  exact ⟨hkick, hearly, fun hkey hbit hcom => does_reload h hsv (if_pos ⟨hkey, hbit, hcom⟩)⟩

end Sys2Proof.Machine
end

section
/-! ### The OTP's commands (R117) -/

namespace Sys2Proof.Machine

/-! ### Programming one word -/

section
variable {s : State}

theorem State.otpProgram_refused (back : Option Word) (h : s.dev.fld F.BOT_SEAL_IN_FORCE.CODE ≠ 0xFFFFFFFF ∨ s.dev.fld F.BOT_OTP_ADDR.WORD < 8) :
    s.otpProgram back = s.map (fun d => d.setFld F.BOT_OTP_CMD.REFUSED 1) := by
  refine if_neg ?_
  rintro ⟨hseal, hn⟩
  rcases h with h | h
  · exact h hseal
  · omega

variable {n : Nat} {w : Word} (hseal : s.dev.fld F.BOT_SEAL_IN_FORCE.CODE = 0xFFFFFFFF) (hn : s.dev.fld F.BOT_OTP_ADDR.WORD = n) (h8 : 8 ≤ n)
  (hw : w = otpWord s.store.otp n ||| BitVec.ofNat 32 (s.dev.fld F.BOT_OTP_DATA.DATA))
include hseal hn h8 hw

/-- The word takes the bits of DATA. -/
theorem State.otpProgram_taken : s.otpProgram none
    = { s with dev := s.dev.setFld F.BOT_OTP_CMD.REFUSED 0, store := { s.store with otp := tabPut 0 s.store.otp n w } } := by
  subst hn hw
  rw [State.otpProgram, if_pos ⟨hseal, h8⟩]
  exact if_pos rfl

/-- The word holds what it reads back, which is not what it should be. -/
theorem State.otpProgram_failed {x : Word} (hx : x ≠ w) : s.otpProgram (some x)
    = { s with dev := (s.dev.setFld F.BOT_OTP_CMD.REFUSED 1).note .otpProgFail .bot 0 (leBytes 1 n),
               store := { s.store with otp := tabPut 0 s.store.otp n x } } := by
  subst hn hw
  rw [State.otpProgram, if_pos ⟨hseal, h8⟩]
  exact if_neg hx

end

/-! ### The write of BOT_OTP_CMD -/

/-- The device once BOT_OTP_CMD has been written: that register's word alone has changed. -/
theorem Dev.stored_otpCmd (d : Dev) (v : Word) : ∃ w, d.stored .bot O.BOT_OTP_CMD v = d.setReg .bot O.BOT_OTP_CMD w :=
  Dev.stored_setReg (.inr rfl) d v (by decide) (by decide)

theorem Dev.stored_otpCmd_fld (d : Dev) (v : Word) {g : Fld} (hg : (g.blk, g.off) ≠ (.bot, O.BOT_OTP_CMD)) :
    (d.stored .bot O.BOT_OTP_CMD v).fld g = d.fld g := by
  obtain ⟨w, hw⟩ := d.stored_otpCmd v
  rw [hw, Dev.fld_congr (Dev.reg_setReg_ne _ _ hg)]

theorem Dev.stored_otpCmd_regs (d : Dev) (v : Word) : sameRegsBut [F.BOT_OTP_CMD.REFUSED.place] d (d.stored .bot O.BOT_OTP_CMD v) := by
  obtain ⟨w, hw⟩ := d.stored_otpCmd v
  exact hw ▸ sameRegsBut_setReg _ _ _ _ _ (by decide)

theorem Dev.stored_otpCmd_now (d : Dev) (v : Word) : (d.stored .bot O.BOT_OTP_CMD v).now = d.now := by
  obtain ⟨w, hw⟩ := d.stored_otpCmd v
  rw [hw, Dev.setReg_now]

theorem Dev.stored_otpCmd_evq (d : Dev) (v : Word) : (d.stored .bot O.BOT_OTP_CMD v).evq = d.evq := by
  obtain ⟨w, hw⟩ := d.stored_otpCmd v
  rw [hw, Dev.setReg_evq]

/-- PROGRAM and READ of BOT_OTP_CMD act, in this order. -/
theorem sv_otpCmd {s : State} {acc : Access} (hsv : Sv acc) (v : Word) (back : Option Word) :
    s.busWrite acc (blkBase .bot + O.BOT_OTP_CMD) v { back := back }
      = State.botHook O.BOT_OTP_CMD (v.toNat % 2 ^ 2) back { s with dev := s.dev.stored .bot O.BOT_OTP_CMD v } := by
  obtain ⟨r, hf⟩ : ∃ r, findReg O.BOT_OTP_CMD (regDefs .bot) = some (r, 0, 0) := ⟨_, rfl⟩
  obtain ⟨hmask, htouch⟩ : r.bitsWhere (fun f => f.acc = .wo) = 2 ^ 2 - 1 ∧ ∀ locked, r.touched 0xFFFFFFFF true locked = true := by
    obtain rfl : r = _ := congrArg Prod.fst (Option.some.inj hf).symm
    decide
  have hwr : s.dev.writable .bot O.BOT_OTP_CMD v.toNat 0xFFFFFFFF = 0xFFFFFFFF :=
    writable_all _ _ _ _ (by cases s.dev.part <;> decide) rfl
  rw [sv_write hsv hf (by decide) (by decide) (by decide) (by decide) (by decide) (by decide) rfl (hwr.symm ▸ htouch _) rfl, hwr,
    RegDef.woBits_full, hmask, Nat.and_two_pow_sub_one_eq_mod]
  rfl

section
variable {s : State} {t : Stamp} {acc : Access} {a : Dev} (h : At s t 0 a) (hsv : Sv acc)
include h hsv

theorem does_otpRead {u : State} (hu : State.otpRead { s with dev := a.stored .bot O.BOT_OTP_CMD 1 } = u) :
    Does (exec (.otpRead t acc) s) u :=
  does_run (f := fun s => s.busWrite acc (blkBase .bot + O.BOT_OTP_CMD) 1 {}) h ((sv_otpCmd hsv 1 none).trans hu)

theorem does_otpProgram {back : Option Word} {u : State}
    (hu : State.otpProgram back { s with dev := a.stored .bot O.BOT_OTP_CMD 2 } = u) : Does (exec (.otpProgram t acc back) s) u :=
  does_run (f := fun s => s.busWrite acc (blkBase .bot + O.BOT_OTP_CMD) 2 { back := back }) h ((sv_otpCmd hsv 2 back).trans hu)

/-- The row of READ. -/
theorem otpRead_row {n : Nat} (hn : a.fld F.BOT_OTP_ADDR.WORD = n) :
    ∃ d, Turns (exec (.otpRead t acc) s) s [F.BOT_OTP_DATA.DATA.place, F.BOT_OTP_CMD.REFUSED.place] a d
      ∧ d.fld F.BOT_OTP_DATA.DATA = (otpWord s.store.otp n).toNat := by
  refine ⟨_, ⟨does_otpRead h hsv rfl, ?_⟩, ?_⟩
  · exact ((a.stored_otpCmd_regs 1).mono (by simp)).setFld _ _ (by simp)
  · rw [Dev.fld_setFld_same _ _ _ (by decide), Dev.stored_otpCmd_fld _ _ (by decide), hn]
    exact Nat.mod_eq_of_lt (BitVec.isLt _)

/-- The row of PROGRAM under another seal than that of commissioning, or for words 0 to 7. -/
theorem otpProgram_row_refused (back : Option Word) (hno : a.fld F.BOT_SEAL_IN_FORCE.CODE ≠ 0xFFFFFFFF ∨ a.fld F.BOT_OTP_ADDR.WORD < 8) :
    ∃ d, Turns (exec (.otpProgram t acc back) s) s [F.BOT_OTP_CMD.REFUSED.place] a d ∧ d.on F.BOT_OTP_CMD.REFUSED = true := by
  refine ⟨_, ⟨does_otpProgram h hsv (State.otpProgram_refused back ?_), ?_⟩, ?_⟩
  · rwa [Dev.stored_otpCmd_fld _ _ (by decide), Dev.stored_otpCmd_fld _ _ (by decide)]
  · exact (a.stored_otpCmd_regs 2).setFld _ _ (by simp)
  · exact Dev.on_setBit_same _ F.BOT_OTP_CMD.REFUSED true (by decide) rfl

section
variable {n : Nat} {w : Word} (hseal : a.fld F.BOT_SEAL_IN_FORCE.CODE = 0xFFFFFFFF) (hn : a.fld F.BOT_OTP_ADDR.WORD = n) (h8 : 8 ≤ n)
  (hw : w = otpWord s.store.otp n ||| BitVec.ofNat 32 (a.fld F.BOT_OTP_DATA.DATA))
include hseal hn h8 hw

/-- The row of PROGRAM of a word that reads back as it should. -/
theorem otpProgram_row_taken : ∃ u, Does (exec (.otpProgram t acc none) s) u ∧ u.store = { s.store with otp := tabPut 0 s.store.otp n w }
    ∧ u.dev.on F.BOT_OTP_CMD.REFUSED = false ∧ sameRegsBut [F.BOT_OTP_CMD.REFUSED.place] a u.dev := by
  refine ⟨_, does_otpProgram h hsv (State.otpProgram_taken ?_ ?_ h8 ?_), rfl, ?_, ?_⟩
  · rwa [Dev.stored_otpCmd_fld _ _ (by decide)]
  · rwa [Dev.stored_otpCmd_fld _ _ (by decide)]
  · rwa [Dev.stored_otpCmd_fld _ _ (by decide)]
  · exact Dev.on_setBit_same _ F.BOT_OTP_CMD.REFUSED false (by decide) rfl
  · exact (a.stored_otpCmd_regs 2).setFld _ _ (by simp)

/-- The row of PROGRAM of a word that reads back otherwise. -/
theorem otpProgram_row_failed {x : Word} (hx : x ≠ w) : ∃ u, Does (exec (.otpProgram t acc (some x)) s) u
    ∧ u.store = { s.store with otp := tabPut 0 s.store.otp n x } ∧ u.dev.on F.BOT_OTP_CMD.REFUSED = true
    ∧ u.dev.evq = a.evq ++ [⟨.otpProgFail, .bot, a.now, padTo 20 0 (payF a 0 0 (leBytes 1 n))⟩] := by
  have hgroups : ((a.stored .bot O.BOT_OTP_CMD 2).setFld F.BOT_OTP_CMD.REFUSED 1).fld F.FLT_STATE.F3_GROUPS = a.fld F.FLT_STATE.F3_GROUPS := by
    rw [Dev.fld_setFld_apart _ _ _ _ (by decide) (by decide), Dev.stored_otpCmd_fld _ _ (by decide)]
  refine ⟨_, does_otpProgram h hsv (State.otpProgram_failed ?_ ?_ h8 ?_ hx), rfl, ?_, ?_⟩
  · rwa [Dev.stored_otpCmd_fld _ _ (by decide)]
  · rwa [Dev.stored_otpCmd_fld _ _ (by decide)]
  · rwa [Dev.stored_otpCmd_fld _ _ (by decide)]
  · have hnote := (Touches.refl (recFlds 0) ((a.stored .bot O.BOT_OTP_CMD 2).setFld F.BOT_OTP_CMD.REFUSED 1)).note .otpProgFail .bot 0
      (leBytes 1 n) subset_rfl
    refine (hnote.on ?_).trans (Dev.on_setBit_same _ F.BOT_OTP_CMD.REFUSED true (by decide) rfl)
    simp [recFlds, Fld.apart_iff, F.BOT_OTP_CMD.REFUSED, F.FLT_CLASS_CNT.COUNT, F.EVT_CNT_LO.V, F.EVT_CNT_HI.V]
  · dsimp only
    rw [Dev.note_evq, Dev.setFld_evq, Dev.setFld_now, Dev.stored_otpCmd_evq, Dev.stored_otpCmd_now, payF, payF, hgroups]

end

end

/-- Settles O19: BOT_OTP_CMD reads a word, refuses to program it, programs it, or finds that it reads back otherwise. -/
theorem otpCommands : Obligations.OtpCommands := by
  unfold Obligations.OtpCommands
  intro s t acc a n h hsv hn
  refine ⟨otpRead_row h hsv hn, fun hno back => otpProgram_row_refused h hsv back (hn ▸ hno), fun hseal h8 w hw => ?_⟩
  exact ⟨otpProgram_row_taken h hsv hseal hn h8 hw, fun x hx => otpProgram_row_failed h hsv hseal hn h8 hw hx⟩

end Sys2Proof.Machine
end

section
/-! ### What faults and notes leave: registers outside FLT and EVT, and the boot -/

namespace Sys2Proof.Machine

/-- Faults and records write registers of FLT and EVT alone. -/
theorem faultFlds_apart {cls : Nat} {g : Fld} (hflt : g.blk ≠ .flt) (hevt : g.blk ≠ .evt) :
    ∀ f ∈ reactFlds ∪ recFlds cls, f.apart g = true := by
  rintro f ((rfl | rfl | rfl | rfl | rfl | rfl) | (rfl | rfl | rfl))
  all_goals first | exact Fld.apart_of_blk (Ne.symm hflt) | exact Fld.apart_of_blk (Ne.symm hevt)

theorem Dev.fault_fld_outside (d : Dev) (ev : Ev) (src : Src) (sub related : Nat) (detail : List Byte) (st : Stamp) {g : Fld}
    (hflt : g.blk ≠ .flt) (hevt : g.blk ≠ .evt) : (d.fault ev src sub related detail st).fld g = d.fld g :=
  ((Touches.refl _ d).fault ev src sub related detail st subset_rfl).fld g (faultFlds_apart hflt hevt)

theorem Dev.note_fld_outside (d : Dev) (ev : Ev) (src : Src) (related : Nat) (detail : List Byte) {g : Fld} (hflt : g.blk ≠ .flt)
    (hevt : g.blk ≠ .evt) : (d.note ev src related detail).fld g = d.fld g :=
  ((Touches.refl _ d).note ev src related detail subset_rfl).fld g (fun f hf => faultFlds_apart hflt hevt f (.inr hf))

/-- A fault adds records at most. -/
theorem Dev.mem_evq_fault {d : Dev} {e : EvRec} (h : e ∈ d.evq) (ev : Ev) (src : Src) (sub related : Nat) (detail : List Byte) (st : Stamp) :
    e ∈ (d.fault ev src sub related detail st).evq :=
  ((Touches.refl _ d).fault ev src sub related detail st subset_rfl).mem_evq h

theorem Dev.exists_note (d : Dev) (ev : Ev) (src : Src) (related : Nat) (detail : List Byte) :
    ∃ e ∈ (d.note ev src related detail).evq, e.ev = ev ∧ e.stamp = d.now :=
  ⟨⟨ev, src, d.now, padTo 20 0 (payF d 0 related detail)⟩, by simp, rfl, rfl⟩

/-- A fresh fault is recorded with its stamp. -/
theorem Dev.exists_fault {d : Dev} {ev : Ev} {src : Src} {sub : Nat} (h : d.has ev src sub = false) (related : Nat) (detail : List Byte)
    (st : Stamp) : ∃ e ∈ (d.fault ev src sub related detail st).evq, e.ev = ev ∧ e.stamp = st := by
  rw [Dev.fault_fresh h, Dev.raiseAt_evq]
  exact ⟨_, List.mem_append_right _ (List.mem_singleton_self _), rfl, rfl⟩

/-- The boot but for the worst class that faults note in it (R21). -/
def BootSt.core (b : BootSt) : BootSt := { b with worst := 0 }

theorem BootSt.of_core {b b' : BootSt} (h : b'.core = b.core) : b'.running = b.running ∧ b'.scanned = b.scanned ∧ b'.invalid = b.invalid
    ∧ b'.scanAt = b.scanAt ∧ b'.inHold = b.inHold :=
  ⟨(congrArg BootSt.running h :), (congrArg BootSt.scanned h :), (congrArg BootSt.invalid h :), (congrArg BootSt.scanAt h :),
    (congrArg BootSt.inHold h :)⟩

theorem Dev.fault_boot (d : Dev) (ev : Ev) (src : Src) (sub related : Nat) (detail : List Byte) (st : Stamp) :
    (d.fault ev src sub related detail st).boot.core = d.boot.core := by
  by_cases hp : d.has ev src sub = true
  · rw [Dev.fault_present hp]
  · rw [Dev.fault_fresh (by simpa using hp), Dev.raiseAt_boot]
    refine d.react_cases (P := fun e => e.boot.core = d.boot.core) ev src sub (fun _ => rfl) (fun _ => rfl) (fun _ => ?_)
    exact Dev.safeState_kept (fun e => e.boot.core) (fun _ _ _ => rfl) (fun _ _ _ => rfl) (fun _ _ => rfl) ..

end Sys2Proof.Machine
end

section
/-! ### Boot sources in turn (R107 to R109, R115, R116) -/

namespace Sys2Proof.Machine

/-! ### A source is refused -/

/-- The reason register of a source. -/
def reasonFld (src : Nat) : Fld :=
  if src = 0 then F.BOT_STATUS.REASON_A else if src = 1 then F.BOT_STATUS.REASON_B else F.BOT_STATUS.REASON_PCIE

theorem reasonFld_bits (src : Nat) : (reasonFld src).blk = .bot ∧ (reasonFld src).w = 4 ∧ (reasonFld src).lo + (reasonFld src).w ≤ 32
    ∧ F.BOT_STATUS.PHASE.apart (reasonFld src) = true := by
  unfold reasonFld
  split_ifs
  all_goals decide

/-- The turn of a source is over. -/
def Dev.turnOver (d : Dev) : Dev := { d with boot := { d.boot with sources := d.boot.sources.drop 1 } }

theorem Dev.turnOver_fld (d : Dev) (g : Fld) : d.turnOver.fld g = d.fld g := Dev.fld_congr rfl

/-- The refusal of a source is noted, and its turn is over. -/
def Dev.noteRefusal (src reason : Nat) (d : Dev) : Dev :=
  ((d.setFld (reasonFld src) reason).note .bootImageRefused .bot 0 (leBytes 1 src ++ leBytes 1 reason)).turnOver

theorem State.bootRefuse_eq (src reason : Nat) (s : State) : s.bootRefuse src reason = (s.map (Dev.noteRefusal src reason)).bootNext := by
  refine congrArg State.bootNext (congrArg (fun d => ({ s with dev := d } : State)) ?_)
  simp only [Dev.noteRefusal, Dev.turnOver, Dev.note_boot]
  rfl

theorem Dev.noteRefusal_sources (src reason : Nat) (d : Dev) : (d.noteRefusal src reason).boot.sources = d.boot.sources.drop 1 := by
  simp only [Dev.noteRefusal, Dev.turnOver, Dev.note_boot, Dev.setFld_boot]

theorem Dev.noteRefusal_reason {reason : Nat} (src : Nat) (d : Dev) (hr : reason < 16) :
    (d.noteRefusal src reason).fld (reasonFld src) = reason := by
  obtain ⟨hblk, hw, hfit, -⟩ := reasonFld_bits src
  rw [Dev.noteRefusal, Dev.turnOver_fld, Dev.note_fld_outside _ _ _ _ _ (by simp [hblk]) (by simp [hblk]),
    Dev.fld_setFld_same _ _ _ hfit, hw]
  exact Nat.mod_eq_of_lt hr

theorem Dev.noteRefusal_told (src reason : Nat) (d : Dev) :
    ∃ e ∈ (d.noteRefusal src reason).evq, e.ev = .bootImageRefused ∧ e.stamp = d.now :=
  Dev.exists_note (d.setFld (reasonFld src) reason) ..

/-! ### The next source -/

/-- An xSPI slot is next: the boot ROM looks for its image. -/
theorem State.bootNext_slot {s : State} (hne : s.dev.boot.sources ≠ []) (h2 : s.dev.boot.sources.head? ≠ some 2) :
    s.bootNext = s.map (fun d => d.setFld F.BOT_STATUS.PHASE 1) := by
  unfold State.bootNext
  dsimp only
  split
  next h => exact absurd h hne
  next h =>
    have hsrc : s.dev.boot.sources = 2 :: _ := h
    exact absurd (by rw [hsrc, List.head?_cons]) h2
  next => rfl

/-- No source is left: the boot fails. -/
theorem State.bootNext_none {s : State} (h : s.dev.boot.sources = []) :
    s.bootNext = s.map (fun d => (d.setFld F.BOT_STATUS.PHASE 1).bootFail) := by
  have hsrc : (s.map (fun d => d.setFld F.BOT_STATUS.PHASE 1)).dev.boot.sources = [] := h
  simp only [State.bootNext, hsrc]
  rfl

/-- A failed boot is over and stands in F5. -/
theorem Dev.bootFail_ends (d : Dev) : d.bootFail.fld F.BOT_STATUS.PHASE = 6 ∧ d.bootFail.boot.running = false ∧ d.bootFail.boot.sources = []
    ∧ d.bootFail.fld F.FLT_STATE.DEV_STATE = 5 := by
  refine ⟨?_, rfl, rfl, Dev.fld_setFld_same _ _ _ (by decide)⟩
  refine (Dev.fld_setFld_apart _ _ _ _ (by decide) (by decide)).trans ?_
  exact (Dev.fault_fld_outside _ _ _ _ _ _ _ (by decide) (by decide)).trans (Dev.fld_setFld_same _ _ _ (by decide))

/-- Beside PHASE it writes registers of FLT and EVT alone. -/
theorem Dev.bootFail_fld (d : Dev) {g : Fld} (hflt : g.blk ≠ .flt) (hevt : g.blk ≠ .evt) (hg : F.BOT_STATUS.PHASE.apart g = true) :
    d.bootFail.fld g = d.fld g := by
  refine (Dev.fld_setFld_apart _ _ _ _ (by decide) (Fld.apart_of_blk (Ne.symm hflt))).trans ?_
  exact (Dev.fault_fld_outside _ _ _ _ _ _ _ hflt hevt).trans (Dev.fld_setFld_apart _ _ _ _ (by decide) hg)

theorem Dev.mem_evq_bootFail {d : Dev} {e : EvRec} (h : e ∈ d.evq) : e ∈ d.bootFail.evq :=
  Dev.mem_evq_fault (d := d.setFld F.BOT_STATUS.PHASE 6) h _ _ _ _ _ _

/-- A refused source is noted; the next one follows, unless none is left (R116). -/
theorem State.bootRefuse_row {s : State} {src reason : Nat} {rest : List Nat} (hr : reason < 16) (hs : s.dev.boot.sources = src :: rest)
    (h2 : rest.head? ≠ some 2) : ∃ u, s.bootRefuse src reason = u ∧ u.store = s.store ∧ u.dev.fld (reasonFld src) = reason
      ∧ (∃ e ∈ u.dev.evq, e.ev = .bootImageRefused ∧ e.stamp = s.dev.now) ∧ u.dev.boot.sources = rest
      ∧ (rest ≠ [] → u.dev.fld F.BOT_STATUS.PHASE = 1)
      ∧ (rest = [] → u.dev.fld F.BOT_STATUS.PHASE = 6 ∧ u.dev.boot.running = false ∧ u.dev.fld F.FLT_STATE.DEV_STATE = 5) := by
  obtain ⟨hblk, -, -, hapart⟩ := reasonFld_bits src
  obtain ⟨e, he⟩ : ∃ e, s.dev.noteRefusal src reason = e := ⟨_, rfl⟩
  have hrefuse : s.bootRefuse src reason = ({ s with dev := e } : State).bootNext := he ▸ s.bootRefuse_eq src reason
  have hreason : e.fld (reasonFld src) = reason := he ▸ Dev.noteRefusal_reason src s.dev hr
  have hsources : e.boot.sources = rest := by rw [← he, Dev.noteRefusal_sources, hs, List.drop_one, List.tail_cons]
  have htold : ∃ x ∈ e.evq, x.ev = .bootImageRefused ∧ x.stamp = s.dev.now := he ▸ Dev.noteRefusal_told src reason s.dev
  have hphase1 : (e.setFld F.BOT_STATUS.PHASE 1).fld (reasonFld src) = reason :=
    (Dev.fld_setFld_apart _ _ _ _ (by decide) hapart).trans hreason
  by_cases hrest : rest = []
  · obtain ⟨hphase, hrunning, hleft, hstate⟩ := (e.setFld F.BOT_STATUS.PHASE 1).bootFail_ends
    obtain ⟨x, hx, hev⟩ := htold
    refine ⟨_, hrefuse.trans (State.bootNext_none (hsources.trans hrest)), rfl, ?_, ⟨x, Dev.mem_evq_bootFail hx, hev⟩, hleft.trans hrest.symm,
      fun hne => absurd hrest hne, fun _ => ⟨hphase, hrunning, hstate⟩⟩
    exact (Dev.bootFail_fld _ (by simp [hblk]) (by simp [hblk]) hapart).trans hphase1
  · have hne : e.boot.sources ≠ [] := hsources ▸ hrest
    have hslot : e.boot.sources.head? ≠ some 2 := hsources ▸ h2
    exact ⟨_, hrefuse.trans (State.bootNext_slot hne hslot), rfl, hphase1, htold, hsources, fun _ => Dev.fld_setFld_same _ _ _ (by decide),
      fun h => absurd h hrest⟩

/-! ### The source in turn -/

/-- What an 8D-8D-8D read delivers counts if it begins with MAGIC, else what a 1S-1S-1S read does (R108). -/
theorem slotRead_eq {octal : Option (List Byte)} {image : List Byte} {mode : Bool} {l : List Byte}
    (h : (∃ x, octal = some x ∧ hasMagic x = true ∧ mode = true ∧ l = x)
      ∨ ((∀ x, octal = some x → hasMagic x = false) ∧ mode = false ∧ l = image)) : slotRead octal image = (mode, l) := by
  rcases h with ⟨x, rfl, hmagic, rfl, rfl⟩ | ⟨hno, rfl, rfl⟩
  · exact if_pos hmagic
  · cases octal with
    | none => rfl
    | some x => exact if_neg (by simp [hno x rfl])

section
variable {s : State}

theorem State.bootTry_idle (octal : Option (List Byte)) (image : List Byte) (h : s.dev.boot.running = false ∨ s.dev.boot.scanned = false
    ∨ s.dev.boot.sources = [] ∨ s.dev.boot.sources.head? = some 2) : s.bootTry octal image = s := by
  unfold State.bootTry
  split
  next src rest hs =>
    refine if_pos ?_
    rcases h with h | h | h | h
    · simp [h]
    · simp [h]
    · exact absurd (hs.symm.trans h) (List.cons_ne_nil _ _)
    · rw [hs, List.head?_cons, Option.some.injEq] at h
      simp [h]
  next => rfl

variable {src : Nat} {rest : List Nat} (hrun : s.dev.boot.running = true) (hscan : s.dev.boot.scanned = true)
include hrun hscan

theorem State.bootTry_slot (hs : s.dev.boot.sources = src :: rest) (h2 : src ≠ 2) {octal : Option (List Byte)} {image : List Byte} {mode : Bool}
    {l : List Byte} (hread : slotRead octal image = (mode, l)) : s.bootTry octal image
      = if imgReason s.dev.part s.store.otp l = 0 then s.applyImage src mode l else s.bootRefuse src (imgReason s.dev.part s.store.otp l) := by
  simp only [State.bootTry, hs, hrun, hscan, hread, h2, Bool.not_true, Bool.or_self, decide_false, Bool.false_eq_true, if_false]

theorem State.pcieTimeout_turn (hs : s.dev.boot.sources = 2 :: rest) : s.pcieTimeout
    = if 10000000 ≤ s.dev.now.since s.dev.boot.since then
        (s.map (fun d => { d with boot := { d.boot with taken := true } })).bootRefuse 2 10 else s := by
  simp only [State.pcieTimeout, hs, hrun, hscan, Bool.and_self, Bool.true_and, decide_eq_true_eq]

end

theorem State.pcieTimeout_idle {s : State} (h : s.dev.boot.running = false ∨ s.dev.boot.scanned = false ∨ s.dev.boot.sources.head? ≠ some 2) :
    s.pcieTimeout = s := by
  unfold State.pcieTimeout
  split
  next rest hs =>
    refine if_neg ?_
    rcases h with h | h | h
    · simp [h]
    · simp [h]
    · exact absurd (by rw [hs, List.head?_cons]) h
  next => rfl

section
variable {s : State} {t : Stamp} {a : Dev} (h : At s t 0 a)
include h

/-- The row of a source that is not PCIe: applied, or refused with its reason. -/
theorem bootSourceTry_row {src : Nat} {rest : List Nat} (hrun : a.boot.running = true) (hscan : a.boot.scanned = true)
    (hs : a.boot.sources = src :: rest) (h2 : src ≠ 2) {octal : Option (List Byte)} {image : List Byte} {mode : Bool} {l : List Byte} {r : Nat}
    (hread : slotRead octal image = (mode, l)) (hr : r = imgReason a.part s.store.otp l) :
    (r = 0 → Does (exec (.bootSourceTry t octal image) s) (State.applyImage src mode l { s with dev := a }))
    ∧ (r ≠ 0 → Does (exec (.bootSourceTry t octal image) s) (State.bootRefuse src r { s with dev := a })) := by
  have hdoes := does_run (f := fun s => s.bootTry octal image) h (State.bootTry_slot hrun hscan hs h2 hread)
  rw [← hr] at hdoes
  constructor
  · intro h0
    rwa [if_pos h0] at hdoes
  · intro h0
    rwa [if_neg h0] at hdoes

/-- The row of the wait for a PCIe image (R109). -/
theorem pcieTimeout_row {rest : List Nat} (hrun : a.boot.running = true) (hscan : a.boot.scanned = true) (hs : a.boot.sources = 2 :: rest) :
    (10000000 ≤ a.now.since a.boot.since → Does (exec (.pcieTimeout t) s)
      (State.bootRefuse 2 10 { s with dev := { a with boot := { a.boot with taken := true } } }))
    ∧ (a.now.since a.boot.since < 10000000 → Turns (exec (.pcieTimeout t) s) s [] a a) := by
  have hdoes := does_run (f := State.pcieTimeout) h (State.pcieTimeout_turn hrun hscan hs)
  constructor
  · intro hlate
    rwa [if_pos hlate] at hdoes
  · intro hearly
    rw [if_neg (by dsimp only; omega)] at hdoes
    exact ⟨hdoes, sameRegsBut.refl _ _⟩

end

end Sys2Proof.Machine
end

section
/-! ### Reads of the seal block (R119, R120, R125) -/

namespace Sys2Proof.Machine

/-! ### One read -/

/-- The raw words of a read stand in their registers. -/
def Dev.sealRaw (d : Dev) (x c : Word) : Dev := (d.setFld F.BOT_SEAL_RAW_T.TRUE x.toNat).setFld F.BOT_SEAL_RAW_C.COMPL c.toNat

/-- A valid read: the cause of SEAL_SCAN_FAULT goes, and UART_7 counts the code received. -/
def Dev.sealValid (d : Dev) : Dev :=
  { d.clear .sealScanFault .bot with boot := { d.boot with invalid := 0, scanAt := d.now } }.incPair (F.SER_RX_CNT_LO.V 7) (F.SER_RX_CNT_HI.V 7)

/-- The flag and the counters of an invalid read. -/
def Dev.sealCounted (d : Dev) : Dev :=
  let d := { d with boot := { d.boot with invalid := d.boot.invalid + 1, scanAt := d.now } }
  ((d.setFld F.BOT_SEAL_FLAG.READ_FAULT 1).inc F.BOT_SEAL_FLAG.FAULTS).inc (F.SER_ERR_CNT.FRAME_ERRS 7)

/-- An invalid read, recorded: the third in a row is a fault. -/
def Dev.sealInvalid (d : Dev) (x : Word) : Dev :=
  let e := (d.sealCounted.pend 82).note .sealReadFault .bot 0 (leBytes 4 x.toNat)
  if 2 ≤ d.boot.invalid then e.fault .sealScanFault .bot else e

section
variable {d : Dev} {w : BitVec 64} {x c : Word} (hx : w.extractLsb' 32 32 = x) (hc : w.extractLsb' 0 32 = c)
include hx hc

theorem Dev.sealRead_valid (h : c = ~~~ x) : d.sealRead w = ((d.sealRaw x c).sealValid, some x) := by
  subst hx hc
  exact if_pos h

theorem Dev.sealRead_invalid (h : c ≠ ~~~ x) : d.sealRead w = ((d.sealRaw x c).sealInvalid x, none) := by
  subst hx hc
  refine (if_neg h).trans ?_
  simp only [Dev.sealInvalid, show ∀ n, (3 ≤ n + 1) = (2 ≤ n) from fun n => by simp]
  rfl

end

section
variable (d : Dev)

theorem Dev.sealRaw_boot (x c : Word) : (d.sealRaw x c).boot = d.boot := rfl

theorem Dev.sealRaw_now (x c : Word) : (d.sealRaw x c).now = d.now := rfl

theorem Dev.sealRaw_true (x c : Word) : (d.sealRaw x c).fld F.BOT_SEAL_RAW_T.TRUE = x.toNat := by
  rw [Dev.sealRaw, Dev.fld_setFld_apart _ _ _ _ (by decide) (by decide), Dev.fld_setFld_same _ _ _ (by decide)]
  exact Nat.mod_eq_of_lt x.isLt

theorem Dev.sealRaw_compl (x c : Word) : (d.sealRaw x c).fld F.BOT_SEAL_RAW_C.COMPL = c.toNat := by
  rw [Dev.sealRaw, Dev.fld_setFld_same _ _ _ (by decide)]
  exact Nat.mod_eq_of_lt c.isLt

theorem Dev.sealRaw_fld (x c : Word) {g : Fld} (ht : F.BOT_SEAL_RAW_T.TRUE.apart g = true) (hc : F.BOT_SEAL_RAW_C.COMPL.apart g = true) :
    (d.sealRaw x c).fld g = d.fld g := by
  rw [Dev.sealRaw, Dev.fld_setFld_apart _ _ _ _ (by decide) hc, Dev.fld_setFld_apart _ _ _ _ (by decide) ht]

theorem Dev.sealValid_fld {g : Fld} (hlo : (F.SER_RX_CNT_LO.V 7).apart g = true) (hhi : (F.SER_RX_CNT_HI.V 7).apart g = true) :
    d.sealValid.fld g = d.fld g := by
  refine (Dev.fld_setFld_apart _ _ _ _ (by decide) hhi).trans ((Dev.fld_setFld_apart _ _ _ _ (by decide) hlo).trans ?_)
  exact Dev.fld_congr rfl

theorem Dev.sealValid_count : d.sealValid.fld (F.SER_RX_CNT_LO.V 7) = (d.fld (F.SER_RX_CNT_LO.V 7) + 1) % 2 ^ 32 := by
  have hlow (hi : Nat) : (d.fld (F.SER_RX_CNT_LO.V 7) + hi * 2 ^ 32 + 1) % 2 ^ 32 % 2 ^ 32 = (d.fld (F.SER_RX_CNT_LO.V 7) + 1) % 2 ^ 32 := by
    omega
  refine (Dev.fld_setFld_apart _ _ _ _ (by decide) (by decide)).trans ?_
  exact (Dev.fld_setFld_same _ _ _ (by decide)).trans (hlow _)

theorem Dev.sealValid_regs : sameRegsBut [(F.SER_RX_CNT_LO.V 7).place, (F.SER_RX_CNT_HI.V 7).place] d d.sealValid :=
  ((sameRegsBut.refl _ d).upd rfl rfl).incPair _ _ 1 (by simp) (by simp)

theorem Dev.sealCounted_fld {g : Fld} (h1 : F.BOT_SEAL_FLAG.READ_FAULT.apart g = true) (h2 : F.BOT_SEAL_FLAG.FAULTS.apart g = true)
    (h3 : (F.SER_ERR_CNT.FRAME_ERRS 7).apart g = true) : d.sealCounted.fld g = d.fld g := by
  refine (Dev.fld_setFld_apart _ _ _ _ (by decide) h3).trans ((Dev.fld_setFld_apart _ _ _ _ (by decide) h2).trans ?_)
  exact (Dev.fld_setFld_apart _ _ _ _ (by decide) h1).trans (Dev.fld_congr rfl)

theorem Dev.sealCounted_flag : d.sealCounted.fld F.BOT_SEAL_FLAG.READ_FAULT = 1 := by
  refine (Dev.fld_setFld_apart _ _ _ _ (by decide) (by decide)).trans ((Dev.fld_setFld_apart _ _ _ _ (by decide) (by decide)).trans ?_)
  exact Dev.fld_setFld_same _ _ _ (by decide)

theorem Dev.sealCounted_errs : d.sealCounted.fld (F.SER_ERR_CNT.FRAME_ERRS 7) = min (d.fld (F.SER_ERR_CNT.FRAME_ERRS 7) + 1) 65535 := by
  have hfit : min (d.fld (F.SER_ERR_CNT.FRAME_ERRS 7) + 1) 65535 % 2 ^ 16 = min (d.fld (F.SER_ERR_CNT.FRAME_ERRS 7) + 1) 65535 := by omega
  refine (Dev.fld_setFld_same _ _ _ (by decide)).trans ?_
  rw [Dev.inc, Dev.fld_setFld_apart _ _ _ _ (by decide) (by decide), Dev.fld_setFld_apart _ _ _ _ (by decide) (by decide)]
  exact hfit

/-- The record of an invalid read and the fault of the third write registers of FLT and EVT alone. -/
theorem Dev.sealInvalid_fld (x : Word) {g : Fld} (hflt : g.blk ≠ .flt) (hevt : g.blk ≠ .evt) : (d.sealInvalid x).fld g = d.sealCounted.fld g := by
  have hnote : ((d.sealCounted.pend 82).note .sealReadFault .bot 0 (leBytes 4 x.toNat)).fld g = d.sealCounted.fld g :=
    Dev.note_fld_outside _ _ _ _ _ hflt hevt
  unfold Dev.sealInvalid
  dsimp only
  split_ifs
  · exact (Dev.fault_fld_outside _ _ _ _ _ _ _ hflt hevt).trans hnote
  · exact hnote

theorem Dev.sealInvalid_boot (x : Word) :
    (d.sealInvalid x).boot.core = ({ d.boot with invalid := d.boot.invalid + 1, scanAt := d.now } : BootSt).core := by
  have hnote : ((d.sealCounted.pend 82).note .sealReadFault .bot 0 (leBytes 4 x.toNat)).boot
      = { d.boot with invalid := d.boot.invalid + 1, scanAt := d.now } := by
    rw [Dev.note_boot, Dev.pend_boot]
    rfl
  unfold Dev.sealInvalid
  dsimp only
  split_ifs
  · rw [Dev.fault_boot, hnote]
  · rw [hnote]

theorem Dev.sealInvalid_told (x : Word) : ∃ e ∈ (d.sealInvalid x).evq, e.ev = .sealReadFault ∧ e.stamp = d.now := by
  obtain ⟨e, he, hev⟩ := (d.sealCounted.pend 82).exists_note .sealReadFault .bot 0 (leBytes 4 x.toNat)
  refine ⟨e, ?_, hev⟩
  unfold Dev.sealInvalid
  dsimp only
  split_ifs
  · exact Dev.mem_evq_fault he _ _ _ _ _ _
  · exact he

theorem Dev.sealInvalid_third (x : Word) (h : 2 ≤ d.boot.invalid) : (d.sealInvalid x).has .sealScanFault .bot = true := by
  unfold Dev.sealInvalid
  rw [if_pos h]
  exact Dev.fault_has ..

end

/-- Beside its counts and stamps a read leaves the boot as it was. -/
theorem Dev.sealRead_boot (d : Dev) (w : BitVec 64) :
    ∃ n, (d.sealRead w).1.boot.core = ({ d.boot with invalid := n, scanAt := d.now } : BootSt).core := by
  by_cases h : w.extractLsb' 0 32 = ~~~ w.extractLsb' 32 32
  · rw [Dev.sealRead_valid rfl rfl h]
    exact ⟨_, rfl⟩
  · rw [Dev.sealRead_invalid rfl rfl h]
    exact ⟨_, Dev.sealInvalid_boot ..⟩

theorem Dev.sealRead_progress (d : Dev) (w : BitVec 64) :
    (d.sealRead w).1.boot.running = d.boot.running ∧ (d.sealRead w).1.boot.scanned = d.boot.scanned := by
  obtain ⟨n, hn⟩ := d.sealRead_boot w
  obtain ⟨hrun, hscan, -⟩ := BootSt.of_core hn
  exact ⟨hrun, hscan⟩

/-- A read of the seal block, valid or not. -/
theorem Dev.sealRead_row {d : Dev} {w : BitVec 64} {x c : Word} (hx : w.extractLsb' 32 32 = x) (hc : w.extractLsb' 0 32 = c) :
    (d.sealRead w).1.fld F.BOT_SEAL_RAW_T.TRUE = x.toNat ∧ (d.sealRead w).1.fld F.BOT_SEAL_RAW_C.COMPL = c.toNat
    ∧ (d.sealRead w).1.boot.scanAt = d.now
    ∧ (c = ~~~ x → (d.sealRead w).2 = some x ∧ (d.sealRead w).1.boot.invalid = 0
      ∧ (d.sealRead w).1.fld (F.SER_RX_CNT_LO.V 7) = (d.fld (F.SER_RX_CNT_LO.V 7) + 1) % 2 ^ 32
      ∧ sameRegsBut [F.BOT_SEAL_RAW_T.TRUE.place, F.BOT_SEAL_RAW_C.COMPL.place, (F.SER_RX_CNT_LO.V 7).place, (F.SER_RX_CNT_HI.V 7).place]
          d (d.sealRead w).1)
    ∧ (c ≠ ~~~ x → (d.sealRead w).2 = none ∧ (d.sealRead w).1.boot.invalid = d.boot.invalid + 1
      ∧ (d.sealRead w).1.on F.BOT_SEAL_FLAG.READ_FAULT = true
      ∧ (d.sealRead w).1.fld (F.SER_ERR_CNT.FRAME_ERRS 7) = min (d.fld (F.SER_ERR_CNT.FRAME_ERRS 7) + 1) 65535
      ∧ (∃ e ∈ (d.sealRead w).1.evq, e.ev = .sealReadFault ∧ e.stamp = d.now)
      ∧ (2 ≤ d.boot.invalid → (d.sealRead w).1.has .sealScanFault .bot = true)) := by
  have hscanAt : (d.sealRead w).1.boot.scanAt = d.now := by
    obtain ⟨n, hn⟩ := d.sealRead_boot w
    obtain ⟨-, -, -, hscanAt, -⟩ := BootSt.of_core hn
    exact hscanAt
  have hinvalid : ((d.sealRaw x c).sealInvalid x).boot.invalid = d.boot.invalid + 1 := by
    obtain ⟨-, -, hn, -⟩ := BootSt.of_core (Dev.sealInvalid_boot (d.sealRaw x c) x)
    exact hn
  by_cases h : c = ~~~ x
  · have hread := Dev.sealRead_valid (d := d) hx hc h
    rw [hread] at hscanAt ⊢
    refine ⟨?_, ?_, hscanAt, fun _ => ⟨rfl, rfl, ?_, ?_⟩, fun hne => absurd h hne⟩
    · rw [Dev.sealValid_fld _ (by decide) (by decide), Dev.sealRaw_true]
    · rw [Dev.sealValid_fld _ (by decide) (by decide), Dev.sealRaw_compl]
    · rw [Dev.sealValid_count, Dev.sealRaw_fld _ _ _ (by decide) (by decide)]
    · have hraw : sameRegsBut [F.BOT_SEAL_RAW_T.TRUE.place, F.BOT_SEAL_RAW_C.COMPL.place, (F.SER_RX_CNT_LO.V 7).place,
          (F.SER_RX_CNT_HI.V 7).place] d (d.sealRaw x c) :=
        ((sameRegsBut.refl _ d).setFld F.BOT_SEAL_RAW_T.TRUE _ (by simp)).setFld F.BOT_SEAL_RAW_C.COMPL _ (by simp)
      exact hraw.trans ((d.sealRaw x c).sealValid_regs.mono (by simp))
  · have hread := Dev.sealRead_invalid (d := d) hx hc h
    have htold := Dev.sealInvalid_told (d.sealRaw x c) x
    have hthird := Dev.sealInvalid_third (d.sealRaw x c) x
    rw [Dev.sealRaw_now] at htold
    rw [Dev.sealRaw_boot] at hthird
    rw [hread] at hscanAt ⊢
    refine ⟨?_, ?_, hscanAt, fun he => absurd he h, fun _ => ⟨rfl, hinvalid, ?_, ?_, htold, hthird⟩⟩
    · rw [Dev.sealInvalid_fld _ _ (by decide) (by decide), Dev.sealCounted_fld _ (by decide) (by decide) (by decide), Dev.sealRaw_true]
    · rw [Dev.sealInvalid_fld _ _ (by decide) (by decide), Dev.sealCounted_fld _ (by decide) (by decide) (by decide), Dev.sealRaw_compl]
    · rw [Dev.on, Dev.sealInvalid_fld _ _ (by decide) (by decide), Dev.sealCounted_flag]
      rfl
    · rw [Dev.sealInvalid_fld _ _ (by decide) (by decide), Dev.sealCounted_errs, Dev.sealRaw_fld _ _ _ (by decide) (by decide)]

end Sys2Proof.Machine
end

section
/-! ### Scans of the seal block, in operation and in a boot (R119, R120, R125, R127) -/

namespace Sys2Proof.Machine

/-! ### A valid read in operation -/

/-- SEAL_CHANGED occurs in HOLD or outside it (R126). -/
def Dev.sealHold (d : Dev) : Dev := { d with boot := { d.boot with inHold := d.fld F.PWR_STATE.STATE = 2 } }

/-- A seal that differs from the one in force is noted, and SEAL_CHANGED raised. -/
def Dev.sealRaise (d : Dev) (x : Word) : Dev :=
  ((((d.setFld F.PWR_TAMPER.SEAL_CHANGED 1).setFld F.BOT_SEAL_FLAG.CHANGED 1).sealHold).pend 82).fault .sealChanged .bot 0 0 (leBytes 4 x.toNat)

section
variable {d : Dev} {x : Word}

theorem Dev.sealWatch_idle (h : d.fld F.BOT_STATUS.PHASE ≠ 4) : d.sealWatch x = d := if_pos h

variable (h4 : d.fld F.BOT_STATUS.PHASE = 4)
include h4

theorem Dev.sealWatch_match (hx : x.toNat = d.fld F.BOT_SEAL_IN_FORCE.CODE) : d.sealWatch x = d.clear .sealChanged .bot := by
  rw [Dev.sealWatch, if_neg (not_not_intro h4), if_pos hx]

variable (hx : x.toNat ≠ d.fld F.BOT_SEAL_IN_FORCE.CODE)
include hx

theorem Dev.sealWatch_present (hp : d.has .sealChanged .bot = true) : d.sealWatch x = d.setFld F.PWR_TAMPER.SEAL_CHANGED 1 := by
  rw [Dev.sealWatch, if_neg (not_not_intro h4), if_neg hx]
  exact if_pos hp

theorem Dev.sealWatch_fresh (hp : d.has .sealChanged .bot = false) : d.sealWatch x = d.sealRaise x := by
  rw [Dev.sealWatch, if_neg (not_not_intro h4), if_neg hx]
  exact if_neg (ne_true_of_eq_false hp)

end

section
variable (d : Dev) (x : Word)

theorem Dev.sealRaise_has : (d.sealRaise x).has .sealChanged .bot = true := Dev.fault_has ..

theorem Dev.sealRaise_tamper : (d.sealRaise x).on F.PWR_TAMPER.SEAL_CHANGED = true := by
  have hfault : (d.sealRaise x).fld F.PWR_TAMPER.SEAL_CHANGED
      = ((d.setFld F.PWR_TAMPER.SEAL_CHANGED 1).setFld F.BOT_SEAL_FLAG.CHANGED 1).fld F.PWR_TAMPER.SEAL_CHANGED :=
    Dev.fault_fld_outside _ _ _ _ _ _ _ (by decide) (by decide)
  rw [Dev.on, hfault, Dev.fld_setFld_apart _ _ _ _ (by decide) (by decide), Dev.fld_setFld_same _ _ _ (by decide)]
  rfl

theorem Dev.sealRaise_changed : (d.sealRaise x).on F.BOT_SEAL_FLAG.CHANGED = true := by
  have hfault : (d.sealRaise x).fld F.BOT_SEAL_FLAG.CHANGED
      = ((d.setFld F.PWR_TAMPER.SEAL_CHANGED 1).setFld F.BOT_SEAL_FLAG.CHANGED 1).fld F.BOT_SEAL_FLAG.CHANGED :=
    Dev.fault_fld_outside _ _ _ _ _ _ _ (by decide) (by decide)
  rw [Dev.on, hfault, Dev.fld_setFld_same _ _ _ (by decide)]
  rfl

theorem Dev.sealRaise_boot :
    (d.sealRaise x).boot.core = ({ d.boot with inHold := Decidable.decide (d.fld F.PWR_STATE.STATE = 2) } : BootSt).core := by
  have hstate : ((d.setFld F.PWR_TAMPER.SEAL_CHANGED 1).setFld F.BOT_SEAL_FLAG.CHANGED 1).fld F.PWR_STATE.STATE = d.fld F.PWR_STATE.STATE := by
    rw [Dev.fld_setFld_apart _ _ _ _ (by decide) (by decide), Dev.fld_setFld_apart _ _ _ _ (by decide) (by decide)]
  rw [Dev.sealRaise, Dev.fault_boot, Dev.pend_boot, Dev.sealHold, hstate]
  rfl

theorem Dev.sealRaise_hold : (d.sealRaise x).boot.inHold = true ↔ d.fld F.PWR_STATE.STATE = 2 := by
  obtain ⟨-, -, -, -, hhold⟩ := BootSt.of_core (d.sealRaise_boot x)
  rw [hhold, decide_eq_true_iff]

theorem Dev.sealRaise_told {d : Dev} (hp : d.has .sealChanged .bot = false) :
    ∃ e ∈ (d.sealRaise x).evq, e.ev = .sealChanged ∧ e.stamp = d.now :=
  Dev.exists_fault (d := (((d.setFld F.PWR_TAMPER.SEAL_CHANGED 1).setFld F.BOT_SEAL_FLAG.CHANGED 1).sealHold).pend 82) hp ..

/-- The seal watched in operation leaves the progress of the boot. -/
theorem Dev.sealWatch_running : (d.sealWatch x).boot.running = d.boot.running := by
  by_cases h4 : d.fld F.BOT_STATUS.PHASE = 4
  · by_cases hx : x.toNat = d.fld F.BOT_SEAL_IN_FORCE.CODE
    · rw [Dev.sealWatch_match h4 hx, Dev.clear_boot]
    · cases hp : d.has .sealChanged .bot
      · rw [Dev.sealWatch_fresh h4 hx hp]
        obtain ⟨hrun, -⟩ := BootSt.of_core (d.sealRaise_boot x)
        exact hrun
      · rw [Dev.sealWatch_present h4 hx hp, Dev.setFld_boot]
  · rw [Dev.sealWatch_idle h4]

end

/-! ### A valid read in a boot -/

/-- What a valid read in a boot leads to: the code is kept, and one that differs from a non-zero PWR_SEAL_LAST is noted, once for each
code (R121, R127). -/
theorem Dev.bootCode_eq {b e : Dev} {x : Word} (he : e = { b with boot := { b.boot with valid := some x } }) :
    b.bootCode x = (if b.fld F.PWR_SEAL_LAST.CODE ≠ 0 ∧ x.toNat ≠ b.fld F.PWR_SEAL_LAST.CODE then
      if b.boot.valid ≠ some x then (e.setFld F.PWR_TAMPER.SEAL_CHANGED 1).note .sealChangedOffline .bot 0 (leBytes 4 x.toNat)
      else e.setFld F.PWR_TAMPER.SEAL_CHANGED 1 else e) := by
  subst he
  simp only [Dev.bootCode, decide_eq_true_eq]

theorem Dev.bootCode_boot (d : Dev) (x : Word) : (d.bootCode x).boot = { d.boot with valid := some x } := by
  rw [Dev.bootCode_eq rfl]
  split_ifs
  · rw [Dev.note_boot]
    rfl
  · rfl
  · rfl

/-! ### One scan -/

/-- What a read's code leads to: a boot takes it, operation judges it. -/
def Dev.judgeCode (d : Dev) : Option Word → Dev
  | none => d
  | some x => if d.boot.running then d.bootCode x else d.sealWatch x

/-- The device after a scan; at Step 3, with no repeat left, the sources follow. -/
def State.scanEnds (s : State) (d : Dev) : State :=
  if d.boot.running && !d.boot.scanned && d.boot.repeats = 0 then
    State.bootNext { s with dev := { d with boot := { d.boot with scanned := true } } }
  else { s with dev := d }

theorem State.sealScanned_eq {s : State} {left : Nat} {w : BitVec 64} {r b : Dev} {code : Option Word} (hr : s.dev.sealRead w = (r, code))
    (hb : b = { r with boot := { r.boot with repeats := if code.isSome then 0 else left } }) :
    s.sealScanned left w = s.scanEnds (b.judgeCode code) := by
  subst hb
  unfold State.sealScanned
  rw [hr]
  cases code
  · rfl
  · rfl

section
variable {d : Dev} (s : State)

theorem State.scanEnds_stays (h : d.boot.running = false ∨ d.boot.scanned = true ∨ d.boot.repeats ≠ 0) :
    s.scanEnds d = { s with dev := d } := by
  refine if_neg ?_
  rcases h with h | h | h
  · simp [h]
  · simp [h]
  · simp [h]

theorem State.scanEnds_next (hrun : d.boot.running = true) (hscan : d.boot.scanned = false) (hrep : d.boot.repeats = 0) :
    s.scanEnds d = State.bootNext { s with dev := { d with boot := { d.boot with scanned := true } } } :=
  if_pos (by simp [hrun, hscan, hrep])

end

/-! ### When a scan is made -/

section
variable {s : State}

theorem State.sealScan_due (w : BitVec 64) (h : if s.dev.boot.running && !s.dev.boot.scanned then s.dev.boot.repeats = 0
      else 1000000 ≤ s.dev.now.since s.dev.boot.periodAt) :
    s.sealScan w = (s.map (fun d => { d with boot := { d.boot with periodAt := d.now } })).sealScanned 2 w := by
  refine if_pos ?_
  split_ifs at h ⊢
  · exact decide_eq_true h
  · exact decide_eq_true h

theorem State.sealScan_early (w : BitVec 64) (h : s.dev.boot.running = false ∨ s.dev.boot.scanned = true)
    (hearly : s.dev.now.since s.dev.boot.periodAt < 1000000) : s.sealScan w = s := by
  have hstep3 : (s.dev.boot.running && !s.dev.boot.scanned) = false := by
    rcases h with h | h
    · simp [h]
    · simp [h]
  refine if_neg ?_
  simpa [hstep3] using hearly

theorem State.sealScan_repeating (w : BitVec 64) (hrun : s.dev.boot.running = true) (hscan : s.dev.boot.scanned = false)
    (hrep : s.dev.boot.repeats ≠ 0) : s.sealScan w = s := by
  refine if_neg ?_
  simpa [hrun, hscan] using hrep

theorem State.sealRetry_early (w : BitVec 64) (h : s.dev.boot.repeats = 0 ∨ s.dev.now.since s.dev.boot.scanAt < 10000) :
    s.sealRetry w = s := if_pos h

theorem State.sealRetry_due (w : BitVec 64) {left : Nat} (hrep : s.dev.boot.repeats = left + 1)
    (hlate : 10000 ≤ s.dev.now.since s.dev.boot.scanAt) :
    s.sealRetry w = s.sealScanned left w := by
  have hno : ¬ (s.dev.boot.repeats = 0 ∨ s.dev.now.since s.dev.boot.scanAt < 10000) := by omega
  refine (if_neg hno).trans ?_
  rw [hrep, Nat.add_sub_cancel]

end

/-! ### The rows of the scans -/

/-- A scan is made at this moment by command `i`, on device `c`, after which `left` repeats may follow an invalid read (R120). -/
def Scans (t : Stamp) (w : BitVec 64) (a : Dev) (i : Instr) (c : Dev) (left : Nat) : Prop :=
  (i = .sealScan t w ∧ c = { a with boot := { a.boot with periodAt := a.now } } ∧ left = 2
      ∧ (if a.boot.running && !a.boot.scanned then a.boot.repeats = 0 else 1000000 ≤ a.now.since a.boot.periodAt))
    ∨ (i = .sealScanRetry t w ∧ c = a ∧ a.boot.repeats = left + 1 ∧ 10000 ≤ a.now.since a.boot.scanAt)

section
variable {s : State} {t : Stamp} {w : BitVec 64} {a : Dev} (h : At s t 0 a)
include h

/-- The rows of a scan that is not due. -/
theorem sealScan_rows_idle :
    ((a.boot.running = false ∨ a.boot.scanned = true) → a.now.since a.boot.periodAt < 1000000 → Turns (exec (.sealScan t w) s) s [] a a)
    ∧ (a.boot.running = true → a.boot.scanned = false → a.boot.repeats ≠ 0 → Turns (exec (.sealScan t w) s) s [] a a)
    ∧ ((a.boot.repeats = 0 ∨ a.now.since a.boot.scanAt < 10000) → Turns (exec (.sealScanRetry t w) s) s [] a a) :=
  ⟨fun ho he => ⟨does_run (f := fun s => s.sealScan w) h (State.sealScan_early w ho he), sameRegsBut.refl _ _⟩,
    fun hr hs hn => ⟨does_run (f := fun s => s.sealScan w) h (State.sealScan_repeating w hr hs hn), sameRegsBut.refl _ _⟩,
    fun he => ⟨does_run (f := fun s => s.sealRetry w) h (State.sealRetry_early w he), sameRegsBut.refl _ _⟩⟩

variable {i : Instr} {c r b : Dev} {left : Nat} (hi : Scans t w a i c left)
include hi

/-- What a scan does, which leaves the boot as far as it is. -/
theorem does_scan {code : Option Word} (hr : c.sealRead w = (r, code))
    (hb : b = { r with boot := { r.boot with repeats := if code.isSome then 0 else left } }) :
    Does (exec i s) (s.scanEnds (b.judgeCode code)) ∧ b.boot.running = a.boot.running ∧ b.boot.scanned = a.boot.scanned
      ∧ b.boot.repeats = if code.isSome then 0 else left := by
  have hends : State.sealScanned left w { s with dev := c } = s.scanEnds (b.judgeCode code) := State.sealScanned_eq (s := { s with dev := c }) hr hb
  have hboot : b.boot = { r.boot with repeats := if code.isSome then 0 else left } := congrArg Dev.boot hb
  obtain ⟨hrun, hscan⟩ := c.sealRead_progress w
  rw [hr] at hrun hscan
  rw [hboot]
  rcases hi with ⟨rfl, rfl, rfl, hdue⟩ | ⟨rfl, rfl, hrep, hlate⟩
  · exact ⟨does_run (f := fun s => s.sealScan w) h ((State.sealScan_due (s := { s with dev := a }) w hdue).trans hends), hrun, hscan, rfl⟩
  · exact ⟨does_run (f := fun s => s.sealRetry w) h ((State.sealRetry_due w hrep hlate).trans hends), hrun, hscan, rfl⟩

end

section
variable {s : State} {b : Dev} {i : Instr}

/-- The row of an invalid read. -/
theorem scan_row_invalid (hdoes : Does (exec i s) (s.scanEnds (b.judgeCode none))) :
    ((b.boot.running = false ∨ b.boot.scanned = true ∨ b.boot.repeats ≠ 0) → Does (exec i s) { s with dev := b })
    ∧ (b.boot.running = true → b.boot.scanned = false → b.boot.repeats = 0 →
      Does (exec i s) (State.bootNext { s with dev := { b with boot := { b.boot with scanned := true } } })) :=
  ⟨fun hstays => (s.scanEnds_stays hstays).subst (motive := Does (exec i s)) hdoes,
    fun hrun hscan hrep => (s.scanEnds_next hrun hscan hrep).subst (motive := Does (exec i s)) hdoes⟩

variable {x : Word} (hdoes : Does (exec i s) (s.scanEnds (b.judgeCode (some x))))
include hdoes

/-- The row of a valid read in operation. -/
theorem scan_row_watch (hrun : b.boot.running = false) :
    (b.fld F.BOT_STATUS.PHASE ≠ 4 → Does (exec i s) { s with dev := b })
    ∧ (b.fld F.BOT_STATUS.PHASE = 4 → x.toNat = b.fld F.BOT_SEAL_IN_FORCE.CODE → Does (exec i s) { s with dev := b.clear .sealChanged .bot })
    ∧ (b.fld F.BOT_STATUS.PHASE = 4 → x.toNat ≠ b.fld F.BOT_SEAL_IN_FORCE.CODE → b.has .sealChanged .bot = true →
      Does (exec i s) { s with dev := b.setFld F.PWR_TAMPER.SEAL_CHANGED 1 })
    ∧ (b.fld F.BOT_STATUS.PHASE = 4 → x.toNat ≠ b.fld F.BOT_SEAL_IN_FORCE.CODE → b.has .sealChanged .bot = false → ∃ d : Dev,
      Does (exec i s) { s with dev := d } ∧ d.has .sealChanged .bot = true ∧ d.on F.PWR_TAMPER.SEAL_CHANGED = true
      ∧ d.on F.BOT_SEAL_FLAG.CHANGED = true ∧ (d.boot.inHold = true ↔ b.fld F.PWR_STATE.STATE = 2)
      ∧ ∃ e ∈ d.evq, e.ev = .sealChanged ∧ e.stamp = b.now) := by
  have hwatch : b.judgeCode (some x) = b.sealWatch x := if_neg (ne_true_of_eq_false hrun)
  rw [hwatch, s.scanEnds_stays (.inl ((b.sealWatch_running x).trans hrun))] at hdoes
  refine ⟨fun h4 => ?_, fun h4 hx => ?_, fun h4 hx hp => ?_, fun h4 hx hp => ⟨b.sealRaise x, ?_, b.sealRaise_has x, b.sealRaise_tamper x,
    b.sealRaise_changed x, b.sealRaise_hold x, Dev.sealRaise_told x hp⟩⟩
  · rwa [Dev.sealWatch_idle h4] at hdoes
  · rwa [Dev.sealWatch_match h4 hx] at hdoes
  · rwa [Dev.sealWatch_present h4 hx hp] at hdoes
  · rwa [Dev.sealWatch_fresh h4 hx hp] at hdoes

/-- The row of a valid read in a boot, which at Step 3 ends the scan. -/
theorem scan_row_boot (hrun : b.boot.running = true) (hrep : b.boot.repeats = 0) {f : Dev} (hf : f = b.bootCode x) :
    (b.boot.scanned = true → Does (exec i s) { s with dev := f })
    ∧ (b.boot.scanned = false → Does (exec i s) (State.bootNext { s with dev := { f with boot := { f.boot with scanned := true } } })) := by
  have hcode : b.judgeCode (some x) = f := (if_pos hrun).trans hf.symm
  have hboot : f.boot = { b.boot with valid := some x } := hf ▸ b.bootCode_boot x
  rw [hcode] at hdoes
  constructor
  · intro hscan
    rwa [s.scanEnds_stays (.inr (.inl (by rw [hboot]; exact hscan)))] at hdoes
  · intro hscan
    rwa [s.scanEnds_next (by rw [hboot]; exact hrun) (by rw [hboot]; exact hscan) (by rw [hboot]; exact hrep)] at hdoes

end

/-- Settles O42: a source is tried, refused or awaited row by row; a scan is one read of the seal block, judged in operation or in a boot. -/
theorem bootSourcesAndSealScans : Obligations.BootSourcesAndSealScans := by
  unfold Obligations.BootSourcesAndSealScans
  refine ⟨⟨fun s t a h => ⟨fun octal image => ⟨fun hidle => ?_, ?_⟩, ?_, fun hidle => ?_⟩, fun s src reason rest hr _ hs h2 =>
    State.bootRefuse_row hr hs h2⟩, fun d w x c hx hc => Dev.sealRead_row hx hc, fun s t w a h => ?_⟩
  · exact ⟨does_run (f := fun s => s.bootTry octal image) h (State.bootTry_idle octal image hidle), sameRegsBut.refl _ _⟩
  · exact fun src rest hrun hscan hs h2 mode l r hread hr => bootSourceTry_row h hrun hscan hs h2 (slotRead_eq hread) hr
  · exact fun rest hrun hscan hs => pcieTimeout_row h hrun hscan hs
  · exact ⟨does_run (f := State.pcieTimeout) h (State.pcieTimeout_idle hidle), sameRegsBut.refl _ _⟩
  · obtain ⟨hearly, hrepeating, hretry⟩ := sealScan_rows_idle (w := w) h
    refine ⟨hearly, hrepeating, hretry, fun i c r b code left hi hr hb => ?_⟩
    obtain ⟨hdoes, hrun, hscan, hrep⟩ := does_scan h hi hr hb
    rw [← hrun, ← hscan]
    cases code with
    | none =>
      obtain ⟨hend, hnext⟩ := scan_row_invalid hdoes
      refine ⟨fun ho => ⟨fun _ => hend (.inl ho), fun _ hy => nomatch hy⟩, fun ho => ⟨fun _ hs => hend (.inr ?_),
        fun _ hs hl => hnext ho hs (hrep.trans hl), fun _ _ hy => nomatch hy⟩⟩
      rwa [show b.boot.repeats = left from hrep]
    | some x =>
      refine ⟨fun ho => ⟨fun hy => (nomatch hy), fun y hy => ?_⟩, fun ho => ⟨fun hy => (nomatch hy), fun hy => (nomatch hy),
        fun y e hy he f hf => ?_⟩⟩
      · obtain rfl := Option.some.inj hy
        exact scan_row_watch hdoes ho
      · obtain rfl := Option.some.inj hy
        exact scan_row_boot hdoes ho hrep (hf.trans (Dev.bootCode_eq he).symm)

end Sys2Proof.Machine
end

section
/-! ### What no command touches: the queue, and OTP words 0 to 7 (R117)

One lemma per operation on a state, in the order of the model: from a state in which they stand it leads to one in which they stand. -/

namespace Sys2Proof.Machine

/-- The queue and OTP words 0 to 7 stand as they were. -/
structure Stands (s u : State) : Prop where
  pending : u.pending = s.pending
  otp : ∀ n, n < 8 → otpWord u.store.otp n = otpWord s.store.otp n

namespace Stands

theorem refl (s : State) : Stands s s := ⟨rfl, fun _ _ => rfl⟩

theorem ite {s a b : State} {c : Prop} [Decidable c] (ha : Stands s a) (hb : Stands s b) : Stands s (if c then a else b) := by
  split_ifs
  · exact ha
  · exact hb

theorem iteFst {s : State} {a b : State × Done} {c : Prop} [Decidable c] (ha : Stands s a.1) (hb : Stands s b.1) :
    Stands s (if c then a else b).1 := by
  split_ifs
  · exact ha
  · exact hb

theorem fold {α : Type} {s u : State} (h : Stands s u) (l : List α) {f : State → α → State} (hf : ∀ v x, Stands s v → Stands s (f v x)) :
    Stands s (l.foldl f u) :=
  List.foldlRecOn (motive := Stands s) _ _ h (fun v hv x _ => hf v x hv)

section
variable {s u : State} (h : Stands s u)
include h

/-! #### The device, SRAM and host memory, and a word of the OTP from 8 up -/

theorem dev (d : Dev) : Stands s { u with dev := d } := ⟨h.pending, h.otp⟩

theorem map (f : Dev → Dev) : Stands s (u.map f) := h.dev _

theorem mapIf (c : Prop) [Decidable c] (f : Dev → Dev) : Stands s (if c then u.map f else u) := ite (h.map f) h

theorem mem (d : Dev) (m : List Host.Cell) : Stands s { u with dev := d, store := { u.store with mem := m } } := ⟨h.pending, h.otp⟩

theorem host (m : List Host.Cell) : Stands s { u with store := { u.store with host := m } } := ⟨h.pending, h.otp⟩

theorem burn {n : Nat} (hn : 8 ≤ n) (x : Word) : Stands s { u with store := { u.store with otp := tabPut 0 u.store.otp n x } } where
  pending := h.pending
  otp k hk := (tabGet_tabPut_ne 0 0 _ x (by omega)).trans (h.otp k hk)

/-! #### Accesses of rings -/

theorem dmaWrite (x : Nat) (l : List Byte) : Stands s (u.dmaWrite x l) := by
  unfold State.dmaWrite
  split
  · exact h.mem _ _
  · split_ifs
    · exact h.host _
    · exact h
  · exact h

theorem ringMiss (n x : Nat) (write : Bool) : Stands s (u.ringMiss n x write) := by
  unfold State.ringMiss
  split
  · exact h.map _
  · exact h

theorem ringPut (n x : Nat) (l : List Byte) : Stands s (u.ringPut n x l) := by
  have hst : Stands s (u.map (fun d => d.stalled x)) := h.map _
  unfold State.ringPut
  dsimp only
  split_ifs
  · exact hst.ringMiss n x true
  · exact hst.dmaWrite x l

theorem ringGet (n x k : Nat) : Stands s (u.ringGet n x k).2 := by
  have hst : Stands s (u.map (fun d => d.stalled x)) := h.map _
  unfold State.ringGet
  dsimp only
  split_ifs
  · exact hst.ringMiss n x false
  · exact hst

theorem ringWrite (n x : Nat) (l : List Byte) : Stands s (u.ringWrite n x l) :=
  h.fold _ (fun _ _ hv => hv.ringPut n _ _)

theorem ringRead (n x k : Nat) : Stands s (u.ringRead n x k).2 :=
  List.foldlRecOn (motive := fun r : List Byte × State => Stands s r.2) _ _ h (fun _ hv _ _ => hv.ringGet n _ _)

theorem writeBack (n : Nat) : Stands s (u.writeBack n) := by
  unfold State.writeBack
  exact (h.ringWrite n _ _).map _

theorem ringState (n st err : Nat) : Stands s (u.ringState n st err) := by
  unfold State.ringState
  exact (h.map _).writeBack n

theorem ringFail (n err : Nat) : Stands s (u.ringFail n err) := by
  unfold State.ringFail
  exact (h.ringState n 3 err).map _

theorem ringLost (n x : Nat) (write : Bool) (err : Nat) : Stands s (u.ringLost n x write err) := (h.ringMiss n x write).ringFail n err

theorem complete (c : Cmd) (code detail : Nat) : Stands s (u.complete c code detail) := by
  unfold State.complete
  exact ((h.ringWrite c.ring.val _ _).ringWrite c.ring.val _ _).map _

/-! #### Records -/

theorem evtSlot (n : Nat) (r : EvRec) : Stands s (u.evtSlot n r) := by
  unfold State.evtSlot
  exact (h.ringWrite n _ _).map _

theorem flushOverflow (n : Nat) : Stands s (u.flushOverflow n) := by
  unfold State.flushOverflow
  split_ifs
  · exact (h.evtSlot n _).map _
  · exact h

theorem evtPut (n : Nat) (r : EvRec) : Stands s (u.evtPut n r) := by
  unfold State.evtPut
  split_ifs
  · split
    · dsimp only
      split_ifs
      · exact (h.flushOverflow n).evtSlot n r
      · exact (h.flushOverflow n).map _
    · exact (h.ringLost n _ true _).map _
  · exact h.map _

theorem routeSecure (r : EvRec) : Stands s (if u.dev.on F.EVT_CFG.SEC_EN then
    if u.dev.evtRing (u.dev.fld F.EVT_CFG.SEC_RING) ∧ u.dev.ringSecure (u.dev.fld F.EVT_CFG.SEC_RING) then
      u.evtPut (u.dev.fld F.EVT_CFG.SEC_RING) r else u.map Dev.noRing else u) := by
  split_ifs
  · exact h.evtPut _ r
  · exact h.map _
  · exact h

theorem route (r : EvRec) : Stands s (u.route r) := by
  have hs := h.routeSecure r
  unfold State.route
  dsimp only
  generalize (if u.dev.on F.EVT_CFG.SEC_EN then _ else u) = v at hs ⊢
  split_ifs
  · exact hs.map _
  · exact hs.evtPut _ r
  · exact hs.map _
  · exact hs

theorem routes (q : List EvRec) : Stands s (q.foldl (fun s r => s.route r) u) :=
  h.fold q (fun _ r hv => hv.route r)

theorem deliver : Stands s u.deliver := by
  unfold State.deliver
  dsimp only
  split_ifs
  · exact (h.map _).routes _
  · exact (h.map _).fold _ (fun _ _ hv => hv.map _)

theorem deliverAll (k : Nat) : Stands s (u.deliverAll k) := by
  induction k generalizing u with
  | zero => exact h
  | succ k ih =>
    unfold State.deliverAll
    split_ifs
    · exact h
    · exact ih h.deliver

theorem flushStart : Stands s u.flushStart := by
  unfold State.flushStart
  exact (h.map _).routes _

/-! #### Retention RAM -/

theorem retWrite (off : Nat) (l : List Byte) : Stands s (u.retWrite off l) := h.mem _ _

theorem outlogPut (e : List Byte) : Stands s (u.outlogPut e) := by
  unfold State.outlogPut
  exact (h.retWrite _ _).map _

theorem glow : Stands s u.glow := by
  have hq : Stands s (u.dev.logq.foldl (fun s e => s.outlogPut e) (u.map (fun d => { d with logq := [] }))) :=
    (h.map _).fold _ (fun _ e hv => hv.outlogPut e)
  unfold State.glow
  dsimp only
  split_ifs
  · exact (hq.retWrite _ _).map _
  · exact hq

/-! #### Buffers -/

theorem bufDone (n code detail : Nat) (flushed : Bool) (stamp : Stamp) : Stands s (u.bufDone n code detail flushed stamp) := by
  unfold State.bufDone
  split
  · exact h
  · dsimp only
    split
    · exact h.ringLost n _ _ _
    · exact ((h.ringWrite n _ _).ringWrite n _ _).map _

theorem bufOpen (n k : Nat) : Stands s (u.bufOpen n k) := by
  induction k generalizing u with
  | zero => exact h
  | succ k ih =>
    unfold State.bufOpen
    split_ifs
    · exact h
    · dsimp only
      split
      · exact h.ringLost n _ _ _
      · have hv := (h.ringRead n (u.dev.ringDesc n) 16).map
        split_ifs
        · exact hv _
        · exact ih ((hv _).bufDone n _ _ _ _)

theorem bufTry (n gap : Nat) (stamp : Stamp) (data : List Byte) : Stands s (u.bufTry n stamp gap data).2 := by
  have ho := h.bufOpen n (u.dev.bufFuel n)
  unfold State.bufTry
  dsimp only
  split
  · exact ho
  · split
    · exact (ho.ringMiss n _ _).bufDone n _ _ _ _
    · exact ite (((ho.ringWrite n _ data).map _).bufDone n _ _ _ _) ((ho.ringWrite n _ data).map _)

theorem bufPut (n : Nat) (stamp : Stamp) (data : List Byte) : Stands s (u.bufPut n stamp data) := by
  have hv := h.bufTry n 0 stamp data
  unfold State.bufPut
  dsimp only
  split_ifs
  · exact hv
  · exact hv.map _

theorem bufFlush (n : Nat) : Stands s (u.bufFlush n) := by
  unfold State.bufFlush
  split
  · split_ifs
    · exact h.bufDone n _ _ _ _
    · exact h
  · exact h

theorem streams : Stands s u.streams := (h.map _).fold _ (fun _ _ hv => ite (hv.bufPut _ _ _) hv)

theorem strmExpire (n : Nat) : Stands s (u.strmExpire n) := by
  unfold State.strmExpire
  split
  · split_ifs
    · exact h.bufDone n _ _ _ _
    · exact h
  · exact h

/-! #### Serial ports -/

theorem serDrain (n ring k : Nat) : Stands s (u.serDrain n ring k) := by
  induction k generalizing u with
  | zero => exact h
  | succ k ih =>
    have ho := h.bufOpen ring (u.dev.bufFuel ring)
    unfold State.serDrain
    split
    · exact h
    · dsimp only
      split
      · exact ho
      · exact ih (ite ((ho.bufTry ring _ _ _).map _) (ho.bufTry ring _ _ _))

theorem serDrainAll : Stands s u.serDrainAll := by
  refine h.fold _ (fun v n hv => ite hv ?_)
  split
  · exact hv.serDrain n _ 64
  · exact hv

/-- The words of a port reach the ring bound to it. -/
theorem serDrainBound (n : Nat) (r : Option Nat) : Stands s (match r with | some r => u.serDrain n r 64 | none => u) := by
  cases r with
  | some r => exact h.serDrain n r 64
  | none => exact h

theorem serStore (n word : Nat) (stamp : Stamp) : Stands s (u.serStore n word stamp) := by
  have hd := (h.serDrainBound n (u.dev.boundRing 5 n)).map (fun d => d.setFld (F.SER_STAT.RX_IDLE n) 0)
  unfold State.serStore
  exact ite (hd.map _) ((hd.map _).serDrainBound n _)

theorem abFail (n div : Nat) (stamp : Stamp) : Stands s (u.abFail n div stamp) := by
  unfold State.abFail
  exact (h.serStore n _ stamp).map _

theorem abMeasure (n : Nat) (c : LineChar) : Stands s (u.abMeasure n c) := by
  unfold State.abMeasure
  exact ite (((h.map _).map _).serStore n _ _) ((h.map _).abFail n _ _)

theorem abQuiet (n : Nat) (start : Option Stamp) : Stands s (u.abQuiet n start) := by
  unfold State.abQuiet
  exact ite h (ite ((h.abFail n _ _).map _) (ite (h.map _) h))

theorem serTs (n : Nat) (c : LineChar) (level : Nat → Bool) : Stands s (u.serTs n c level) := by
  unfold State.serTs
  exact ite (((h.map _).map _).serStore n _ _) (ite (((h.map _).map _).serStore n _ _) (((h.map _).serStore n _ _).map _))

theorem serRefuse (n r k : Nat) : Stands s (u.serRefuse n r k) := by
  induction k generalizing u with
  | zero => exact h
  | succ k ih =>
    have ho := h.bufOpen r (u.dev.bufFuel r)
    unfold State.serRefuse
    exact ite (ih (ho.bufDone r _ _ _ _)) ho

theorem serRefuseAll : Stands s u.serRefuseAll := by
  refine h.fold _ (fun v n hv => ite ?_ hv)
  split
  · exact hv.serRefuse n _ _
  · exact hv

theorem serFlush (n : Nat) : Stands s (u.serFlush n) := by
  unfold State.serFlush
  split
  · exact h.bufFlush _
  · exact h

theorem abortBound (r : Option Nat) (code detail : Nat) (t : State → Stamp) :
    Stands s (match r with | some r => u.bufDone r code detail true (t u) | none => u) := by
  cases r with
  | some r => exact h.bufDone r _ _ _ _
  | none => exact h

theorem cardOut (n : Nat) (high : Bool) (us : Nat) : Stands s (u.cardOut n high us) := by
  unfold State.cardOut
  refine ite ?_ h
  exact ((h.map _).serFlush n).abortBound _ 5 1 (fun v => (v.dev.ser n).sentAt)

theorem serReceive (n : Nat) (c : LineChar) : Stands s (u.serReceive n c) := by
  unfold State.serReceive
  refine ite h (ite (h.map _) (ite h ?_))
  refine ite ((h.map _).abMeasure n c) (ite ((h.map _).serTs n c _) (ite (((h.map _).map _).serStore n _ _) ?_))
  exact ((((h.map _).mapIf _ _).mapIf _ _).mapIf _ _).serStore n _ _

theorem serTimeout (n : Nat) : Stands s (u.serTimeout n) := by
  unfold State.serTimeout
  exact ite (h.serFlush n) h

theorem serNext (n : Nat) : Stands s (u.serNext n).2 := by
  unfold State.serNext
  split
  · exact h
  · rename_i r _
    have ho := h.bufOpen r (u.dev.bufFuel r)
    dsimp only
    split
    · exact ho
    · split
      · exact ho.bufDone r _ _ _ _
      · exact ho.ringRead r _ 2

theorem serSent (n r : Nat) : Stands s (u.serSent n r) := by
  unfold State.serSent
  dsimp only
  split
  · exact ite ((h.map _).bufDone r _ _ _ _) (h.map _)
  · exact h.map _

theorem serTransmit (n : Nat) (early late : BitVec 9) (err : Bool) : Stands s (u.serTransmit n early late err) := by
  have hn := h.serNext n
  unfold State.serTransmit
  refine ite h ?_
  split
  next v he => rwa [he] at hn
  next r w v he =>
    rw [he] at hn
    have ht := hn.map (fun d => { d with out := { d.out with serTx := d.out.serTx ++ [(n, d.serFrame n w)] } })
    refine ite (ite ((ht.bufDone r _ _ _ _).map _) (ht.map _)) (ite ?_ (ht.serSent n r))
    exact (((ht.serSent n r).map _).serStore n _ _).map _

theorem serIsland (n : Nat) : Stands s (u.serIsland n) := by
  unfold State.serIsland
  refine ite (h.map _) ?_
  exact ((h.serFlush n).abortBound _ 7 0 (fun v => (v.dev.ser n).sentAt)).map _

/-! #### Network ports -/

theorem ringWriteIf (c : Prop) [Decidable c] (n x : Nat) (l : List Byte) : Stands s (if c then u.ringWrite n x l else u) :=
  ite (h.ringWrite n x l) h

theorem frameDone (n : Nat) (irq : Bool) (tci used code detail flags : Nat) (ts : Option Nat) :
    Stands s (u.frameDone n irq tci used code detail flags ts) := by
  have hw := (h.ringWriteIf (flags.testBit 2) n (u.dev.ringDesc n + 8) (leBytes 2 tci)).ringWrite n (u.dev.ringDesc n + 10)
    (leBytes 2 used ++ leBytes 1 code ++ leBytes 1 detail ++ leBytes 1 (flags + 1))
  unfold State.frameDone
  cases ts with
  | some x => exact (hw.ringWrite n _ _).map _
  | none => exact hw.map _

theorem rxpPut (n : Nat) (data : List Byte) (tci : Option Nat) (detail : Nat) (ts : Option Nat) (k : Nat) :
    Stands s (u.rxpPut n data tci detail ts k) := by
  induction k generalizing u with
  | zero => exact h.map _
  | succ k ih =>
    have hr := h.ringRead n (u.dev.ringDesc n) 16
    unfold State.rxpPut
    refine ite (h.map _) ?_
    split
    · exact (h.ringLost n _ _ _).map _
    · refine ite (ih (hr.frameDone n _ _ _ _ _ _ _)) (ite ((hr.map _).frameDone n _ _ _ _ _ _ _) ?_)
      dsimp only
      split
      · exact ((hr.ringMiss n _ _).map _).frameDone n _ _ _ _ _ _ _
      · exact (hr.ringWrite n _ _).frameDone n _ _ _ _ _ _ _

theorem rxpFrame (n : Nat) (f : Frame) (raw : List Byte) : Stands s (u.rxpFrame n f raw) := by
  unfold State.rxpFrame
  dsimp only
  split
  · exact h.map _
  · exact h.rxpPut _ _ _ _ _ _

theorem txpSend (n : Nat) (cut : Bool) : Stands s (u.txpSend n cut) := by
  unfold State.txpSend
  split
  · exact h
  · rename_i r _
    have hr := h.ringRead r (u.dev.ringDesc r) 16
    refine ite h ?_
    split
    · exact h.ringLost r _ _ _
    · refine ite (hr.frameDone r _ _ _ _ _ _ _) (ite ((hr.map _).frameDone r _ _ _ _ _ _ _) (ite (hr.frameDone r _ _ _ _ _ _ _) ?_))
      dsimp only
      split
      · exact (hr.ringMiss r _ _).frameDone r _ _ _ _ _ _ _
      · have hd := hr.ringRead r
        refine ite (((hd _ _).map _).frameDone r _ _ _ _ _ _ _) ?_
        exact ite (((hd _ _).map _).frameDone r _ _ _ _ _ _ _) (((hd _ _).map _).frameDone r _ _ _ _ _ _ _)

theorem apps : Stands s u.apps := by
  refine (h.map _).fold _ (fun v x hv => ?_)
  split
  · exact hv.rxpPut _ _ _ _ _ _
  · exact hv

theorem frameReceived (n : Nat) (raw : List Byte) (fcsOk : Bool) (corrected uncorr : Nat) :
    Stands s (u.frameReceived n raw fcsOk corrected uncorr) := by
  unfold State.frameReceived
  refine ite h ?_
  dsimp only
  split
  · exact (h.map _).map _
  · have hf := (h.map (fun d => d.netFecCount n corrected uncorr)).map (fun d => d.incPair (F.NET_RX_FRAMES_LO.V n) (F.NET_RX_FRAMES_HI.V n))
    exact ite (hf.rxpFrame n _ raw) (ite (hf.map _) (ite (hf.rxpFrame n _ raw) (hf.map _)))

theorem frameTransmit (n : Nat) (cut : Bool) : Stands s (u.frameTransmit n cut) := by
  unfold State.frameTransmit
  refine ite (h.txpSend n _) (ite h ?_)
  split
  · exact h.map _
  · exact h.txpSend n cut

/-! #### Resets, islands and the snapshot -/

theorem fullReset (e : Rst) (also : Nat) (mode : PMode) : Stands s (u.fullReset e also mode) := by
  have hg : ∀ v, Stands s v → Stands s ((v.map (fun d => d.recordReset (2 ^ e.bit ||| also))).glow) := fun v hv => (hv.map _).glow
  unfold State.fullReset
  dsimp only
  exact (hg _ (ite h (h.map _))).mem _ _

theorem islandSer : Stands s u.islandSer := by
  unfold State.islandSer
  exact (h.fold _ (fun _ n hv => hv.serIsland n)).map _

theorem island (i : Nat) : Stands s (u.island i) := by
  unfold State.island
  exact ite ((h.map _).map _) (ite (h.map _).islandSer ((h.map _).map _))

theorem islandWrite (mask : Nat) : Stands s (u.islandWrite mask) :=
  h.fold _ (fun _ i hv => ite hv (ite (hv.map _) (hv.island i)))

theorem snapWrite (cause : Nat) : Stands s (u.snapWrite cause) := by
  unfold State.snapWrite
  exact ((h.retWrite _ _).retWrite _ _).map _

theorem snapOffer : Stands s u.snapOffer := by
  unfold State.snapOffer
  exact ite h ((h.dev _).retWrite _ _)

/-! #### Rings, regions and the judged configuration -/

theorem ringStart (n : Nat) : Stands s (u.ringStart n) := by
  unfold State.ringStart
  exact ite ((h.map _).ringState n 1 0) (h.map _)

theorem ringStop (n : Nat) : Stands s (u.ringStop n) := by
  unfold State.ringStop
  exact (((ite (ite (h.bufDone n _ _ _ _) (h.bufFlush n)) h).map _).ringState n 0 0).map _

theorem regionTags (k : Nat) (old : Word) (en : Nat) : Stands s (u.regionTags k old en) :=
  h.fold _ (fun _ _ hv => ite hv (ite (hv.map _) (ite (hv.mem _ _) (hv.map _))))

theorem judgeAll (old : Dev) : Stands s (u.judgeAll old) := by
  unfold State.judgeAll
  exact ((h.map _).fold _ (fun _ n hv => ite ((hv.map _).ringStart n) hv)).map _

/-! #### The boot and the secure-world reset -/

theorem egRestore : Stands s u.egRestore := by
  unfold State.egRestore
  exact ite (h.map _) (h.map _)

theorem outlogClose : Stands s u.outlogClose := by
  unfold State.outlogClose
  dsimp only
  split
  · exact h
  · exact h.retWrite _ _

theorem bootBegin (afterG : Bool) (also : Nat) : Stands s (u.bootBegin afterG also) := by
  unfold State.bootBegin
  exact ite (((h.map _).map _).map _).glow ((h.map _).map _).outlogClose

theorem bootRing : Stands s u.bootRing := by
  unfold State.bootRing
  exact (h.map _).ringStart 0

theorem bootNext : Stands s u.bootNext := by
  unfold State.bootNext
  dsimp only
  split
  · exact (h.map _).map _
  · exact (h.map _).bootRing
  · exact h.map _

theorem bootRefuse (src reason : Nat) : Stands s (u.bootRefuse src reason) := by
  unfold State.bootRefuse
  exact (h.map _).bootNext

theorem applyImage (src : Nat) (octal : Bool) (l : List Byte) : Stands s (u.applyImage src octal l) := by
  unfold State.applyImage
  exact (((((h.map _).mem _ _).judgeAll _).map _).egRestore).map _

theorem bootTry (octal : Option (List Byte)) (single : List Byte) : Stands s (u.bootTry octal single) := by
  unfold State.bootTry
  split
  · exact ite h (ite (h.applyImage _ _ _) (h.bootRefuse _ _))
  · exact h

theorem bootImage (c : Cmd) : Stands s (u.bootImage c) := by
  unfold State.bootImage
  refine ite ((h.map _).complete c 6 0) (ite ?_ (((h.map _).complete c 5 _).bootRefuse 2 _))
  exact ((((h.map _).complete c 0 0).mem _ _).map _).applyImage 2 false _

theorem pcieTimeout : Stands s u.pcieTimeout := by
  unfold State.pcieTimeout
  split
  · exact ite ((h.map _).bootRefuse 2 10) h
  · exact h

theorem sealScanned (left : Nat) (w : BitVec 64) : Stands s (u.sealScanned left w) := by
  unfold State.sealScanned
  exact ite (h.dev _).bootNext (h.dev _)

theorem sealScan (w : BitVec 64) : Stands s (u.sealScan w) := by
  unfold State.sealScan
  exact ite ((h.map _).sealScanned 2 w) h

theorem sealRetry (w : BitVec 64) : Stands s (u.sealRetry w) := by
  unfold State.sealRetry
  exact ite h (h.sealScanned _ w)

theorem engineStart : Stands s u.engineStart := by
  unfold State.engineStart
  exact ite h (ite h.flushStart ((h.map _).snapOffer.map _).flushStart)

theorem secureReset (also : Nat) : Stands s (u.secureReset also) := by
  have hs := ((((h.snapWrite 2).map (fun d => (d.logOutage 6 (2 ^ Rst.s.bit ||| also)).recordReset (2 ^ Rst.s.bit ||| also))).glow).map
    (fun d => Dev.mirrors u.dev (d.resetS.unlatch (fun b off => !d.regNonSecure b off)))).map (fun d =>
      let d := d.setFld F.WLD_STATUS.TRUSTED_HOST (u.dev.fld F.WLD_STATUS.TRUSTED_HOST)
      if d.causes.any (fun c => c.cls = 5) || d.boot.worst = 5 then d.setFld F.FLT_STATE.DEV_STATE 5 else d)
  unfold State.secureReset
  exact (((((ite (hs.map _) (hs.map _)).mem _ _).judgeAll _).map _).map _)

/-! #### The link, the supplies and the software resets -/

theorem linkLost : Stands s u.linkLost := by
  unfold State.linkLost
  exact ite h ((h.map _).fold _ (fun _ n hv => ite ((hv.ringState n 2 3).map _) hv))

theorem cutResult (n : Nat) : Stands s (u.cutResult n) := by
  unfold State.cutResult
  exact ite h ((h.ringWrite n _ _).ringWrite n _ _)

theorem nonSecureReset (flr : Bool) : Stands s (u.nonSecureReset flr) := by
  have hn := (h.fold (List.range 64) (fun _ n hv => hv.cutResult n)).map (fun d => d.resetNonSecure 0 flr)
  unfold State.nonSecureReset
  exact ite hn (ite (hn.map _) (hn.map _))

/-- The resets that held the evaluator, applied with the one that resets most. -/
theorem heldReset (also : Nat) (e : Option Rst) :
    Stands s (match e with | some e => u.fullReset e also .held | none => u.map (fun d => d.recordReset also)) := by
  cases e with
  | some e => exact h.fullReset e also .held
  | none => exact h.map _

theorem bootUnlessHeld : Stands s (if u.dev.power.rst then u else u.bootBegin false 0) := ite h (h.bootBegin false 0)

theorem porRelease (cycles sel : Nat) (rails : BitVec 17) (vmain : Bool) (also : Nat) : Stands s (u.porRelease cycles sel rails vmain also) := by
  have hl := h.map (fun d => ({ d.rtcTick cycles with power := { d.power with sel := sel } }).setRails rails vmain)
  unfold State.porRelease
  refine ite h ?_
  dsimp only
  split
  · exact ite (hl.map _) (hl.bootBegin true also)
  · exact bootUnlessHeld (ite (hl.fullReset .p also .held) (hl.heldReset also _))
  · exact ite (hl.fullReset .y also .held).bootUnlessHeld h
  · exact h

theorem allLost : Stands s u.allLost := h.fullReset .g 0 .off

theorem brownOut (rails : BitVec 17) (also : Nat) : Stands s (u.brownOut rails also) := by
  unfold State.brownOut
  refine ite h ?_
  split
  · exact (h.fullReset .b also .held).map _
  · exact (h.fullReset .b also .held).map _
  · exact h.map _
  · exact h

theorem resetPin (also : Nat) : Stands s (u.resetPin also) := by
  unfold State.resetPin
  refine map ?_ _
  split
  · exact (h.fullReset .x also .held).map _
  · exact (h.fullReset .x also .held).map _
  · exact (h.fullReset .x also .standby).map _
  · exact h

theorem resetPinRise (cycles : Nat) : Stands s (u.resetPinRise cycles) := by
  unfold State.resetPinRise
  dsimp only
  split
  · exact ite (((h.map _).map _).bootBegin false 0) ((h.map _).map _)
  · exact ite ((h.map _).bootBegin true _) (h.map _)
  · exact h.map _

theorem resetBoot (e : Rst) (also : Nat) : Stands s (u.resetBoot e also) := (h.fullReset e also .held).bootBegin false 0

theorem watchdog (also : Nat) : Stands s (u.watchdog also) := ite (h.resetBoot .w also) h

theorem holdStop : Stands s u.holdStop := (h.map _).linkLost

theorem holdEnter : Stands s u.holdEnter := by
  unfold State.holdEnter
  exact ite h (ite ((h.map _).map _) (h.map _).holdStop)

theorem enginesStart : Stands s u.enginesStart := by
  unfold State.enginesStart
  exact ite h.engineStart.holdStop h.engineStart

theorem holdExit : Stands s u.holdExit := by
  unfold State.holdExit
  exact ite h (ite ((h.map _).secureReset _) (ite ((h.map _).nonSecureReset false) (h.map _)))

theorem shutdown : Stands s u.shutdown := by
  unfold State.shutdown
  exact ite h ((((ite h (h.snapWrite 1)).map _).glow).map _)

theorem wake (source : Nat) (rising : Bool) : Stands s (u.wake source rising) := by
  unfold State.wake
  exact ite h (ite ((h.map _).map _).glow ((h.map _).map _))

theorem wakeFail : Stands s u.wakeFail := by
  unfold State.wakeFail
  exact ite h (h.map _).glow

theorem standbyOff : Stands s u.standbyOff := ite h.allLost h

theorem softReset (wantS wantN : Bool) : Stands s (u.softReset wantS wantN) := by
  unfold State.softReset
  exact ite (h.map _) (ite (ite h (h.secureReset _)) (ite (h.nonSecureReset false) h))

theorem glowPass (cycles : Nat) : Stands s (u.glowPass cycles) := ite (h.map _) h

/-! #### What a written register sets off -/

theorem snapShift (diff : Nat) : Stands s (u.snapShift diff) := by
  unfold State.snapShift
  exact ite h (h.retWrite 0 _)

theorem egShift (diff : Nat) : Stands s (u.egShift diff) := by
  unfold State.egShift
  exact ite h (h.retWrite 0xA0 _)

theorem rtcSet (old : Dev) : Stands s (u.rtcSet old) := by
  unfold State.rtcSet
  exact ((h.map _).egShift _).snapShift _

theorem wdtKick (v : Nat) : Stands s (u.wdtKick v) := by
  unfold State.wdtKick
  exact ite (h.map _) (h.resetBoot .w 0)

theorem pwrHook (old : Dev) (off wo : Nat) : Stands s (u.pwrHook old off wo) := by
  unfold State.pwrHook
  exact ite (ite (h.softReset _ _) h) (ite (h.wdtKick _) (ite (h.rtcSet old) h))

/-- A word below 8 is refused. -/
theorem otpProgram (back : Option Word) : Stands s (u.otpProgram back) := by
  unfold State.otpProgram
  dsimp only
  split
  next ht =>
    have hb := h.burn ht.2
    exact ite ((hb _).map _) ((hb _).map _)
  next => exact h.map _

theorem otpRead : Stands s u.otpRead := h.map _

theorem botHook (off wo : Nat) (back : Option Word) : Stands s (u.botHook off wo back) := by
  have hp := ite (c := wo.testBit 1) (h.otpProgram back) h
  unfold State.botHook
  exact ite (ite (h.resetBoot .x 0) h) (ite (ite hp.otpRead hp) h)

theorem wldHook (old : Dev) (off en : Nat) : Stands s (u.wldHook old off en) := by
  unfold State.wldHook
  exact ite (h.map _) (ite (h.map _) (ite (h.regionTags _ _ en) (ite (h.map _) h)))

theorem ringCtrl (old : Dev) (n : Nat) : Stands s (u.ringCtrl old n) := by
  unfold State.ringCtrl
  exact ite (ite (h.map _) ((h.map _).ringStart n)) (ite ((h.map _).ringStop n) h)

theorem hstHook (old : Dev) (off : Nat) : Stands s (u.hstHook old off) := ite (h.ringCtrl old _) h

theorem afterWrite (old : Dev) (b : Blk) (off wo en : Nat) (back : Option Word) : Stands s (u.afterWrite old b off wo en back) := by
  unfold State.afterWrite
  cases b with
  | isl => exact ite (h.islandWrite wo) h
  | pwr => exact h.pwrHook old off wo
  | bot => exact h.botHook off wo back
  | wld => exact h.wldHook old off en
  | hst => exact h.hstHook old off
  | haz | hed | sec | win | pgn | lmp | saf | ser | net | kvt | twn => exact h.map _
  | flt | evt => exact h

theorem regWrite (secure : Bool) (b : Blk) (off val en : Nat) (x : Aside) : Stands s (u.regWrite secure b off val en x) := by
  unfold State.regWrite
  split
  · exact h
  · exact ite h ((h.map _).afterWrite _ b off _ _ _)

/-! #### Accesses on the bus -/

theorem busWrite (acc : Access) (a : Nat) (val : Word) (x : Aside) : Stands s (u.busWrite acc a val x) := by
  have hs := h.map (fun d => d.stalled a)
  unfold State.busWrite
  refine ite (hs.map _) (ite (hs.map _) (ite (hs.map _) ?_))
  dsimp only
  split
  · exact hs.map _
  · split
    case h_1 => exact hs.regWrite _ _ _ _ _ x
    case h_2 | h_3 | h_4 => exact hs.mem _ _
    case h_5 => exact ite (hs.host _) hs
    case h_6 | h_7 => exact hs.map _
    case h_8 | h_9 => exact hs

theorem busRead (acc : Access) (a : Nat) : Stands s (u.busRead acc a) := by
  have hs := h.map (fun d => d.stalled a)
  unfold State.busRead
  refine ite (hs.map _) (ite ?_ (ite (hs.map _) ?_))
  · split
    exact hs.dev _
  · split
    · exact hs.map _
    · split
      case h_1 | h_7 =>
        split
        exact hs.dev _
      case h_5 => exact ite (hs.map _) (hs.map _)
      all_goals exact hs.map _

theorem busFetch (acc : Access) (a : Nat) : Stands s (u.busFetch acc a) := by
  unfold State.busFetch
  exact ite ((h.map _).map _) ((h.map _).busRead acc a)

/-! #### Clocks, memory errors and failed requests -/

theorem clockIslandReset (i : Nat) : Stands s (u.clockIslandReset i) := by
  unfold State.clockIslandReset
  exact (ite h (h.island _)).map _

theorem clockReact (i : Nat) : Stands s (u.clockReact i) := by
  unfold State.clockReact
  exact ite (h.map _) (ite (h.map _) ((h.map _).clockIslandReset i))

theorem clockGate (i count : Nat) (stopped : Bool) : Stands s (u.clockGate i count stopped) := by
  unfold State.clockGate
  exact ite h (ite ((h.map _).map _) (ite ((h.dev _).clockReact i) (h.dev _)))

theorem bufMemError (n : Nat) : Stands s (u.bufMemError n) := by
  have hr := h.ringRead n (u.dev.ringDesc n) 32
  unfold State.bufMemError
  exact ite h (ite (h.bufDone n _ _ _ _) (ite (hr.complete _ 6 0) ((hr.mapIf _ _).frameDone n _ _ _ _ _ _ _)))

theorem ringMemError (n : Nat) (buffer : Bool) : Stands s (u.ringMemError n buffer) := by
  unfold State.ringMemError
  exact ite h (ite (h.bufMemError n) (h.ringFail n 2))

theorem memError (acc : Access) (a : Nat) (fetch corrected buffer : Bool) : Stands s (u.memError acc a fetch corrected buffer) := by
  have hc := h.map (fun d => d.eccFixed 1)
  unfold State.memError
  exact ite (ite hc (ite (hc.busFetch acc a) (hc.busRead acc a))) (ite ((h.map _).ringMemError _ buffer) (h.map _))

theorem cplFail (acc : Access) (a us : Nat) (error buffer : Bool) : Stands s (u.cplFail acc a us error buffer) := by
  unfold State.cplFail
  split
  · exact ite h (ite ((h.map _).ringMemError _ buffer) (ite ((h.map _).map _) (h.map _)))
  · exact h

/-! #### Commands of CMD rings -/

theorem runCmd (c : Cmd) (world ok : Bool) {act : State → State × Done} (ha : ∀ v, Stands s v → Stands s (act v).1) :
    Stands s (u.runCmd c world ok act) := by
  unfold State.runCmd
  refine ite h ?_
  split
  · exact h.ringLost _ _ _ _
  · exact ite (h.complete c _ _) (ite (h.complete c _ _) (ite (h.complete c _ _) ((ha u h).complete c _ _)))

theorem onDev (f : Dev → Dev × Done) : Stands s (Machine.onDev f u).1 := h.dev _

theorem streamCtrl (kind n start ring : Nat) : Stands s (u.streamCtrl kind n start ring).1 := by
  unfold State.streamCtrl
  exact iteFst h (iteFst h (iteFst h (iteFst (ite h (h.map _)) (iteFst ((h.map _).bufFlush ring) h))))

theorem appCmd (ring port addr len : Nat) : Stands s (u.appCmd ring port addr len).1 := by
  unfold State.appCmd
  refine iteFst h (iteFst h (iteFst h ?_))
  split
  · exact h.ringMiss ring addr false
  · dsimp only
    exact (h.ringRead ring addr len).map _

/-! #### Doorbells, write-backs and interrupts -/

theorem hostBatch (batch : List (Nat × Byte)) : Stands s (u.hostBatch batch) := h.host _

theorem poll (n : Nat) (mirror : Option Word) : Stands s (u.poll n mirror) := by
  unfold State.poll
  refine ite h ?_
  dsimp only
  split
  · exact h.ringLost n _ _ _
  · exact (h.ringRead n _ 4).map _

theorem writeBackDue (n : Nat) : Stands s (u.writeBackDue n) := by
  unfold State.writeBackDue
  refine ite h ?_
  split
  · exact h.ringLost n _ _ _
  · exact h.writeBack n

theorem ringInterrupt (n : Nat) : Stands s (u.ringInterrupt n) := by
  unfold State.ringInterrupt
  exact ite ((h.writeBackDue n).map _) h

theorem overflowDue (n : Nat) : Stands s (u.overflowDue n) := by
  unfold State.overflowDue
  refine ite ?_ h
  split
  · exact ite (h.ringLost n _ _ _) h
  · exact h.flushOverflow n

/-! #### The frame of every command -/

theorem finish : Stands s u.finish := by
  unfold State.finish
  exact (((h.map _).streams.serRefuseAll.serDrainAll.map _).apps.glow).deliverAll 8

theorem run (t : Stamp) (ns : Nat) {f : State → State} (hf : ∀ v, Stands s v → Stands s (f v)) : Stands s (u.run t ns f) := by
  unfold State.run
  exact ite (hf _ (h.map _)).finish (h.map _)

theorem runPower (t : Stamp) {f : State → State} (hf : ∀ v, Stands s v → Stands s (f v)) : Stands s (u.runPower t f) := by
  have hv := hf _ (h.map (fun d => if d.power.mode = .on then d.arrive t 0 else { d with out := {} }))
  unfold State.runPower
  exact ite hv.finish hv

theorem runDev (t : Stamp) (ns : Nat) (f : Dev → Dev) : Stands s (u.runDev t ns f) := h.run t ns (fun _ hv => hv.map f)

end

end Stands

end Sys2Proof.Machine
end

section
/-! ### Every command -/

namespace Sys2Proof.Machine

/-- Every command leads to a next state, in which the queue and OTP words 0 to 7 stand. -/
theorem exec_stands (c : Instr) (s : State) : ∃ u, exec c s = .next u ∧ Stands s u := by
  have hs := Stands.refl s
  cases c with
  | regionZeroed | scrubPass | svLockstep | coreTimerInterrupt | pcieLinkUp | vfieldRange | vsensLow | dozeEntry | dozeExit | mappingPairCapture
  | d2dLinkLost | sampleRecord | frequencyWord | gambitWindowExpiry | headSysStuck | endgameExpiry | currentLimitTrip | switchReclose
  | blankPinEdge | blankCommandEnd | blankOverlong | bankHoldEnd | bankClamp | bankClampRelease | auxResult | hazSelftest | clearConfirmExpiry
  | secSweepTimeout | panelAuthorisation | comparatorChange | periodVerdict | winSelftest | winSelftestMissed | dacReadback | pgPeriodBoundary
  | provingPulse | flashPhaseChange | siFilterChange | testPulseStart | testWindowEnd | tpFault | fbDiscrepancy | fbOssdNopulse
  | panelHoldComplete | speedHoldExpiry | fbResetStuck | fbButtonStuck | soFeedback | soStuckOff | lineIdle | serCardInserted | linkUp | linkDown
  | kvtHeartbeatRx | kvtSynRx | kvtHeadEventRx | kvtGambitRx | kvtGambitConfirmRx | kvtGambitCancelRx | kvtSectionStateRx | kvtAspectRequestRx
  | kvtAspectFallbackRx | kvtLampStatusRx | resetPermit | kvtSafetyStateRx | kvtAppRx | kvtAckRx | kvtRetransmit | kvtSynResend
  | kvtHeartbeatSend | kvtAckDelay | kvtTimeout | kvtReopen | codewordReceived | timeMarkRx | timeMarkSend | castlePlanRx | castleAckRx
  | castleAbortRx | castleAckDeadline | castleSwitch | decisionRx | decisionJudge | digestRx | hashSend | hashRx | twinPartnerLoss | promoteJudge
  | scheduledEdge | settlingEnd | vsensRestored | startGlitch | referenceSlot | testPulseEnd =>
    exact ⟨_, rfl, hs.runDev _ _ _⟩
  | islandResetDusk | islandResetSer | islandResetPort | wdtKick | rtcSet | reload | otpRead | otpProgram | peakClear | abArm | cardArm
  | cardStop | linkRelease | ptpSet | ptpOffsetStep | kvtKeyWrite | keyCommit | ringEnable | ringDisable | windowDisable | regionTagWrite
  | watWrite | apRunWrite | headEnable | headConfigWrite | sectionEnable | monitorEnable | monitorThresholdWrite | generatorEnable | lampEnable
  | signalEnable | functionEnable | safeOutputEnable | serialPortEnable | portEnable | kvtEnable | twinEnable | registerWrite =>
    exact ⟨_, rfl, hs.run _ _ (fun _ hv => hv.busWrite _ _ _ _)⟩
  | aspectRequest | lampRearm | pgClear | sectionReset | groupRelease | endgameAck | fbReset | castle | senThreshold | wmThreshold | blank =>
    exact ⟨_, rfl, hs.run _ _ (fun _ hv => hv.runCmd _ _ _ (fun _ hw => hw.onDev _))⟩
  | nop => exact ⟨_, rfl, hs.run _ _ (fun _ hv => .ite (hv.runCmd _ _ _ (fun _ hw => hw)) (hv.runCmd _ _ _ (fun _ hw => hw)))⟩
  | appSend => exact ⟨_, rfl, hs.run _ _ (fun _ hv => hv.runCmd _ _ _ (fun _ hw => hw.appCmd _ _ _ _))⟩
  | streamCtrl => exact ⟨_, rfl, hs.run _ _ (fun _ hv => hv.runCmd _ _ _ (fun _ hw => hw.streamCtrl _ _ _ _))⟩
  | serFlush => exact ⟨_, rfl, hs.run _ _ (fun _ hv => hv.runCmd _ _ _ (fun _ hw => hw.serFlush _))⟩
  | bootImage =>
    exact ⟨_, rfl, hs.run _ _ (fun _ hv => .ite (.ite hv (.ite (hv.bootImage _) (hv.complete _ _ _))) (hv.runCmd _ _ _ (fun _ hw => hw)))⟩
  | secureWorldReset => exact ⟨_, rfl, hs.run _ _ (fun _ hv => (hv.map _).busWrite _ _ _ _)⟩
  | nonSecureWorldReset => exact ⟨_, rfl, hs.run _ _ (fun _ hv => .ite (.ite (hv.nonSecureReset _) hv) (hv.busWrite _ _ _ _))⟩
  | headCounterPreset => exact ⟨_, rfl, hs.run _ _ (fun _ hv => (hv.busWrite _ _ _ _).map _)⟩
  | counterPairLowRead => exact ⟨_, rfl, hs.run _ _ (fun _ hv => hv.busRead _ _)⟩
  | violatingAccess | hostWindowAccess => exact ⟨_, rfl, hs.run _ _ (fun _ hv => .ite (hv.busWrite _ _ _ _) (hv.busRead _ _))⟩
  | instructionFetchRefused => exact ⟨_, rfl, hs.run _ _ (fun _ hv => hv.busFetch _ _)⟩
  | doorbellWrite => exact ⟨_, rfl, hs.run _ _ (fun _ hv => .ite ((hv.hostBatch _).map _) ((hv.hostBatch _).busWrite _ _ _ _))⟩
  | doorbellPoll => exact ⟨_, rfl, hs.run _ _ (fun _ hv => (hv.hostBatch _).poll _ _)⟩
  | writebackWrite => exact ⟨_, rfl, hs.run _ _ (fun _ hv => hv.writeBackDue _)⟩
  | ringInterrupt => exact ⟨_, rfl, hs.run _ _ (fun _ hv => hv.ringInterrupt _)⟩
  | strmBufferComplete => exact ⟨_, rfl, hs.run _ _ (fun _ hv => hv.strmExpire _)⟩
  | hstEvtOverflow => exact ⟨_, rfl, hs.run _ _ (fun _ hv => hv.overflowDue _)⟩
  | pcieLinkDown => exact ⟨_, rfl, hs.run _ _ (fun _ hv => hv.linkLost)⟩
  | pcieCompletionTimeout => exact ⟨_, rfl, hs.run _ _ (fun _ hv => hv.cplFail _ _ _ _ _)⟩
  | watchdogExpiry => exact ⟨_, rfl, hs.run _ _ (fun _ hv => hv.watchdog _)⟩
  | holdEntry => exact ⟨_, rfl, hs.run _ _ (fun _ hv => hv.holdEnter)⟩
  | holdExit => exact ⟨_, rfl, hs.run _ _ (fun _ hv => hv.holdExit)⟩
  | orderlyShutdown => exact ⟨_, rfl, hs.run _ _ (fun _ hv => hv.shutdown)⟩
  | bootSourceTry => exact ⟨_, rfl, hs.run _ _ (fun _ hv => hv.bootTry _ _)⟩
  | pcieTimeout => exact ⟨_, rfl, hs.run _ _ (fun _ hv => hv.pcieTimeout)⟩
  | sealScan => exact ⟨_, rfl, hs.run _ _ (fun _ hv => hv.sealScan _)⟩
  | sealScanRetry => exact ⟨_, rfl, hs.run _ _ (fun _ hv => hv.sealRetry _)⟩
  | engineStart => exact ⟨_, rfl, hs.run _ _ (fun _ hv => hv.enginesStart)⟩
  | clockMonitorGate => exact ⟨_, rfl, hs.run _ _ (fun _ hv => hv.clockGate _ _ _)⟩
  | characterReceived => exact ⟨_, rfl, hs.run _ _ (fun _ hv => hv.serReceive _ _)⟩
  | autobaudQuiet => exact ⟨_, rfl, hs.run _ _ (fun _ hv => hv.abQuiet _ _)⟩
  | rxTimeoutFlush => exact ⟨_, rfl, hs.run _ _ (fun _ hv => hv.serTimeout _)⟩
  | transmitCharacter => exact ⟨_, rfl, hs.run _ _ (fun _ hv => hv.serTransmit _ _ _ _)⟩
  | serCardRemoved => exact ⟨_, rfl, hs.run _ _ (fun _ hv => hv.cardOut _ _ _)⟩
  | frameReceived => exact ⟨_, rfl, hs.run _ _ (fun _ hv => hv.frameReceived _ _ _ _ _)⟩
  | frameTransmit => exact ⟨_, rfl, hs.run _ _ (fun _ hv => hv.frameTransmit _ _)⟩
  | lockWaitExpiry => exact ⟨_, rfl, hs.run _ _ (fun _ hv => (hv.map _).enginesStart)⟩
  | uncorrectableRead => exact ⟨_, rfl, hs.run _ _ (fun _ hv => hv.memError _ _ _ _ _)⟩
  | powerOnResetRelease => exact ⟨_, rfl, hs.runPower _ (fun _ hv => hv.porRelease _ _ _ _ _)⟩
  | allPowerLost => exact ⟨_, rfl, hs.runPower _ (fun _ hv => hv.allLost)⟩
  | brownOut => exact ⟨_, rfl, hs.runPower _ (fun _ hv => hv.brownOut _ _)⟩
  | externalReset => exact ⟨_, rfl, hs.runPower _ (fun _ hv => hv.resetPin _)⟩
  | vbatLow | glowSupplySwitchover | vbatRestored => exact ⟨_, rfl, hs.runPower _ (fun _ hv => hv.map _)⟩
  | wakeSource => exact ⟨_, rfl, hs.runPower _ (fun _ hv => (hv.glowPass _).wake _ _)⟩
  | wakeFail => exact ⟨_, rfl, hs.runPower _ (fun _ hv => (hv.glowPass _).wakeFail)⟩
  | standbyPowerOff => exact ⟨_, rfl, hs.runPower _ (fun _ hv => hv.standbyOff)⟩
  | rstNRise => exact ⟨_, rfl, hs.runPower _ (fun _ hv => hv.resetPinRise _)⟩
  | sampleTimeWrap => exact ⟨_, rfl, .ite (hs.run _ _ (fun _ hv => hv)) (hs.run _ _ (fun _ hv => hv))⟩

/-- Settles O7: of all that a command does only the programming of a word writes the OTP, and it refuses the words below 8. -/
theorem otpLowWordsFixed : Obligations.OtpLowWordsFixed := by
  intro c s u n hn he
  obtain ⟨w, hw, hst⟩ := exec_stands c s
  obtain rfl : w = u := Host.Outcome.next.inj (hw.symm.trans he)
  exact hst.otp n hn

end Sys2Proof.Machine
end

section
/-! ### Masks and memories, byte by byte -/

namespace Sys2Proof.Machine

/-- A bit that is set in a mask reads as it was set, every other bit as it was. -/
theorem testBit_setMask (m i n : Nat) (b : Bool) : (setMask m i b).testBit n = if n = i then b else m.testBit n := by
  cases b with
  | false =>
    simp only [setMask, Bool.false_eq_true, if_false, testBit_sub_and, Nat.testBit_two_pow]
    split <;> simp_all [eq_comm]
  | true =>
    simp only [setMask, if_true, Nat.testBit_or, Nat.testBit_two_pow]
    split <;> simp_all [eq_comm]

/-- A zeroed byte reads 0. -/
theorem memByte_memZero_in (m : List Host.Cell) {a n x : Nat} (h : a ≤ x ∧ x < a + n) : memByte (memZero m a n) x = 0 :=
  memByte_filter_out _ _ (fun _ => by simpa using h)

/-- Zeroing a range makes no byte anything but 0. -/
theorem memByte_memZero_of_zero {m : List Host.Cell} {x : Nat} (h : memByte m x = 0) (a n : Nat) : memByte (memZero m a n) x = 0 := by
  by_cases hx : a ≤ x ∧ x < a + n
  · exact memByte_memZero_in m hx
  · induction m with
    | nil => rfl
    | cons c m ih =>
      simp only [memByte, tabGet, memZero, List.filter_cons] at h ih ⊢
      by_cases hc : c.1 = x
      · rw [if_pos hc] at h
        rw [if_pos (by simp; omega), tabGet, if_pos hc, h]
      · rw [if_neg hc] at h
        split_ifs
        · rw [tabGet, if_neg hc, ih h]
        · exact ih h

/-- A written byte reads as it was written, every other byte as it was. -/
theorem memByte_memWrite_one (m : List Host.Cell) (a : Nat) (b : Byte) (y : Nat) :
    memByte (memWrite m a [b]) y = if y = a then b else memByte m y := by
  split_ifs with h
  · subst h
    exact tabGet_tabPut_same 0 m y b
  · exact tabGet_tabPut_ne 0 0 m b h

/-- The first `n` bytes of a value go into a memory where they are enabled. -/
def putLanes (acc : Access) (a : Nat) (val : Word) (m : List Host.Cell) (n : Nat) : List Host.Cell :=
  (List.range n).foldl (fun m i => if acc.be.getLsbD i then memWrite m (a + i) [val.extractLsb' (8 * i) 8] else m) m

theorem memByte_putLanes (acc : Access) (a : Nat) (val : Word) (m : List Host.Cell) (n y : Nat) :
    memByte (putLanes acc a val m n) y
      = if a ≤ y ∧ y < a + n ∧ acc.be.getLsbD (y - a) = true then val.extractLsb' (8 * (y - a)) 8 else memByte m y := by
  induction n with
  | zero => rw [if_neg (by omega)]; rfl
  | succ n ih =>
    have hstep : putLanes acc a val m (n + 1) = if acc.be.getLsbD n
        then memWrite (putLanes acc a val m n) (a + n) [val.extractLsb' (8 * n) 8] else putLanes acc a val m n := by
      simp only [putLanes, List.range_succ, List.foldl_append, List.foldl_cons, List.foldl_nil]
    by_cases hy : y = a + n
    · subst hy
      rw [hstep, Nat.add_sub_cancel_left]
      by_cases hbe : acc.be.getLsbD n = true
      · rw [if_pos hbe, memByte_memWrite_one, if_pos rfl, if_pos ⟨by omega, by omega, hbe⟩]
      · rw [if_neg hbe, ih, if_neg (by omega), if_neg (fun h => hbe h.2.2)]
    · have hother : memByte (putLanes acc a val m (n + 1)) y = memByte (putLanes acc a val m n) y := by
        rw [hstep]
        split_ifs
        · rw [memByte_memWrite_one, if_neg hy]
        · rfl
      rw [hother, ih]
      exact if_congr ⟨fun ⟨h1, _, h3⟩ => ⟨h1, by omega, h3⟩, fun ⟨h1, _, h3⟩ => ⟨h1, by omega, h3⟩⟩ rfl rfl

theorem putBytes_eq (acc : Access) (a : Nat) (val : Word) (m : List Host.Cell) : putBytes acc a val m = putLanes acc a val m 4 := rfl

/-- An enabled byte reads as it was written. -/
theorem memByte_putBytes_enabled (acc : Access) (a : Nat) (val : Word) (m : List Host.Cell) {k : Nat} (hk : k < 4)
    (hbe : acc.be.getLsbD k = true) : memByte (putBytes acc a val m) (a + k) = val.extractLsb' (8 * k) 8 := by
  rw [putBytes_eq, memByte_putLanes, Nat.add_sub_cancel_left, if_pos ⟨by omega, by omega, hbe⟩]

/-- A byte outside the written word reads as it was. -/
theorem memByte_putBytes_out (acc : Access) (a : Nat) (val : Word) (m : List Host.Cell) {y : Nat} (hy : ¬ (a ≤ y ∧ y < a + 4)) :
    memByte (putBytes acc a val m) y = memByte m y := by
  rw [putBytes_eq, memByte_putLanes, if_neg (by omega)]

end Sys2Proof.Machine
end

section
/-! ### Accesses of cores through host windows (R138, R186) -/

namespace Sys2Proof.Machine

/-- Windows lie above all memory of the device. -/
theorem Dev.window_le {d : Dev} {x w : Nat} (h : d.place x = .window w) : 0x20000000 ≤ x := by
  unfold Dev.place at h
  split_ifs at h with h0 h1 h2 h3 h4 h5 h6 h7
  · exact h7.1
  · split at h
    · cases h
    · dsimp only at h
      split_ifs at h
      split at h <;> cases h

/-- Only SRAM is ever being zeroed (R137). -/
theorem Dev.stalled_high {d : Dev} {x : Nat} (h : 0x08800000 ≤ x) : d.stalled x = d := if_neg (by omega)

section
variable {acc : Access} (hc : acc.master.val < 6)
include hc

/-- The MSI-X table, the mirror page and the BARs concern inbound accesses alone. -/
theorem core_not_inbound (x : Nat) : ¬ inMsix acc x = true ∧ ¬ acc.onMirror x = true ∧ ¬ (!acc.mapped x) = true := by
  have h6 : acc.master.val ≠ 6 := by omega
  simp [inMsix, Access.onMirror, Access.mapped, h6]

variable {s : State} {x w : Nat} (hp : s.dev.place x = .window w)
include hp

theorem busRead_window (hv : s.dev.violation acc x false = none) : s.busRead acc x
    = if s.dev.on F.HST_STATUS.LINK_UP then s.map (fun d => d.reply (getBytes acc (d.hostAddr w x) s.store.host) .ok)
      else s.map (fun d => d.reply 0 .loadFault) := by
  obtain ⟨hin, hmir, hmap⟩ := core_not_inbound hc x
  have hst : s.map (fun d => d.stalled x) = s := by
    rw [State.map, Dev.stalled_high (by have := Dev.window_le hp; omega)]
  have hans : linkAnswer acc = .loadFault := if_pos hc
  rw [State.busRead, hst, if_neg hin, if_neg hmir, if_neg hmap]
  simp only [hv, hp, hans]

theorem busWrite_window (v : Word) (hv : s.dev.violation acc x true = none) : s.busWrite acc x v {}
    = if s.dev.on F.HST_STATUS.LINK_UP
      then { s with store := { s.store with host := putBytes acc (s.dev.hostAddr w x) v s.store.host } } else s := by
  obtain ⟨hin, hmir, hmap⟩ := core_not_inbound hc x
  have hst : s.map (fun d => d.stalled x) = s := by
    rw [State.map, Dev.stalled_high (by have := Dev.window_le hp; omega)]
  rw [State.busWrite, hst, if_neg hin, if_neg hmir, if_neg hmap]
  simp only [hv, hp]

end

/-- An answer writes no register. -/
theorem sameRegsBut.reply {l : List (Blk × Nat)} {a d : Dev} (h : sameRegsBut l a d) (v : Word) (x : Answer) : sameRegsBut l a (d.reply v x) :=
  h.upd rfl rfl

/-- Settles O33: a core's access is no inbound one and its window no memory that is being zeroed, so the link alone decides. -/
theorem hostWindowAccesses : Obligations.HostWindowAccesses := by
  intro s t acc x v w a h hc hp
  refine ⟨fun hv => ⟨fun hup => ?_, fun hdown => ?_⟩, fun hv => ⟨fun hup m hm => ?_, fun hdown => ?_⟩⟩
  · refine ⟨does_run h ?_, (sameRegsBut.refl _ _).reply _ _⟩
    exact (busRead_window hc (s := { s with dev := a }) hp hv).trans (if_pos hup)
  · refine ⟨does_run h ?_, (sameRegsBut.refl _ _).reply _ _⟩
    exact (busRead_window hc (s := { s with dev := a }) hp hv).trans (if_neg (by simp [hdown]))
  · refine ⟨does_run h ?_, fun k hk hbe => ?_, fun y hy => ?_⟩
    · rw [hm]
      exact (busWrite_window hc (s := { s with dev := a }) hp v hv).trans (if_pos hup)
    · rw [hm, memByte_putBytes_enabled _ _ _ _ hk hbe]
    · rw [hm, memByte_putBytes_out _ _ _ _ hy]
  · refine ⟨does_run h ?_, sameRegsBut.refl _ _⟩
    exact (busWrite_window hc (s := { s with dev := a }) hp v hv).trans (if_neg (by simp [hdown]))

end Sys2Proof.Machine
end

section
/-! ### Instruction fetches of secure masters (R141, R142) -/

namespace Sys2Proof.Machine

/-- Recording a violation writes the registers that `violRegs` lists. -/
theorem Dev.logViolation_regs (d : Dev) (acc : Access) (x : Nat) (write : Bool) (kind : Nat) :
    sameRegsBut d.violRegs d (d.logViolation acc x write kind) := by
  have hm : ∀ p ∈ d.violRegs, p ∈ d.violRegs := fun _ => id
  simp only [Dev.violRegs, List.forall_mem_append, List.forall_mem_cons] at hm
  obtain ⟨⟨haddr, hinfo, hlo, hhi, hrep, hcnt, hflag, -⟩, hev⟩ := hm
  unfold Dev.logViolation
  extract_lets ring info next newest st same wrapped d1 d2 d3 d4 d5 d6 d7 d8 unread d9 d10
  have h4 : sameRegsBut d.violRegs d d4 := ((((sameRegsBut.refl _ d).setFld (F.WLD_VLOG_ADDR.ADDR next) x haddr).setReg .wld
    (F.WLD_VLOG_INFO.KIND next).off _ hinfo).setFld (F.WLD_VLOG_TIME_LO.V next) _ hlo).setFld (F.WLD_VLOG_TIME_HI.V next) _ hhi
  have h7 : sameRegsBut d.violRegs d d7 :=
    ((h4.setFld F.WLD_VIOL_CNT.NEXT _ hcnt).inc F.WLD_VIOL_CNT.ENTRIES 1 hcnt).setFld F.WLD_VIOL_FLAG.VIOLATION 1 hflag
  have h9 : sameRegsBut d.violRegs d d9 := ((h7.setFld F.WLD_VIOL_FLAG.WRAPPED 1 hflag).ite h7).upd rfl rfl
  exact ((sameRegsBut.refl _ d).inc (F.WLD_VLOG_INFO.REPEAT newest) 1 hrep).ite ((h9.pend 65 false).note _ _ _ _ hev)

/-- The word INFO of an entry of the violation log (Table WLD-6). -/
def violInfo (acc : Access) (write : Bool) (kind : Nat) : Nat :=
  acc.master.val + (if acc.master.val = 7 then acc.ring.val else 0) * 16 + write.toNat * 1024 + kind * 2048

/-- The address and INFO of entry `n` are written. -/
def Dev.violWhat (d : Dev) (n x info : Nat) : Dev :=
  (d.setFld (F.WLD_VLOG_ADDR.ADDR n) x).setReg .wld (F.WLD_VLOG_INFO.KIND n).off (BitVec.ofNat 32 info)

/-- The time of entry `n` is written, and the entry is counted. -/
def Dev.violWhen (d : Dev) (n : Nat) : Dev :=
  (((d.setFld (F.WLD_VLOG_TIME_LO.V n) (d.now.toNat % 2 ^ 32)).setFld (F.WLD_VLOG_TIME_HI.V n) (d.now.toNat / 2 ^ 32)).setFld
    F.WLD_VIOL_CNT.NEXT ((n + 1) % 16)).inc F.WLD_VIOL_CNT.ENTRIES

/-- The flags of entry `n` are set, and it is unread. -/
def Dev.violShown (d : Dev) (n : Nat) (wrapped : Bool) : Dev :=
  let e := d.setFld F.WLD_VIOL_FLAG.VIOLATION 1
  let e := if wrapped then e.setFld F.WLD_VIOL_FLAG.WRAPPED 1 else e
  { e with worlds := { e.worlds with vlogUnread := setMask e.worlds.vlogUnread n true } }

/-- Where the log is empty a violation makes a new entry. -/
theorem Dev.logViolation_first {d : Dev} {n : Nat} (h : d.fld F.WLD_VIOL_CNT.ENTRIES = 0) (hn : n = d.fld F.WLD_VIOL_CNT.NEXT) (acc : Access)
    (x : Nat) (write : Bool) (kind : Nat) : d.logViolation acc x write kind
      = ((((d.violWhat n x (violInfo acc write kind)).violWhen n).violShown n (d.worlds.vlogUnread.testBit n)).pend 65).note
        .wldViolation acc.src (violInfo acc write kind) (leBytes 4 x) := by
  subst hn
  exact if_neg (fun hs => hs.1 h)

/-! ### The entry -/

section
variable {d : Dev} {n : Nat}

theorem Dev.violWhat_addr {x : Nat} (hx : x < 2 ^ 32) (info : Nat) : (d.violWhat n x info).fld (F.WLD_VLOG_ADDR.ADDR n) = x := by
  have hother : (F.WLD_VLOG_ADDR.ADDR n).place ≠ (.wld, (F.WLD_VLOG_INFO.KIND n).off) := by
    simp only [Fld.place, F.WLD_VLOG_ADDR.ADDR, F.WLD_VLOG_INFO.KIND, ne_eq, Prod.mk.injEq, true_and]
    omega
  exact (Dev.fld_congr (Dev.reg_setReg_ne _ _ hother)).trans ((d.fld_setFld_same _ _ (by decide : 0 + 32 ≤ 32)).trans (Nat.mod_eq_of_lt hx))

theorem Dev.violWhat_kind (x : Nat) (acc : Access) (write : Bool) {kind : Nat} (hk : kind < 8) :
    (d.violWhat n x (violInfo acc write kind)).fld (F.WLD_VLOG_INFO.KIND n) = kind := by
  have hmaster := acc.master.isLt
  have hring : (if acc.master.val = 7 then acc.ring.val else 0) ≤ 63 := by
    have := acc.ring.isLt
    split_ifs <;> omega
  have hwrite : write.toNat ≤ 1 := Bool.toNat_le write
  have hinfo : violInfo acc write kind / 2048 = kind ∧ violInfo acc write kind < 2 ^ 32 := by
    rw [violInfo]
    omega
  simp only [Dev.fld, Dev.violWhat, F.WLD_VLOG_INFO.KIND, Dev.reg_setReg_same, BitVec.extractLsb'_toNat, BitVec.toNat_ofNat,
    Nat.shiftRight_eq_div_pow]
  omega

theorem Dev.violWhat_entries (x info : Nat) : (d.violWhat n x info).fld F.WLD_VIOL_CNT.ENTRIES = d.fld F.WLD_VIOL_CNT.ENTRIES := by
  have hinfo : F.WLD_VIOL_CNT.ENTRIES.place ≠ (.wld, (F.WLD_VLOG_INFO.KIND n).off) := by
    simp [Fld.place, F.WLD_VIOL_CNT.ENTRIES, F.WLD_VLOG_INFO.KIND]
    omega
  have haddr : F.WLD_VIOL_CNT.ENTRIES.place ≠ (F.WLD_VLOG_ADDR.ADDR n).place := by
    simp [Fld.place, F.WLD_VIOL_CNT.ENTRIES, F.WLD_VLOG_ADDR.ADDR]
    omega
  exact (Dev.fld_congr (Dev.reg_setReg_ne _ _ hinfo)).trans (Dev.fld_congr (d.reg_setFld_ne _ _ haddr))

/-- The fields of the log that tell when an entry was made and how many there are. -/
def violWhenFlds (n : Nat) : Set Fld := {F.WLD_VLOG_TIME_LO.V n, F.WLD_VLOG_TIME_HI.V n, F.WLD_VIOL_CNT.NEXT, F.WLD_VIOL_CNT.ENTRIES}

/-- The flags of the log. -/
def violFlagFlds : Set Fld := {F.WLD_VIOL_FLAG.VIOLATION, F.WLD_VIOL_FLAG.WRAPPED}

theorem Touches.violWhen {W : Set Fld} {a : Dev} (h : Touches W a d) (n : Nat) (hW : violWhenFlds n ⊆ W) : Touches W a (d.violWhen n) :=
  (((h.setFld (F.WLD_VLOG_TIME_LO.V n) _ (hW (by simp [violWhenFlds])) (by decide : 0 + 32 ≤ 32)).setFld (F.WLD_VLOG_TIME_HI.V n) _
    (hW (by simp [violWhenFlds])) (by decide : 0 + 16 ≤ 32)).setFld F.WLD_VIOL_CNT.NEXT _ (hW (by simp [violWhenFlds])) Fld.fits).inc
    F.WLD_VIOL_CNT.ENTRIES 1 (hW (by simp [violWhenFlds])) Fld.fits

theorem Touches.violShown {W : Set Fld} {a : Dev} (h : Touches W a d) (n : Nat) (wrapped : Bool) (hW : violFlagFlds ⊆ W) :
    Touches W a (d.violShown n wrapped) := by
  have hflag := h.setFld F.WLD_VIOL_FLAG.VIOLATION 1 (hW (by simp [violFlagFlds])) Fld.fits
  exact (Touches.ite (hflag.setFld F.WLD_VIOL_FLAG.WRAPPED 1 (hW (by simp [violFlagFlds])) Fld.fits) hflag).upd rfl rfl rfl rfl rfl rfl rfl

/-- The first entry is counted as one. -/
theorem Dev.violWhen_entries (h : d.fld F.WLD_VIOL_CNT.ENTRIES = 0) : (d.violWhen n).fld F.WLD_VIOL_CNT.ENTRIES = 1 := by
  have htime : ((d.setFld (F.WLD_VLOG_TIME_LO.V n) (d.now.toNat % 2 ^ 32)).setFld (F.WLD_VLOG_TIME_HI.V n) (d.now.toNat / 2 ^ 32)).fld
      F.WLD_VIOL_CNT.ENTRIES = 0 := by
    rw [Dev.fld_setFld_apart _ _ _ _ (by decide : 0 + 16 ≤ 32), Dev.fld_setFld_apart _ _ _ _ (by decide : 0 + 32 ≤ 32), h]
    · exact Fld.apart_of_off (by simp [F.WLD_VLOG_TIME_LO.V, F.WLD_VIOL_CNT.ENTRIES]; omega)
    · exact Fld.apart_of_off (by simp [F.WLD_VLOG_TIME_HI.V, F.WLD_VIOL_CNT.ENTRIES]; omega)
  refine (Dev.fld_inc _ _ _ (by decide)).trans ?_
  rw [Dev.fld_setFld_apart _ F.WLD_VIOL_CNT.NEXT _ _ (by decide) (by decide), htime]
  rfl

end

/-- What the first entry of the log holds, and its record (R142). -/
theorem Dev.logViolation_first_entry {d e : Dev} {n : Nat} (h : d.fld F.WLD_VIOL_CNT.ENTRIES = 0) (hn : n = d.fld F.WLD_VIOL_CNT.NEXT)
    (acc : Access) {x : Nat} (hx : x < 2 ^ 32) (write : Bool) {kind : Nat} (hk : kind < 8) (he : e = d.logViolation acc x write kind) :
    e.fld (F.WLD_VLOG_INFO.KIND n) = kind ∧ e.fld (F.WLD_VLOG_ADDR.ADDR n) = x ∧ e.fld F.WLD_VIOL_CNT.ENTRIES = 1
      ∧ ∃ r ∈ e.evq, r.ev = .wldViolation ∧ r.stamp = d.now := by
  generalize hw : d.violWhat n x (violInfo acc write kind) = w
  generalize hwrap : d.worlds.vlogUnread.testBit n = wrapped
  rw [Dev.logViolation_first h hn, hwrap, hw] at he
  have hnow : w.now = d.now := by rw [← hw]; rfl
  have htime : Touches (violWhenFlds n) w (w.violWhen n) := (Touches.refl _ _).violWhen n subset_rfl
  have hshown : Touches violFlagFlds (w.violWhen n) ((w.violWhen n).violShown n wrapped) := (Touches.refl _ _).violShown n wrapped subset_rfl
  have hlog : ∀ {g : Fld}, g.blk = .wld → e.fld g = ((w.violWhen n).violShown n wrapped).fld g := fun {g} hg => by
    rw [he, Dev.note_fld_outside _ _ _ _ _ (by simp [hg]) (by simp [hg])]
    exact Dev.fld_congr (by simp only [Dev.reg, Dev.pend_regs, Dev.pend_part])
  have hentry : ∀ {off : Nat}, off = 0x360 + 0x10 * n ∨ off = 0x364 + 0x10 * n → ∀ lo wd, e.fld ⟨.wld, off, lo, wd⟩ = w.fld ⟨.wld, off, lo, wd⟩ := by
    intro off hoff lo wd
    rw [hlog rfl, hshown.fld, htime.fld]
    · rintro f (rfl | rfl | rfl | rfl)
      all_goals
        refine Fld.apart_of_off ?_
        simp only [F.WLD_VLOG_TIME_LO.V, F.WLD_VLOG_TIME_HI.V, F.WLD_VIOL_CNT.NEXT, F.WLD_VIOL_CNT.ENTRIES]
        omega
    · rintro f (rfl | rfl)
      all_goals
        refine Fld.apart_of_off ?_
        simp only [F.WLD_VIOL_FLAG.VIOLATION, F.WLD_VIOL_FLAG.WRAPPED]
        omega
  refine ⟨(hentry (.inr rfl) _ _).trans ?_, (hentry (.inl rfl) _ _).trans ?_, (hlog rfl).trans ?_, ?_⟩
  · exact hw ▸ Dev.violWhat_kind x acc write hk
  · exact hw ▸ Dev.violWhat_addr hx _
  · rw [hshown.fld _ (by rintro f (rfl | rfl) <;> decide)]
    exact Dev.violWhen_entries (by rw [← hw, Dev.violWhat_entries, h])
  · obtain ⟨r, hr, hev, hstamp⟩ := Dev.exists_note (((w.violWhen n).violShown n wrapped).pend 65) .wldViolation acc.src (violInfo acc write kind)
      (leBytes 4 x)
    exact ⟨r, he ▸ hr, hev, hstamp.trans ((Dev.pend_now _ _ _).trans (hshown.now.trans (htime.now.trans hnow)))⟩

/-! ### The refusal -/

/-- A secure master fetches from a region that is NONSECURE or from a host window: the fetch is refused and logged as FETCH (R141). -/
theorem busFetch_refused {s : State} {acc : Access} {x : Nat} (hst : s.dev.stalled x = s.dev) (hsec : s.dev.masterSecure acc = true)
    (hp : (∃ k, s.dev.place x = .sram k ∧ s.dev.regionTag k = 1) ∨ ∃ w, s.dev.place x = .window w) :
    s.busFetch acc x = s.map (fun d => (d.logViolation acc x false 4).reply 0 .fetchFault) := by
  have hs : s.map (fun d => d.stalled x) = s := by rw [State.map, hst]
  rw [State.busFetch, hs, if_pos]
  rcases hp with ⟨k, hk, htag⟩ | ⟨w, hw⟩
  · simp [hsec, hk, htag]
  · simp [hsec, hw]

/-- Settles O32: the fetch is refused at once; in an empty log its entry is the first. -/
theorem secureFetchesStayInside : Obligations.SecureFetchesStayInside := by
  intro s t acc x a h hst hsec hp
  refine ⟨⟨does_run h (busFetch_refused (s := { s with dev := a }) hst hsec hp), (a.logViolation_regs _ _ _ _).reply _ _⟩, ?_⟩
  intro hempty n d hn hd
  exact Dev.logViolation_first_entry hempty hn acc x.isLt false (by decide) hd

end Sys2Proof.Machine
end

section
/-! ### Memory errors, lockstep and core timers (R144 to R146, R149) -/

namespace Sys2Proof.Machine

/-- What the device keeps of worlds, memory and cores is no register. -/
theorem sameRegsBut.setWorlds {l : List (Blk × Nat)} {a d : Dev} (h : sameRegsBut l a d) (w : WorldSt) : sameRegsBut l a { d with worlds := w } :=
  h.upd rfl rfl

theorem Dev.setWorlds_fld (d : Dev) (w : WorldSt) (g : Fld) : ({ d with worlds := w } : Dev).fld g = d.fld g := rfl

/-- Corrected errors are flagged and counted. -/
def Dev.eccCounted (d : Dev) (n : Nat) : Dev := (d.eccFlag F.WLD_ECC_FLAG.CORRECTED).inc F.WLD_ECC_CNT.CORRECTED n

/-- The corrections since the last record are told. -/
def Dev.eccTold (d : Dev) (n : Nat) : Dev := (d.eccCounted n).note .eccCorrected .wld 0 (leBytes 4 ((d.eccCounted n).worlds.eccSince + n))

/-- Corrected errors are counted, and told or left to be told later (R145). -/
theorem Dev.eccFixed_cases (d : Dev) {n : Nat} (hn : n ≠ 0) :
    (∃ w, d.eccFixed n = { d.eccTold n with worlds := w })
    ∨ ∃ w, d.eccFixed n = { d.eccCounted n with worlds := w } := by
  unfold Dev.eccFixed
  rw [if_neg hn]
  extract_lets d1 since due
  by_cases h : due = true
  · rw [if_pos h]
    exact .inl ⟨_, rfl⟩
  · rw [if_neg h]
    exact .inr ⟨_, rfl⟩

/-! ### Which registers memory errors write -/

section
variable {l : List (Blk × Nat)} {a d : Dev} (h : sameRegsBut l a d)
include h

theorem sameRegsBut.eccFlag (f : Fld) (hm : f.place ∈ l) : sameRegsBut l a (d.eccFlag f) := (h.setFld f 1 hm).pend 66 false

theorem sameRegsBut.eccFixed (n : Nat) (hflag : F.WLD_ECC_FLAG.CORRECTED.place ∈ l) (hcnt : F.WLD_ECC_CNT.CORRECTED.place ∈ l)
    (hev : eventRegs 0 ⊆ l) : sameRegsBut l a (d.eccFixed n) := by
  by_cases hn : n = 0
  · rw [show d.eccFixed n = d from if_pos hn]
    exact h
  have hcount : sameRegsBut l a (d.eccCounted n) := (h.eccFlag F.WLD_ECC_FLAG.CORRECTED hflag).inc F.WLD_ECC_CNT.CORRECTED n hcnt
  rcases d.eccFixed_cases hn with ⟨w, hw⟩ | ⟨w, hw⟩
  · rw [hw]
    exact (hcount.note _ _ _ _ hev : sameRegsBut l a (d.eccTold n)).setWorlds w
  · rw [hw]
    exact hcount.setWorlds w

theorem sameRegsBut.eccBad (x : Nat) (hflag : F.WLD_ECC_FLAG.UNCORRECTABLE.place ∈ l) (hcnt : F.WLD_ECC_CNT.UNCORRECTABLE.place ∈ l)
    (haddr : F.WLD_ECC_ADDR.ADDR.place ∈ l) (hev : eventRegs 0 ⊆ l)
    (hcopy : copyBase ≤ x ∧ x < copyBase + 0x20000 → faultRegs (evClass .imageCopyCorrupt) ⊆ l) : sameRegsBut l a (d.eccBad x) := by
  unfold Dev.eccBad
  extract_lets d1 d2
  have hkept : sameRegsBut l a d2 :=
    ((h.eccFlag F.WLD_ECC_FLAG.UNCORRECTABLE hflag).inc F.WLD_ECC_CNT.UNCORRECTABLE 1 hcnt).setFld F.WLD_ECC_ADDR.ADDR x haddr
  split_ifs with hc
  · exact hkept.fault .imageCopyCorrupt .bot 0 0 (leBytes 1 2) _ (hcopy hc)
  · exact hkept.note .eccUncorrectable .wld 0 (leBytes 4 x) hev

end

/-! ### What they leave -/

/-- Corrected errors set their flag (R145). -/
theorem Dev.eccFixed_flag (d : Dev) {n : Nat} (hn : n ≠ 0) : (d.eccFixed n).on F.WLD_ECC_FLAG.CORRECTED = true := by
  have hflag : (d.eccCounted n).fld F.WLD_ECC_FLAG.CORRECTED = 1 :=
    (Dev.fld_setFld_apart _ F.WLD_ECC_CNT.CORRECTED _ _ (by decide) (by decide)).trans (Dev.fld_setFld_same d _ 1 (by decide))
  refine decide_eq_true ?_
  rcases d.eccFixed_cases hn with ⟨w, hw⟩ | ⟨w, hw⟩
  · have htold : (d.eccTold n).fld F.WLD_ECC_FLAG.CORRECTED = 1 := (Dev.note_fld_outside _ _ _ _ _ (by decide) (by decide)).trans hflag
    rw [hw, Dev.setWorlds_fld, htold]
  · rw [hw, Dev.setWorlds_fld, hflag]

/-- Outside the image copy an uncorrectable error is told with its address (R145). -/
theorem Dev.eccBad_outside (d : Dev) {x : Nat} (h : ¬ (copyBase ≤ x ∧ x < copyBase + 0x20000)) : d.eccBad x
    = (((d.eccFlag F.WLD_ECC_FLAG.UNCORRECTABLE).inc F.WLD_ECC_CNT.UNCORRECTABLE).setFld F.WLD_ECC_ADDR.ADDR x).note .eccUncorrectable .wld 0
        (leBytes 4 x) := if_neg h

/-- The address of the error is kept (R145). -/
theorem Dev.eccBad_addr (d : Dev) {x : Nat} (hx : x < 2 ^ 32) (h : ¬ (copyBase ≤ x ∧ x < copyBase + 0x20000)) :
    (d.eccBad x).fld F.WLD_ECC_ADDR.ADDR = x := by
  rw [Dev.eccBad_outside d h, Dev.note_fld_outside _ _ _ _ _ (by decide) (by decide), Dev.fld_setFld_same _ _ _ (by decide)]
  exact Nat.mod_eq_of_lt hx

/-- An uncorrectable error is recorded and its master answered (Table WLD-8). -/
theorem State.memError_uncorrectable {s : State} {acc : Access} (h7 : acc.master.val ≠ 7) (x : Nat) (fetch buffer : Bool) :
    s.memError acc x fetch false buffer = s.map (fun d => (d.eccBad x).reply 0 (eccAnswer acc fetch)) := by
  refine (if_neg (by decide)).trans ?_
  exact if_neg h7

/-- A pair that is held stays so (R146). -/
theorem Dev.lockstep_held {d : Dev} {p : Nat} (h : d.bitOf F.WLD_LOCKSTEP.HELD p = true) : d.lockstep p = d := if_pos h

theorem Dev.lockstep_running {d : Dev} {p : Nat} (h : d.bitOf F.WLD_LOCKSTEP.HELD p = false) : d.lockstep p
    = ((d.setBitOf F.WLD_LOCKSTEP.HELD p true).inc F.WLD_LOCKSTEP.MISMATCHES).note .svLockstep (.sv p) := if_neg (by simp [h])

/-- The interrupt of the core's timer alone is judged (R149). -/
theorem Dev.timerEval_pend (d : Dev) (core n : Nat) : (d.timerEval core).worlds.timerPend.testBit n
    = if n = core then Decidable.decide (d.timerCmp n ≤ d.now.toNat) else d.worlds.timerPend.testBit n := by
  refine (testBit_setMask _ _ _ _).trans ?_
  split_ifs with h
  · rw [h]
  · rfl

/-! ### The commands -/

section
variable {s : State} {t : Stamp} {a : Dev} (h : At s t 0 a)
include h

theorem scrubPass_corrected (fixed : BitVec 16) : Turns (exec (.scrubPass t fixed []) s) s
    ([F.WLD_ECC_FLAG.CORRECTED.place, F.WLD_ECC_CNT.CORRECTED.place] ++ eventRegs 0) a (a.eccFixed fixed.toNat) :=
  turns_runDev h rfl ((sameRegsBut.refl _ a).eccFixed _ (by decide) (by decide) (List.subset_append_right _ _))

theorem scrubPass_uncorrectable (fixed : BitVec 16) {x : BitVec 32} (hx : ¬ (copyBase ≤ x.toNat ∧ x.toNat < copyBase + 0x20000)) :
    Turns (exec (.scrubPass t fixed [x]) s) s ([F.WLD_ECC_FLAG.CORRECTED.place, F.WLD_ECC_CNT.CORRECTED.place, F.WLD_ECC_ADDR.ADDR.place]
      ++ eventRegs 0) a ((a.eccFixed fixed.toNat).eccBad x.toNat) := by
  have hev : ∀ l, eventRegs 0 ⊆ l ++ eventRegs 0 := fun l => List.subset_append_right l _
  exact turns_runDev h rfl (((sameRegsBut.refl _ a).eccFixed _ (by decide) (by decide) (hev _)).eccBad _ (by decide) (by decide) (by decide)
    (hev _) (fun hc => absurd hc hx))

theorem uncorrectableRead_answered {acc : Access} (h7 : acc.master.val ≠ 7) (x : BitVec 32) (fetch buffer : Bool) :
    Turns (exec (.uncorrectableRead t acc x fetch false buffer) s) s ([F.WLD_ECC_FLAG.CORRECTED.place, F.WLD_ECC_CNT.CORRECTED.place,
      F.WLD_ECC_ADDR.ADDR.place] ++ faultRegs (evClass .imageCopyCorrupt) ++ eventRegs 0) a
      ((a.eccBad x.toNat).reply 0 (eccAnswer acc fetch)) := by
  refine ⟨does_run h (State.memError_uncorrectable (s := { s with dev := a }) h7 x.toNat fetch buffer), sameRegsBut.reply ?_ _ _⟩
  refine (sameRegsBut.refl _ a).eccBad _ (by decide) (by decide) (by decide) (List.subset_append_right _ _) (fun _ => ?_)
  exact List.subset_append_of_subset_left _ (List.subset_append_right _ _)

theorem svLockstep_held {p : Fin 2} (hp : a.bitOf F.WLD_LOCKSTEP.HELD p.val = true) : Turns (exec (.svLockstep t p) s) s [] a a :=
  turns_runDev h (Dev.lockstep_held hp) (sameRegsBut.refl _ _)

theorem svLockstep_running {p : Fin 2} (hp : a.bitOf F.WLD_LOCKSTEP.HELD p.val = false) : Turns (exec (.svLockstep t p) s) s
    (F.WLD_LOCKSTEP.HELD.place :: eventRegs 0) a
    (((a.setBitOf F.WLD_LOCKSTEP.HELD p.val true).inc F.WLD_LOCKSTEP.MISMATCHES).note .svLockstep (.sv p.val)) := by
  refine turns_runDev h (Dev.lockstep_running hp) ?_
  exact (((sameRegsBut.refl _ a).setFld F.WLD_LOCKSTEP.HELD _ (by decide)).inc F.WLD_LOCKSTEP.MISMATCHES 1 (by decide)).note .svLockstep
    (.sv p.val) 0 [] (List.subset_cons_self _ _)

theorem coreTimerInterrupt_row (core : Fin 6) : ∃ d, Turns (exec (.coreTimerInterrupt t core) s) s [] a d
    ∧ d = { a with worlds := { a.worlds with timerPend := d.worlds.timerPend } }
    ∧ ∀ n, d.worlds.timerPend.testBit n = if n = core.val then decide (a.timerCmp n ≤ a.now.toNat) else a.worlds.timerPend.testBit n :=
  ⟨a.timerEval core.val, turns_runDev h rfl (sameRegsBut_of_regs rfl rfl), rfl, a.timerEval_pend core.val⟩

end

/-- Settles O34: each command by its own row; the image copy alone makes an uncorrectable error a fault. -/
theorem memoryErrorsLockstepAndTimers : Obligations.MemoryErrorsLockstepAndTimers := by
  intro s t a h
  refine ⟨fun fixed => ⟨scrubPass_corrected h fixed, fun hn => ?_⟩, fun fixed x d hx hd => ?_, fun acc x fetch buffer h7 d hd => ?_,
    fun p => ⟨svLockstep_held h, svLockstep_running h⟩, coreTimerInterrupt_row h⟩
  · exact a.eccFixed_flag (fun h0 => hn (BitVec.eq_of_toNat_eq h0))
  · rw [← Dev.eccBad_outside _ hx] at hd
    rw [hd]
    exact ⟨scrubPass_uncorrectable h fixed hx, Dev.eccBad_addr _ x.isLt hx⟩
  · rw [hd]
    exact uncorrectableRead_answered h h7 x fetch buffer

end Sys2Proof.Machine
end

section
/-! ### Full-word writes to registers of WLD (R9, R133, R137, R147, R156) -/

namespace Sys2Proof.Machine

/-- A full-word secure write stores the field whole, but for what its row's limits make of the value, under the lock or without it. -/
def Fld.storedWhole (f : Fld) (fix : Fix) (locked : Bool) : Bool :=
  decide (f.blk = .wld) && (findReg f.off (regDefs .wld)).any (fun x => x.1.setCnt.isNone && x.1.fields.any (fun g =>
    (decide (g.acc = .rw) || (decide (g.acc = .rwl) && !locked) || decide (g.acc = .rws)) && decide (g.fix = fix) && decide (g.w = f.w)
      && (List.range g.n).any (fun m => g.pos m = f.lo)))

/-- A full-word secure write reaches a register of WLD at an offset, which takes it. -/
structure TakesWld (d : Dev) (off : Nat) (v : Word) : Prop where
  aligned : off % 4 = 0
  named : ¬ (O.WLD_WAT ≤ off ∧ off < O.WLD_WAT + 0x200 ∧ ((off - O.WLD_WAT) / 4 = 47 ∨ (56 ≤ (off - O.WLD_WAT) / 4 ∧ (off - O.WLD_WAT) / 4 < 64)))
  present : absentReg d.part .wld off = false
  thawed : d.frozen .wld off v.toNat 0xFFFFFFFF = 0
  touched : (findReg off (regDefs .wld)).any (fun x => x.1.touched 0xFFFFFFFF true (d.on F.BOT_STATUS.LOCKED)) = true

section
variable {d : Dev} {off : Nat} {v : Word}

theorem Dev.writable_wld (h : d.frozen .wld off v.toNat 0xFFFFFFFF = 0) : d.writable .wld off v.toNat 0xFFFFFFFF = 0xFFFFFFFF :=
  writable_all d .wld off v.toNat (by simp [deadBits, reservedBits, absentBits]) h

/-- The word of a register that is not frozen, each field by its access code. -/
theorem Dev.stored_wld (h : d.frozen .wld off v.toNat 0xFFFFFFFF = 0) {r : RegDef} {i j : Nat} (hf : findReg off (regDefs .wld) = some (r, i, j)) :
    d.stored .wld off v
      = d.setReg .wld off (r.writeWord (d.reg .wld off).toNat v.toNat 0xFFFFFFFF 0 true (d.on F.BOT_STATUS.LOCKED)) := by
  simp only [Dev.stored, hf, Dev.storeReg, Dev.crossFix, Dev.writable_wld h, reduceCtorEq, false_and, if_false]

/-- The write itself changes its own register alone. -/
theorem TakesWld.stored_setReg (h : TakesWld d off v) : ∃ w, d.stored .wld off v = d.setReg .wld off w := by
  obtain ⟨⟨r, i, j⟩, hf, -⟩ := (Option.any_eq_true _ _).1 h.touched
  exact ⟨_, Dev.stored_wld h.thawed hf⟩

theorem TakesWld.stored_regs (h : TakesWld d off v) : sameRegsBut [(.wld, off)] d (d.stored .wld off v) := by
  obtain ⟨w, hw⟩ := h.stored_setReg
  exact hw ▸ sameRegsBut_setReg _ _ _ _ _ List.mem_cons_self

/-- A field that the write stores whole holds what its row makes of the written value. -/
theorem Dev.fld_stored_wld {f : Fld} {fix : Fix} (hf : f.storedWhole fix (d.on F.BOT_STATUS.LOCKED) = true)
    (h : d.frozen .wld f.off v.toNat 0xFFFFFFFF = 0) : (d.stored .wld f.off v).fld f = fix.store f.w (v.extractLsb' f.lo f.w).toNat % 2 ^ f.w := by
  simp only [Fld.storedWhole, Bool.and_eq_true, decide_eq_true_eq, Option.any_eq_true, List.any_eq_true, List.mem_range, Option.isNone_iff_eq_none]
    at hf
  obtain ⟨hblk, ⟨r, i, j⟩, hreg, hcnt, g, hg, ⟨⟨hacc, rfl⟩, hw⟩, m, hm, hpos⟩ := hf
  have hwf := findReg_wf hreg
  have hfits : g.pos m + g.w ≤ 32 := RegDef.wf_fits hwf (RegDef.mem_elems hg hm)
  have htakes : g.takes true (d.on F.BOT_STATUS.LOCKED) := by
    simp only [Bool.or_eq_true, Bool.and_eq_true, decide_eq_true_eq, Bool.not_eq_true'] at hacc
    rcases hacc with (h | h) | h
    · exact .inl h
    · exact .inr (.inl h)
    · exact .inr (.inr ⟨h, rfl⟩)
  have hen : g.get m 0xFFFFFFFF = 2 ^ g.w - 1 := by
    refine Nat.eq_of_testBit_eq (fun k => ?_)
    rw [FieldDef.testBit_get, show (0xFFFFFFFF : Nat) = 2 ^ 32 - 1 by norm_num, Nat.testBit_two_pow_sub_one, Nat.testBit_two_pow_sub_one]
    by_cases hk : k < g.w
    · simp [hk]; omega
    · simp [hk]
  have hget (x : Word) : (x.extractLsb' f.lo f.w).toNat = g.get m x.toNat := by
    rw [BitVec.extractLsb'_toNat, Nat.shiftRight_eq_div_pow, FieldDef.get, hpos, hw]
  rw [Dev.stored_wld h hreg, Dev.fld, hblk, Dev.reg_setReg_same, hget, hget, ← hw,
    RegDef.get_writeWord hwf hg hm (fun hs => nomatch hcnt.symm.trans hs), g.write_whole _ _ _ _ _ _ _ htakes hen]

end

/-- A full-word write of an SV pair that a register of WLD takes is stored, and then what it sets off follows. -/
theorem sv_wldWrite {s : State} {acc : Access} {off : Nat} {v : Word} (hsv : Sv acc) (h : TakesWld s.dev off v) :
    s.busWrite acc (blkBase .wld + off) v {} = State.wldHook s.dev off 0xFFFFFFFF { s with dev := s.dev.stored .wld off v } := by
  obtain ⟨⟨r, i, j⟩, hf, ht⟩ := (Option.any_eq_true _ _).1 h.touched
  have hlt := findReg_lt hf
  have hwr := Dev.writable_wld h.thawed
  have hbase : (blkBase .wld + off) / 0x100000 = 0x103 ∧ (blkBase .wld + off) % 0x100000 = off := by
    simp only [blkBase]
    omega
  rw [sv_write hsv hf h.aligned hlt (by rw [hbase.1]; rfl) hbase.2 (fun hx => h.named hx.2) (by simp) h.present (hwr.symm ▸ ht) rfl, hwr]
  rfl

theorem does_wldWrite {s : State} {t : Stamp} {acc : Access} {v : Word} {a : Dev} {off x : Nat} {u : State} (h : At s t 0 a) (hsv : Sv acc)
    (htakes : TakesWld a off v) (hx : x = blkBase .wld + off)
    (hu : State.wldHook a off 0xFFFFFFFF { s with dev := a.stored .wld off v } = u) :
    Does (.next (s.run t 0 (fun s => s.busWrite acc x v {}))) u :=
  does_run h (hx ▸ (sv_wldWrite (s := { s with dev := a }) hsv htakes).trans hu)

end Sys2Proof.Machine
end

section
/-! ### Host windows and region tags (R137, R156) -/

namespace Sys2Proof.Machine

/-- The offsets that part the registers of WLD. -/
theorem wldOffsets : O.WLD_AP_RUN = 0x24 ∧ O.WLD_WAT = 0x40 ∧ O.WLD_REGION_TAG = 0x240 ∧ O.WLD_HWIN_DEV = 0x260 ∧ O.WLD_HWIN_CTRL = 0x26c
    ∧ O.WLD_VLOG_ADDR = 0x360 := ⟨rfl, rfl, rfl, rfl, rfl, rfl⟩

/-! ### What a write of each register sets off -/

section
variable (old : Dev) (s : State)

theorem State.wldHook_window {w : Nat} (hw : w < 16) (en : Nat) :
    State.wldHook old (O.WLD_HWIN_CTRL + 0x10 * w) en s = s.map (fun d => d.winTag w) := by
  obtain ⟨hrun, hwat, htag, hdev, hctrl, hlog⟩ := wldOffsets
  unfold State.wldHook
  rw [if_neg (by omega), if_neg (by omega), if_neg (by omega), if_pos (by omega), show (O.WLD_HWIN_CTRL + 0x10 * w - O.WLD_HWIN_DEV) / 0x10 = w by omega]

theorem State.wldHook_tags {k : Nat} (hk : k < 8) (en : Nat) :
    State.wldHook old (O.WLD_REGION_TAG + 4 * k) en s = s.regionTags k (old.reg .wld (O.WLD_REGION_TAG + 4 * k)) en := by
  obtain ⟨hrun, hwat, htag, hdev, hctrl, hlog⟩ := wldOffsets
  unfold State.wldHook
  rw [if_neg (by omega), if_neg (by omega), if_pos (by omega), show (O.WLD_REGION_TAG + 4 * k - O.WLD_REGION_TAG) / 4 = k by omega]

theorem State.wldHook_wat {e : Nat} (he : e < 128) (en : Nat) :
    State.wldHook old (O.WLD_WAT + 4 * e) en s = s.map (fun d => d.watWrite old e) := by
  obtain ⟨hrun, hwat, htag, -⟩ := wldOffsets
  unfold State.wldHook
  rw [if_neg (by omega), if_pos (by omega), show (O.WLD_WAT + 4 * e - O.WLD_WAT) / 4 = e by omega]

theorem State.wldHook_apRun (en : Nat) : State.wldHook old O.WLD_AP_RUN en s = s.map Dev.apRunWrite := if_pos rfl

end

/-! ### Which registers take a write -/

/-- Registers before those of the host windows are never frozen, and those past the World Assignment Table never absent. -/
theorem Dev.frozen_wld_low (d : Dev) {off : Nat} (h : off < O.WLD_HWIN_DEV) (val en : Nat) : d.frozen .wld off val en = 0 := if_pos (.inl h)

theorem absentReg_wld_high (p : Part) {off : Nat} (h : O.WLD_REGION_TAG ≤ off) : absentReg p .wld off = false := by
  obtain ⟨-, hwat, htag, -⟩ := wldOffsets
  simp [absentReg, show ¬ off < O.WLD_WAT + 0x200 by omega]

section
variable {d : Dev} {v : Word}

theorem takesWld_window (hlock : d.on F.BOT_STATUS.LOCKED = false) (w : Fin 16) (hv : v.getLsbD 0 = false) :
    TakesWld d (O.WLD_HWIN_CTRL + 0x10 * w.val) v where
  aligned := by simp only [O.WLD_HWIN_CTRL]; omega
  named := by simp only [O.WLD_HWIN_CTRL, O.WLD_WAT]; omega
  present := absentReg_wld_high _ (by simp only [O.WLD_REGION_TAG, O.WLD_HWIN_CTRL]; omega)
  thawed := by
    have heven : v.toNat % 2 = 0 := by
      have := BitVec.testBit_toNat v (i := 0)
      rw [hv, Nat.testBit_zero] at this
      simpa using this
    have hplace : (O.WLD_HWIN_CTRL + 0x10 * w.val) % 0x10 = O.WLD_HWIN_CTRL % 0x10 := by omega
    simp [Dev.frozen, hplace, heven]
  touched := by
    rw [hlock]
    revert w
    decide +kernel

theorem takesWld_tags (hlock : d.on F.BOT_STATUS.LOCKED = false) (k : Fin 8) : TakesWld d (O.WLD_REGION_TAG + 4 * k.val) v where
  aligned := by simp only [O.WLD_REGION_TAG]; omega
  named := by simp only [O.WLD_REGION_TAG, O.WLD_WAT]; omega
  present := absentReg_wld_high _ (by omega)
  thawed := d.frozen_wld_low (by simp only [O.WLD_REGION_TAG, O.WLD_HWIN_DEV]; omega) _ _
  touched := by
    rw [hlock]
    revert k
    decide +kernel

end

end Sys2Proof.Machine
end

section
/-! ### Host windows (R156) -/

namespace Sys2Proof.Machine

/-- A window that is disabled keeps its tag (R139). -/
theorem Dev.winTag_disabled {d : Dev} {w : Nat} (h : d.on (F.WLD_HWIN_CTRL.ENABLE w) = false) : d.winTag w = d := if_neg (by simp [h])

/-- A field of one bit that begins a register takes bit 0 of a written word. -/
theorem extract_bit_zero (v : Word) : (v.extractLsb' 0 1).toNat = (v.getLsbD 0).toNat := by
  rw [BitVec.extractLsb'_toNat, Nat.shiftRight_zero, ← BitVec.testBit_toNat, Nat.testBit_zero]
  rcases Nat.mod_two_eq_zero_or_one v.toNat with h | h <;> simp [h]

theorem storedWhole_windowEnable (w : Fin 16) : (F.WLD_HWIN_CTRL.ENABLE w.val).storedWhole .none false = true := by
  revert w
  decide +kernel

theorem windowDisable_row {s : State} {t : Stamp} {acc : Access} {w : Fin 16} {v : Word} {a b : Dev} (h : At s t 0 a) (hsv : Sv acc)
    (hlock : a.on F.BOT_STATUS.LOCKED = false) (hv : v.getLsbD 0 = false) (hb : b = a.stored .wld (O.WLD_HWIN_CTRL + 0x10 * w.val) v) :
    Turns (exec (.windowDisable t acc w v) s) s [(.wld, O.WLD_HWIN_CTRL + 0x10 * w.val)] a b
      ∧ b.on (F.WLD_HWIN_CTRL.ENABLE w.val) = false := by
  have htakes := takesWld_window hlock w hv
  have hoff : b.on (F.WLD_HWIN_CTRL.ENABLE w.val) = false := by
    have hfld := Dev.fld_stored_wld (f := F.WLD_HWIN_CTRL.ENABLE w.val) (hlock.symm ▸ storedWhole_windowEnable w) htakes.thawed
    have hzero : b.fld (F.WLD_HWIN_CTRL.ENABLE w.val) = 0 := by
      rw [hb]
      refine hfld.trans ?_
      simp only [F.WLD_HWIN_CTRL.ENABLE, extract_bit_zero, hv]
      rfl
    rw [Dev.on, hzero]
    rfl
  refine ⟨⟨does_wldWrite h hsv htakes (Nat.add_assoc _ _ _) ?_, hb ▸ htakes.stored_regs⟩, hoff⟩
  rw [← hb, State.wldHook_window _ _ w.isLt, State.map, Dev.winTag_disabled hoff]

end Sys2Proof.Machine
end

section
/-! ### Region tags (R137) -/

namespace Sys2Proof.Machine

/-! ### The tag of one region -/

/-- What a write of a register of tags makes of the tag of its region `m`. -/
def State.regionTag (k : Nat) (old : Word) (en m : Nat) (s : State) : State :=
  let r := 16 * k + m
  let was := old.toNat / 2 ^ (2 * m) % 4
  let new := s.dev.fld (F.WLD_REGION_TAG.TAG k m)
  if !en.testBit (2 * m) then s
  else if 126 ≤ r then s.map (fun d => d.setFld (F.WLD_REGION_TAG.TAG k m) was)
  else if was = 0 ∧ new ≠ 0 then
    { s with
      dev := { s.dev.setFld (F.WLD_REGION_TAG.TAG k m) 0 with worlds := { s.dev.worlds with zeroing := tabPut 0 s.dev.worlds.zeroing r new } }
      store := { s.store with mem := memZero s.store.mem (0x08000000 + r * 0x10000) 0x10000 } }
  else s.map (fun d => { d with worlds := { d.worlds with zeroing := tabDel d.worlds.zeroing r } })

theorem State.regionTags_eq (k : Nat) (old : Word) (en : Nat) (s : State) :
    s.regionTags k old en = (List.range 16).foldl (fun s m => s.regionTag k old en m) s := rfl

/-- The region's tag stays SECURE, the new one waits, and the region reads 0. -/
structure RegionWaits (k m tag : Nat) (s : State) : Prop where
  shut : s.dev.fld (F.WLD_REGION_TAG.TAG k m) = 0
  waits : tabGet 0 s.dev.worlds.zeroing (16 * k + m) = tag
  zeroed : ∀ x, 0x08000000 + (16 * k + m) * 0x10000 ≤ x → x < 0x08000000 + (16 * k + m + 1) * 0x10000 → memByte s.store.mem x = 0

theorem regionTag_fits {m : Nat} (hm : m < 16) (k : Nat) : (F.WLD_REGION_TAG.TAG k m).lo + (F.WLD_REGION_TAG.TAG k m).w ≤ 32 := by
  simp only [F.WLD_REGION_TAG.TAG]
  omega

theorem regionTag_apart {m m' : Nat} (h : m' ≠ m) (k : Nat) : (F.WLD_REGION_TAG.TAG k m').apart (F.WLD_REGION_TAG.TAG k m) = true := by
  refine Fld.apart_of_bits ?_
  simp only [F.WLD_REGION_TAG.TAG]
  omega

section
variable {k m en : Nat} {old : Word} {s : State}

/-- A tag that leaves SECURE waits for the zeroing of its region. -/
theorem State.regionTag_waits {tag : Nat} (hm : m < 16) (hen : en.testBit (2 * m) = true) (hr : 16 * k + m < 126)
    (hwas : old.toNat / 2 ^ (2 * m) % 4 = 0) (hnew : s.dev.fld (F.WLD_REGION_TAG.TAG k m) = tag) (htag : tag ≠ 0) :
    RegionWaits k m tag (s.regionTag k old en m) := by
  unfold State.regionTag
  rw [if_neg (by simp [hen]), if_neg (by omega), if_pos ⟨hwas, hnew ▸ htag⟩, hnew]
  refine ⟨?_, ?_, fun x h1 h2 => memByte_memZero_in _ ?_⟩
  · exact Dev.fld_setFld_same s.dev _ 0 (regionTag_fits hm k)
  · exact tabGet_tabPut_same 0 s.dev.worlds.zeroing _ tag
  · omega

/-- What is done to the tag of another region leaves the region's own tag and zeroing, and the bytes that read 0. -/
theorem State.regionTag_other {m' : Nat} (hm' : m' < 16) (hne : m' ≠ m) :
    (s.regionTag k old en m').dev.fld (F.WLD_REGION_TAG.TAG k m) = s.dev.fld (F.WLD_REGION_TAG.TAG k m)
      ∧ tabGet 0 (s.regionTag k old en m').dev.worlds.zeroing (16 * k + m) = tabGet 0 s.dev.worlds.zeroing (16 * k + m)
      ∧ ∀ x, memByte s.store.mem x = 0 → memByte (s.regionTag k old en m').store.mem x = 0 := by
  have hset (v : Nat) : (s.dev.setFld (F.WLD_REGION_TAG.TAG k m') v).fld (F.WLD_REGION_TAG.TAG k m) = s.dev.fld (F.WLD_REGION_TAG.TAG k m) :=
    Dev.fld_setFld_apart _ _ _ _ (regionTag_fits hm' k) (regionTag_apart hne k)
  unfold State.regionTag
  extract_lets r was new
  have hr : 16 * k + m ≠ r := by omega
  split_ifs
  · exact ⟨rfl, rfl, fun _ => id⟩
  · exact ⟨hset was, rfl, fun _ => id⟩
  · exact ⟨hset 0, tabGet_tabPut_ne _ _ _ _ hr, fun _ hx => memByte_memZero_of_zero hx _ _⟩
  · exact ⟨rfl, tabGet_tabDel_ne _ _ hr, fun _ => id⟩

theorem RegionWaits.regionTag {tag m' : Nat} (h : RegionWaits k m tag s) (hm' : m' < 16) (hne : m' ≠ m) :
    RegionWaits k m tag (s.regionTag k old en m') := by
  obtain ⟨hfld, hzero, hmem⟩ := State.regionTag_other (k := k) (en := en) (old := old) (s := s) hm' hne
  exact ⟨hfld.trans h.shut, hzero.trans h.waits, fun x h1 h2 => hmem x (h.zeroed x h1 h2)⟩

/-- Tags change in their own register alone. -/
theorem State.regionTag_regs {a : Dev} (h : sameRegsBut [(.wld, O.WLD_REGION_TAG + 4 * k)] a s.dev) :
    sameRegsBut [(.wld, O.WLD_REGION_TAG + 4 * k)] a (s.regionTag k old en m).dev := by
  have hset (v : Nat) := h.setFld (F.WLD_REGION_TAG.TAG k m) v List.mem_cons_self
  unfold State.regionTag
  extract_lets r was new
  split_ifs
  · exact h
  · exact hset was
  · exact (hset 0).setWorlds _
  · exact h.setWorlds _

end

/-! ### All tags of a register -/

section
variable {k m en tag : Nat} {old : Word} (hen : en.testBit (2 * m) = true) (hr : 16 * k + m < 126)
  (hwas : old.toNat / 2 ^ (2 * m) % 4 = 0) (htag : tag ≠ 0)

theorem RegionWaits.foldl {l : List Nat} (hl : ∀ x ∈ l, x < 16) (hm : m ∉ l) {s : State} (h : RegionWaits k m tag s) :
    RegionWaits k m tag (l.foldl (fun s m => s.regionTag k old en m) s) :=
  List.foldlRecOn l _ h (fun _ hs x hx => hs.regionTag (hl x hx) (fun e => hm (e ▸ hx)))

include hen hr hwas htag

theorem regionWaits_foldl {l : List Nat} (hl : ∀ x ∈ l, x < 16) (hd : l.Nodup) (hm : m ∈ l) {s : State}
    (hnew : s.dev.fld (F.WLD_REGION_TAG.TAG k m) = tag) : RegionWaits k m tag (l.foldl (fun s m => s.regionTag k old en m) s) := by
  induction l generalizing s with
  | nil => cases hm
  | cons x l ih =>
    obtain ⟨hx, hd⟩ := List.nodup_cons.1 hd
    have hl' : ∀ y ∈ l, y < 16 := fun y hy => hl y (List.mem_cons_of_mem _ hy)
    by_cases hxm : x = m
    · subst hxm
      exact (State.regionTag_waits (hl x List.mem_cons_self) hen hr hwas hnew htag).foldl hl' hx
    · have hm' : m ∈ l := (List.mem_cons.1 hm).resolve_left (Ne.symm hxm)
      exact ih hl' hd hm' ((State.regionTag_other (hl x List.mem_cons_self) hxm).1.trans hnew)

/-- A region whose tag a write takes from SECURE waits for its zeroing (R137). -/
theorem State.regionTags_waits (hm : m < 16) {s : State} (hnew : s.dev.fld (F.WLD_REGION_TAG.TAG k m) = tag) :
    RegionWaits k m tag (s.regionTags k old en) :=
  regionWaits_foldl hen hr hwas htag (fun _ => List.mem_range.1) List.nodup_range (List.mem_range.2 hm) hnew

end

theorem State.regionTags_regs {k : Nat} {a : Dev} {s : State} (h : sameRegsBut [(.wld, O.WLD_REGION_TAG + 4 * k)] a s.dev) (old : Word) (en : Nat) :
    sameRegsBut [(.wld, O.WLD_REGION_TAG + 4 * k)] a (s.regionTags k old en).dev :=
  List.foldlRecOn (motive := fun u : State => sameRegsBut [(.wld, O.WLD_REGION_TAG + 4 * k)] a u.dev) (List.range 16) _ h
    (fun _ hu _ _ => State.regionTag_regs hu)

/-! ### The commands -/

theorem storedWhole_regionTag (k : Fin 8) (m : Fin 16) : (F.WLD_REGION_TAG.TAG k.val m.val).storedWhole (.over 2 0) false = true := by
  revert k m
  decide +kernel

theorem regionTagWrite_row {s : State} {t : Stamp} {acc : Access} {k : Fin 8} {m : Fin 16} {v : Word} {a : Dev} (h : At s t 0 a) (hsv : Sv acc)
    (hlock : a.on F.BOT_STATUS.LOCKED = false) (hr : 16 * k.val + m.val < 126) (hwas : a.fld (F.WLD_REGION_TAG.TAG k.val m.val) = 0) {tag : Nat}
    (hv : (v.extractLsb' (2 * m.val) 2).toNat = tag) (htag : tag = 1 ∨ tag = 2) :
    ∃ u, Does (exec (.regionTagWrite t acc k v) s) u ∧ RegionWaits k.val m.val tag u
      ∧ sameRegsBut [(.wld, O.WLD_REGION_TAG + 4 * k.val)] a u.dev := by
  have htakes := takesWld_tags (v := v) hlock k
  have hnew : (a.stored .wld (O.WLD_REGION_TAG + 4 * k.val) v).fld (F.WLD_REGION_TAG.TAG k.val m.val) = tag := by
    refine (Dev.fld_stored_wld (f := F.WLD_REGION_TAG.TAG k.val m.val) (hlock.symm ▸ storedWhole_regionTag k m) htakes.thawed).trans ?_
    simp only [F.WLD_REGION_TAG.TAG, Nat.zero_add, hv, Fix.store]
    rcases htag with rfl | rfl <;> rfl
  have hwas' : (a.reg .wld (O.WLD_REGION_TAG + 4 * k.val)).toNat / 2 ^ (2 * m.val) % 4 = 0 := by
    rw [← hwas, Dev.fld, BitVec.extractLsb'_toNat, Nat.shiftRight_eq_div_pow]
    simp only [F.WLD_REGION_TAG.TAG, Nat.zero_add]
    rfl
  have hen : (0xFFFFFFFF : Nat).testBit (2 * m.val) = true := by
    rw [show (0xFFFFFFFF : Nat) = 2 ^ 32 - 1 by norm_num, Nat.testBit_two_pow_sub_one]
    simp
    omega
  refine ⟨_, does_wldWrite h hsv htakes (Nat.add_assoc _ _ _) (State.wldHook_tags _ _ k.isLt _), ?_, ?_⟩
  · exact State.regionTags_waits hen hr hwas' (by omega) m.isLt hnew
  · exact State.regionTags_regs htakes.stored_regs _ _

theorem Dev.regionZeroed_idle {d : Dev} {r : Nat} (h : tabGet 0 d.worlds.zeroing r = 0) : d.regionZeroed r = d := if_pos h

theorem Dev.regionZeroed_applies {d : Dev} {r tag : Nat} (h : tabGet 0 d.worlds.zeroing r = tag) (htag : tag ≠ 0) : d.regionZeroed r
    = { d.setFld (F.WLD_REGION_TAG.TAG (r / 16) (r % 16)) tag with worlds := { d.worlds with zeroing := tabDel d.worlds.zeroing r } } := by
  subst h
  exact if_neg htag

/-- Settles O24: a window that is disabled keeps what it has; a tag that leaves SECURE waits until the zeroing of its region ends. -/
theorem windowsAndRegions : Obligations.WindowsAndRegions := by
  refine ⟨fun s t acc w v a b h hsv hlock hv hb => windowDisable_row h hsv hlock hv hb, fun s t acc k m v a h hsv hlock hr hwas tag hv htag => ?_,
    fun s t r a h => ⟨fun h0 => ?_, fun tag hz htag => ?_⟩⟩
  · obtain ⟨u, hu, hwaits, hregs⟩ := regionTagWrite_row h hsv hlock hr hwas hv htag
    exact ⟨u, hu, hwaits.shut, hwaits.waits, hregs, hwaits.zeroed⟩
  · exact turns_runDev h (Dev.regionZeroed_idle h0) (sameRegsBut.refl _ _)
  · exact turns_runDev h (Dev.regionZeroed_applies hz htag) (((sameRegsBut.refl _ _).setFld _ _ List.mem_cons_self).setWorlds _)

end Sys2Proof.Machine
end

section
/-! ### World assignment (R133, R134, R155) -/

namespace Sys2Proof.Machine

theorem wat_touched (e : Fin 128) :
    (findReg (O.WLD_WAT + 4 * e.val) (regDefs .wld)).any (fun x => x.1.touched 0xFFFFFFFF true false) = true := by
  revert e
  decide +kernel

theorem takesWld_wat {d : Dev} {v : Word} {e : Fin 128} (ho : Open d .wld (O.WLD_WAT + 4 * e.val) v)
    (hne : ¬ (e.val = 47 ∨ (56 ≤ e.val ∧ e.val < 64))) : TakesWld d (O.WLD_WAT + 4 * e.val) v where
  aligned := by simp only [O.WLD_WAT]; omega
  named := by omega
  present := ho.1
  thawed := ho.2.2
  touched := ho.2.1.symm ▸ wat_touched e

theorem storedWhole_nonSecure (e : Fin 128) : (F.WLD_WAT.NONSECURE e.val).storedWhole .none false = true := by
  revert e
  decide +kernel

/-- A request is for the world that the written bit names. -/
theorem Dev.stored_nonSecure {d : Dev} {v : Word} {e : Fin 128} (ho : Open d .wld (O.WLD_WAT + 4 * e.val) v) :
    (d.stored .wld (O.WLD_WAT + 4 * e.val) v).on (F.WLD_WAT.NONSECURE e.val) = v.getLsbD 0 := by
  obtain ⟨-, hlock, hthawed⟩ := ho
  have hfld := Dev.fld_stored_wld (f := F.WLD_WAT.NONSECURE e.val) (hlock.symm ▸ storedWhole_nonSecure e) hthawed
  have hbit : (d.stored .wld (O.WLD_WAT + 4 * e.val) v).fld (F.WLD_WAT.NONSECURE e.val) = (v.getLsbD 0).toNat := by
    refine hfld.trans ?_
    simp only [F.WLD_WAT.NONSECURE, extract_bit_zero, Fix.store]
    cases v.getLsbD 0 <;> rfl
  rw [Dev.on, hbit]
  cases v.getLsbD 0 <;> rfl

/-! ### How a request is judged -/

section
variable {d old : Dev} {e : Nat}

theorem Dev.watWrite_free (h : old.watBusy e = false) : d.watWrite old e = d.watJudge e := if_neg (by simp [h])

theorem Dev.watWrite_busy (h : old.watBusy e = true) (hne : (d.watJudge e).nsEntry e ≠ old.nsEntry e) : d.watWrite old e = old.assignRefused e :=
  if_pos ⟨h, hne⟩

theorem Dev.watJudge_secure (h : d.on (F.WLD_WAT.NONSECURE e) = false) : d.watJudge e = d.setWorld e false := if_neg (by simp [h])

theorem Dev.watJudge_granted (h : d.on (F.WLD_WAT.NONSECURE e) = true) (hf : d.watForbidden e = false) :
    d.watJudge e = d.setWorld e (d.watReaches e) := (if_pos h).trans (if_neg (by simp [hf]))

theorem Dev.watJudge_forbidden (h : d.on (F.WLD_WAT.NONSECURE e) = true) (hf : d.watForbidden e = true) :
    d.watJudge e = (d.setWorld e false).assignRefused e := (if_pos h).trans (if_pos hf)

end

section
variable {l : List (Blk × Nat)} {a d : Dev} (h : sameRegsBut l a d)
include h

theorem sameRegsBut.setWorld {e : Nat} (ns : Bool) (he : (F.WLD_WAT.APPLIED_NS e).place ∈ l) (hs : F.WLD_STATUS.AP_SECURE.place ∈ l) :
    sameRegsBut l a (d.setWorld e ns) :=
  sameRegsBut.ite ((h.setBit _ ns he).setFld F.WLD_STATUS.AP_SECURE _ hs) (h.setBit _ ns he)

theorem sameRegsBut.assignRefused (e : Nat) (hm : eventRegs 0 ⊆ l) : sameRegsBut l a (d.assignRefused e) := h.note _ _ _ _ hm

end

section
variable {s : State} {t : Stamp} {acc : Access} {e : Fin 128} {v : Word} {a b : Dev} (h : At s t 0 a) (hsv : Sv acc)
  (ho : Open a .wld (O.WLD_WAT + 4 * e.val) v) (hne : ¬ (e.val = 47 ∨ (56 ≤ e.val ∧ e.val < 64)))
  (hb : b = a.stored .wld (O.WLD_WAT + 4 * e.val) v)
include h hsv ho hne hb

/-- The command does what the judgement of the entry does. -/
theorem does_watWrite {d : Dev} (hd : b.watWrite a e.val = d) : Does (exec (.watWrite t acc e v) s) { s with dev := d } := by
  refine does_wldWrite h hsv (takesWld_wat ho hne) (Nat.add_assoc _ _ _) ?_
  rw [State.wldHook_wat _ _ e.isLt, ← hb, State.map, hd]

omit h hsv in
/-- The write and a change of the world in force. -/
theorem watStored_setWorld_regs (ns : Bool) (l : List (Blk × Nat)) :
    sameRegsBut ([(.wld, O.WLD_WAT + 4 * e.val), F.WLD_STATUS.AP_SECURE.place] ++ l) a (b.setWorld e.val ns) := by
  have hstored : sameRegsBut ([(.wld, O.WLD_WAT + 4 * e.val), F.WLD_STATUS.AP_SECURE.place] ++ l) a b :=
    hb ▸ (takesWld_wat ho hne).stored_regs.mono (by simp)
  exact hstored.setWorld ns List.mem_cons_self (List.mem_cons_of_mem _ List.mem_cons_self)

/-- The request of an entry that is not busy is judged. -/
theorem watWrite_free_row (hfree : a.watBusy e.val = false) :
    (v.getLsbD 0 = false → Turns (exec (.watWrite t acc e v) s) s [(.wld, O.WLD_WAT + 4 * e.val), F.WLD_STATUS.AP_SECURE.place] a
      (b.setWorld e.val false))
    ∧ (v.getLsbD 0 = true → b.watForbidden e.val = false → Turns (exec (.watWrite t acc e v) s) s
      [(.wld, O.WLD_WAT + 4 * e.val), F.WLD_STATUS.AP_SECURE.place] a (b.setWorld e.val (b.watReaches e.val)))
    ∧ (v.getLsbD 0 = true → b.watForbidden e.val = true → Turns (exec (.watWrite t acc e v) s) s
      ([(.wld, O.WLD_WAT + 4 * e.val), F.WLD_STATUS.AP_SECURE.place] ++ eventRegs 0) a ((b.setWorld e.val false).assignRefused e.val)) := by
  have hreq : b.on (F.WLD_WAT.NONSECURE e.val) = v.getLsbD 0 := hb ▸ Dev.stored_nonSecure ho
  have hdoes {d : Dev} (hd : b.watJudge e.val = d) := does_watWrite h hsv ho hne hb ((Dev.watWrite_free hfree).trans hd)
  have hregs := watStored_setWorld_regs ho hne hb
  refine ⟨fun hv => ?_, fun hv hf => ?_, fun hv hf => ?_⟩
  · exact ⟨hdoes (Dev.watJudge_secure (hreq.trans hv)), hregs _ []⟩
  · exact ⟨hdoes (Dev.watJudge_granted (hreq.trans hv) hf), hregs _ []⟩
  · exact ⟨hdoes (Dev.watJudge_forbidden (hreq.trans hv) hf), (hregs _ _).assignRefused _ (List.subset_append_right _ _)⟩

/-- The world of a busy entry stands (R155). -/
theorem watWrite_busy_row (hbusy : a.watBusy e.val = true) (hworld : (b.watJudge e.val).nsEntry e.val ≠ a.nsEntry e.val) :
    Turns (exec (.watWrite t acc e v) s) s (eventRegs 0) a (a.assignRefused e.val) :=
  ⟨does_watWrite h hsv ho hne hb (Dev.watWrite_busy hbusy hworld), (sameRegsBut.refl _ _).assignRefused _ (List.Subset.refl _)⟩

end

end Sys2Proof.Machine
end

section
/-! ### Starting and holding AP cores (R70, R147) -/

namespace Sys2Proof.Machine

theorem takesWld_apRun (d : Dev) (v : Word) : TakesWld d O.WLD_AP_RUN v where
  aligned := rfl
  named := by decide
  present := rfl
  thawed := d.frozen_wld_low (by decide) _ _
  touched := by cases d.on F.BOT_STATUS.LOCKED <;> decide +kernel

/-- Core `n` runs or is held as its RUN bit says. -/
def Dev.apRun (n : Nat) (d : Dev) : Dev :=
  if d.bitOf F.WLD_AP_RUN.RUN n then d.apStart n
  else { d with worlds := { d.worlds with apRunning := setMask d.worlds.apRunning n false } }

theorem Dev.apRunWrite_eq (d : Dev) : d.apRunWrite = forL (List.range 4) Dev.apRun d := rfl

/-- What decides about cores and registers stands as it was. -/
structure CoresStand (a d : Dev) : Prop where
  regs : d.regs = a.regs
  part : d.part = a.part
  clocks : d.clocks = a.clocks

section
variable {a d : Dev}

theorem CoresStand.bitOf (h : CoresStand a d) (f : Fld) (n : Nat) : d.bitOf f n = a.bitOf f n :=
  congrArg (Nat.testBit · n) (Dev.fld_congr (by simp only [Dev.reg, h.regs, h.part]))

theorem CoresStand.apRun (h : CoresStand a d) (n : Nat) : CoresStand a (d.apRun n) := by
  unfold Dev.apRun Dev.apStart
  split_ifs
  all_goals exact ⟨h.regs, h.part, h.clocks⟩

end

section
variable {d : Dev} {n : Nat}

theorem Dev.apRun_held (h : d.bitOf F.WLD_AP_RUN.RUN n = false) :
    d.apRun n = { d with worlds := { d.worlds with apRunning := setMask d.worlds.apRunning n false } } := if_neg (by simp [h])

theorem Dev.apRun_starts (h : d.bitOf F.WLD_AP_RUN.RUN n = true) (hc : d.clocks.coresHeld = false) :
    d.apRun n = { d with worlds := { d.worlds with apRunning := setMask d.worlds.apRunning n true } } :=
  (if_pos h).trans (if_pos (by simp [h, hc]))

theorem Dev.apRun_stands (h : d.bitOf F.WLD_AP_RUN.RUN n = true) (hc : d.clocks.coresHeld = true) : d.apRun n = d :=
  (if_pos h).trans (if_neg (by simp [hc]))

end

/-- A core that is to run starts unless every core is held; one that is not is held in reset, and no other core changes. -/
theorem Dev.apRun_running (d : Dev) (n m : Nat) : (d.apRun n).worlds.apRunning.testBit m
    = if m = n then d.bitOf F.WLD_AP_RUN.RUN n && (!d.clocks.coresHeld || d.worlds.apRunning.testBit n)
      else d.worlds.apRunning.testBit m := by
  cases hrun : d.bitOf F.WLD_AP_RUN.RUN n with
  | false =>
    rw [Dev.apRun_held hrun]
    simp only [testBit_setMask, Bool.false_and]
  | true =>
    cases hheld : d.clocks.coresHeld with
    | false =>
      rw [Dev.apRun_starts hrun hheld]
      simp only [testBit_setMask, Bool.not_false, Bool.true_or, Bool.and_true]
    | true =>
      rw [Dev.apRun_stands hrun hheld]
      by_cases h : m = n
      · simp [h]
      · simp [h]

/-- The cores of a list without repetition each run or are held as their RUN bit says, and no other core changes. -/
theorem CoresStand.apRun_all {a d : Dev} (h : CoresStand a d) {l : List Nat} (hl : l.Nodup) : CoresStand a (forL l Dev.apRun d)
    ∧ ∀ n, (forL l Dev.apRun d).worlds.apRunning.testBit n
        = if n ∈ l then a.bitOf F.WLD_AP_RUN.RUN n && (!a.clocks.coresHeld || d.worlds.apRunning.testBit n)
          else d.worlds.apRunning.testBit n := by
  induction l generalizing d with
  | nil => exact ⟨h, fun n => (if_neg (by simp)).symm⟩
  | cons x xs ih =>
    obtain ⟨hx, hxs⟩ := List.nodup_cons.1 hl
    obtain ⟨hstand, hbits⟩ := ih (h.apRun x) hxs
    refine ⟨hstand, fun n => (hbits n).trans ?_⟩
    rw [Dev.apRun_running, h.bitOf, h.clocks]
    by_cases hn : n = x
    · subst hn
      simp [hx]
    · simp [hn]

theorem storedWhole_run (locked : Bool) : F.WLD_AP_RUN.RUN.storedWhole .none locked = true := by
  cases locked <;> decide +kernel

/-- RUN takes what is written to it, locked or not. -/
theorem Dev.stored_run (d : Dev) (v : Word) : (d.stored .wld O.WLD_AP_RUN v).fld F.WLD_AP_RUN.RUN = v.toNat % 16 := by
  refine (Dev.fld_stored_wld (storedWhole_run _) (takesWld_apRun d v).thawed).trans ?_
  simp [F.WLD_AP_RUN.RUN, Fix.store]

/-- A write of WLD_AP_RUN starts the cores whose RUN bit it sets, unless every core is held, and holds the others (R70, R147). -/
theorem apRunWrite_row {s : State} {t : Stamp} {acc : Access} {v : Word} {a b : Dev} (h : At s t 0 a) (hsv : Sv acc)
    (hb : b = a.stored .wld O.WLD_AP_RUN v) :
    ∃ d, Turns (exec (.apRunWrite t acc v) s) s [(.wld, O.WLD_AP_RUN)] a d ∧ d.fld F.WLD_AP_RUN.RUN = v.toNat % 16
      ∧ ∀ n < 4, d.worlds.apRunning.testBit n = (v.getLsbD n && (!a.clocks.coresHeld || a.worlds.apRunning.testBit n)) := by
  have htakes := takesWld_apRun a v
  obtain ⟨w, hw⟩ := htakes.stored_setReg
  have hclocks : b.clocks = a.clocks := by rw [hb, hw, Dev.setReg_clocks]
  have hworlds : b.worlds = a.worlds := by rw [hb, hw, Dev.setReg_worlds]
  have hrun : b.fld F.WLD_AP_RUN.RUN = v.toNat % 2 ^ 4 := hb ▸ a.stored_run v
  obtain ⟨hstand, hbits⟩ := (CoresStand.mk (a := b) rfl rfl rfl).apRun_all (List.nodup_range (n := 4))
  refine ⟨b.apRunWrite, ⟨does_wldWrite h hsv htakes rfl ?_, ?_⟩, ?_, fun n hn => ?_⟩
  · rw [State.wldHook_apRun, ← hb, State.map]
  · exact (hb ▸ htakes.stored_regs).upd hstand.regs hstand.part
  · exact (Dev.fld_congr (by simp only [Dev.reg, Dev.apRunWrite_eq, hstand.regs, hstand.part])).trans hrun
  · refine (hbits n).trans ((if_pos (List.mem_range.2 hn)).trans ?_)
    rw [Dev.bitOf, hrun, hclocks, hworlds, Nat.testBit_mod_two_pow, BitVec.testBit_toNat]
    simp [hn]

/-- Settles O25: a request is judged where the entry is not busy and else leaves its world as it was; the RUN bits decide core by core. -/
theorem worldAssignmentAndApRun : Obligations.WorldAssignmentAndApRun := by
  unfold Obligations.WorldAssignmentAndApRun
  refine ⟨fun s t acc e v a b h hsv ho hne hb => ?_, fun s t acc v a b h hsv hb => apRunWrite_row h hsv hb⟩
  exact ⟨watWrite_free_row h hsv ho hne hb, watWrite_busy_row h hsv ho hne hb⟩

end Sys2Proof.Machine
end

section
/-! ### Commands of CMD rings: the checks of world and parameters (R176, Table HST-11) -/

namespace Sys2Proof.Machine

section
variable {u : State} {c : Cmd} {act : State → State × Done} (hr : Ready u.dev c)
include hr

/-- A taken command that its ring may not carry completes with WORLD, whatever its parameters. -/
theorem State.runCmd_world (ok : Bool) : u.runCmd c false ok act = u.complete c 3 0 := by
  obtain ⟨hready, hbar, hboot⟩ := hr
  simp only [State.runCmd, hready, hbar, hboot]
  rfl

/-- A taken command that its ring may carry and whose parameters are out of range completes with BAD_PARAM. -/
theorem State.runCmd_badParam : u.runCmd c true false act = u.complete c 2 0 := by
  obtain ⟨hready, hbar, hboot⟩ := hr
  simp only [State.runCmd, hready, hbar, hboot]
  rfl

/-- A taken command that passes both checks is executed, and completes with its engine's outcome. -/
theorem State.runCmd_acts : u.runCmd c true true act = (act u).1.complete c (act u).2.code (act u).2.detail := by
  obtain ⟨hready, hbar, hboot⟩ := hr
  simp only [State.runCmd, hready, hbar, hboot]
  rfl

end

section
variable {s : State} {t : Stamp} {a : Dev} {c : Cmd} {ok : Bool} {act : State → State × Done} (h : At s t 0 a) (hr : Ready a c)
include h hr

theorem ends_world {world : Dev → Bool} (hw : world a = false) :
    Ends (.next (s.run t 0 (fun s => s.runCmd c (world s.dev) ok act))) s c [] a a .world := by
  refine ⟨does_run h ?_, .refl _ _⟩
  rw [hw]
  exact State.runCmd_world (u := { s with dev := a }) hr ok

theorem ends_badParam (hs : a.secureCmds c.ring.val = true) (hok : ok = false) :
    Ends (.next (s.run t 0 (fun s => s.runCmd c (s.dev.secureCmds c.ring.val) ok act))) s c [] a a .badParam := by
  refine ⟨does_run h ?_, .refl _ _⟩
  rw [hs, hok]
  exact State.runCmd_badParam (u := { s with dev := a }) hr

theorem does_acts {world : Dev → Bool} (hw : world a = true) (hok : ok = true) {u : State} {x : Done} (hu : act { s with dev := a } = (u, x)) :
    Does (.next (s.run t 0 (fun s => s.runCmd c (world s.dev) ok act))) (u.complete c x.code x.detail) := by
  refine does_run h ?_
  rw [hw, hok]
  refine (State.runCmd_acts (u := { s with dev := a }) hr).trans ?_
  rw [hu]

end

/-- Settles O9: NOP may come from every ring; the opcodes named are S opcodes, whose parameters are judged once their ring may carry them. -/
theorem nopUnknownAndReservedBytes : Obligations.NopUnknownAndReservedBytes := by
  unfold Obligations.NopUnknownAndReservedBytes
  refine ⟨fun s t c opcode a h hr => ⟨fun h0 hok => ?_, fun h0 => ?_⟩, fun s t c a h hr hs => ⟨fun hok => ?_, fun hok => ?_, fun hok => ?_,
    fun hok => ?_, fun hok => ?_⟩⟩
  · refine ⟨does_run h ?_, .refl _ _⟩
    rw [if_pos h0, hok]
    exact State.runCmd_acts (u := { s with dev := a }) hr
  · refine ⟨does_run h ?_, .refl _ _⟩
    rw [if_neg h0]
    exact State.runCmd_acts (u := { s with dev := a }) hr
  · exact ends_badParam h hr hs hok
  · simp only [List.mem_cons, List.not_mem_nil, or_false]
    rintro i (rfl | rfl | rfl | rfl)
    · exact ends_badParam h hr hs hok
    · exact ends_badParam h hr hs hok
    · exact ends_badParam h hr hs (by rw [hok, Bool.false_and])
    · exact ends_badParam h hr hs hok
  · exact ends_badParam h hr hs hok
  · exact ends_badParam h hr hs (by simp only [hok, Bool.false_and])
  · exact ends_badParam h hr hs hok

/-- The rings that may carry WM_THRESHOLD: of a fixed monitor those for S opcodes, of a general one the secure rings and those of its own world. -/
def Dev.thresholdRing (c : Cmd) (d : Dev) : Bool :=
  if c.byte 8 < 112 then d.secureCmds c.ring.val else d.ringSecure c.ring.val || 128 ≤ c.byte 8 || d.monNs (c.byte 8)

theorem Dev.thresholdRing_fixed {c : Cmd} (h : c.byte 8 < 112) (d : Dev) : d.thresholdRing c = d.secureCmds c.ring.val := if_pos h

theorem Dev.thresholdRing_general {c : Cmd} (h1 : 112 ≤ c.byte 8) (h2 : c.byte 8 < 128) (d : Dev) :
    d.thresholdRing c = (d.ringSecure c.ring.val || d.monNs (c.byte 8)) := by
  rw [Dev.thresholdRing, if_neg (by omega)]
  simp [show ¬ 128 ≤ c.byte 8 by omega]

section
variable {s : State} {t : Stamp} {a : Dev} {c : Cmd} (h : At s t 0 a) (hr : Ready a c)
include h hr

/-- S opcodes on a ring that may not carry them. -/
theorem secureOpcode_world (hs : a.secureCmds c.ring.val = false) :
    (∀ i ∈ [Instr.aspectRequest t c, .lampRearm t c, .pgClear t c, .sectionReset t c, .groupRelease t c, .endgameAck t c, .fbReset t c,
      .castle t c, .senThreshold t c, .blank t c, .appSend t c], Ends (exec i s) s c [] a a .world)
    ∧ (c.byte 8 < 112 → Ends (exec (.wmThreshold t c) s) s c [] a a .world) := by
  refine ⟨?_, fun h112 => ends_world h hr (world := Dev.thresholdRing c) ((a.thresholdRing_fixed h112).trans hs)⟩
  simp only [List.mem_cons, List.not_mem_nil, or_false]
  rintro i (rfl | rfl | rfl | rfl | rfl | rfl | rfl | rfl | rfl | rfl | rfl)
  all_goals exact ends_world h hr (world := fun d => d.secureCmds c.ring.val) hs

/-- Owner opcodes on a ring that is neither secure nor of the world of what they name. -/
theorem ownerOpcode_world (hs : a.ringSecure c.ring.val = false) :
    (112 ≤ c.byte 8 → c.byte 8 < 128 → a.monNs (c.byte 8) = false → Ends (exec (.wmThreshold t c) s) s c [] a a .world)
    ∧ (a.streamNs (c.byte 8) (c.byte 9) = false → Ends (exec (.streamCtrl t c) s) s c [] a a .world)
    ∧ (a.serNs (c.byte 8) = false → Ends (exec (.serFlush t c) s) s c [] a a .world) := by
  refine ⟨fun h1 h2 hm => ?_, fun hm => ?_, fun hm => ?_⟩
  · exact ends_world h hr (world := Dev.thresholdRing c) (by rw [a.thresholdRing_general h1 h2, hs, hm]; rfl)
  · exact ends_world h hr (world := fun d => d.ringSecure c.ring.val || d.streamNs (c.byte 8) (c.byte 9)) (by rw [hs, hm]; rfl)
  · exact ends_world h hr (world := fun d => d.ringSecure c.ring.val || d.serNs (c.byte 8)) (by rw [hs, hm]; rfl)

end

/-- Settles O10: the world check comes first, so a ring that fails it completes with WORLD before anything else is looked at; an owner opcode passes it
on a secure ring and on one of the world of what it names. -/
theorem secureOpcodesNeedSecureRing : Obligations.SecureOpcodesNeedSecureRing := by
  unfold Obligations.SecureOpcodesNeedSecureRing
  refine ⟨fun s t c a h hr hs => secureOpcode_world h hr hs, fun s t c a h hr => ⟨fun hs => ownerOpcode_world h hr hs, ?_, ?_, ?_⟩⟩
  · intro how h1 h2 hok b x hx
    refine does_acts h hr (world := Dev.thresholdRing c) ?_ hok (by simp only [onDev, hx])
    rw [a.thresholdRing_general h1 h2, Bool.or_eq_true]
    exact how
  · intro how hok u x hx
    exact does_acts h hr (world := fun d => d.ringSecure c.ring.val || d.streamNs (c.byte 8) (c.byte 9)) (Bool.or_eq_true .. ▸ how) hok hx
  · intro how hok h7
    exact does_acts (x := .ok) h hr (world := fun d => d.ringSecure c.ring.val || d.serNs (c.byte 8)) (Bool.or_eq_true .. ▸ how)
      (by simp [hok, h7]) rfl

end Sys2Proof.Machine
end

section
/-! ### What a ring writes and reads within one page (R131, R137, R168, R181) -/

namespace Sys2Proof.Machine

/-! ### Places -/

/-- SRAM stands at its own addresses, in regions of 64 KB (Table WLD-5). -/
theorem Dev.sram_bounds {d : Dev} {x k : Nat} (h : d.place x = .sram k) : 0x08000000 ≤ x ∧ x < 0x08800000 := by
  by_contra hx
  rw [Dev.place, if_neg hx] at h
  split_ifs at h
  · split at h <;> cases h
  · split at h
    · cases h
    · dsimp only at h
      split_ifs at h
      split at h <;> cases h

/-- What stalls an access stalls every access to its region (R137). -/
theorem Dev.stalled_region (d : Dev) {x y : Nat} (hx : 0x08000000 ≤ x ∧ x < 0x08800000) (hxy : x ≤ y) (hy : y / 0x10000 = x / 0x10000) :
    d.stalled y = d.stalled x := by
  rw [Dev.stalled, Dev.stalled, if_pos hx, if_pos (by omega), show (y - 0x08000000) / 0x10000 = (x - 0x08000000) / 0x10000 by omega]

theorem Dev.ringBar_sram {d : Dev} {x k : Nat} (h : d.place x = .sram k) : d.ringBar x = none := by
  simp only [Dev.ringBar, h]

theorem Dev.ringBar_window {d : Dev} {x w : Nat} (h : d.place x = .window w) :
    d.ringBar x = if d.on F.HST_STATUS.LINK_UP then none else some 2 := by
  simp only [Dev.ringBar, h]

theorem Dev.ringBar_unmapped {d : Dev} {x : Nat} (h : d.place x = .unmapped) : d.ringBar x = some 4 := by
  simp only [Dev.ringBar, h]

/-- Descriptors stand at multiples of their length. -/
theorem Dev.ringDesc_aligned (d : Dev) (n : Nat) : d.ringDesc n % 32 = 0 := by
  rw [Dev.ringDesc]
  omega

/-! ### One piece -/

theorem pages_one {x len : Nat} (h : x % 0x1000 + len ≤ 0x1000) (h0 : 0 < len) (fuel : Nat) : pages x len (fuel + 2) = [(x, len)] := by
  have hmin : min len (0x1000 - x % 0x1000) = len := by omega
  simp [pages, hmin, h0.ne']

theorem State.ringWrite_page (s : State) (n : Nat) {x : Nat} {l : List Byte} (h : x % 0x1000 + l.length ≤ 0x1000) (h0 : 0 < l.length) :
    s.ringWrite n x l = s.ringPut n x l := by
  simp [State.ringWrite, pages_one h h0]

theorem State.ringRead_page (s : State) (n : Nat) {x k : Nat} (h : x % 0x1000 + k ≤ 0x1000) (h0 : 0 < k) :
    s.ringRead n x k = s.ringGet n x k := by
  simp [State.ringRead, pages_one h h0]

section
variable {s : State} {n x : Nat} (hst : s.dev.stalled x = s.dev)
include hst

theorem State.ringPut_allowed (hv : s.dev.violation (ringAccess n) x true = none) (l : List Byte) : s.ringPut n x l = s.dmaWrite x l := by
  have hs : s.map (fun d => d.stalled x) = s := by rw [State.map, hst]
  rw [State.ringPut, hs, hv]
  rfl

theorem State.ringGet_allowed (hv : s.dev.violation (ringAccess n) x false = none) (k : Nat) : s.ringGet n x k = (s.dmaRead x k, s) := by
  have hs : s.map (fun d => d.stalled x) = s := by rw [State.map, hst]
  rw [State.ringGet, hs, hv]
  rfl

end

/-! ### SRAM -/

/-- The state with other contents of its device memory. -/
def State.withMem (m : List Host.Cell) (s : State) : State := { s with store := { s.store with mem := m } }

theorem State.withMem_dev (m : List Host.Cell) (s : State) : (s.withMem m).dev = s.dev := rfl

/-- A write that touches no doorbell word rings nobody (R168). -/
theorem Dev.snoop_unheard {d : Dev} {x len : Nat} (h : ∀ r < 64, d.ringRuns r = true → d.fld (F.HST_RING_CFG.DISC r) = 0 →
      d.fld (F.HST_RING_DB.DB_ADDR r) * 4 + 4 ≤ x ∨ x / 4 * 4 + len ≤ d.fld (F.HST_RING_DB.DB_ADDR r) * 4) (mem : List Host.Cell) :
    d.snoop mem x len = d := by
  unfold Dev.snoop forN
  refine List.foldlRecOn (motive := fun e => e = d) (List.range 64) _ rfl (fun e he r hr => ?_)
  subst he
  dsimp only
  rw [if_neg]
  intro hc
  simp only [Bool.and_eq_true, decide_eq_true_eq] at hc
  obtain ⟨⟨⟨hruns, hdisc⟩, hlow⟩, hhigh⟩ := hc
  have := h r (List.mem_range.1 hr) hruns hdisc
  omega

/-- A write of `len` bytes at `x` by ring `n` goes to SRAM and does nothing else: it lies within one page, violates no world, meets no region being
zeroed and touches no doorbell word. -/
structure SramClear (d : Dev) (n x len : Nat) : Prop where
  page : x % 0x1000 + len ≤ 0x1000
  sram : ∃ k, d.place x = .sram k
  allowed : d.violation (ringAccess n) x true = none
  ready : d.stalled x = d
  unheard : ∀ r < 64, d.ringRuns r = true → d.fld (F.HST_RING_CFG.DISC r) = 0 →
    d.fld (F.HST_RING_DB.DB_ADDR r) * 4 + 4 ≤ x ∨ x / 4 * 4 + len ≤ d.fld (F.HST_RING_DB.DB_ADDR r) * 4

theorem SramClear.ringWrite {s : State} {n x : Nat} {l : List Byte} (h : SramClear s.dev n x l.length) (h0 : 0 < l.length) :
    s.ringWrite n x l = s.withMem (memWrite s.store.mem x l) := by
  obtain ⟨k, hk⟩ := h.sram
  rw [State.ringWrite_page s n h.page h0, State.ringPut_allowed h.ready h.allowed]
  simp only [State.dmaWrite, hk, Dev.snoop_unheard h.unheard, State.withMem]

/-! ### Host memory -/

section
variable {s : State} {n x w : Nat} (hp : s.dev.place x = .window w)
include hp

theorem State.ringWrite_window {l : List Byte} (h : x % 0x1000 + l.length ≤ 0x1000) (h0 : 0 < l.length)
    (hup : s.dev.on F.HST_STATUS.LINK_UP = true) (hv : s.dev.violation (ringAccess n) x true = none) :
    s.ringWrite n x l = { s with store := { s.store with host := memWrite s.store.host (s.dev.hostAddr w x) l } } := by
  have hst : s.dev.stalled x = s.dev := Dev.stalled_high (by have := Dev.window_le hp; omega)
  rw [State.ringWrite_page s n h h0, State.ringPut_allowed hst hv]
  simp only [State.dmaWrite, hp, hup, if_true]

theorem State.ringRead_window {k : Nat} (h : x % 0x1000 + k ≤ 0x1000) (h0 : 0 < k) (hv : s.dev.violation (ringAccess n) x false = none) :
    s.ringRead n x k = (memRead s.store.host (s.dev.hostAddr w x) k, s) := by
  have hst : s.dev.stalled x = s.dev := Dev.stalled_high (by have := Dev.window_le hp; omega)
  rw [State.ringRead_page s n h h0, State.ringGet_allowed hst hv]
  simp only [State.dmaRead, hp]

end

/-! ### Bytes -/

theorem getElem_leBytes (n v i : Nat) (h : i < (leBytes n v).length) : (leBytes n v)[i] = BitVec.ofNat 8 (v / 256 ^ i) := by
  induction n generalizing v i with
  | zero => exact absurd h (Nat.not_lt_zero i)
  | succ n ih =>
    cases i with
    | zero => simp [leBytes]
    | succ i =>
      simp only [leBytes, List.getElem_cons_succ, ih]
      rw [Nat.div_div_eq_div_mul, pow_succ']

/-- What was written reads back. -/
theorem memRead_memWrite (m : List Host.Cell) (x : Nat) (l : List Byte) : memRead (memWrite m x l) x l.length = l := by
  refine List.ext_getElem (by simp [memRead]) (fun i hi hl => ?_)
  simp only [memRead, List.getElem_map, List.getElem_range]
  exact memByte_memWrite_in m x l i hl

end Sys2Proof.Machine
end

section
/-! ### Consumption and completion (R163, R164, R174, R175, Table HST-6) -/

namespace Sys2Proof.Machine

theorem Dev.ring_setRing (d : Dev) (n : Nat) (r : RingSt) : (d.setRing n r).ring n = r := tabGet_tabPut_same _ _ _ _

theorem Dev.ring_modRing (d : Dev) (n : Nat) (f : RingSt → RingSt) : (d.modRing n f).ring n = f (d.ring n) := d.ring_setRing n _

theorem Dev.ring_congr {d e : Dev} (h : e.rings = d.rings) (n : Nat) : e.ring n = d.ring n := by rw [Dev.ring, h, Dev.ring]

theorem sameRegsBut.modRing {l : List (Blk × Nat)} {a d : Dev} (h : sameRegsBut l a d) (n : Nat) (f : RingSt → RingSt) :
    sameRegsBut l a (d.modRing n f) := h.upd rfl rfl

theorem Dev.modRing_fld (d : Dev) (n : Nat) (f : RingSt → RingSt) (g : Fld) : (d.modRing n f).fld g = d.fld g := rfl

/-- DIDX and DGEN hold the next position: D advances by one, DGEN counts the turns modulo 256. -/
theorem Dev.ringAdvance_idx {d : Dev} {n p : Nat} (hs : d.fld (F.HST_RING_CFG.LOG2SIZE n) ≤ 16) (hp : p = (d.ringPos n + 1) % (256 * d.ringSize n)) :
    (d.ringAdvance n).fld (F.HST_RING_IDX.DIDX n) = p % d.ringSize n ∧ (d.ringAdvance n).fld (F.HST_RING_IDX.DGEN n) = p / d.ringSize n := by
  have hpos : 0 < d.ringSize n := Nat.two_pow_pos _
  have hsize : d.ringSize n ≤ 2 ^ 16 := Nat.pow_le_pow_right (by decide) hs
  have hidx : p % d.ringSize n < 2 ^ 16 := (Nat.mod_lt _ hpos).trans_le hsize
  have hgen : p / d.ringSize n < 2 ^ 8 := by
    rw [Nat.div_lt_iff_lt_mul hpos, hp]
    exact Nat.mod_lt _ (by omega)
  rw [Dev.ringAdvance, ← hp]
  constructor
  · rw [Dev.fld_setFld_apart _ _ _ _ Fld.fits (Fld.apart_of_bits (.inr (by decide : 0 + 16 ≤ 16))), Dev.fld_setFld_same _ _ _ Fld.fits]
    exact Nat.mod_eq_of_lt hidx
  · rw [Dev.fld_setFld_same _ _ _ Fld.fits]
    exact Nat.mod_eq_of_lt hgen

theorem Dev.ringAdvance_regs {l : List (Blk × Nat)} {a d : Dev} {n : Nat} (h : sameRegsBut l a d) (hm : (F.HST_RING_IDX.DIDX n).place ∈ l) :
    sameRegsBut l a (d.ringAdvance n) := (h.setFld _ _ hm).setFld (F.HST_RING_IDX.DGEN n) _ hm

theorem Dev.consume_regs {l : List (Blk × Nat)} {a d : Dev} {n : Nat} (h : sameRegsBut l a d) (hm : (F.HST_RING_IDX.DIDX n).place ∈ l) (irq : Bool) :
    sameRegsBut l a (d.consume n irq) := by
  unfold Dev.consume
  exact (Dev.ringAdvance_regs h hm).modRing n _

theorem Dev.consume_fld (d : Dev) (n : Nat) (irq : Bool) (g : Fld) : (d.consume n irq).fld g = (d.ringAdvance n).fld g := by
  rw [Dev.consume, Dev.modRing_fld]

/-- What consuming an entry makes of the engine's own state of the ring. -/
theorem Dev.consume_ring (d : Dev) (n : Nat) (irq : Bool) : (d.consume n irq).ring n = { d.ring n with
    wbSince := if (d.ring n).wbDue then (d.ring n).wbSince else d.now
    wbDue := true
    unsigSince := if (d.ring n).unsig = 0 then d.now else (d.ring n).unsigSince
    unsig := (d.ring n).unsig + 1
    irqDue := (d.ring n).irqDue || irq } := Dev.ring_modRing ..

/-- SRAM after the two writes of a completion at stamp `now` into the descriptor at `a`. -/
def completedMem (m : List Host.Cell) (a code detail now : Nat) : List Host.Cell :=
  memWrite (memWrite m (a + 24) [BitVec.ofNat 8 code, BitVec.ofNat 8 detail, 1]) (a + 28) (leBytes 4 now)

/-- What a completion leaves where its two writes go to SRAM alone. -/
theorem State.complete_sram {s : State} {c : Cmd} {a : Nat} (code detail : Nat) (ha : a = s.dev.ringDesc c.ring.val)
    (h1 : SramClear s.dev c.ring.val (a + 24) 3) (h2 : SramClear s.dev c.ring.val (a + 28) 4) : s.complete c code detail = { s with
      dev := (s.dev.consume c.ring.val (c.flags.getLsbD 0)).modRing c.ring.val (fun r => { r with ranAt := some s.dev.now })
      store := { s.store with mem := completedMem s.store.mem a code detail s.dev.now.toNat } } := by
  have hw1 : s.ringWrite c.ring.val (a + 24) (leBytes 1 code ++ leBytes 1 detail ++ leBytes 1 1)
      = s.withMem (memWrite s.store.mem (a + 24) [BitVec.ofNat 8 code, BitVec.ofNat 8 detail, 1]) := SramClear.ringWrite h1 (by simp [leBytes])
  have hw2 (m : List Host.Cell) : (s.withMem m).ringWrite c.ring.val (a + 28) (leBytes 4 s.dev.now.toNat)
      = s.withMem (memWrite m (a + 28) (leBytes 4 s.dev.now.toNat)) := SramClear.ringWrite (s := s.withMem m) h2 (by simp [leBytes])
  simp only [State.complete, ← ha, hw1, State.withMem_dev, hw2]
  rfl

/-- The bytes that a completion writes, and no others. -/
theorem memByte_completedMem (m : List Host.Cell) (a code detail now : Nat) {m' : List Host.Cell} (hm : m' = completedMem m a code detail now) :
    memByte m' (a + 24) = BitVec.ofNat 8 code ∧ memByte m' (a + 25) = BitVec.ofNat 8 detail ∧ memByte m' (a + 26) = 1
      ∧ (∀ j < 4, memByte m' (a + 28 + j) = BitVec.ofNat 8 (now / 256 ^ j))
      ∧ ∀ x, ¬ (a + 24 ≤ x ∧ x < a + 27) → ¬ (a + 28 ≤ x ∧ x < a + 32) → memByte m' x = memByte m x := by
  subst hm
  have hlow (i : Nat) (hi : i < [BitVec.ofNat 8 code, BitVec.ofNat 8 detail, 1].length) :
      memByte (completedMem m a code detail now) (a + 24 + i) = [BitVec.ofNat 8 code, BitVec.ofNat 8 detail, 1][i] := by
    rw [completedMem, memByte_memWrite_out _ _ _ _ (by simp only [List.length_cons, List.length_nil] at hi; omega)]
    exact memByte_memWrite_in m (a + 24) _ i hi
  refine ⟨hlow 0 (by simp), hlow 1 (by simp), hlow 2 (by simp), fun j hj => ?_, fun x h1 h2 => ?_⟩
  · rw [completedMem, memByte_memWrite_in _ _ _ j (by rwa [length_leBytes])]
    exact getElem_leBytes ..
  · rw [completedMem, memByte_memWrite_out _ _ _ _ (by rw [length_leBytes]; omega),
      memByte_memWrite_out _ _ _ _ (by simp only [List.length_cons, List.length_nil]; omega)]

theorem complete_row {s : State} {c : Cmd} {a k : Nat} (ha : a = s.dev.ringDesc c.ring.val) (code detail : Nat) (hp24 : s.dev.place (a + 24) = .sram k)
    (hp28 : s.dev.place (a + 28) = .sram k) (hv24 : s.dev.violation (ringAccess c.ring.val) (a + 24) true = none)
    (hv28 : s.dev.violation (ringAccess c.ring.val) (a + 28) true = none) (hst : s.dev.stalled a = s.dev)
    (hdb : ∀ r < 64, s.dev.ringRuns r = true → s.dev.fld (F.HST_RING_CFG.DISC r) = 0 →
      s.dev.fld (F.HST_RING_DB.DB_ADDR r) * 4 < a + 24 ∨ a + 32 ≤ s.dev.fld (F.HST_RING_DB.DB_ADDR r) * 4) :
    s.complete c code detail = { s with
      dev := (s.dev.consume c.ring.val (c.flags.getLsbD 0)).modRing c.ring.val (fun r => { r with ranAt := some s.dev.now })
      store := { s.store with mem := completedMem s.store.mem a code detail s.dev.now.toNat } } := by
  have halign : a % 32 = 0 := ha ▸ s.dev.ringDesc_aligned c.ring.val
  obtain ⟨hlo, hhi⟩ := Dev.sram_bounds hp24
  have hready {y : Nat} (hy : a ≤ y) (hy' : y < a + 32) : s.dev.stalled y = s.dev :=
    (s.dev.stalled_region (by omega) hy (by omega)).trans hst
  refine State.complete_sram code detail ha ?_ ?_
  · exact ⟨by omega, ⟨k, hp24⟩, hv24, hready (by omega) (by omega), fun r hr hruns hdisc => by have := hdb r hr hruns hdisc; omega⟩
  · exact ⟨by omega, ⟨k, hp28⟩, hv28, hready (by omega) (by omega), fun r hr hruns hdisc => by have := hdb r hr hruns hdisc; omega⟩

/-- Settles O11: both writes of a completion go to SRAM alone, and the entry is then consumed. -/
theorem completionWritesDescriptorAndAdvancesD : Obligations.CompletionWritesDescriptorAndAdvancesD := by
  unfold Obligations.CompletionWritesDescriptorAndAdvancesD
  refine ⟨fun s c code detail k hp24 hp28 hv24 hv28 hst hdb => ?_, fun d n irq hn hs => ?_⟩
  · rw [complete_row rfl code detail hp24 hp28 hv24 hv28 hst hdb]
    exact ⟨rfl, memByte_completedMem _ _ _ _ _ rfl⟩
  · have hring := d.consume_ring n irq
    obtain ⟨hidx, hgen⟩ := Dev.ringAdvance_idx hs rfl
    exact ⟨(d.consume_fld n irq _).trans hidx, (d.consume_fld n irq _).trans hgen, by rw [hring], by rw [hring], by rw [hring],
      Dev.consume_regs (.refl _ _) List.mem_cons_self irq⟩

end Sys2Proof.Machine
end

section
/-! ### Write-back blocks (R167, Table HST-4) -/

namespace Sys2Proof.Machine

theorem length_wbBlock (d : Dev) (n : Nat) : (wbBlock d n).length = 16 := by simp [wbBlock, length_leBytes]

/-- The ring's state after a write-back: numbered, with every consumption covered. -/
def Dev.covered (d : Dev) (n : Nat) : Dev := d.modRing n (fun r => { r with wbSeq := r.wbSeq + 1, wbDue := false })

theorem Dev.covered_fld (d : Dev) (n : Nat) (g : Fld) : (d.covered n).fld g = d.fld g := rfl

theorem Dev.covered_wbSeq (d : Dev) (n : Nat) : ((d.covered n).ring n).wbSeq = (d.ring n).wbSeq + 1 := by
  rw [Dev.covered, Dev.ring_modRing]

section
variable {s : State} {n x : Nat} (hx : x = s.dev.fld (F.HST_RING_WB.WB_ADDR n) * 16)
include hx

theorem State.writeBack_sram (h : SramClear s.dev n x 16) : s.writeBack n = { s with
    dev := s.dev.covered n
    store := { s.store with mem := memWrite s.store.mem x (wbBlock s.dev n) } } := by
  have hlen := length_wbBlock s.dev n
  rw [State.writeBack, ← hx]
  dsimp only
  rw [SramClear.ringWrite (by rwa [hlen]) (by rw [hlen]; decide)]
  rfl

theorem State.writeBack_window {w : Nat} (hp : s.dev.place x = .window w) (hup : s.dev.on F.HST_STATUS.LINK_UP = true)
    (hv : s.dev.violation (ringAccess n) x true = none) : s.writeBack n = { s with
    dev := s.dev.covered n
    store := { s.store with host := memWrite s.store.host (s.dev.hostAddr w x) (wbBlock s.dev n) } } := by
  have hlen := length_wbBlock s.dev n
  rw [State.writeBack, ← hx]
  dsimp only
  rw [State.ringWrite_window hp (by omega) (by rw [hlen]; decide) hup hv]
  rfl

end

/-- The STATE and ERR that a ring takes. -/
def Dev.ringTakes (d : Dev) (n st err : Nat) : Dev := (d.setFld (F.HST_RING_CTRL.STATE n) st).setFld (F.HST_RING_CTRL.ERR n) err

theorem Dev.ringTakes_state (d : Dev) (n : Nat) {st : Nat} (err : Nat) (h : st < 8) : (d.ringTakes n st err).fld (F.HST_RING_CTRL.STATE n) = st := by
  rw [Dev.ringTakes, Dev.fld_setFld_apart _ _ _ _ Fld.fits (Fld.apart_of_bits (.inr (by decide : 8 + 3 ≤ 12))), Dev.fld_setFld_same _ _ _ Fld.fits]
  exact Nat.mod_eq_of_lt h

theorem Dev.ringTakes_err (d : Dev) (n st : Nat) {err : Nat} (h : err < 16) : (d.ringTakes n st err).fld (F.HST_RING_CTRL.ERR n) = err := by
  rw [Dev.ringTakes, Dev.fld_setFld_same _ _ _ Fld.fits]
  exact Nat.mod_eq_of_lt h

theorem Dev.ringTakes_regs (d : Dev) (n st err : Nat) : sameRegsBut [(F.HST_RING_CTRL.STATE n).place] d (d.ringTakes n st err) :=
  ((sameRegsBut.refl _ d).setFld _ _ List.mem_cons_self).setFld (F.HST_RING_CTRL.ERR n) _ List.mem_cons_self

theorem Dev.ringTakes_wbAddr (d : Dev) (n st err : Nat) : (d.ringTakes n st err).fld (F.HST_RING_WB.WB_ADDR n) = d.fld (F.HST_RING_WB.WB_ADDR n) :=
  Dev.fld_congr (d.ringTakes_regs n st err _ _ (by simp [Fld.place, F.HST_RING_WB.WB_ADDR, F.HST_RING_CTRL.STATE]))

theorem Dev.ringTakes_ring (d : Dev) (n st err m : Nat) : (d.ringTakes n st err).ring m = d.ring m := rfl

theorem State.ringState_eq (n st err : Nat) (s : State) : s.ringState n st err = (s.map (fun d => d.ringTakes n st err)).writeBack n := rfl

/-- What a change of a ring's STATE writes where its write-back block lies in SRAM. -/
theorem ringState_row {s : State} {n st err k : Nat} {d : Dev} (hst : st < 4) (hd : d = s.dev.ringTakes n st err) {a : Nat}
    (ha : a = s.dev.fld (F.HST_RING_WB.WB_ADDR n) * 16) (hp : d.place a = .sram k) (hv : d.violation (ringAccess n) a true = none)
    (hready : d.stalled a = d) (hdb : ∀ r < 64, d.ringRuns r = true → d.fld (F.HST_RING_CFG.DISC r) = 0 →
      d.fld (F.HST_RING_DB.DB_ADDR r) * 4 < a ∨ a + 16 ≤ d.fld (F.HST_RING_DB.DB_ADDR r) * 4) :
    ∃ u, s.ringState n st err = u ∧ memRead u.store.mem a 16 = wbBlock d n
      ∧ (∀ x, ¬ (a ≤ x ∧ x < a + 16) → memByte u.store.mem x = memByte s.store.mem x)
      ∧ (u.dev.ring n).wbSeq = (s.dev.ring n).wbSeq + 1 ∧ u.dev.fld (F.HST_RING_CTRL.STATE n) = st
      ∧ sameRegsBut [(F.HST_RING_CTRL.STATE n).place] s.dev u.dev := by
  have hclear : SramClear d n a 16 :=
    ⟨by omega, ⟨k, hp⟩, hv, hready, fun r hr hruns hdisc => by have := hdb r hr hruns hdisc; omega⟩
  have hlen := length_wbBlock d n
  refine ⟨_, rfl, ?_⟩
  subst hd
  rw [State.ringState_eq, State.writeBack_sram (x := a) (by rw [State.map_dev, Dev.ringTakes_wbAddr, ha]) hclear]
  refine ⟨?_, fun x hx => ?_, ?_, ?_, ?_⟩
  · have hread := memRead_memWrite s.store.mem a (wbBlock (s.dev.ringTakes n st err) n)
    rwa [hlen] at hread
  · exact memByte_memWrite_out _ _ _ _ (by rw [State.map_dev, hlen]; omega)
  · exact ((s.dev.ringTakes n st err).covered_wbSeq n).trans (by rw [s.dev.ringTakes_ring])
  · exact ((s.dev.ringTakes n st err).covered_fld n _).trans (s.dev.ringTakes_state n err (by omega))
  · exact (s.dev.ringTakes_regs n st err).modRing n _

end Sys2Proof.Machine
end

section
/-! ### Writes of HST_RING_CTRL (R9, R133, R179, R180) -/

namespace Sys2Proof.Machine

/-- The row of HST_RING_CTRL: ENABLE, STATE, ERR. -/
def ringCtrlDef : RegDef := ⟨O.HST_RING_CTRL, 0x20, 64, 0x4, 1, none, [fd 0 1 .rw 0 0x0 true, fd 8 3 .ro 0 0x0, fd 12 4 .ro 0 0x0]⟩

theorem findReg_ringCtrl (n : Fin 64) : findReg (O.HST_RING_CTRL + 0x20 * n.val) (regDefs .hst) = some (ringCtrlDef, n.val, 0) := by
  fin_cases n <;> rfl

/-! ### The write itself -/

section
variable (d : Dev) (n : Fin 64) (v : Word)

/-- HST_RING_CTRL is open to writes while its ring is enabled (Table HST-17). -/
theorem Dev.writable_ringCtrl : d.writable .hst (O.HST_RING_CTRL + 0x20 * n.val) v.toNat 0xFFFFFFFF = 0xFFFFFFFF := by
  refine writable_all _ _ _ _ (by simp [deadBits, reservedBits, absentBits]) (if_neg ?_)
  simp only [O.HST_RING_CTRL, O.HST_RING_CFG, O.HST_RING_IDX]
  omega

theorem Dev.stored_ringCtrl : d.stored .hst (O.HST_RING_CTRL + 0x20 * n.val) v = d.setReg .hst (O.HST_RING_CTRL + 0x20 * n.val)
    (ringCtrlDef.writeWord (d.reg .hst (O.HST_RING_CTRL + 0x20 * n.val)).toNat v.toNat 0xFFFFFFFF 0 true (d.on F.BOT_STATUS.LOCKED)) := by
  simp only [Dev.stored, findReg_ringCtrl n, Dev.storeReg, Dev.crossFix, Dev.writable_ringCtrl, reduceCtorEq, false_and, if_false]

theorem Dev.stored_ringCtrl_regs : sameRegsBut [(.hst, O.HST_RING_CTRL + 0x20 * n.val)] d (d.stored .hst (O.HST_RING_CTRL + 0x20 * n.val) v) := by
  rw [d.stored_ringCtrl n v]
  exact sameRegsBut_setReg _ _ _ _ _ List.mem_cons_self

theorem Dev.stored_ringCtrl_fld {g : Fld} (hg : g.place ≠ (.hst, O.HST_RING_CTRL + 0x20 * n.val)) :
    (d.stored .hst (O.HST_RING_CTRL + 0x20 * n.val) v).fld g = d.fld g :=
  Dev.fld_congr (d.stored_ringCtrl_regs n v _ _ (by simpa [Fld.place] using hg))

/-- What an element of a field of HST_RING_CTRL holds after the write. -/
theorem Dev.stored_ringCtrl_get {f : FieldDef} (hf : f ∈ ringCtrlDef.fields) (hm : 0 < f.n) :
    (d.stored .hst (O.HST_RING_CTRL + 0x20 * n.val) v).fld ⟨.hst, O.HST_RING_CTRL + 0x20 * n.val, f.pos 0, f.w⟩
      = f.write 0 (d.reg .hst (O.HST_RING_CTRL + 0x20 * n.val)).toNat v.toNat 0xFFFFFFFF 0 true (d.on F.BOT_STATUS.LOCKED) % 2 ^ f.w := by
  rw [d.stored_ringCtrl n v, Dev.fld, Dev.reg_setReg_same, BitVec.extractLsb'_toNat, Nat.shiftRight_eq_div_pow]
  exact RegDef.get_writeWord (findReg_wf (findReg_ringCtrl n)) hf hm nofun _ _ _ _ _ _

/-- ENABLE takes bit 0 of the written word. -/
theorem Dev.stored_ringEnable : (d.stored .hst (O.HST_RING_CTRL + 0x20 * n.val) v).fld (F.HST_RING_CTRL.ENABLE n.val) = v.toNat % 2 := by
  refine (d.stored_ringCtrl_get n v (f := fd 0 1 .rw 0 0x0 true) List.mem_cons_self Nat.one_pos).trans ?_
  rw [FieldDef.write_whole _ _ _ _ _ _ _ _ (.inl rfl) (by decide)]
  simp [FieldDef.get, FieldDef.pos, fd, Fix.store]

/-- STATE is read-only. -/
theorem Dev.stored_ringState :
    (d.stored .hst (O.HST_RING_CTRL + 0x20 * n.val) v).fld (F.HST_RING_CTRL.STATE n.val) = d.fld (F.HST_RING_CTRL.STATE n.val) := by
  refine (d.stored_ringCtrl_get n v (f := fd 8 3 .ro 0 0x0) (List.mem_cons_of_mem _ List.mem_cons_self) Nat.one_pos).trans ?_
  rw [FieldDef.write_ro _ _ _ _ _ _ _ _ rfl, Nat.mod_eq_of_lt (FieldDef.get_lt _ _ _), Dev.fld, BitVec.extractLsb'_toNat, Nat.shiftRight_eq_div_pow]
  rfl

end

/-- A write of an SV pair to HST_RING_CTRL is stored, and a change of ENABLE is acted on. -/
theorem sv_ringCtrl {s : State} {acc : Access} (hsv : Sv acc) (n : Fin 64) (v : Word) :
    s.busWrite acc (blkBase .hst + O.HST_RING_CTRL + 0x20 * n.val) v {}
      = State.ringCtrl s.dev n.val { s with dev := s.dev.stored .hst (O.HST_RING_CTRL + 0x20 * n.val) v } := by
  have hwr := s.dev.writable_ringCtrl n v
  have ht : ringCtrlDef.touched 0xFFFFFFFF true (s.dev.on F.BOT_STATUS.LOCKED) = true := by
    cases s.dev.on F.BOT_STATUS.LOCKED <;> decide
  have hlt : O.HST_RING_CTRL + 0x20 * n.val < 0x80000 := by simp only [O.HST_RING_CTRL]; omega
  have hbase : (blkBase .hst + (O.HST_RING_CTRL + 0x20 * n.val)) / 0x100000 = 0x104
      ∧ (blkBase .hst + (O.HST_RING_CTRL + 0x20 * n.val)) % 0x100000 = O.HST_RING_CTRL + 0x20 * n.val := by
    simp only [blkBase, O.HST_RING_CTRL]
    omega
  rw [Nat.add_assoc, sv_write hsv (findReg_ringCtrl n) (by simp only [O.HST_RING_CTRL]; omega) hlt (by rw [hbase.1]; rfl) hbase.2 (by simp) (by simp)
    rfl (hwr.symm ▸ ht) rfl]
  refine (if_pos ?_).trans ?_
  · simp only [O.HST_RING_CTRL]
    omega
  · rw [show (O.HST_RING_CTRL + 0x20 * n.val - 0x100) / 0x20 = n.val by simp only [O.HST_RING_CTRL]; omega]

/-! ### What a change of ENABLE sets off -/

section
variable {s : State} {old : Dev} {n : Nat}

theorem State.ringCtrl_rises (hold : old.on (F.HST_RING_CTRL.ENABLE n) = false) (hnew : s.dev.on (F.HST_RING_CTRL.ENABLE n) = true)
    (hheld : s.dev.islandHeld 0 = false) : s.ringCtrl old n = (s.map (fun d => d.watAgain (64 + n))).ringStart n := by
  rw [State.ringCtrl, if_pos (by simp [Dev.rose, hold, hnew]), if_neg (by simp [hheld])]

theorem State.ringCtrl_falls (hold : old.on (F.HST_RING_CTRL.ENABLE n) = true) (hnew : s.dev.on (F.HST_RING_CTRL.ENABLE n) = false) :
    s.ringCtrl old n = (s.map (fun d => d.setFld (F.HST_RING_CTRL.ENABLE n) 1)).ringStop n := by
  rw [State.ringCtrl, if_neg (by simp [Dev.rose, hold]), if_pos (by simp [Dev.fell, hold, hnew])]

/-- The set-up passes: the ring starts at its D with nothing dropped. -/
theorem State.ringStart_passes (h : s.dev.ringOk n = true) : s.ringStart n
    = State.ringState n 1 0 { s with dev := (s.dev.setRing n { hs := s.dev.ringPos n }).setFld (F.HST_RING_CNT.DROP n) 0 } := if_pos h

/-- The set-up fails: the ring is left disabled with ERR = CONFIG. -/
theorem State.ringStart_fails (h : s.dev.ringOk n = false) : s.ringStart n
    = { s with dev := ((s.dev.setFld (F.HST_RING_CTRL.ENABLE n) 0).setFld (F.HST_RING_CTRL.STATE n) 0).setFld (F.HST_RING_CTRL.ERR n) 1 } :=
  if_neg (by simp [h])

/-- A ring that does not run has no buffer to complete. -/
theorem State.ringStop_idle (h : s.dev.ringRuns n = false) : s.ringStop n
    = ((State.ringState n 0 0 { s with dev := s.dev.modRing n (fun r => { r with buf := none }) }).map
      (fun d => d.setFld (F.HST_RING_CTRL.ENABLE n) 0)) := by
  rw [State.ringStop, if_neg (by simp [h])]
  rfl

/-- A ring's world stands where it is secure already, or is to carry no S opcodes (R133). -/
theorem Dev.watAgain_stands {d : Dev} (h : d.ringSecure n = true ∨ d.on (F.HST_RING_CFG.SECURE_CMDS n) = false) : d.watAgain (64 + n) = d := by
  refine if_neg (fun hc => ?_)
  obtain ⟨hns, hforbid⟩ := Bool.and_eq_true_iff.1 hc
  rcases h with h | h
  · rw [Dev.ringSecure, hns] at h
    exact absurd h (by decide)
  · rw [Dev.watForbidden, if_neg (by omega), if_neg (by omega), if_pos (by omega), Nat.add_sub_cancel_left, h] at hforbid
    exact absurd hforbid (by decide)

/-- A non-secure ring that is to carry S opcodes becomes secure (R133). -/
theorem Dev.watAgain_secures {d : Dev} (hns : d.ringSecure n = false) (hon : d.on (F.HST_RING_CFG.SECURE_CMDS n) = true) :
    d.watAgain (64 + n) = (d.setWorld (64 + n) false).assignRefused (64 + n) := by
  have hforbid : d.watForbidden (64 + n) = true := by
    rwa [Dev.watForbidden, if_neg (by omega), if_neg (by omega), if_pos (by omega), Nat.add_sub_cancel_left]
  exact if_pos (by simpa [Dev.ringSecure, hforbid] using hns)

theorem Dev.secured_ringSecure (d : Dev) (n : Nat) : ((d.setWorld (64 + n) false).assignRefused (64 + n)).ringSecure n = true := by
  rw [Dev.setWorld, if_neg (by omega), Dev.ringSecure, Dev.nsEntry, Dev.on, Dev.assignRefused, Dev.note_fld_outside _ _ _ _ _
    (show Blk.wld ≠ .flt by decide) (show Blk.wld ≠ .evt by decide), Dev.setBit, Dev.fld_setFld_same _ _ _ Fld.fits]
  rfl

end

/-! ### The rows -/

section
variable {s : State} {t : Stamp} {acc : Access} {n : Fin 64} {a b : Dev} (h : At s t 0 a) (hsv : Sv acc)
include h hsv

/-- A row that sets ENABLE of a disabled ring. -/
theorem does_ringEnable (hb : b = a.stored .hst (O.HST_RING_CTRL + 0x20 * n.val) 1) (hoff : a.on (F.HST_RING_CTRL.ENABLE n.val) = false)
    (hheld : a.islandHeld 0 = false) {u : State} (hu : State.ringStart n.val { s with dev := b.watAgain (64 + n.val) } = u) :
    Does (exec (.ringEnable t acc n) s) u := by
  refine does_run h ((sv_ringCtrl (s := { s with dev := a }) hsv n 1).trans ?_)
  have hheld' : b.islandHeld 0 = false := by
    rw [← hheld, Dev.islandHeld, Dev.islandHeld, Dev.bitOf, Dev.bitOf, hb, Dev.stored_ringCtrl_fld _ _ _ (by simp [Fld.place, F.ISL_ISLAND_HELD.HELD])]
  rw [← hu, ← hb]
  refine State.ringCtrl_rises hoff ?_ hheld'
  rw [Dev.on, hb, Dev.stored_ringEnable]
  rfl

/-- A row that clears ENABLE of a ring that is enabled and not RUNNING. -/
theorem ringDisable_row (hon : a.on (F.HST_RING_CTRL.ENABLE n.val) = true) (hstate : a.fld (F.HST_RING_CTRL.STATE n.val) ≠ 1) {d : Dev}
    (hd : d = ((a.stored .hst (O.HST_RING_CTRL + 0x20 * n.val) 0).setFld (F.HST_RING_CTRL.ENABLE n.val) 1).modRing n.val
      (fun r => { r with buf := none })) :
    Does (exec (.ringDisable t acc n) s) ((State.ringState n.val 0 0 { s with dev := d }).map (fun d => d.setFld (F.HST_RING_CTRL.ENABLE n.val) 0)) := by
  refine does_run h ((sv_ringCtrl (s := { s with dev := a }) hsv n 0).trans ?_)
  have hoff : (a.stored .hst (O.HST_RING_CTRL + 0x20 * n.val) 0).on (F.HST_RING_CTRL.ENABLE n.val) = false := by
    rw [Dev.on, Dev.stored_ringEnable]
    rfl
  refine (State.ringCtrl_falls (s := { s with dev := a.stored .hst (O.HST_RING_CTRL + 0x20 * n.val) 0 }) hon hoff).trans ?_
  have hkept : ((a.stored .hst (O.HST_RING_CTRL + 0x20 * n.val) 0).setFld (F.HST_RING_CTRL.ENABLE n.val) 1).fld (F.HST_RING_CTRL.STATE n.val)
      = a.fld (F.HST_RING_CTRL.STATE n.val) :=
    (Dev.fld_setFld_apart _ _ _ _ Fld.fits (Fld.apart_of_bits (.inl (by decide : 0 + 1 ≤ 8)))).trans (a.stored_ringState n 0)
  have hidle : ((a.stored .hst (O.HST_RING_CTRL + 0x20 * n.val) 0).setFld (F.HST_RING_CTRL.ENABLE n.val) 1).ringRuns n.val = false := by
    rw [Dev.ringRuns, hkept, decide_eq_false hstate, Bool.and_false]
  rw [hd]
  exact State.ringStop_idle (s := { s with dev := (a.stored .hst (O.HST_RING_CTRL + 0x20 * n.val) 0).setFld (F.HST_RING_CTRL.ENABLE n.val) 1 }) hidle

section
variable (hb : b = a.stored .hst (O.HST_RING_CTRL + 0x20 * n.val) 1) (hoff : a.on (F.HST_RING_CTRL.ENABLE n.val) = false)
  (hheld : a.islandHeld 0 = false)
include hb hoff hheld

omit h hsv hoff hheld in
/-- The write leaves the ring's world and its right to S opcodes alone. -/
theorem ringEnable_keeps : b.ringSecure n.val = a.ringSecure n.val
    ∧ b.on (F.HST_RING_CFG.SECURE_CMDS n.val) = a.on (F.HST_RING_CFG.SECURE_CMDS n.val) := by
  rw [Dev.ringSecure, Dev.nsEntry, Dev.on, Dev.on, hb, Dev.stored_ringCtrl_fld _ _ _ (by simp [Fld.place, F.WLD_WAT.APPLIED_NS]),
    Dev.stored_ringCtrl_fld _ _ _ (by simp [Fld.place, F.HST_RING_CFG.SECURE_CMDS, O.HST_RING_CTRL])]
  exact ⟨rfl, rfl⟩

/-- A ring whose world stands is judged as it is. -/
theorem ringEnable_row (hworld : a.ringSecure n.val = true ∨ a.on (F.HST_RING_CFG.SECURE_CMDS n.val) = false) :
    (b.ringOk n.val = true → ∀ d : Dev, d = (b.setRing n.val { hs := b.ringPos n.val }).setFld (F.HST_RING_CNT.DROP n.val) 0 →
      Does (exec (.ringEnable t acc n) s) (State.ringState n.val 1 0 { s with dev := d }))
    ∧ (b.ringOk n.val = false → Turns (exec (.ringEnable t acc n) s) s [(.hst, O.HST_RING_CTRL + 0x20 * n.val)] a
      (((b.setFld (F.HST_RING_CTRL.ENABLE n.val) 0).setFld (F.HST_RING_CTRL.STATE n.val) 0).setFld (F.HST_RING_CTRL.ERR n.val) 1)) := by
  obtain ⟨hsec, hcmds⟩ := ringEnable_keeps (n := n) hb
  have hstands : b.watAgain (64 + n.val) = b := Dev.watAgain_stands (by rwa [hsec, hcmds])
  have hdoes {u : State} (hu : State.ringStart n.val { s with dev := b } = u) := does_ringEnable h hsv hb hoff hheld (hstands.symm ▸ hu)
  refine ⟨fun hok d hd => hdoes ?_, fun hok => ⟨hdoes (State.ringStart_fails (s := { s with dev := b }) hok), ?_⟩⟩
  · rw [hd]
    exact State.ringStart_passes (s := { s with dev := b }) hok
  · have hstored : sameRegsBut [(.hst, O.HST_RING_CTRL + 0x20 * n.val)] a b := hb ▸ a.stored_ringCtrl_regs n 1
    exact ((hstored.setFld _ _ List.mem_cons_self).setFld (F.HST_RING_CTRL.STATE n.val) _ List.mem_cons_self).setFld (F.HST_RING_CTRL.ERR n.val) _
      List.mem_cons_self

/-- A non-secure ring that is to carry S opcodes is judged as a secure one. -/
theorem ringEnable_secures_row (hns : a.ringSecure n.val = false) (hcmd : a.on (F.HST_RING_CFG.SECURE_CMDS n.val) = true) {c : Dev}
    (hc : c = (b.setWorld (64 + n.val) false).assignRefused (64 + n.val)) (hok : c.ringOk n.val = true) {d : Dev}
    (hd : d = (c.setRing n.val { hs := c.ringPos n.val }).setFld (F.HST_RING_CNT.DROP n.val) 0) :
    Does (exec (.ringEnable t acc n) s) (State.ringState n.val 1 0 { s with dev := d }) := by
  obtain ⟨hsec, hcmds⟩ := ringEnable_keeps (n := n) hb
  refine does_ringEnable h hsv hb hoff hheld ?_
  rw [Dev.watAgain_secures (hsec.trans hns) (hcmds.trans hcmd), ← hc, hd]
  exact State.ringStart_passes (s := { s with dev := c }) hok

end

end

/-- Settles O22: the rising or falling ENABLE decides, and the write-back goes to SRAM alone. -/
theorem ringEnableDisableAndWriteBack : Obligations.RingEnableDisableAndWriteBack := by
  unfold Obligations.RingEnableDisableAndWriteBack
  refine ⟨fun s t acc n a b h hsv hlock => ⟨fun hb hoff hheld => ⟨fun hworld => ringEnable_row h hsv hb hoff hheld hworld, fun hns hcmd c hc => ?_⟩,
    fun hon hstate d hd => ringDisable_row h hsv hon hstate hd⟩, fun s n st err k d hn hst herr hd a ha hp hv hready hdb => ?_⟩
  · refine ⟨?_, fun hok d hd => ringEnable_secures_row h hsv hb hoff hheld hns hcmd hc hok hd⟩
    rw [hc]
    exact b.secured_ringSecure n.val
  · exact ringState_row hst hd ha hp hv hready hdb

end Sys2Proof.Machine
end

section
/-! ### Doorbells (R166, R168, R172, R182) -/

namespace Sys2Proof.Machine

/-! ### How a value is judged (R166) -/

/-- From a position on the ring the distance needs no further reduction. -/
theorem ringDist_of_lt {size pos : Nat} (h : pos < 256 * size) (b : Nat) :
    ringDist size pos b = (b % (256 * size) + 256 * size - pos) % (256 * size) := by
  rw [ringDist, Nat.mod_eq_of_lt h, Nat.add_sub_assoc h.le, Nat.add_sub_assoc h.le, Nat.mod_add_mod]

section
variable {d : Dev} {n : Nat} {v : Word}

/-- A value of another ring, or with an index outside the ring, is bad. -/
theorem Dev.doorbell_foreign (h : v.toNat / 2 ^ 24 ≠ n ∨ d.ringSize n ≤ v.toNat % 2 ^ 16) :
    d.doorbell n v = d.inc (F.HST_RING_CNT.DB_BAD n) :=
  if_pos h

variable {behind : Nat} (hid : v.toNat / 2 ^ 24 = n) (hidx : v.toNat % 2 ^ 16 < d.ringSize n)
  (hb : ringDist (d.ringSize n) (d.doorbellPos n v) (d.ring n).hs = behind)
include hid hidx hb

/-- A position up to one ring behind the last accepted one changes nothing. -/
theorem Dev.doorbell_behind (h1 : 1 ≤ behind) (h2 : behind ≤ d.ringSize n) : d.doorbell n v = d :=
  (if_neg (by omega)).trans (if_pos (by rw [← hb] at h1 h2; exact ⟨h1, h2⟩))

/-- A position up to one ring ahead of D is accepted. -/
theorem Dev.doorbell_accepted (h : behind = 0 ∨ d.ringSize n < behind)
    (hd : ringDist (d.ringSize n) (d.ringPos n) (d.doorbellPos n v) ≤ d.ringSize n) :
    d.doorbell n v = d.modRing n (fun r => { r with hs := d.doorbellPos n v }) :=
  (if_neg (by omega)).trans ((if_neg (fun hc => by have : _ ∧ behind ≤ _ := hb ▸ hc; omega)).trans (if_pos hd))

/-- A position further ahead is bad. -/
theorem Dev.doorbell_far (h : behind = 0 ∨ d.ringSize n < behind)
    (hd : d.ringSize n < ringDist (d.ringSize n) (d.ringPos n) (d.doorbellPos n v)) :
    d.doorbell n v = d.inc (F.HST_RING_CNT.DB_BAD n) :=
  (if_neg (by omega)).trans ((if_neg (fun hc => by have : _ ∧ behind ≤ _ := hb ▸ hc; omega)).trans (if_neg (Nat.not_le.2 hd)))

end

/-- R166 over the position and the distances in numbers. -/
theorem doorbell_row {d : Dev} {n : Nat} {v : Word} {size pos : Nat} (hsize : d.ringSize n = size)
    (hpos : v.toNat / 2 ^ 16 % 2 ^ 8 * size + v.toNat % 2 ^ 16 = pos) (hid : v.toNat / 2 ^ 24 = n) (hidx : v.toNat % 2 ^ 16 < size) {behind : Nat}
    (hb : ((d.ring n).hs % (256 * size) + 256 * size - pos) % (256 * size) = behind) :
    (1 ≤ behind → behind ≤ size → d.doorbell n v = d)
    ∧ ((behind = 0 ∨ size < behind) → (pos + 256 * size - d.ringPos n % (256 * size)) % (256 * size) ≤ size →
      (d.doorbell n v).ring n = { d.ring n with hs := pos } ∧ sameRegsBut [] d (d.doorbell n v))
    ∧ ((behind = 0 ∨ size < behind) → size < (pos + 256 * size - d.ringPos n % (256 * size)) % (256 * size) →
      d.doorbell n v = d.inc (F.HST_RING_CNT.DB_BAD n)) := by
  subst hsize
  have hlt : pos < 256 * d.ringSize n := by
    have hgen : v.toNat / 2 ^ 16 % 2 ^ 8 + 1 ≤ 256 := Nat.mod_lt _ (by decide)
    calc pos < (v.toNat / 2 ^ 16 % 2 ^ 8 + 1) * d.ringSize n := by rw [← hpos, Nat.succ_mul]; exact Nat.add_lt_add_left hidx _
      _ ≤ 256 * d.ringSize n := Nat.mul_le_mul_right _ hgen
  have hdb : d.doorbellPos n v = pos := hpos
  have hdist : ringDist (d.ringSize n) (d.doorbellPos n v) (d.ring n).hs = behind := by rw [hdb, ringDist_of_lt hlt, hb]
  refine ⟨fun h1 h2 => Dev.doorbell_behind hid hidx hdist h1 h2, fun h hd => ?_, fun h hd => ?_⟩
  · rw [Dev.doorbell_accepted hid hidx hdist h (hdb.symm ▸ hd), d.ring_modRing, hdb]
    exact ⟨rfl, (sameRegsBut.refl [] d).modRing _ _⟩
  · exact Dev.doorbell_far hid hidx hdist h (hdb.symm ▸ hd)

/-! ### Where a value is observed (R168, R172) -/

theorem State.hostBatch_map (s : State) (batch : List (BitVec 64 × Byte)) :
    s.hostBatch (batch.map (fun x => (x.1.toNat, x.2)))
      = { s with store := { s.store with host := batch.foldl (fun h x => tabPut 0 h x.1.toNat x.2) s.store.host } } := by
  rw [State.hostBatch, List.foldl_map]

/-- A mirror write of a world that may ring is judged by a ring that watches its mirror word, and does nothing else. -/
theorem Dev.mirrorWrite_may {d : Dev} {acc : Access} {n : Nat} (h : d.masterSecure acc = true ∨ d.ringSecure n = false) (v : Word) :
    d.mirrorWrite acc n v = if d.mirrored n then d.doorbell n v else d := by
  refine if_neg ?_
  rcases h with h | h
  · simp [h]
  · simp [h]

/-- What stands in SRAM is on neither of the host's own pages, and every master's accesses reach it. -/
theorem sram_reached {x : Nat} (hx : 0x08000000 ≤ x ∧ x < 0x08800000) (acc : Access) :
    inMsix acc x = false ∧ acc.onMirror x = false ∧ (!acc.mapped x) = false := by
  obtain ⟨hlo, hhi⟩ := hx
  have hmsix : ¬ msixTable ≤ x := by simp only [msixTable]; omega
  have hpage : ¬ mirrorPage ≤ x := by simp only [mirrorPage]; omega
  simp [inMsix, Access.onMirror, Access.mapped, hmsix, hpage, hlo, hhi]

/-- An allowed write to SRAM is stored, and judged by the rings that snoop its word. -/
theorem State.busWrite_sram {s : State} {acc : Access} {x k : Nat} (hp : s.dev.place x = .sram k) (hst : s.dev.stalled x = s.dev)
    (hv : s.dev.violation acc x true = none) (v : Word) : s.busWrite acc x v {}
      = { s with dev := s.dev.snoop (putBytes acc x v s.store.mem) x 4, store := { s.store with mem := putBytes acc x v s.store.mem } } := by
  obtain ⟨hmsix, hmirror, hmapped⟩ := sram_reached (Dev.sram_bounds hp) acc
  have hmap : s.map (fun d => d.stalled x) = s := by rw [State.map, hst]
  simp only [State.busWrite, hmap, hmsix, hmirror, hmapped, hv, hp, Bool.false_eq_true, if_false]

/-! ### Polls (R168, R182) -/

/-- A poll that is not due, or whose ring does not poll, does nothing. -/
theorem State.poll_idle {s : State} {n : Nat} (h : s.dev.ringRuns n = false ∨ s.dev.fld (F.HST_RING_CFG.DISC n) % 2 = 0 ∨ s.dev.pollDue n = false)
    (mirror : Option Word) : s.poll n mirror = s := by
  refine if_pos ?_
  rcases h with h | h | h
  · simp [h]
  · have h1 : s.dev.fld (F.HST_RING_CFG.DISC n) ≠ 1 := by omega
    have h3 : s.dev.fld (F.HST_RING_CFG.DISC n) ≠ 3 := by omega
    simp [h1, h3]
  · simp [h]

section
variable {s : State} {n : Nat} (hruns : s.dev.ringRuns n = true) (hdisc : s.dev.fld (F.HST_RING_CFG.DISC n) % 2 = 1) (hdue : s.dev.pollDue n = true)
include hruns hdisc hdue

/-- The condition of a poll. -/
theorem State.polls : ¬ (!s.dev.ringRuns n || !(s.dev.fld (F.HST_RING_CFG.DISC n) = 1 || s.dev.fld (F.HST_RING_CFG.DISC n) = 3)
    || !s.dev.pollDue n) = true := by
  have hlt : s.dev.fld (F.HST_RING_CFG.DISC n) < 4 := s.dev.fld_lt (F.HST_RING_CFG.DISC n)
  have h13 : s.dev.fld (F.HST_RING_CFG.DISC n) = 1 ∨ s.dev.fld (F.HST_RING_CFG.DISC n) = 3 := by omega
  simp only [hruns, hdue, Bool.not_true, Bool.or_false, Bool.false_or, Bool.not_eq_true', Bool.or_eq_false_iff, decide_eq_false_iff_not]
  exact fun hc => h13.elim hc.1 hc.2

variable {x : Nat} (hx : x = s.dev.fld (F.HST_RING_DB.DB_ADDR n) * 4)
include hx

theorem State.poll_barred {e : Nat} (hbar : s.dev.ringBar x = some e) (mirror : Option Word) : s.poll n mirror = s.ringLost n x false e := by
  rw [State.poll, if_neg (State.polls hruns hdisc hdue), ← hx]
  simp only [hbar]

variable {w : Nat} (hp : s.dev.place x = .window w) (hup : s.dev.on F.HST_STATUS.LINK_UP = true)
  (hallow : s.dev.violation (ringAccess n) x false = none) {b : Dev} (hb : b = s.dev.modRing n (fun r => { r with pollAt := some s.dev.now }))
  {q : Word} (hq : q = BitVec.ofNat 32 (ofLe (memRead s.store.host (s.dev.hostAddr w x) 4)))
include hp hup hallow hb hq

/-- The word that stands in host memory is judged, and of a mirror value of the same cycle that furthest ahead. -/
theorem State.poll_window {mirror : Option Word} {v : Word}
    (hv : mirror.elim q (fun p => if s.dev.fld (F.HST_RING_CFG.DISC n) = 3 then b.furthest n q p else q) = v) :
    s.poll n mirror = { s with dev := b.doorbell n v } := by
  have hbar : s.dev.ringBar x = none := by rw [Dev.ringBar_window hp, hup]; rfl
  rw [State.poll, if_neg (State.polls hruns hdisc hdue), ← hx, ← hv]
  simp only [hbar, State.ringRead_window hp (show x % 0x1000 + 4 ≤ 0x1000 by omega) (show 0 < 4 by decide) hallow, ← hq, State.map, ← hb]
  cases mirror <;> rfl

end

/-- Of two values seen in one cycle, that furthest ahead of D, as it stood before the poll. -/
theorem Dev.furthest_eq {a b : Dev} {n : Nat} {f : RingSt → RingSt} (hb : b = a.modRing n f) {ahead : Word → Nat}
    (h : ∀ y, ahead y = (y.toNat / 2 ^ 16 % 2 ^ 8 * a.ringSize n + y.toNat % 2 ^ 16 + 256 * a.ringSize n
      - a.ringPos n % (256 * a.ringSize n)) % (256 * a.ringSize n)) (q p : Word) :
    b.furthest n q p = if ahead q < ahead p then p else q := by
  subst hb
  rw [h, h]
  rfl

/-! ### The rows of doorbells -/

section
variable {s : State} {t : Stamp} {batch : List (BitVec 64 × Byte)} {n : Fin 64} {a : Dev} {m : Store} (h : At s t 0 a)
  (hm : m = { s.store with host := batch.foldl (fun h x => tabPut 0 h x.1.toNat x.2) s.store.host })
include h hm

/-- A write, once the host's batch stands in its memory. -/
theorem does_doorbell {acc : Access} {v : Word} {mirror : Bool} {u : State}
    (hu : (if mirror then State.map (fun d => d.mirrorWrite acc n.val v) { s with dev := a, store := m }
      else State.busWrite acc (a.fld (F.HST_RING_DB.DB_ADDR n.val) * 4) v {} { s with dev := a, store := m }) = u) :
    Does (exec (.doorbellWrite t acc batch mirror n v) s) u :=
  does_run h (by rw [State.hostBatch_map, ← hu, hm])

/-- A poll, once the host's batch stands in its memory. -/
theorem does_poll {mirror : Option Word} {u : State} (hu : State.poll n.val mirror { s with dev := a, store := m } = u) :
    Does (exec (.doorbellPoll t ⟨batch, mirror⟩ n) s) u :=
  does_run h (by rw [State.hostBatch_map, ← hu, hm])

/-- A mirror write is judged by a ring that watches its mirror word. -/
theorem mirrorWrite_row {acc : Access} {v : Word} (hmay : a.masterSecure acc = true ∨ a.ringSecure n.val = false) :
    (a.ringRuns n.val = true → 2 ≤ a.fld (F.HST_RING_CFG.DISC n.val) →
      Does (exec (.doorbellWrite t acc batch true n v) s) { s with dev := a.doorbell n.val v, store := m })
    ∧ ((a.ringRuns n.val = false ∨ a.fld (F.HST_RING_CFG.DISC n.val) < 2) →
      Does (exec (.doorbellWrite t acc batch true n v) s) { s with dev := a, store := m }) := by
  have hdoes {d : Dev} (hd : (if a.mirrored n.val then a.doorbell n.val v else a) = d) :
      Does (exec (.doorbellWrite t acc batch true n v) s) { s with dev := d, store := m } :=
    does_doorbell h hm (by simp only [if_true, State.map, Dev.mirrorWrite_may hmay, hd])
  refine ⟨fun hruns hdisc => hdoes (if_pos ?_), fun hoff => hdoes (if_neg ?_)⟩
  · simp [Dev.mirrored, hruns, hdisc]
  · rcases hoff with hoff | hoff
    · simp [Dev.mirrored, hoff]
    · simp [Dev.mirrored, hoff]

/-- A poll that is due judges what stands in host memory, and a ring whose doorbell word it cannot reach is lost. -/
theorem doorbellPoll_row {mirror : Option Word} {x : Nat} (hx : x = a.fld (F.HST_RING_DB.DB_ADDR n.val) * 4) (hruns : a.ringRuns n.val = true)
    (hdisc : a.fld (F.HST_RING_CFG.DISC n.val) % 2 = 1) (hdue : a.pollDue n.val = true) :
    (∀ (w : Nat) (b : Dev) (q : Word), a.place x = .window w → a.on F.HST_STATUS.LINK_UP = true →
      a.violation (ringAccess n.val) x false = none → b = a.modRing n.val (fun r => { r with pollAt := some a.now }) →
      q = BitVec.ofNat 32 (ofLe (memRead m.host (a.hostAddr w x) 4)) → ∀ v,
      mirror.elim q (fun p => if a.fld (F.HST_RING_CFG.DISC n.val) = 3 then b.furthest n.val q p else q) = v →
      Does (exec (.doorbellPoll t ⟨batch, mirror⟩ n) s) { s with dev := b.doorbell n.val v, store := m })
    ∧ (∀ e, a.ringBar x = some e →
      Does (exec (.doorbellPoll t ⟨batch, mirror⟩ n) s) (State.ringLost n.val x false e { s with dev := a, store := m })) :=
  ⟨fun _ _ _ hp hup hallow hb hq _ hv => does_poll h hm
      (State.poll_window (s := { s with dev := a, store := m }) hruns hdisc hdue hx hp hup hallow hb hq hv),
    fun _ hbar => does_poll h hm (State.poll_barred (s := { s with dev := a, store := m }) hruns hdisc hdue hx hbar mirror)⟩

end

/-- Settles O35: the distances from the last accepted position and from D decide a value; a mirror write, an SRAM write and a poll each hand on
the value that they find once the host's batch stands in its memory. -/
theorem doorbellsAreJudged : Obligations.DoorbellsAreJudged := by
  unfold Obligations.DoorbellsAreJudged
  refine ⟨fun d n v size pos hsize hpos => ⟨fun h => Dev.doorbell_foreign (hsize.symm ▸ h), fun hid hidx hs behind hhs hb => ?_⟩,
    fun s t batch n a m h hm => ⟨fun acc v hmay => mirrorWrite_row h hm hmay, fun acc v x hx hp hst hv mem hmem => ?_,
      fun mirror x hx => ⟨fun hidle => ?_, fun hruns hdisc hdue => ?_⟩⟩⟩
  · exact doorbell_row hsize hpos hid hidx (hhs ▸ hb)
  · obtain ⟨k, hk⟩ := hp
    subst hx hmem hm
    exact does_doorbell h rfl (State.busWrite_sram (s := { s with dev := a, store := { s.store with host := _ } }) hk hst hv v)
  · exact does_poll h hm (State.poll_idle (s := { s with dev := a, store := m }) hidle mirror)
  · obtain ⟨hjudged, hlost⟩ := doorbellPoll_row h hm (mirror := mirror) hx hruns hdisc hdue
    refine ⟨fun w b q hp hup hallow hb hq => ⟨fun hnone => ?_, fun p hsome h3 ahead hahead => ?_⟩, fun w hp hdown => hlost 2 ?_,
      fun hp => hlost 4 (Dev.ringBar_unmapped hp)⟩
    · exact hjudged w b q hp hup hallow hb hq q (by rw [hnone]; rfl)
    · exact hjudged w b q hp hup hallow hb hq _ (by rw [hsome, Option.elim_some, if_pos h3, Dev.furthest_eq hb hahead])
    · rw [Dev.ringBar_window hp, hdown]
      rfl

end Sys2Proof.Machine
end

section
/-! ### What a ring's accesses leave of the registers of rings (R131, R137, R168) -/

namespace Sys2Proof.Machine

section
variable {f : Fld} (hblk : f.blk = .hst) (hcnt : ∀ n, f.off ≠ (F.HST_RING_CNT.DB_BAD n).off)
include hcnt

/-- Judging a doorbell value counts in CNT alone. -/
theorem Dev.doorbell_fld (d : Dev) (n : Nat) (v : Word) : (d.doorbell n v).fld f = d.fld f := by
  have hbad : (d.inc (F.HST_RING_CNT.DB_BAD n)).fld f = d.fld f :=
    Dev.fld_congr ((sameRegsBut.refl [(F.HST_RING_CNT.DB_BAD n).place] d).inc _ 1 List.mem_cons_self _ _ (by simp [Fld.place, hcnt]))
  unfold Dev.doorbell
  dsimp only
  split_ifs
  · exact hbad
  · rfl
  · rfl
  · exact hbad

theorem Dev.snoop_fld (d : Dev) (mem : List Host.Cell) (x len : Nat) : (d.snoop mem x len).fld f = d.fld f := by
  unfold Dev.snoop forN
  refine List.foldlRecOn (motive := fun e : Dev => e.fld f = d.fld f) (List.range 64) _ rfl (fun e he r _ => ?_)
  dsimp only
  split_ifs
  · exact (Dev.doorbell_fld hcnt e r _).trans he
  · exact he

theorem State.dmaWrite_fld (s : State) (x : Nat) (l : List Byte) : (s.dmaWrite x l).dev.fld f = s.dev.fld f := by
  unfold State.dmaWrite
  split
  · dsimp only
    exact Dev.snoop_fld hcnt s.dev _ _ _
  · split_ifs
    · rfl
    · rfl
  · rfl

include hblk

omit hcnt in
theorem Dev.stalled_fld (d : Dev) (x : Nat) : (d.stalled x).fld f = d.fld f := by
  unfold Dev.stalled Dev.regionZeroed
  dsimp only
  generalize (x - 0x08000000) / 0x10000 = r
  split_ifs
  · rfl
  · exact (Dev.setWorlds_fld ..).trans (Dev.fld_congr (Dev.reg_setReg_ne d _ (by simp [hblk, F.WLD_REGION_TAG.TAG])))
  · rfl

omit hblk hcnt in
/-- The registers of the violation log are none of HST's. -/
theorem Dev.violRegs_blk (d : Dev) : Blk.hst ∉ d.violRegs.map Prod.fst := by
  have hblks : d.violRegs.map Prod.fst = [.wld, .wld, .wld, .wld, .wld, .wld, .wld, .flt, .evt, .evt] := rfl
  rw [hblks]
  decide

omit hcnt in
theorem Dev.logViolation_fld (d : Dev) (acc : Access) (x : Nat) (write : Bool) (kind : Nat) : (d.logViolation acc x write kind).fld f = d.fld f :=
  Dev.fld_congr (d.logViolation_regs acc x write kind _ _ (fun hm => d.violRegs_blk (hblk ▸ List.mem_map_of_mem (f := Prod.fst) hm)))

omit hcnt in
theorem State.ringMiss_fld (s : State) (n x : Nat) (write : Bool) : (s.ringMiss n x write).dev.fld f = s.dev.fld f := by
  unfold State.ringMiss
  split
  · exact Dev.logViolation_fld hblk s.dev _ _ _ _
  · rfl

theorem State.ringPut_fld (s : State) (n x : Nat) (l : List Byte) : (s.ringPut n x l).dev.fld f = s.dev.fld f := by
  have hst : (s.map (fun d => d.stalled x)).dev.fld f = s.dev.fld f := Dev.stalled_fld hblk s.dev x
  unfold State.ringPut
  dsimp only
  split_ifs
  · exact (State.ringMiss_fld hblk _ n x true).trans hst
  · exact (State.dmaWrite_fld hcnt _ x l).trans hst

/-- A ring's write changes no register of HST but the counts of bad doorbells. -/
theorem State.ringWrite_fld (s : State) (n x : Nat) (l : List Byte) : (s.ringWrite n x l).dev.fld f = s.dev.fld f :=
  List.foldlRecOn (motive := fun u : State => u.dev.fld f = s.dev.fld f) _ _ rfl
    (fun u hu _ _ => (State.ringPut_fld hblk hcnt u n _ _).trans hu)

theorem State.writeBack_fld (s : State) (n : Nat) : (s.writeBack n).dev.fld f = s.dev.fld f := by
  rw [State.writeBack, State.map_dev]
  exact (Dev.modRing_fld ..).trans (State.ringWrite_fld hblk hcnt s n _ _)

end

/-- A ring in ERROR shows its reason, has given up its buffer, and is told of. -/
theorem ringFail_row {u y : State} {n e : Nat} (he : e < 16) (hy : y = u.ringFail n e) : y.dev.fld (F.HST_RING_CTRL.STATE n) = 3
    ∧ y.dev.fld (F.HST_RING_CTRL.ERR n) = e ∧ (y.dev.ring n).buf = none ∧ ∃ r ∈ y.dev.evq, r.ev = .hstRingError := by
  have hcnt (k : Nat) : O.HST_RING_CTRL + 0x20 * n ≠ (F.HST_RING_CNT.DB_BAD k).off := by
    simp only [O.HST_RING_CTRL, F.HST_RING_CNT.DB_BAD]
    omega
  have hkept {f : Fld} (hblk : f.blk = .hst) (hoff : f.off = O.HST_RING_CTRL + 0x20 * n) : y.dev.fld f = (u.dev.ringTakes n 3 e).fld f := by
    rw [hy, State.ringFail, State.map_dev, Dev.note_fld_outside _ _ _ _ _ (by simp [hblk]) (by simp [hblk]), Dev.modRing_fld, State.ringState_eq]
    exact State.writeBack_fld hblk (fun k => hoff.trans_ne (hcnt k)) _ n
  refine ⟨(hkept rfl rfl).trans (u.dev.ringTakes_state n e (by decide)), (hkept rfl rfl).trans (u.dev.ringTakes_err n 3 he), ?_, ?_⟩
  · rw [hy, State.ringFail, State.map_dev, Dev.ring_congr (Dev.note_rings ..), Dev.ring_modRing]
  · rw [hy, State.ringFail, State.map_dev, Dev.note_evq]
    exact ⟨_, List.mem_append_right _ (List.mem_singleton_self _), rfl⟩

/-! ### Interrupts (R175) -/

/-- The bit that is set stands. -/
theorem getLsbD_or_bit {k x : Nat} (w : BitVec k) (hx : x < k) : (w ||| 1#k <<< x).getLsbD x = true := by simp [hx]

/-- A request of a source shows at the secure controller: as pending, or as a further request while the source is served. -/
theorem Dev.pend_secure (d : Dev) {x : Nat} (hx : x < 128) :
    (if d.worlds.serveS.getLsbD x then (d.pend x false).worlds.againS else (d.pend x false).worlds.plicS).getLsbD x = true := by
  simp only [Dev.pend, Bool.false_eq_true, if_false]
  split_ifs
  · exact getLsbD_or_bit _ hx
  · exact getLsbD_or_bit _ hx

/-- A request of a source shows at the non-secure controller. -/
theorem Dev.pend_nonSecure (d : Dev) {x : Nat} (hx : x < 128) :
    (if d.worlds.serveN.getLsbD x then (d.pend x true).worlds.againN else (d.pend x true).worlds.plicN).getLsbD x = true := by
  simp only [Dev.pend, if_true]
  split_ifs
  · exact getLsbD_or_bit _ hx
  · exact getLsbD_or_bit _ hx

theorem Dev.pend_msixMask (d : Dev) (x : Nat) (ns : Bool) : (d.pend x ns).worlds.msixMask = d.worlds.msixMask := by
  cases ns
  · simp only [Dev.pend, Bool.false_eq_true, if_false]
    split_ifs
    · rfl
    · rfl
  · simp only [Dev.pend, if_true]
    split_ifs
    · rfl
    · rfl

/-- Sending a vector changes of the worlds' state its pending bits at most. -/
theorem Dev.msix_worlds (d : Dev) (v : Nat) : (d.msix v).worlds = { d.worlds with msixPend := (d.msix v).worlds.msixPend } := by
  unfold Dev.msix
  split_ifs
  · rfl
  · rfl
  · rfl

theorem Dev.msix_regs (d : Dev) (v : Nat) : sameRegsBut [] d (d.msix v) := by
  unfold Dev.msix
  exact (sameRegsBut.refl [] d).ite (((sameRegsBut.refl [] d).setWorlds _).ite ((sameRegsBut.refl [] d).upd rfl rfl))

/-- A vector that is masked becomes pending; another is sent. -/
theorem Dev.msix_signals {d : Dev} {v : Nat} (hv : v < 64) (hen : d.on F.HST_STATUS.MSIX_EN = true) :
    if d.worlds.msixMask.getLsbD v = true then (d.msix v).worlds.msixPend.getLsbD v = true else .msix v ∈ (d.msix v).out.irqs := by
  split_ifs with hmask
  · rw [Dev.msix, if_neg (by simp [hen]), if_pos hmask]
    exact getLsbD_or_bit _ hv
  · rw [Dev.msix, if_neg (by simp [hen]), if_neg hmask]
    exact List.mem_append_right _ (List.mem_singleton_self _)

/-- The interrupt that a ring's TARGET asks for at an interrupt controller. -/
def Dev.signalPlic (d : Dev) (n : Nat) : Dev := if (d.fld (F.HST_RING_CFG.TARGET n)).testBit 0 then d.pend (n + 1) (!d.ringSecure n) else d

/-- The vector that a ring's TARGET asks for. -/
def Dev.signalMsix (d : Dev) (n : Nat) : Dev :=
  if (d.fld (F.HST_RING_CFG.TARGET n)).testBit 1 then d.msix (d.fld (F.HST_RING_IRQ.VECTOR n)) else d

theorem Dev.signalPlic_regs (d : Dev) (n : Nat) : sameRegsBut [] d (d.signalPlic n) :=
  sameRegsBut.ite ((sameRegsBut.refl [] d).pend _ _) (.refl [] d)

theorem Dev.signalMsix_regs (d : Dev) (n : Nat) : sameRegsBut [] d (d.signalMsix n) := sameRegsBut.ite (d.msix_regs _) (.refl [] d)

theorem Dev.signalMsix_worlds (d : Dev) (n : Nat) :
    (d.signalMsix n).worlds = { d.worlds with msixPend := (d.signalMsix n).worlds.msixPend } := by
  unfold Dev.signalMsix
  split_ifs
  · exact d.msix_worlds _
  · rfl

theorem Dev.signalPlic_msixMask (d : Dev) (n : Nat) : (d.signalPlic n).worlds.msixMask = d.worlds.msixMask := by
  unfold Dev.signalPlic
  split_ifs
  · exact d.pend_msixMask _ _
  · rfl

theorem Dev.signalPlic_fld (d : Dev) (n : Nat) (f : Fld) : (d.signalPlic n).fld f = d.fld f :=
  Dev.fld_congr (d.signalPlic_regs n _ _ (List.not_mem_nil))

theorem Dev.ringSignal_eq (d : Dev) (n : Nat) :
    d.ringSignal n = ((d.signalPlic n).signalMsix n).modRing n (fun r => { r with unsig := 0, irqDue := false }) := by
  rw [Dev.signalMsix, d.signalPlic_fld]
  rfl

theorem Dev.ringSignal_worlds (d : Dev) (n : Nat) :
    (d.ringSignal n).worlds = { (d.signalPlic n).worlds with msixPend := (d.ringSignal n).worlds.msixPend } := by
  rw [d.ringSignal_eq]
  exact (d.signalPlic n).signalMsix_worlds n

theorem Dev.ringSignal_ring (d : Dev) (n : Nat) :
    ((d.ringSignal n).ring n).unsig = 0 ∧ ((d.ringSignal n).ring n).irqDue = false := by
  rw [d.ringSignal_eq, Dev.ring_modRing]
  exact ⟨rfl, rfl⟩

theorem Dev.ringSignal_regs (d : Dev) (n : Nat) : sameRegsBut [] d (d.ringSignal n) := by
  rw [d.ringSignal_eq]
  exact ((d.signalPlic_regs n).trans ((d.signalPlic n).signalMsix_regs n)).modRing n _

section
variable {d : Dev} {n : Nat} (hn : n < 64)
include hn

theorem Dev.ringSignal_secure (ht : (d.fld (F.HST_RING_CFG.TARGET n)).testBit 0 = true) (hs : d.ringSecure n = true) :
    (if d.worlds.serveS.getLsbD (n + 1) then (d.ringSignal n).worlds.againS else (d.ringSignal n).worlds.plicS).getLsbD (n + 1) = true := by
  have hplic : d.signalPlic n = d.pend (n + 1) false := by rw [Dev.signalPlic, if_pos ht, hs, Bool.not_true]
  have hw := d.ringSignal_worlds n
  rw [hplic] at hw
  rw [congrArg WorldSt.againS hw, congrArg WorldSt.plicS hw]
  exact d.pend_secure (by omega)

theorem Dev.ringSignal_nonSecure (ht : (d.fld (F.HST_RING_CFG.TARGET n)).testBit 0 = true) (hs : d.ringSecure n = false) :
    (if d.worlds.serveN.getLsbD (n + 1) then (d.ringSignal n).worlds.againN else (d.ringSignal n).worlds.plicN).getLsbD (n + 1) = true := by
  have hplic : d.signalPlic n = d.pend (n + 1) true := by rw [Dev.signalPlic, if_pos ht, hs, Bool.not_false]
  have hw := d.ringSignal_worlds n
  rw [hplic] at hw
  rw [congrArg WorldSt.againN hw, congrArg WorldSt.plicN hw]
  exact d.pend_nonSecure (by omega)

omit hn in
theorem Dev.ringSignal_msix (ht : (d.fld (F.HST_RING_CFG.TARGET n)).testBit 1 = true) (hen : d.on F.HST_STATUS.MSIX_EN = true) :
    if d.worlds.msixMask.getLsbD (d.fld (F.HST_RING_IRQ.VECTOR n)) = true
    then (d.ringSignal n).worlds.msixPend.getLsbD (d.fld (F.HST_RING_IRQ.VECTOR n)) = true
    else .msix (d.fld (F.HST_RING_IRQ.VECTOR n)) ∈ (d.ringSignal n).out.irqs := by
  have hv := (d.signalPlic n).msix_signals (v := d.fld (F.HST_RING_IRQ.VECTOR n)) (d.fld_lt _) (by rwa [Dev.on, d.signalPlic_fld])
  have hmsix : (d.signalPlic n).signalMsix n = (d.signalPlic n).msix (d.fld (F.HST_RING_IRQ.VECTOR n)) := by
    rw [Dev.signalMsix, d.signalPlic_fld, d.signalPlic_fld, if_pos ht]
  rw [d.signalPlic_msixMask, ← hmsix] at hv
  rwa [d.ringSignal_eq]

end

/-! ### The rows of write-backs and interrupts (R167, R173, R175, R181) -/

theorem State.writeBackDue_idle {s : State} {n : Nat} (h : s.dev.ringRuns n = false ∨ (s.dev.ring n).wbDue = false) : s.writeBackDue n = s := by
  refine if_pos ?_
  rcases h with h | h
  · simp [h]
  · simp [h]

section
variable {s : State} {n x : Nat} (hx : x = s.dev.fld (F.HST_RING_WB.WB_ADDR n) * 16) (hruns : s.dev.ringRuns n = true)
  (hdue : (s.dev.ring n).wbDue = true)
include hx hruns hdue

/-- A write-back that is due is written where its area is reached. -/
theorem State.writeBackDue_reached (hbar : s.dev.ringBar x = none) : s.writeBackDue n = s.writeBack n := by
  rw [State.writeBackDue, if_neg (by simp [hruns, hdue]), ← hx]
  simp only [hbar]

/-- A ring whose write-back area meets no memory is lost. -/
theorem State.writeBackDue_barred {e : Nat} (hbar : s.dev.ringBar x = some e) : s.writeBackDue n = s.ringLost n x true e := by
  rw [State.writeBackDue, if_neg (by simp [hruns, hdue]), ← hx]
  simp only [hbar]

end

section
variable {s : State} {t : Stamp} {n : Fin 64} {a : Dev} (h : At s t 0 a)
include h

theorem writebackWrite_row {x : Nat} (hx : x = a.fld (F.HST_RING_WB.WB_ADDR n.val) * 16) (hruns : a.ringRuns n.val = true)
    (hdue : (a.ring n.val).wbDue = true) :
    (∀ (w : Nat) (b : Dev), a.place x = .window w → a.on F.HST_STATUS.LINK_UP = true → a.violation (ringAccess n.val) x true = none →
      b = a.modRing n.val (fun r => { r with wbSeq := r.wbSeq + 1, wbDue := false }) →
      Does (exec (.writebackWrite t n) s) { s with dev := b, store := { s.store with
        host := memWrite s.store.host (a.hostAddr w x) (wbBlock a n.val) } })
    ∧ (a.place x = .unmapped → Does (exec (.writebackWrite t n) s) (State.ringLost n.val x true 4 { s with dev := a })) := by
  refine ⟨fun w b hp hup hv hb => does_run h ?_, fun hp => does_run h ?_⟩
  · subst hb
    have hbar : a.ringBar x = none := by rw [Dev.ringBar_window hp, hup]; rfl
    exact (State.writeBackDue_reached (s := { s with dev := a }) hx hruns hdue hbar).trans (State.writeBack_window (s := { s with dev := a }) hx hp hup hv)
  · exact State.writeBackDue_barred (s := { s with dev := a }) hx hruns hdue (Dev.ringBar_unmapped hp)

/-- An interrupt after the write-back that covers its consumptions. -/
theorem ringInterrupt_turns (hirq : a.irqCondition n.val = true) (hdue : (a.ring n.val).wbDue = false) :
    Turns (exec (.ringInterrupt t n) s) s [] a (a.ringSignal n.val) := by
  refine ⟨does_run h ((if_pos hirq).trans ?_), a.ringSignal_regs n.val⟩
  rw [State.writeBackDue_idle (s := { s with dev := a }) (.inr hdue)]
  rfl

theorem ringInterrupt_idle (hirq : a.irqCondition n.val = false) : Turns (exec (.ringInterrupt t n) s) s [] a a :=
  ⟨does_run h (if_neg (by simp [hirq])), .refl [] a⟩

end

/-! ### STRM expiry (R170) -/

/-- A buffer that is not old enough, or does not stand, stays. -/
theorem State.strmExpire_none {s : State} {n : Nat} (h : (s.dev.ring n).buf = none) : s.strmExpire n = s := by
  simp only [State.strmExpire, h]

theorem State.strmExpire_some {s : State} {n : Nat} {b : BufSt} (h : (s.dev.ring n).buf = some b) : s.strmExpire n
    = if s.dev.fld (F.HST_RING_CFG.TYPE n) = 2 ∧ 0 < b.used ∧ 1000 ≤ s.dev.now.since b.first then s.bufDone n 0 0 true b.first else s := by
  simp only [State.strmExpire, h]

section
variable {s : State} {t : Stamp} {n : Fin 64} {a : Dev} (h : At s t 0 a)
include h

/-- A STRM buffer completes 1 ms after its first record. -/
theorem strmBufferComplete_row :
    ((a.ring n.val).buf = none → Turns (exec (.strmBufferComplete t n) s) s [] a a)
    ∧ (∀ b, (a.ring n.val).buf = some b → (a.fld (F.HST_RING_CFG.TYPE n.val) ≠ 2 ∨ b.used = 0 ∨ a.now.since b.first < 1000) →
      Turns (exec (.strmBufferComplete t n) s) s [] a a)
    ∧ (∀ b, (a.ring n.val).buf = some b → a.fld (F.HST_RING_CFG.TYPE n.val) = 2 → 0 < b.used → 1000 ≤ a.now.since b.first →
      Does (exec (.strmBufferComplete t n) s) (State.bufDone n.val 0 0 true b.first { s with dev := a })) := by
  refine ⟨fun hbuf => ⟨does_run h (State.strmExpire_none (s := { s with dev := a }) hbuf), .refl [] a⟩,
    fun b hbuf hearly => ⟨does_run h ((State.strmExpire_some (s := { s with dev := a }) hbuf).trans (if_neg ?_)), .refl [] a⟩,
    fun b hbuf htype hused hold => does_run h ((State.strmExpire_some (s := { s with dev := a }) hbuf).trans (if_pos ⟨htype, hused, hold⟩))⟩
  rintro ⟨htype, hused, hold⟩
  rcases hearly with hearly | hearly | hearly
  · exact hearly htype
  · omega
  · exact absurd hearly (Nat.not_lt.2 hold)

end

/-! ### Overflow records (R183) -/

theorem length_recBytes (r : EvRec) (seq : Nat) : (r.bytes seq).length = 32 := by
  simp [EvRec.bytes, length_leBytes, length_padTo]

theorem State.overflowDue_idle {s : State} {n : Nat}
    (h : s.dev.ringRuns n = false ∨ s.dev.fld (F.HST_RING_CFG.TYPE n) ≠ 1 ∨ (s.dev.ring n).lost = 0) : s.overflowDue n = s := by
  unfold State.overflowDue State.flushOverflow
  rcases h with h | h | h
  · simp [h]
  · simp [h]
  · simp only [h, Nat.lt_irrefl, false_and, if_false]
    split_ifs
    · split <;> rfl
    · rfl

theorem State.overflowDue_reached {s : State} {n : Nat} (hruns : s.dev.ringRuns n = true) (htype : s.dev.fld (F.HST_RING_CFG.TYPE n) = 1)
    (hbar : s.dev.ringBar (s.dev.ringDesc n) = none) : s.overflowDue n = s.flushOverflow n := by
  rw [State.overflowDue, if_pos (by simp [hruns, htype])]
  simp only [hbar]

/-- A record put into the slot at D, where that lies in SRAM alone. -/
theorem State.evtSlot_sram {s : State} {n : Nat} (h : SramClear s.dev n (s.dev.ringDesc n) 32) (r : EvRec) : s.evtSlot n r = { s with
    dev := (s.dev.modRing n (fun q => { q with evSeq := q.evSeq + 1 })).consume n false
    store := { s.store with mem := memWrite s.store.mem (s.dev.ringDesc n) (r.bytes (s.dev.ring n).evSeq.toNat) } } := by
  have hlen := length_recBytes r (s.dev.ring n).evSeq.toNat
  rw [State.evtSlot, SramClear.ringWrite (by rwa [hlen]) (by rw [hlen]; decide)]
  rfl

/-- The overflow record counts as a record and stands for the losses, which are cleared. -/
def Dev.lossesTold (d : Dev) (n : Nat) (r : EvRec) : Dev :=
  let d := (d.inc (F.FLT_CLASS_CNT.COUNT 0)).incPair F.EVT_CNT_LO.V F.EVT_CNT_HI.V
  { d.modRing n (fun q => { q with lost := 0 }) with out := { d.out with events := d.out.events ++ [r] } }

theorem Dev.ring_setOut (d : Dev) (o : Out) (n : Nat) : ({ d with out := o } : Dev).ring n = d.ring n := rfl

theorem sameRegsBut.setOut {l : List (Blk × Nat)} {a d : Dev} (h : sameRegsBut l a d) (o : Out) : sameRegsBut l a { d with out := o } := h.upd rfl rfl

theorem Dev.lossesTold_ring (d : Dev) (n : Nat) (r : EvRec) : (d.lossesTold n r).ring n = { d.ring n with lost := 0 } := by
  have hcounted : ((d.inc (F.FLT_CLASS_CNT.COUNT 0)).incPair F.EVT_CNT_LO.V F.EVT_CNT_HI.V).ring n = d.ring n := Dev.ring_congr rfl n
  rw [Dev.lossesTold, Dev.ring_setOut, Dev.ring_modRing, hcounted]

theorem Dev.lossesTold_regs {l : List (Blk × Nat)} {a d : Dev} (h : sameRegsBut l a d) (hm : eventRegs 0 ⊆ l) (n : Nat) (r : EvRec) :
    sameRegsBut l a (d.lossesTold n r) := by
  have hcls : (F.FLT_CLASS_CNT.COUNT 0).place ∈ l := hm List.mem_cons_self
  have hlo : F.EVT_CNT_LO.V.place ∈ l := hm (List.mem_cons_of_mem _ List.mem_cons_self)
  have hhi : F.EVT_CNT_HI.V.place ∈ l := hm (List.mem_cons_of_mem _ (List.mem_cons_of_mem _ List.mem_cons_self))
  exact (((h.inc _ 1 hcls).incPair _ _ 1 hlo hhi).modRing n (fun q => { q with lost := 0 })).setOut _

theorem State.flushOverflow_eq {s : State} {n : Nat} (hlost : 0 < (s.dev.ring n).lost) (havail : 0 < s.dev.ringAvail n) :
    s.flushOverflow n = (s.evtSlot n (overflowRec s.dev n)).map (fun d => d.lossesTold n (overflowRec s.dev n)) := if_pos ⟨hlost, havail⟩

/-- The overflow record takes the slot at D, counts as a record, and clears the losses. -/
theorem flushOverflow_row {s : State} {n : Nat} (hlost : 0 < (s.dev.ring n).lost) (havail : 0 < s.dev.ringAvail n)
    (h : SramClear s.dev n (s.dev.ringDesc n) 32) :
    ∃ u, s.flushOverflow n = u
      ∧ u.store.mem = memWrite s.store.mem (s.dev.ringDesc n) ((overflowRec s.dev n).bytes (s.dev.ring n).evSeq.toNat)
      ∧ (u.dev.ring n).lost = 0 ∧ (u.dev.ring n).evSeq = (s.dev.ring n).evSeq + 1
      ∧ sameRegsBut ((F.HST_RING_IDX.DIDX n).place :: eventRegs 0) s.dev u.dev := by
  refine ⟨_, (State.flushOverflow_eq hlost havail).trans (congrArg _ (State.evtSlot_sram h _)), rfl, ?_, ?_, ?_⟩
  · rw [State.map_dev, Dev.lossesTold_ring]
  · rw [State.map_dev, Dev.lossesTold_ring, Dev.consume_ring, Dev.ring_modRing]
  · exact Dev.lossesTold_regs (Dev.consume_regs ((sameRegsBut.refl _ _).modRing n _) List.mem_cons_self false) (List.subset_cons_self _ _) n _

section
variable {s : State} {t : Stamp} {n : Fin 64} {a : Dev} (h : At s t 0 a)
include h

theorem hstEvtOverflow_row (hruns : a.ringRuns n.val = true) (htype : a.fld (F.HST_RING_CFG.TYPE n.val) = 1) (hlost : 0 < (a.ring n.val).lost)
    (havail : 0 < a.ringAvail n.val) (hclear : SramClear a n.val (a.ringDesc n.val) 32) :
    ∃ u : State, Does (exec (.hstEvtOverflow t n) s) u
      ∧ u.store.mem = memWrite s.store.mem (a.ringDesc n.val) ((overflowRec a n.val).bytes (a.ring n.val).evSeq.toNat)
      ∧ (u.dev.ring n.val).lost = 0 ∧ (u.dev.ring n.val).evSeq = (a.ring n.val).evSeq + 1
      ∧ sameRegsBut ((F.HST_RING_IDX.DIDX n.val).place :: eventRegs 0) a u.dev := by
  obtain ⟨k, hk⟩ := hclear.sram
  obtain ⟨u, hu, hleaves⟩ := flushOverflow_row (s := { s with dev := a }) hlost havail hclear
  exact ⟨u, does_run h ((State.overflowDue_reached (s := { s with dev := a }) hruns htype (Dev.ringBar_sram hk)).trans hu), hleaves⟩

end

/-- Settles O36: a ring's write-back, its interrupt, the expiry of its buffer and its overflow record each wait for their condition; what they
write goes to their own area alone. -/
theorem writeBacksInterruptsAndExpiry : Obligations.WriteBacksInterruptsAndExpiry := by
  unfold Obligations.WriteBacksInterruptsAndExpiry
  refine ⟨fun s t n a x h hx => ⟨fun hidle => ?_, fun hruns hdue => writebackWrite_row h hx hruns hdue, fun hirq => ringInterrupt_idle h hirq,
      fun hirq hdue => ?_, fun u y e he hy => ringFail_row he hy⟩,
    fun s t n a h => ?_⟩
  · exact ⟨does_run h (State.writeBackDue_idle (s := { s with dev := a }) hidle), .refl [] a⟩
  · obtain ⟨hunsig, hdone⟩ := a.ringSignal_ring n.val
    exact ⟨_, ringInterrupt_turns h hirq hdue, hunsig, hdone, Dev.ringSignal_secure n.isLt, Dev.ringSignal_nonSecure n.isLt, Dev.ringSignal_msix⟩
  · obtain ⟨hnone, hearly, hexpires⟩ := strmBufferComplete_row (t := t) (n := n) h
    refine ⟨hnone, hearly, hexpires, fun hidle => ?_, fun hruns htype hlost havail hp hv hready hdb => ?_⟩
    · exact ⟨does_run h (State.overflowDue_idle (s := { s with dev := a }) hidle), .refl [] a⟩
    · have halign := a.ringDesc_aligned n.val
      exact hstEvtOverflow_row h hruns htype hlost havail
        ⟨by omega, hp, hv, hready, fun r hr hrun hdisc => by have := hdb r hr hrun hdisc; omega⟩

end Sys2Proof.Machine
end

section
-- One proof at a time: checked side by side, the later proofs wait in threads of their own, past the memory limit.
set_option Elab.async false
/-! ### Frames of registers from frames of fields; what a fault leaves beside the registers -/

namespace Sys2Proof.Machine

/-- What writes fields alone leaves every register alone that holds none of them. -/
theorem Touches.sameRegs {W : Set Fld} {l : List (Blk × Nat)} {a d : Dev} (h : Touches W a d) (hW : ∀ f ∈ W, f.place ∈ l) :
    sameRegsBut l a d := by
  intro b off hx
  have hfull : d.fld ⟨b, off, 0, 32⟩ = a.fld ⟨b, off, 0, 32⟩ := h.fld _ (fun f hf => by
    by_cases hb : f.blk = b
    · exact Fld.apart_of_off (fun ho => hx ((Prod.ext hb ho : f.place = (b, off)) ▸ hW f hf))
    · exact Fld.apart_of_blk hb)
  simpa [Dev.fld, BitVec.toNat_inj] using hfull

theorem faultFlds_place {cls : Nat} : ∀ f ∈ reactFlds ∪ recFlds cls, f.place ∈ faultRegs cls := by
  rintro f ((rfl | rfl | rfl | rfl | rfl | rfl) | (rfl | rfl | rfl)) <;> simp [faultRegs, eventRegs, Fld.place, F.FLT_STATE.F3_GROUPS,
    F.FLT_STATE.DEV_STATE, F.FLT_FIRST_CAUSE.SOURCE, F.FLT_FIRST_CAUSE.CODE]

/-- A counter held in a pair of words counts modulo the size of both. -/
theorem Dev.fld_incPair (d : Dev) (lo hi : Fld) (n : Nat) (hlo : lo.lo = 0) (hw : lo.w = 32) (hhi : hi.lo + hi.w ≤ 32)
    (hap : hi.apart lo = true) : (d.incPair lo hi n).fld lo + 2 ^ 32 * (d.incPair lo hi n).fld hi
      = (d.fld lo + 2 ^ 32 * d.fld hi + n) % 2 ^ (32 + hi.w) := by
  have hfits : lo.lo + lo.w ≤ 32 := by omega
  rw [Dev.incPair, Dev.fld_setFld_apart _ _ _ _ hhi hap, Dev.fld_setFld_same _ _ _ hhi, Dev.fld_setFld_same _ _ _ hfits, hw,
    Nat.mod_mod, pow_add, Nat.mod_mul, Nat.mul_comm (d.fld hi)]

/-- What registers, causes, outage entries, the boot's worst class and records leave alone a fault leaves alone. -/
theorem Dev.fault_kept {α : Type} (g : Dev → α) (hfld : ∀ (x : Dev) (f : Fld) (v : Nat), g (x.setFld f v) = g x)
    (hlog : ∀ (x : Dev) (kind mask : Nat), g (x.logOutage kind mask) = g x) (hworst : ∀ (x : Dev) (cls : Nat), g (x.setWorst cls) = g x)
    (hkeep : ∀ (x : Dev) (c : Cause), g (x.keep c) = g x)
    (hrec : ∀ (x : Dev) (st : Stamp) (ev : Ev) (src : Src) (cls : Nat) (pay : List Byte), g (x.raiseAt st ev src cls pay) = g x)
    (d : Dev) (ev : Ev) (src : Src) (sub related : Nat) (detail : List Byte) (st : Stamp) :
    g (d.fault ev src sub related detail st) = g d := by
  by_cases hp : d.has ev src sub = true
  · rw [Dev.fault_present hp]
  · rw [Dev.fault_fresh (by simpa using hp), hrec]
    exact d.react_cases (P := fun e => g e = g d) ev src sub (fun _ => hkeep _ _) (fun _ => (hfld _ _ _).trans (hkeep _ _))
      (fun _ => (Dev.safeState_kept g hfld hlog hworst _ _ _ _).trans (hkeep _ _))

section
variable (d : Dev) (ev : Ev) (src : Src) (sub related : Nat) (detail : List Byte) (st : Stamp)

@[simp] theorem Dev.fault_banks : (d.fault ev src sub related detail st).banks = d.banks :=
  Dev.fault_kept Dev.banks (fun _ _ _ => rfl) (fun _ _ _ => rfl) (fun _ _ => rfl) (fun _ _ => rfl) Dev.raiseAt_banks ..

@[simp] theorem Dev.fault_auxs : (d.fault ev src sub related detail st).auxs = d.auxs :=
  Dev.fault_kept Dev.auxs (fun _ _ _ => rfl) (fun _ _ _ => rfl) (fun _ _ => rfl) (fun _ _ => rfl) Dev.raiseAt_auxs ..

@[simp] theorem Dev.fault_part : (d.fault ev src sub related detail st).part = d.part :=
  Dev.fault_kept Dev.part (fun _ _ _ => rfl) (fun _ _ _ => rfl) (fun _ _ => rfl) (fun _ _ => rfl) Dev.raiseAt_part ..

@[simp] theorem Dev.fault_freeCtr : (d.fault ev src sub related detail st).freeCtr = d.freeCtr :=
  Dev.fault_kept Dev.freeCtr (fun _ _ _ => rfl) (fun _ _ _ => rfl) (fun _ _ => rfl) (fun _ _ => rfl) Dev.raiseAt_freeCtr ..

end

/-- A cause that has gone is not present. -/
theorem Dev.has_clear (d : Dev) (ev : Ev) (src : Src) (sub : Nat) : (d.clear ev src sub).has ev src sub = false := by
  simp only [Dev.has, Dev.clear, List.any_eq_false, List.mem_filter]
  rintro c ⟨-, hc⟩
  exact fun hp => absurd hc (by rw [hp]; decide)

end Sys2Proof.Machine
end

section
set_option Elab.async false
/-! ### Codes of the front end (R194) -/

namespace Sys2Proof.Machine

/-- A quotient is rounded to the nearest integer. -/
theorem roundDiv_near (n : Int) : (20000 * roundDiv n 20000 - n).natAbs ≤ 10000 := by
  unfold roundDiv
  push_cast
  split <;> omega

theorem sampleCode_in_range {nv : Int} (h : (sampleCode nv).2 = false) :
    (20000 * (sampleCode nv).1 - nv).natAbs ≤ 10000 ∧ (sampleCode nv).1.natAbs ≤ 32766 := by
  have hnear := roundDiv_near nv
  unfold sampleCode at h ⊢
  dsimp only at h ⊢
  split_ifs at h ⊢ with hhigh hlow
  exact ⟨hnear, by dsimp only; omega⟩

theorem sampleCode_over_range {nv : Int} (h : (sampleCode nv).2 = true) : 20000 * 32766 + 10000 ≤ nv.natAbs
    ∧ ((sampleCode nv).1 = 32767 ∧ 0 < nv ∨ (sampleCode nv).1 = -32768 ∧ nv < 0) := by
  have hnear := roundDiv_near nv
  unfold sampleCode at h ⊢
  dsimp only at h ⊢
  split_ifs at h ⊢ with hhigh hlow
  · exact ⟨by omega, .inl ⟨rfl, by omega⟩⟩
  · exact ⟨by omega, .inr ⟨rfl, by omega⟩⟩

end Sys2Proof.Machine
end

section
set_option Elab.async false
/-! ### The record of one aperture or gate (R194, R196 to R199, R201, R204) -/

namespace Sys2Proof.Machine

@[simp] theorem Dev.chan_modChan (d : Dev) (c : Nat) (f : ChanSt → ChanSt) : (d.modChan c f).chan c = f (d.chan c) :=
  tabGet_tabPut_same _ _ _ _

@[simp] theorem Dev.modChan_fld (d : Dev) (c : Nat) (f : ChanSt → ChanSt) (g : Fld) : (d.modChan c f).fld g = d.fld g := rfl

theorem Touches.modChan {W : Set Fld} {a d : Dev} (h : Touches W a d) (c : Nat) (f : ChanSt → ChanSt) : Touches W a (d.modChan c f) :=
  h.upd rfl rfl rfl rfl rfl rfl rfl

/-- Whether a record is tagged BLANKED: by a blank of its bank, a settling switch, a self-test, the short aperture or a move of the channel. -/
def Dev.recBlanked (d : Dev) (c : Nat) (freq : Bool) : Bool :=
  let a := apertureStart (if freq then 50 else 10) d.now
  d.bankOverlaps (c / 8) a d.now || 0 < (d.chan c).settle || d.selftestTags c freq d.now || d.now = 0 || (d.chan c).moved = some a

/-- The records in range since the latest over-range one (R204). -/
def ChanSt.inRange (k : ChanSt) (blanked ovr : Bool) : Nat := if blanked then k.run else if ovr then 0 else k.run + 1

/-- Whether a channel is over-range after a record (R204). -/
def ChanSt.ovrNow (k : ChanSt) (freq blanked ovr : Bool) : Bool :=
  if blanked then k.ovr else ovr || (k.ovr && k.inRange blanked ovr < if freq then 3 else 12)

/-- The record of a channel that measured `fresh`. -/
def Dev.recOf (d : Dev) (c : Nat) (freq : Bool) (fresh : Int × Bool) (mean : Int) (limit : Bool) : ChanRec :=
  let blanked := d.recBlanked c freq
  let code := if blanked then (d.chan c).code else fresh.1
  ⟨c, code, if freq then mean else code, if blanked then (d.chan c).codeOvr else (d.chan c).ovrNow freq blanked fresh.2, blanked,
    d.disturbed c (apertureStart (if freq then 50 else 10) d.now) d.now, limit⟩

/-- The word of Table HAZ-3 that a record shows. -/
def Dev.recWord (d : Dev) (c : Nat) (freq : Bool) (r : ChanRec) : Word :=
  recordWord (if (d.chan c).moved = some d.now then 4 - d.modeNow c else d.modeNow c) (d.now.toNat / (if freq then 50 else 10)) r

/-- What a channel keeps of a record for the next one. -/
def Dev.recKept (d : Dev) (c : Nat) (freq ovr : Bool) (r : ChanRec) : Dev :=
  let wide := (d.chan c).ovrNow freq r.blanked ovr
  d.modChan c (fun k => { k with
    settle := k.settle - 1, ovr := wide, run := if wide then (d.chan c).inRange r.blanked ovr else 0, code := r.code, codeOvr := r.ovr
    seen := k.seen || !r.blanked
    moved := if k.moved = some (apertureStart (if freq then 50 else 10) d.now) then none else k.moved })

/-- A record is shown in its register, its OVR and LIMIT tags in the channel's status. -/
def Dev.recShown (d : Dev) (c : Nat) (w : Word) (r : ChanRec) : Dev :=
  ((d.setReg .haz (F.HAZ_CH_SAMPLE.RECORD c).off w).setBit (F.HAZ_CH_STAT.OVR c) r.ovr).setBit (F.HAZ_CH_STAT.LIMIT c) r.limit

/-- An over-range code is flagged; the first of an episode counts. -/
def Dev.recOver (d : Dev) (c : Nat) (ovr start : Bool) : Dev :=
  let d := if ovr then d.setFld (F.HAZ_CH_FLAG.OVR_SEEN c) 1 else d
  if start then d.inc (F.HAZ_CH_CNT.OVR_EPISODES c) else d

/-- A blanked record counts as such, another one may be a peak. -/
def Dev.recPeak (d : Dev) (c : Nat) (blanked seen : Bool) (code : Int) : Dev :=
  if blanked then d.inc (F.HAZ_CH_BLANKED.BLANKED c)
  else if seen then (d.setSFld (F.HAZ_CH_PEAK.MIN c) (min (d.sfld (F.HAZ_CH_PEAK.MIN c)) code)).setSFld (F.HAZ_CH_PEAK.MAX c)
    (max (d.sfld (F.HAZ_CH_PEAK.MAX c)) code)
  else (d.setSFld (F.HAZ_CH_PEAK.MIN c) code).setSFld (F.HAZ_CH_PEAK.MAX c) code

/-- A record waits for its rings and for the twin's digest. -/
def Dev.recSent (d : Dev) (c : Nat) (rings : List Nat) (w : Word) : Dev :=
  { d.stream rings (leBytes 4 w.toNat) with recs := (if d.recsAt = d.now then d.recs else []) ++ [(c, w)], recsAt := d.now }

/-- A record of a channel that stood at `k` is counted and sent. -/
def Dev.recCounted (d : Dev) (c : Nat) (k : ChanSt) (ovr : Bool) (w : Word) (r : ChanRec) : Dev :=
  (((d.recOver c (!r.blanked && ovr) (!r.blanked && ovr && !k.ovr)).incPair (F.HAZ_CH_REC_LO.V c) (F.HAZ_CH_REC_HI.V c)).recPeak c r.blanked
    k.seen r.code).recSent c k.streams w

/-- The channel and its registers after its record `r`. -/
def Dev.recDone (d : Dev) (c : Nat) (freq ovr : Bool) (r : ChanRec) : Dev :=
  ((d.recKept c freq ovr r).recShown c (d.recWord c freq r) r).recCounted c (d.chan c) ovr (d.recWord c freq r) r

theorem Dev.chanRecord_eq (d : Dev) (c : Nat) (freq : Bool) (fresh : Int × Bool) (mean : Int) (limit : Bool) :
    d.chanRecord c freq fresh mean limit
      = (d.recDone c freq fresh.2 (d.recOf c freq fresh mean limit), d.recOf c freq fresh mean limit) := rfl

/-! ### What each part writes -/

/-- The register a record is shown in, and the tags of its channel's status. -/
def shownFlds (c : Nat) : Set Fld := {f | f.place = (F.HAZ_CH_SAMPLE.RECORD c).place} ∪ {F.HAZ_CH_STAT.OVR c, F.HAZ_CH_STAT.LIMIT c}

/-- The counts and peaks of a channel's records. -/
def countFlds (c : Nat) : Set Fld :=
  {F.HAZ_CH_FLAG.OVR_SEEN c, F.HAZ_CH_CNT.OVR_EPISODES c, F.HAZ_CH_REC_LO.V c, F.HAZ_CH_REC_HI.V c, F.HAZ_CH_BLANKED.BLANKED c,
    F.HAZ_CH_PEAK.MIN c, F.HAZ_CH_PEAK.MAX c}

/-- The registers a channel's record writes. -/
def recordRegs (c : Nat) : List (Blk × Nat) :=
  [(F.HAZ_CH_SAMPLE.RECORD c).place, (F.HAZ_CH_STAT.OVR c).place, (F.HAZ_CH_FLAG.OVR_SEEN c).place, (F.HAZ_CH_CNT.OVR_EPISODES c).place,
    (F.HAZ_CH_REC_LO.V c).place, (F.HAZ_CH_REC_HI.V c).place, (F.HAZ_CH_BLANKED.BLANKED c).place, (F.HAZ_CH_PEAK.MIN c).place]

theorem recordFlds_place (c : Nat) : ∀ f ∈ shownFlds c ∪ countFlds c, f.place ∈ recordRegs c := by
  rintro f ((hf | (rfl | rfl)) | (rfl | rfl | rfl | rfl | rfl | rfl | rfl))
  · rw [show f.place = _ from hf]
    exact List.mem_cons_self
  all_goals simp [recordRegs, Fld.place, F.HAZ_CH_STAT.OVR, F.HAZ_CH_STAT.LIMIT, F.HAZ_CH_PEAK.MIN, F.HAZ_CH_PEAK.MAX]

/-- What a record counts lies beside every register of the channel but its sticky flags, its counters and its peaks. -/
theorem countFlds_apart {c off lo w : Nat} (h : off < 0x14 ∨ off = 0x34) : ∀ f ∈ countFlds c, f.apart ⟨.haz, 0x1000 + off + 0x40 * c, lo, w⟩ = true := by
  rintro f (rfl | rfl | rfl | rfl | rfl | rfl | rfl) <;> refine Fld.apart_of_off ?_
  · show 0x1014 + 0x40 * c ≠ 0x1000 + off + 0x40 * c; omega
  · show 0x1018 + 0x40 * c ≠ 0x1000 + off + 0x40 * c; omega
  · show 0x1028 + 0x40 * c ≠ 0x1000 + off + 0x40 * c; omega
  · show 0x102c + 0x40 * c ≠ 0x1000 + off + 0x40 * c; omega
  · show 0x1030 + 0x40 * c ≠ 0x1000 + off + 0x40 * c; omega
  · show 0x101c + 0x40 * c ≠ 0x1000 + off + 0x40 * c; omega
  · show 0x101c + 0x40 * c ≠ 0x1000 + off + 0x40 * c; omega

section
variable {W : Set Fld} {a d : Dev} (h : Touches W a d) (c : Nat)
include h

theorem Touches.recShown (hW : shownFlds c ⊆ W) (w : Word) (r : ChanRec) : Touches W a (d.recShown c w r) :=
  ((h.setReg _ _ w (fun _ _ => hW (.inl rfl))).setBit (F.HAZ_CH_STAT.OVR c) _ (hW (.inr (.inl rfl))) Fld.fits).setBit (F.HAZ_CH_STAT.LIMIT c) _
    (hW (.inr (.inr rfl))) Fld.fits

theorem Touches.recOver (hflag : F.HAZ_CH_FLAG.OVR_SEEN c ∈ W) (hcnt : F.HAZ_CH_CNT.OVR_EPISODES c ∈ W) (ovr start : Bool) :
    Touches W a (d.recOver c ovr start) := by
  have hseen : Touches W a (if ovr then d.setFld (F.HAZ_CH_FLAG.OVR_SEEN c) 1 else d) := (h.setFld (F.HAZ_CH_FLAG.OVR_SEEN c) _ hflag Fld.fits).ite h
  exact (hseen.inc (F.HAZ_CH_CNT.OVR_EPISODES c) 1 hcnt Fld.fits).ite hseen

theorem Touches.recPeak (hblk : F.HAZ_CH_BLANKED.BLANKED c ∈ W) (hmin : F.HAZ_CH_PEAK.MIN c ∈ W) (hmax : F.HAZ_CH_PEAK.MAX c ∈ W)
    (blanked seen : Bool) (code : Int) : Touches W a (d.recPeak c blanked seen code) := by
  have hpeaks (x y : Int) : Touches W a ((d.setSFld (F.HAZ_CH_PEAK.MIN c) x).setSFld (F.HAZ_CH_PEAK.MAX c) y) :=
    (h.setFld (F.HAZ_CH_PEAK.MIN c) _ hmin Fld.fits).setFld (F.HAZ_CH_PEAK.MAX c) _ hmax Fld.fits
  exact (h.inc (F.HAZ_CH_BLANKED.BLANKED c) 1 hblk Fld.fits).ite ((hpeaks _ _).ite (hpeaks _ _))

theorem Touches.recSent (rings : List Nat) (w : Word) : Touches W a (d.recSent c rings w) := h.upd rfl rfl rfl rfl rfl rfl rfl

theorem Touches.recCounted (hW : countFlds c ⊆ W) (k : ChanSt) (ovr : Bool) (w : Word) (r : ChanRec) :
    Touches W a (d.recCounted c k ovr w r) := by
  have hpair := (h.recOver c (hW (by simp [countFlds])) (hW (by simp [countFlds])) (!r.blanked && ovr) (!r.blanked && ovr && !k.ovr)).incPair
    (F.HAZ_CH_REC_LO.V c) (F.HAZ_CH_REC_HI.V c) 1 (hW (by simp [countFlds])) (hW (by simp [countFlds])) Fld.fits Fld.fits
  exact (hpair.recPeak c (hW (by simp [countFlds])) (hW (by simp [countFlds])) (hW (by simp [countFlds])) _ _ _).recSent c _ _

theorem Touches.recDone (hW : shownFlds c ∪ countFlds c ⊆ W) (freq ovr : Bool) (r : ChanRec) : Touches W a (d.recDone c freq ovr r) :=
  ((h.modChan c _).recShown c (fun _ hf => hW (.inl hf)) _ _).recCounted c (fun _ hf => hW (.inr hf)) _ _ _ _

end

/-! ### What stands after a record -/

/-- What is no register and no record on its way stands as the channel kept it. -/
theorem Dev.recCounted_kept {α : Type} (g : Dev → α) (hreg : ∀ (x : Dev) (b : Blk) (off : Nat) (v : Word), g (x.setReg b off v) = g x)
    (hsent : ∀ (x : Dev) (c : Nat) (rings : List Nat) (w : Word), g (x.recSent c rings w) = g x) (d : Dev) (c : Nat) (k : ChanSt) (ovr : Bool)
    (w : Word) (r : ChanRec) : g ((d.recShown c w r).recCounted c k ovr w r) = g d := by
  have hfld : ∀ (x : Dev) (f : Fld) (v : Nat), g (x.setFld f v) = g x := fun _ _ _ => hreg ..
  have hover (x : Dev) (p q : Bool) : g (x.recOver c p q) = g x := by
    unfold Dev.recOver
    cases p <;> cases q <;> simp [Dev.inc, hfld]
  have hpeak (x : Dev) (p q : Bool) (code : Int) : g (x.recPeak c p q code) = g x := by
    unfold Dev.recPeak
    cases p <;> cases q <;> simp [Dev.inc, Dev.setSFld, hfld]
  simp only [Dev.recCounted, Dev.recShown, Dev.incPair, Dev.setBit, hsent, hpeak, hover, hfld, hreg]

section
variable (d : Dev) (c : Nat) (freq ovr : Bool) (r : ChanRec)

theorem Dev.recDone_chan : (d.recDone c freq ovr r).chan c = (d.recKept c freq ovr r).chan c :=
  Dev.recCounted_kept (fun x => x.chan c) (fun _ _ _ _ => rfl) (fun _ _ _ _ => rfl) ..

theorem Dev.recDone_heads : (d.recDone c freq ovr r).heads = d.heads :=
  Dev.recCounted_kept Dev.heads (fun _ _ _ _ => rfl) (fun _ _ _ _ => rfl) ..

theorem Dev.recDone_boot : (d.recDone c freq ovr r).boot = d.boot :=
  Dev.recCounted_kept Dev.boot (fun _ _ _ _ => rfl) (fun _ _ _ _ => rfl) ..

/-- What follows a record's word leaves its register alone. -/
theorem Dev.recShown_regs (k : ChanSt) (w : Word) :
    sameRegsBut (recordRegs c).tail (d.setReg .haz (F.HAZ_CH_SAMPLE.RECORD c).off w) ((d.recShown c w r).recCounted c k ovr w r) := by
  have hshown : Touches ({F.HAZ_CH_STAT.OVR c, F.HAZ_CH_STAT.LIMIT c} ∪ countFlds c) (d.setReg .haz (F.HAZ_CH_SAMPLE.RECORD c).off w)
      (d.recShown c w r) := ((Touches.refl _ _).setBit (F.HAZ_CH_STAT.OVR c) _ (.inl (.inl rfl)) Fld.fits).setBit (F.HAZ_CH_STAT.LIMIT c) _
        (.inl (.inr rfl)) Fld.fits
  refine (hshown.recCounted c Set.subset_union_right k ovr w r).sameRegs ?_
  rintro f ((rfl | rfl) | (rfl | rfl | rfl | rfl | rfl | rfl | rfl)) <;> simp [recordRegs, Fld.place, F.HAZ_CH_STAT.OVR, F.HAZ_CH_STAT.LIMIT,
    F.HAZ_CH_PEAK.MIN, F.HAZ_CH_PEAK.MAX]

/-- The register of a record shows it. -/
theorem Dev.recDone_reg : (d.recDone c freq ovr r).reg .haz (F.HAZ_CH_SAMPLE.RECORD c).off = d.recWord c freq r := by
  refine ((d.recKept c freq ovr r).recShown_regs c ovr r (d.chan c) (d.recWord c freq r) .haz _ ?_).trans (Dev.reg_setReg_same ..)
  simp [recordRegs, Fld.place, F.HAZ_CH_SAMPLE.RECORD, F.HAZ_CH_STAT.OVR, F.HAZ_CH_FLAG.OVR_SEEN, F.HAZ_CH_CNT.OVR_EPISODES,
    F.HAZ_CH_REC_LO.V, F.HAZ_CH_REC_HI.V, F.HAZ_CH_BLANKED.BLANKED, F.HAZ_CH_PEAK.MIN]

/-- The status of a channel shows the current limit of its record. -/
theorem Dev.recDone_limit : (d.recDone c freq ovr r).on (F.HAZ_CH_STAT.LIMIT c) = r.limit := by
  have hafter : Touches (countFlds c) ((d.recKept c freq ovr r).recShown c (d.recWord c freq r) r) (d.recDone c freq ovr r) :=
    (Touches.refl _ _).recCounted c subset_rfl _ _ _ _
  exact (hafter.on (countFlds_apart (off := 0x10) (.inl (by decide)))).trans (Dev.on_setBit_same _ (F.HAZ_CH_STAT.LIMIT c) _ Fld.fits rfl)

/-- A record counts in the channel's pair of words. -/
theorem Dev.recDone_count : (d.recDone c freq ovr r).fld (F.HAZ_CH_REC_LO.V c) + 2 ^ 32 * (d.recDone c freq ovr r).fld (F.HAZ_CH_REC_HI.V c)
    = (d.fld (F.HAZ_CH_REC_LO.V c) + 2 ^ 32 * d.fld (F.HAZ_CH_REC_HI.V c) + 1) % 2 ^ (32 + (F.HAZ_CH_REC_HI.V c).w) := by
  obtain ⟨x, hx⟩ : ∃ x, x = ((d.recKept c freq ovr r).recShown c (d.recWord c freq r) r).recOver c (!r.blanked && ovr)
    (!r.blanked && ovr && !(d.chan c).ovr) := ⟨_, rfl⟩
  have hbefore : Touches (shownFlds c ∪ {F.HAZ_CH_FLAG.OVR_SEEN c, F.HAZ_CH_CNT.OVR_EPISODES c}) d x :=
    hx ▸ (((Touches.refl _ d).modChan c _).recShown c Set.subset_union_left _ _).recOver c (.inr (.inl rfl)) (.inr (.inr rfl)) _ _
  have hafter : Touches {F.HAZ_CH_BLANKED.BLANKED c, F.HAZ_CH_PEAK.MIN c, F.HAZ_CH_PEAK.MAX c} (x.incPair (F.HAZ_CH_REC_LO.V c)
      (F.HAZ_CH_REC_HI.V c)) (d.recDone c freq ovr r) := by
    unfold Dev.recDone Dev.recCounted
    rw [← hx]
    exact ((Touches.refl _ _).recPeak c (.inl rfl) (.inr (.inl rfl)) (.inr (.inr rfl)) _ _ _).recSent c _ _
  have hpair (off : Nat) (hoff : off = 0x1028 + 0x40 * c ∨ off = 0x102c + 0x40 * c) :
      x.fld ⟨.haz, off, 0, 32⟩ = d.fld ⟨.haz, off, 0, 32⟩
        ∧ (d.recDone c freq ovr r).fld ⟨.haz, off, 0, 32⟩ = (x.incPair (F.HAZ_CH_REC_LO.V c) (F.HAZ_CH_REC_HI.V c)).fld ⟨.haz, off, 0, 32⟩ := by
    refine ⟨hbefore.fld _ ?_, hafter.fld _ ?_⟩
    · rintro f ((hf | (rfl | rfl)) | (rfl | rfl)) <;> refine Fld.apart_of_off ?_
      · rw [show f.off = 0x1008 + 0x40 * c from congrArg Prod.snd hf]
        show 0x1008 + 0x40 * c ≠ off; omega
      · show 0x1010 + 0x40 * c ≠ off; omega
      · show 0x1010 + 0x40 * c ≠ off; omega
      · show 0x1014 + 0x40 * c ≠ off; omega
      · show 0x1018 + 0x40 * c ≠ off; omega
    · rintro f (rfl | rfl | rfl) <;> refine Fld.apart_of_off ?_
      · show 0x1030 + 0x40 * c ≠ off; omega
      · show 0x101c + 0x40 * c ≠ off; omega
      · show 0x101c + 0x40 * c ≠ off; omega
  obtain ⟨hlo, hlo'⟩ := hpair _ (.inl rfl)
  obtain ⟨hhi, hhi'⟩ := hpair _ (.inr rfl)
  have hinc := x.fld_incPair (F.HAZ_CH_REC_LO.V c) (F.HAZ_CH_REC_HI.V c) 1 rfl rfl Fld.fits
    (Fld.apart_of_off (show 0x102c + 0x40 * c ≠ 0x1028 + 0x40 * c by omega))
  unfold F.HAZ_CH_REC_LO.V F.HAZ_CH_REC_HI.V at *
  rw [hlo', hhi', hinc, hlo, hhi]

end

/-! ### What a record carries -/

section
variable {d : Dev} {c : Nat} {freq : Bool} (fresh : Int × Bool) (mean : Int) (limit : Bool)

/-- A record that nothing blanks carries its own code (R204). -/
theorem Dev.recOf_clear (h : d.recBlanked c freq = false) : (d.recOf c freq fresh mean limit).blanked = false
    ∧ (d.recOf c freq fresh mean limit).code = fresh.1 ∧ (d.recOf c freq fresh mean limit).ovr
      = (fresh.2 || ((d.chan c).ovr && Decidable.decide ((d.chan c).run + 1 < if freq then 3 else 12))) := by
  obtain ⟨code, ovr⟩ := fresh
  cases ovr <;> simp [Dev.recOf, h, ChanSt.ovrNow, ChanSt.inRange]

/-- A blanked record repeats the latest code and its tag (R201). -/
theorem Dev.recOf_blanked (h : d.recBlanked c freq = true) : (d.recOf c freq fresh mean limit).blanked = true
    ∧ (d.recOf c freq fresh mean limit).code = (d.chan c).code ∧ (d.recOf c freq fresh mean limit).ovr = (d.chan c).codeOvr := by
  simp [Dev.recOf, h]

end

theorem Dev.recBlanked_iff (d : Dev) (c : Nat) (freq : Bool) {w : Nat} (hw : w = if freq then 50 else 10) : d.recBlanked c freq = true ↔
    d.bankOverlaps (c / 8) (apertureStart w d.now) d.now = true ∨ 0 < (d.chan c).settle ∨ d.now = 0
      ∨ d.selftestTags c freq d.now = true ∨ (d.chan c).moved = some (apertureStart w d.now) := by
  subst hw
  simp only [Dev.recBlanked, Bool.or_eq_true, decide_eq_true_eq]
  tauto

theorem Dev.recBlanked_clear {d : Dev} {c w : Nat} {freq : Bool} (hw : w = if freq then 50 else 10)
    (hbank : d.bankOverlaps (c / 8) (apertureStart w d.now) d.now = false) (hsettle : (d.chan c).settle = 0)
    (htest : d.selftestTags c freq d.now = false) (hnow : d.now ≠ 0) (hmoved : (d.chan c).moved ≠ some (apertureStart w d.now)) :
    d.recBlanked c freq = false := by
  refine Bool.eq_false_iff.2 (fun h => ?_)
  rcases (d.recBlanked_iff c freq hw).1 h with h | h | h | h | h
  · exact absurd h (by simp [hbank])
  · omega
  · exact hnow h
  · exact absurd h (by simp [htest])
  · exact hmoved h

/-! ### Apertures and gates -/

/-- A channel that neither measures nor listens gives no record. -/
theorem Dev.chanSample_idle {d : Dev} {c : Nat} (h1 : d.modeNow c ≠ 1) (h3 : d.modeNow c ≠ 3) (nv : Int) (limit : Bool) :
    d.chanSample c nv limit = (d, []) := if_neg (by tauto)

/-- What the record of an aperture is. -/
def Dev.sampleRec (d : Dev) (c : Nat) (nv : Int) (limit : Bool) : ChanRec := d.recOf c false (sampleCode nv) 0 limit

theorem Dev.chanSample_gives {d : Dev} {c : Nat} (h : d.modeNow c = 1 ∨ d.modeNow c = 3) (nv : Int) (limit : Bool) :
    d.chanSample c nv limit = (d.recDone c false (sampleCode nv).2 (d.sampleRec c nv limit), [d.sampleRec c nv limit]) := if_pos h

/-- A gate without a crossing has lost its carrier (R199). -/
def noCarrier (n : Nat) : Bool := n = 0

/-- How long before the end of a gate the latest crossing before the gate lay. -/
def Dev.gateAge (d : Dev) (c : Nat) : Option Nat := match (d.chan c).cross with | some x => some (x + d.gateUnits) | none => none

/-- The periods a gate counts, and the units of 1.5625 ns over which they extend (R197). -/
def Dev.gatePair (d : Dev) (c n before : Nat) : Nat × Nat := match d.gateAge c with
  | some x => if noCarrier n then (0, 0) else (n, x - before)
  | none => (0, 0)

/-- A gate saw crossings but counts no period: the rule states no code (assumption log 15). -/
def Dev.gateOpen (d : Dev) (c n before : Nat) : Bool := !noCarrier n && (d.gatePair c n before).2 = 0

/-- The code of a gate. -/
def Dev.gateCode (d : Dev) (c n before : Nat) : Int × Bool :=
  let free := (Config.freeCode d.freeCtr).toInt
  if noCarrier n then (-32768, true) else if d.gateOpen c n before then (free, free = 32767 ∨ free = -32768)
  else freqCode (d.fld (F.HAZ_CH_FREF.F_REF_HZ c)) (d.gatePair c n before).1 (d.gatePair c n before).2

/-- A free value may be taken, the latest crossing is kept. -/
def Dev.gateKept (d : Dev) (c n before : Nat) (onEnd : Bool) : Dev :=
  let age := d.gateAge c
  Dev.modChan (if d.gateOpen c n before then { d with freeCtr := d.freeCtr + 1 } else d) c
    (fun k => { k with cross := if onEnd then some 0 else if noCarrier n then age else some before })

/-- The mean voltage of a gate is shown, and whether the carrier is lost, which stays flagged. -/
def Dev.gateCarrier (d : Dev) (c : Nat) (lost : Bool) (nv : Int) : Dev :=
  let d := (d.setSFld (F.HAZ_CH_MEAN.CODE c) (sampleCode nv).1).setBit (F.HAZ_CH_STAT.CARRIER_LOST c) lost
  if lost then d.setFld (F.HAZ_CH_FLAG.CARRIER_LOST c) 1 else d

/-- What a gate shows beside its record. -/
def Dev.gateShown (d : Dev) (c : Nat) (pair : Nat × Nat) (lost : Bool) (nv : Int) : Dev :=
  ((d.setFld (F.HAZ_CH_FRAW.N c) pair.1).setFld (F.HAZ_CH_FRAW.T c) pair.2).gateCarrier c lost nv

/-- The device at the end of a gate, before its record. -/
def Dev.gateNoted (d : Dev) (c n before : Nat) (onEnd : Bool) (nv : Int) : Dev :=
  (d.gateKept c n before onEnd).gateShown c (d.gatePair c n before) (noCarrier n) nv

/-- What the record of a gate is. -/
def Dev.wordRec (d : Dev) (c n before : Nat) (onEnd : Bool) (nv : Int) (limit : Bool) : ChanRec :=
  (d.gateNoted c n before onEnd nv).recOf c true (d.gateCode c n before) (sampleCode nv).1 limit

theorem Dev.chanWord_gives {d : Dev} {c : Nat} (h : d.modeNow c = 2) (n before : Nat) (onEnd : Bool) (nv : Int) (limit : Bool) :
    d.chanWord c n before onEnd nv limit = ((d.gateNoted c n before onEnd nv).recDone c true (d.gateCode c n before).2
      (d.wordRec c n before onEnd nv limit), [d.wordRec c n before onEnd nv limit]) := if_pos h

end Sys2Proof.Machine
end

section
set_option Elab.async false
/-! ### What a gate leaves (R197 to R199) -/

namespace Sys2Proof.Machine

theorem Dev.gatePair_lost (d : Dev) (c before : Nat) : d.gatePair c 0 before = (0, 0) := by
  unfold Dev.gatePair
  split <;> rfl

theorem Dev.gatePair_crossed {d : Dev} {c n x : Nat} (hx : (d.chan c).cross = some x) (hn : n ≠ 0) (before : Nat) :
    d.gatePair c n before = (n, x + (if d.now = 0 then 3840 else 32000) - before) := by
  simp [Dev.gatePair, Dev.gateAge, hx, noCarrier, hn, Dev.gateUnits]

/-- A gate that counts periods has the code of Table HAZ-4. -/
theorem Dev.gateCode_crossed {d : Dev} {c n before p : Nat} (hpair : d.gatePair c n before = (n, p)) (hn : n ≠ 0) (hp : 0 < p) :
    d.gateCode c n before = freqCode (d.fld (F.HAZ_CH_FREF.F_REF_HZ c)) n p := by
  simp [Dev.gateCode, Dev.gateOpen, noCarrier, hn, hpair, hp.ne']

/-- What a gate writes beside its record. -/
def gateFlds (c : Nat) : Set Fld :=
  {F.HAZ_CH_FRAW.N c, F.HAZ_CH_FRAW.T c, F.HAZ_CH_MEAN.CODE c, F.HAZ_CH_STAT.CARRIER_LOST c, F.HAZ_CH_FLAG.CARRIER_LOST c}

/-- The registers a gate writes. -/
def gateRegs (c : Nat) : List (Blk × Nat) := recordRegs c ++ [(F.HAZ_CH_FRAW.N c).place, (F.HAZ_CH_MEAN.CODE c).place]

theorem gateFlds_place (c : Nat) : ∀ f ∈ gateFlds c ∪ (shownFlds c ∪ countFlds c), f.place ∈ gateRegs c := by
  rintro f ((rfl | rfl | rfl | rfl | rfl) | hf)
  · simp [gateRegs]
  · simp [gateRegs, Fld.place, F.HAZ_CH_FRAW.T, F.HAZ_CH_FRAW.N]
  · simp [gateRegs]
  · simp [gateRegs, recordRegs, Fld.place, F.HAZ_CH_STAT.CARRIER_LOST, F.HAZ_CH_STAT.OVR]
  · simp [gateRegs, recordRegs, Fld.place, F.HAZ_CH_FLAG.CARRIER_LOST, F.HAZ_CH_FLAG.OVR_SEEN]
  · exact List.mem_append_left _ (recordFlds_place c f hf)

/-- What a record of its channel leaves alone: the raw count, and the bits of a lost carrier. -/
theorem recordFlds_apart {c : Nat} {g : Fld} (hg : g = F.HAZ_CH_FRAW.N c ∨ g = F.HAZ_CH_FRAW.T c ∨ g = F.HAZ_CH_STAT.CARRIER_LOST c
    ∨ g = F.HAZ_CH_FLAG.CARRIER_LOST c) : ∀ f ∈ shownFlds c ∪ countFlds c, f.apart g = true := by
  have hreg {f : Fld} (hf : f.place = (F.HAZ_CH_SAMPLE.RECORD c).place) : f.apart g = true := by
    refine Fld.apart_of_off ?_
    rw [show f.off = 0x1008 + 0x40 * c from congrArg Prod.snd hf]
    rcases hg with rfl | rfl | rfl | rfl
    · show 0x1008 + 0x40 * c ≠ 0x1034 + 0x40 * c; omega
    · show 0x1008 + 0x40 * c ≠ 0x1034 + 0x40 * c; omega
    · show 0x1008 + 0x40 * c ≠ 0x1010 + 0x40 * c; omega
    · show 0x1008 + 0x40 * c ≠ 0x1014 + 0x40 * c; omega
  rintro f ((hf | hf) | hf)
  · exact hreg hf
  · rcases hf with rfl | rfl <;> rcases hg with rfl | rfl | rfl | rfl <;>
      simp [Fld.apart_iff, F.HAZ_CH_STAT.OVR, F.HAZ_CH_STAT.LIMIT, F.HAZ_CH_FRAW.N, F.HAZ_CH_FRAW.T, F.HAZ_CH_STAT.CARRIER_LOST,
        F.HAZ_CH_FLAG.CARRIER_LOST]
  · rcases hg with rfl | rfl | rfl | rfl
    · exact countFlds_apart (off := 0x34) (.inr rfl) f hf
    · exact countFlds_apart (off := 0x34) (.inr rfl) f hf
    · exact countFlds_apart (off := 0x10) (.inl (by decide)) f hf
    · rcases hf with rfl | rfl | rfl | rfl | rfl | rfl | rfl <;> simp [Fld.apart_iff, F.HAZ_CH_FLAG.CARRIER_LOST, F.HAZ_CH_FLAG.OVR_SEEN,
        F.HAZ_CH_CNT.OVR_EPISODES, F.HAZ_CH_REC_LO.V, F.HAZ_CH_REC_HI.V, F.HAZ_CH_BLANKED.BLANKED, F.HAZ_CH_PEAK.MIN, F.HAZ_CH_PEAK.MAX]

/-- The mean voltage and the bits of a lost carrier. -/
def carrierFlds (c : Nat) : Set Fld := {F.HAZ_CH_MEAN.CODE c, F.HAZ_CH_STAT.CARRIER_LOST c, F.HAZ_CH_FLAG.CARRIER_LOST c}

section
variable (d : Dev) (c : Nat) (pair : Nat × Nat) (lost : Bool) (nv : Int)

theorem Touches.gateCarrier {W : Set Fld} {a d : Dev} (h : Touches W a d) (hW : carrierFlds c ⊆ W) : Touches W a (d.gateCarrier c lost nv) := by
  have hbit : Touches W a ((d.setSFld (F.HAZ_CH_MEAN.CODE c) (sampleCode nv).1).setBit (F.HAZ_CH_STAT.CARRIER_LOST c) lost) :=
    (h.setFld (F.HAZ_CH_MEAN.CODE c) _ (hW (.inl rfl)) Fld.fits).setBit (F.HAZ_CH_STAT.CARRIER_LOST c) _ (hW (.inr (.inl rfl))) Fld.fits
  exact (hbit.setFld (F.HAZ_CH_FLAG.CARRIER_LOST c) 1 (hW (.inr (.inr rfl))) Fld.fits).ite hbit

theorem Touches.gateShown {W : Set Fld} {a d : Dev} (h : Touches W a d) (hW : gateFlds c ⊆ W) : Touches W a (d.gateShown c pair lost nv) :=
  ((h.setFld (F.HAZ_CH_FRAW.N c) _ (hW (.inl rfl)) Fld.fits).setFld (F.HAZ_CH_FRAW.T c) _ (hW (.inr (.inl rfl))) Fld.fits).gateCarrier c lost nv
    (fun _ hf => hW (.inr (.inr hf)))

/-- The carrier's status shows whether it is lost. -/
theorem Dev.gateCarrier_status : (d.gateCarrier c lost nv).on (F.HAZ_CH_STAT.CARRIER_LOST c) = lost := by
  have hset (x : Dev) : (x.setBit (F.HAZ_CH_STAT.CARRIER_LOST c) lost).on (F.HAZ_CH_STAT.CARRIER_LOST c) = lost :=
    Dev.on_setBit_same _ (F.HAZ_CH_STAT.CARRIER_LOST c) _ Fld.fits rfl
  unfold Dev.gateCarrier
  dsimp only
  split
  · refine (Dev.on_setBit_apart _ (F.HAZ_CH_FLAG.CARRIER_LOST c) _ true Fld.fits (Fld.apart_of_off ?_)).trans (hset _)
    show 0x1014 + 0x40 * c ≠ 0x1010 + 0x40 * c; omega
  · exact hset _

theorem Dev.gateCarrier_flag : (d.gateCarrier c true nv).on (F.HAZ_CH_FLAG.CARRIER_LOST c) = true :=
  Dev.on_setBit_same _ (F.HAZ_CH_FLAG.CARRIER_LOST c) true Fld.fits rfl

/-- Periods and units are shown as far as their fields hold them. -/
theorem Dev.gateShown_raw : (d.gateShown c pair lost nv).fld (F.HAZ_CH_FRAW.N c) = pair.1 % 2 ^ 8
    ∧ (d.gateShown c pair lost nv).fld (F.HAZ_CH_FRAW.T c) = pair.2 % 2 ^ 24 := by
  have hafter {x : Dev} {lo w : Nat} : (x.gateCarrier c lost nv).fld ⟨.haz, 0x1034 + 0x40 * c, lo, w⟩ = x.fld ⟨.haz, 0x1034 + 0x40 * c, lo, w⟩ := by
    refine ((Touches.refl _ x).gateCarrier c lost nv subset_rfl).fld _ ?_
    rintro f (rfl | rfl | rfl) <;> refine Fld.apart_of_off ?_
    · show 0x100c + 0x40 * c ≠ 0x1034 + 0x40 * c; omega
    · show 0x1010 + 0x40 * c ≠ 0x1034 + 0x40 * c; omega
    · show 0x1014 + 0x40 * c ≠ 0x1034 + 0x40 * c; omega
  refine ⟨hafter.trans ?_, hafter.trans (Dev.fld_setFld_same _ (F.HAZ_CH_FRAW.T c) _ Fld.fits)⟩
  exact (Dev.fld_setFld_apart _ (F.HAZ_CH_FRAW.T c) (F.HAZ_CH_FRAW.N c) _ Fld.fits (Fld.apart_of_bits (.inr (by decide : 0 + 8 ≤ 8)))).trans
    (Dev.fld_setFld_same _ (F.HAZ_CH_FRAW.N c) _ Fld.fits)

end

section
variable (d : Dev) (c n before : Nat) (onEnd : Bool) (nv : Int) (limit : Bool)

theorem Dev.gateKept_chan : (d.gateKept c n before onEnd).chan c
    = { d.chan c with cross := if onEnd then some 0 else if noCarrier n then d.gateAge c else some before } := by
  unfold Dev.gateKept
  rw [Dev.chan_modChan]
  split <;> rfl

/-- What is no register stands beside what a gate shows. -/
theorem Dev.gateShown_kept {α : Type} (g : Dev → α) (hreg : ∀ (x : Dev) (b : Blk) (off : Nat) (v : Word), g (x.setReg b off v) = g x)
    (d : Dev) (c : Nat) (pair : Nat × Nat) (lost : Bool) (nv : Int) : g (d.gateShown c pair lost nv) = g d := by
  have hfld : ∀ (x : Dev) (f : Fld) (v : Nat), g (x.setFld f v) = g x := fun _ _ _ => hreg ..
  unfold Dev.gateShown Dev.gateCarrier
  dsimp only
  split <;> simp only [Dev.setBit, Dev.setSFld, hfld]

/-- A gate changes nothing of its channel but the latest crossing. -/
theorem Dev.gateNoted_chan : (d.gateNoted c n before onEnd nv).chan c
    = { d.chan c with cross := if onEnd then some 0 else if noCarrier n then d.gateAge c else some before } :=
  (Dev.gateShown_kept (fun x => x.chan c) (fun _ _ _ _ => rfl) ..).trans (d.gateKept_chan c n before onEnd)

/-- What is no register and no channel's state stands at the end of a gate, but for the free values taken. -/
theorem Dev.gateNoted_kept {α : Type} (g : Dev → α) (hreg : ∀ (x : Dev) (b : Blk) (off : Nat) (v : Word), g (x.setReg b off v) = g x)
    (hchan : ∀ (x : Dev) (c : Nat) (f : ChanSt → ChanSt), g (x.modChan c f) = g x) (hfree : ∀ (x : Dev) (n : Nat), g { x with freeCtr := n } = g x)
    (d : Dev) (c n before : Nat) (onEnd : Bool) (nv : Int) : g (d.gateNoted c n before onEnd nv) = g d := by
  refine (Dev.gateShown_kept g hreg ..).trans ((hchan _ _ _).trans ?_)
  split
  · exact hfree _ _
  · rfl

theorem Dev.gateNoted_touches : Touches (gateFlds c) d (d.gateNoted c n before onEnd nv) := by
  have hkept : Touches (gateFlds c) d (d.gateKept c n before onEnd) :=
    (((Touches.refl _ d).upd rfl rfl rfl rfl rfl rfl rfl : Touches (gateFlds c) d { d with freeCtr := d.freeCtr + 1 }).ite
      (Touches.refl _ d)).modChan c _
  exact hkept.gateShown c _ _ nv subset_rfl

/-- What a gate and its record show: periods, units, whether the carrier is lost, and the latest crossing. -/
theorem Dev.wordDone_reads (ovr : Bool) (r : ChanRec) :
    let e := (d.gateNoted c n before onEnd nv).recDone c true ovr r
    e.fld (F.HAZ_CH_FRAW.N c) = (d.gatePair c n before).1 % 2 ^ 8 ∧ e.fld (F.HAZ_CH_FRAW.T c) = (d.gatePair c n before).2 % 2 ^ 24
      ∧ e.on (F.HAZ_CH_STAT.CARRIER_LOST c) = noCarrier n ∧ (noCarrier n = true → e.on (F.HAZ_CH_FLAG.CARRIER_LOST c) = true)
      ∧ (e.chan c).cross = if onEnd then some 0 else if noCarrier n then d.gateAge c else some before := by
  intro e
  have hrec : Touches (shownFlds c ∪ countFlds c) (d.gateNoted c n before onEnd nv) e := (Touches.refl _ _).recDone c subset_rfl _ _ _
  obtain ⟨hN, hT⟩ := (d.gateKept c n before onEnd).gateShown_raw c (d.gatePair c n before) (noCarrier n) nv
  refine ⟨(hrec.fld _ (recordFlds_apart (.inl rfl))).trans hN, (hrec.fld _ (recordFlds_apart (.inr (.inl rfl)))).trans hT,
    (hrec.on (recordFlds_apart (.inr (.inr (.inl rfl))))).trans (Dev.gateCarrier_status ..), fun hl => ?_, ?_⟩
  · refine (hrec.on (recordFlds_apart (.inr (.inr (.inr rfl))))).trans ?_
    unfold Dev.gateNoted
    rw [hl]
    exact Dev.gateCarrier_flag ..
  · rw [Dev.recDone_chan]
    simp only [Dev.recKept, Dev.chan_modChan, Dev.gateNoted_chan]

/-- The tag BLANKED does not depend on what a gate shows. -/
theorem Dev.gateNoted_blanked (hc : c < 64) : (d.gateNoted c n before onEnd nv).recBlanked c true = d.recBlanked c true := by
  have htouch := d.gateNoted_touches c n before onEnd nv
  have hfld {g : Fld} (hg : g.blk = .haz ∧ g.off < 0x1000 ∨ g = F.HAZ_CH_STAT.MODE_NOW c) : (d.gateNoted c n before onEnd nv).fld g = d.fld g := by
    refine htouch.fld g ?_
    rcases hg with ⟨-, hoff⟩ | rfl
    · rintro f (rfl | rfl | rfl | rfl | rfl) <;> refine Fld.apart_of_off ?_
      · show 0x1034 + 0x40 * c ≠ g.off; omega
      · show 0x1034 + 0x40 * c ≠ g.off; omega
      · show 0x100c + 0x40 * c ≠ g.off; omega
      · show 0x1010 + 0x40 * c ≠ g.off; omega
      · show 0x1014 + 0x40 * c ≠ g.off; omega
    · simp [gateFlds, Fld.apart_iff, F.HAZ_CH_FRAW.N, F.HAZ_CH_FRAW.T, F.HAZ_CH_MEAN.CODE, F.HAZ_CH_STAT.CARRIER_LOST,
        F.HAZ_CH_FLAG.CARRIER_LOST, F.HAZ_CH_STAT.MODE_NOW]
  have hpass (k : Nat) : (d.gateNoted c n before onEnd nv).selftestPass c k = d.selftestPass c k := by
    have hperiod := hfld (g := F.HAZ_BANK_CFG.PERIOD_MS (c / 8)) (.inl ⟨rfl, show 0x0 + 0x20 * (c / 8) < 0x1000 by omega⟩)
    have hon := hfld (g := F.HAZ_BANK_CFG.SELFTEST_EN (c / 8)) (.inl ⟨rfl, show 0x0 + 0x20 * (c / 8) < 0x1000 by omega⟩)
    have hmode := hfld (g := F.HAZ_CH_STAT.MODE_NOW c) (.inr rfl)
    unfold Dev.selftestPass Dev.on Dev.modeNow
    rw [hperiod, hon, hmode]
  have hbanks : (d.gateNoted c n before onEnd nv).banks = d.banks :=
    Dev.gateNoted_kept Dev.banks (fun _ _ _ _ => rfl) (fun _ _ _ => rfl) (fun _ _ => rfl) ..
  simp only [Dev.recBlanked, Dev.selftestTags, hpass, htouch.now, Dev.gateNoted_chan, Dev.bankOverlaps, Dev.bank, hbanks]

end

end Sys2Proof.Machine
end

section
set_option Elab.async false
/-! ### Records that nobody follows -/

namespace Sys2Proof.Machine

theorem tabGet_of_forall {α : Type} {z : α} {t : Tab α} {P : α → Prop} (hz : P z) (h : ∀ e ∈ t, P e.2) (n : Nat) : P (tabGet z t n) := by
  induction t with
  | nil => exact hz
  | cons e t ih =>
    obtain ⟨k, v⟩ := e
    simp only [tabGet]
    split
    · exact h (k, v) List.mem_cons_self
    · exact ih (fun e he => h e (List.mem_cons_of_mem _ he))

theorem forL_fixed {α : Type} {l : List α} {f : α → Dev → Dev} {d : Dev} (h : ∀ x ∈ l, f x d = d) : forL l f d = d :=
  List.foldlRecOn l (motive := fun e => e = d) _ rfl (fun _ he x hx => by rw [he]; exact h x hx)

/-- No record waits for a head while none waits at all. -/
theorem Dev.early_none {d : Dev} (h : d.headsWait = []) (n : Nat) : (d.head n).early = none := by
  refine tabGet_of_forall (P := fun s : HeadSt => s.early = none) rfl (fun e he => ?_) n
  have hnot : ¬ (e.2.early.isSome || e.2.winOver) = true := fun hw => by
    have hmem : e.1 ∈ d.headsWait := List.mem_map_of_mem (List.mem_filter.2 ⟨he, hw⟩)
    simp [h] at hmem
  simp only [Bool.or_eq_true, not_or, Option.not_isSome_iff_eq_none] at hnot
  exact hnot.1

/-- A channel of no enabled local head's system is no channel of such a head. -/
theorem Dev.headChan_ne {d : Dev} {c : Nat} (h : d.sysOfChan c = none) {n : Nat} (hn : n ∈ d.headList.filter (fun h => !remote h)) (x : Nat) :
    d.headChan n x ≠ c := by
  have hnone := List.findSome?_eq_none_iff.1 h n hn
  intro hc
  by_cases h0 : d.headChan n 0 = c
  · simp [h0] at hnone
  · have h1 : d.headChan n 1 = c := by
      by_cases hx : x = 0
      · exact absurd (hx ▸ hc) h0
      · simpa [Dev.headChan, hx] using hc
    simp [h0, h1] at hnone

/-- A record of a channel that no head uses reaches none, where no other record waits. -/
theorem Dev.headSamples_unused {d : Dev} {r : ChanRec} (hsys : d.sysOfChan r.chan = none) (hwait : d.headsWait = []) : d.headSamples [r] = d := by
  refine forL_fixed (fun n hn => ?_)
  have h0 := Dev.headChan_ne hsys hn 0
  have h1 := Dev.headChan_ne hsys hn 1
  simp [Dev.early_none hwait, Ne.symm h0, Ne.symm h1]

/-- No twin and no head follows the records of a channel. -/
def Dev.unfollowed (d : Dev) (c : Nat) : Prop := d.twinOn = false ∧ (d.evaluating = false ∨ (d.sysOfChan c = none ∧ d.headsWait = []))

theorem Dev.recordsReach_unfollowed {d : Dev} {r : ChanRec} (h : d.unfollowed r.chan) : d.recordsReach [r] = d := by
  obtain ⟨htwin, hheads⟩ := h
  have hwatch : d.twinWatch r = d := if_neg (by simp [htwin])
  rcases hheads with hev | ⟨hsys, hwait⟩
  · simp [Dev.recordsReach, forL, hwatch, hev]
  · simp [Dev.recordsReach, forL, hwatch, Dev.headSamples_unused hsys hwait]

theorem Dev.digestOwn_off {d : Dev} (h : d.twinOn = false) : d.digestOwn = d := if_pos (.inl (by simp [h]))

/-- Whether a channel is followed does not depend on the registers of the front end. -/
theorem Dev.unfollowed_congr {a e : Dev} {c : Nat} (hfld : ∀ g : Fld, g.blk ≠ .haz → e.fld g = a.fld g) (hheads : e.heads = a.heads)
    (hboot : e.boot = a.boot) (h : a.unfollowed c) : e.unfollowed c := by
  have hon (g : Fld) (hg : g.blk ≠ .haz) : e.on g = a.on g := by simp only [Dev.on, hfld g hg]
  have hlist : e.headList = a.headList := by
    unfold Dev.headList
    exact congrArg (List.filter · _) (funext fun n => hon (F.HED_CFG.ENABLE n) nofun)
  have hchan (n x : Nat) : e.headChan n x = a.headChan n x := by
    simp only [Dev.headChan, hfld (F.HED_CFG.CH_A n) nofun, hfld (F.HED_CFG.CH_B n) nofun]
  have hev : e.evaluating = a.evaluating := by
    simp only [Dev.evaluating, hboot, hfld F.FLT_STATE.DEV_STATE (by decide), hfld F.PWR_STATE.STATE (by decide)]
  have hsys : e.sysOfChan c = a.sysOfChan c := by simp only [Dev.sysOfChan, hlist, hchan]
  have hwait : e.headsWait = a.headsWait := by simp only [Dev.headsWait, hheads]
  simpa only [Dev.unfollowed, Dev.twinOn, hon F.TWN_CFG.ENABLE (by decide), hev, hsys, hwait] using h

end Sys2Proof.Machine
end

section
set_option Elab.async false
/-! ### Records of the front end, and O45 -/

namespace Sys2Proof.Machine

/-! ### A channel's sample -/

section
variable {d : Dev} {c : Nat} (nv : Int) (limit : Bool)

/-- What the record of an aperture carries, by whether anything blanks it. -/
theorem Dev.sampleRec_carries :
    (d.bankOverlaps (c / 8) (apertureStart 10 d.now) d.now = false → (d.chan c).settle = 0 → d.selftestTags c false d.now = false →
      d.now ≠ 0 → (d.chan c).moved ≠ some (apertureStart 10 d.now) →
      (d.sampleRec c nv limit).blanked = false ∧ (d.sampleRec c nv limit).code = (sampleCode nv).1
        ∧ (d.sampleRec c nv limit).ovr = ((sampleCode nv).2 || ((d.chan c).ovr && Decidable.decide ((d.chan c).run + 1 < 12))))
    ∧ ((d.bankOverlaps (c / 8) (apertureStart 10 d.now) d.now = true ∨ 0 < (d.chan c).settle ∨ d.now = 0
        ∨ d.selftestTags c false d.now = true ∨ (d.chan c).moved = some (apertureStart 10 d.now)) →
      (d.sampleRec c nv limit).blanked = true ∧ (d.sampleRec c nv limit).code = (d.chan c).code ∧ (d.sampleRec c nv limit).ovr = (d.chan c).codeOvr) := by
  refine ⟨fun hbank hsettle htest hnow hmoved => ?_, fun h => Dev.recOf_blanked _ _ _ ((d.recBlanked_iff c false rfl).2 h)⟩
  exact Dev.recOf_clear _ _ _ (Dev.recBlanked_clear rfl hbank hsettle htest hnow hmoved)

end

/-- The end of an aperture for one channel: its record, its register and its counters. -/
theorem chanSample_row {d d' : Dev} {c : Nat} {nv : Int} {limit : Bool} {rs : List ChanRec} (he : d.chanSample c nv limit = (d', rs)) :
    (d.modeNow c ≠ 1 → d.modeNow c ≠ 3 → d' = d ∧ rs = [])
    ∧ ((d.modeNow c = 1 ∨ d.modeNow c = 3) → rs = [d.sampleRec c nv limit]
      ∧ d' = d.recDone c false (sampleCode nv).2 (d.sampleRec c nv limit)) := by
  refine ⟨fun h1 h3 => ?_, fun h => ?_⟩
  · rw [Dev.chanSample_idle h1 h3, Prod.mk.injEq] at he
    exact ⟨he.1.symm, he.2.symm⟩
  · rw [Dev.chanSample_gives h, Prod.mk.injEq] at he
    exact ⟨he.2.symm, he.1.symm⟩

/-- A record leaves a channel unfollowed that nobody follows. -/
theorem Dev.recDone_unfollowed {a d : Dev} {c : Nat} {W : Set Fld} (h : a.unfollowed c) (htouch : Touches W a d) (hW : ∀ f ∈ W, f.blk = .haz)
    (hheads : d.heads = a.heads) (hboot : d.boot = a.boot) : d.unfollowed c :=
  Dev.unfollowed_congr (fun g hg => htouch.fld g (fun f hf => Fld.apart_of_blk (by rw [hW f hf]; exact hg.symm))) hheads hboot h

theorem recordFlds_haz (c : Nat) : ∀ f ∈ shownFlds c ∪ countFlds c, f.blk = .haz := by
  rintro f ((hf | (rfl | rfl)) | (rfl | rfl | rfl | rfl | rfl | rfl | rfl))
  · exact congrArg Prod.fst hf
  all_goals rfl

theorem gateFlds_haz (c : Nat) : ∀ f ∈ gateFlds c ∪ (shownFlds c ∪ countFlds c), f.blk = .haz := by
  rintro f ((rfl | rfl | rfl | rfl | rfl) | hf)
  · rfl
  · rfl
  · rfl
  · rfl
  · rfl
  · exact recordFlds_haz c f hf

/-! ### The rows -/

theorem Dev.sampleRecords_off {d : Dev} (h : d.now.toNat % 10 ≠ 0) (l : List (Nat × Int × Bool)) : d.sampleRecords l = d := if_pos h

theorem Dev.frequencyWords_off {d : Dev} (h : d.now.toNat % 50 ≠ 0) (l : List (Nat × Nat × Nat × Bool × Int × Bool)) : d.frequencyWords l = d :=
  if_pos h

section
variable {s : State} {t : Stamp} {a : Dev} (h : At s t 0 a)
include h

theorem sampleRecord_row {d : Dev} {rs : List ChanRec} {records : List (Fin 64 × Int × Bool)} (hnow : a.now.toNat % 10 = 0)
    (hf : records.foldl (fun x e => ((x.1.chanSample e.1.val e.2.1 e.2.2).1, x.2 ++ (x.1.chanSample e.1.val e.2.1 e.2.2).2)) (a, []) = (d, rs)) :
    Does (exec (.sampleRecord t records) s) { s with dev := d.digestOwn.recordsReach rs } := by
  refine does_runDev h ((if_neg (by simp [hnow])).trans ?_)
  dsimp only
  rw [List.foldl_map]
  simp only [hf]

theorem frequencyWord_row {d : Dev} {rs : List ChanRec} {words : List (Fin 64 × BitVec 16 × BitVec 16 × Bool × Int × Bool)}
    (hnow : a.now.toNat % 50 = 0)
    (hf : words.foldl (fun x e => ((x.1.chanWord e.1.val e.2.1.toNat e.2.2.1.toNat e.2.2.2.1 e.2.2.2.2.1 e.2.2.2.2.2).1,
      x.2 ++ (x.1.chanWord e.1.val e.2.1.toNat e.2.2.1.toNat e.2.2.2.1 e.2.2.2.2.1 e.2.2.2.2.2).2)) (a, []) = (d, rs)) :
    Does (exec (.frequencyWord t words) s) { s with dev := d.recordsReach rs } := by
  refine does_runDev h ((if_neg (by simp [hnow])).trans ?_)
  dsimp only
  rw [List.foldl_map]
  simp only [hf]

/-- One channel's record that nobody follows writes the channel's registers alone. -/
theorem sampleRecord_alone {c : Fin 64} {nv : Int} {limit : Bool} (halone : a.unfollowed c.val) (hnow : a.now.toNat % 10 = 0)
    (hmode : a.modeNow c.val = 1 ∨ a.modeNow c.val = 3) : ∃ (e : Dev) (r : ChanRec), a.chanSample c.val nv limit = (e, [r])
      ∧ r.limit = limit ∧ e.reg .haz (F.HAZ_CH_SAMPLE.RECORD c.val).off
          = recordWord (if (a.chan c.val).moved = some a.now then 4 - a.modeNow c.val else a.modeNow c.val) (a.now.toNat / 10) r
      ∧ e.on (F.HAZ_CH_STAT.LIMIT c.val) = limit
      ∧ Turns (exec (.sampleRecord t [(c, nv, limit)]) s) s (recordRegs c.val) a e := by
  have hsample := Dev.chanSample_gives hmode nv limit
  obtain ⟨r, hr⟩ : ∃ r, r = a.sampleRec c.val nv limit := ⟨_, rfl⟩
  obtain ⟨e, he⟩ : ∃ e, e = a.recDone c.val false (sampleCode nv).2 r := ⟨_, rfl⟩
  have htouch : Touches (shownFlds c.val ∪ countFlds c.val) a e := he ▸ (Touches.refl _ a).recDone c.val subset_rfl _ _ _
  have hun : e.unfollowed r.chan := by
    rw [show r.chan = c.val by rw [hr]; rfl]
    exact Dev.recDone_unfollowed halone htouch (recordFlds_haz _) (he ▸ Dev.recDone_heads ..) (he ▸ Dev.recDone_boot ..)
  rw [← hr, ← he] at hsample
  refine ⟨e, r, hsample, hr ▸ rfl, ?_, ?_, ?_, htouch.sameRegs (recordFlds_place _)⟩
  · rw [he, Dev.recDone_reg, hr]
    rfl
  · rw [he, Dev.recDone_limit, hr]
    rfl
  · have hdoes := sampleRecord_row (d := e) (rs := [r]) (records := [(c, nv, limit)]) h hnow (by simp [hsample])
    rwa [Dev.digestOwn_off hun.1, Dev.recordsReach_unfollowed hun] at hdoes

/-- One channel's gate that nobody follows writes the channel's registers alone. -/
theorem frequencyWord_alone {c : Fin 64} {n before : BitVec 16} {onEnd : Bool} {nv : Int} {limit : Bool} {x : Nat} (halone : a.unfollowed c.val)
    (hnow : a.now.toNat % 50 = 0) (hmode : a.modeNow c.val = 2) (hx : (a.chan c.val).cross = some x) (hn : n ≠ 0) : ∃ e : Dev,
      Turns (exec (.frequencyWord t [(c, n, before, onEnd, nv, limit)]) s) s (gateRegs c.val) a e
        ∧ e.fld (F.HAZ_CH_FRAW.N c.val) = n.toNat % 2 ^ 8
        ∧ e.fld (F.HAZ_CH_FRAW.T c.val) = (x + (if a.now = 0 then 3840 else 32000) - before.toNat) % 2 ^ 24
        ∧ e.on (F.HAZ_CH_STAT.CARRIER_LOST c.val) = false
        ∧ (e.chan c.val).cross = some (if onEnd then 0 else before.toNat) := by
  have hword := Dev.chanWord_gives hmode n.toNat before.toNat onEnd nv limit
  have hn' : n.toNat ≠ 0 := fun h0 => hn (BitVec.eq_of_toNat_eq h0)
  have hlost : noCarrier n.toNat = false := by simp [noCarrier, hn']
  obtain ⟨r, hr⟩ : ∃ r, r = a.wordRec c.val n.toNat before.toNat onEnd nv limit := ⟨_, rfl⟩
  obtain ⟨e, he⟩ : ∃ e, e = (a.gateNoted c.val n.toNat before.toNat onEnd nv).recDone c.val true (a.gateCode c.val n.toNat before.toNat).2 r := ⟨_, rfl⟩
  rw [← hr, ← he] at hword
  obtain ⟨hN, hT, hC, -, hK⟩ := Dev.wordDone_reads a c.val n.toNat before.toNat onEnd nv (a.gateCode c.val n.toNat before.toNat).2 r
  have htouch : Touches (gateFlds c.val ∪ (shownFlds c.val ∪ countFlds c.val)) a e := he ▸
    ((a.gateNoted_touches c.val n.toNat before.toNat onEnd nv).mono Set.subset_union_left).recDone c.val Set.subset_union_right _ _ _
  have hun : e.unfollowed r.chan := by
    rw [show r.chan = c.val by rw [hr]; rfl]
    refine Dev.recDone_unfollowed halone htouch (gateFlds_haz _) (he ▸ (Dev.recDone_heads ..).trans ?_) (he ▸ (Dev.recDone_boot ..).trans ?_)
    · exact Dev.gateNoted_kept Dev.heads (fun _ _ _ _ => rfl) (fun _ _ _ => rfl) (fun _ _ => rfl) ..
    · exact Dev.gateNoted_kept Dev.boot (fun _ _ _ _ => rfl) (fun _ _ _ => rfl) (fun _ _ => rfl) ..
  refine ⟨e, ⟨?_, htouch.sameRegs (gateFlds_place _)⟩, ?_, ?_, ?_, ?_⟩
  · have hdoes := frequencyWord_row (d := e) (rs := [r]) (words := [(c, n, before, onEnd, nv, limit)]) h hnow (by simp [hword])
    rwa [Dev.recordsReach_unfollowed hun] at hdoes
  · rw [he, hN, Dev.gatePair_crossed hx hn']
  · rw [he, hT, Dev.gatePair_crossed hx hn']
  · rw [he, hC, hlost]
  · rw [he, hK, hlost]
    cases onEnd <;> rfl

end

/-- Settles O45: an aperture's and a gate's records are written out, and a record that no head and no twin follows changes its channel alone. -/
theorem frontEndRecords : Obligations.FrontEndRecords := by
  unfold Obligations.FrontEndRecords
  refine ⟨fun nv => sampleCode_in_range, fun nv => sampleCode_over_range, fun s t a d rs h => ⟨fun records => sampleRecord_row h, fun records hnow => ?_,
    fun words => frequencyWord_row h, fun words hnow => ?_, fun c nv limit htwin hheads => ⟨sampleRecord_alone h ⟨htwin, hheads⟩, ?_⟩⟩, ?_, ?_⟩
  · exact turns_runDev h (Dev.sampleRecords_off hnow _) (sameRegsBut.refl _ _)
  · exact turns_runDev h (Dev.frequencyWords_off hnow _) (sameRegsBut.refl _ _)
  · exact fun hnow hmode n before onEnd x hx hn _ => frequencyWord_alone h ⟨htwin, hheads⟩ hnow hmode hx hn
  · intro d d' c nv limit rs _ he
    obtain ⟨hidle, hgives⟩ := chanSample_row he
    refine ⟨hidle, fun hmode => ?_⟩
    obtain ⟨rfl, rfl⟩ := hgives hmode
    exact ⟨_, rfl, rfl, rfl, Dev.recDone_reg .., Dev.recDone_count .., (Dev.sampleRec_carries nv limit).1, (Dev.sampleRec_carries nv limit).2⟩
  · intro d d' c n before onEnd nv limit rs hc hmode he
    rw [Dev.chanWord_gives hmode, Prod.mk.injEq] at he
    obtain ⟨rfl, rfl⟩ := he
    obtain ⟨hN, hT, hC, hF, -⟩ := Dev.wordDone_reads d c n before onEnd nv (d.gateCode c n before).2 (d.wordRec c n before onEnd nv limit)
    refine ⟨fun hn => ?_, fun x p hn hx hp hpos hbank hsettle htest hnow hmoved => ⟨_, rfl, ?_⟩⟩
    · subst hn
      rw [Dev.gatePair_lost] at hN hT
      exact ⟨hC, hF rfl, hN, hT⟩
    · have hpair : d.gatePair c n before = (n, p) := hp ▸ Dev.gatePair_crossed hx hn before
      have hclear := (d.gateNoted_blanked c n before onEnd nv hc).trans (Dev.recBlanked_clear rfl hbank hsettle htest hnow hmoved)
      obtain ⟨hblanked, hcode, -⟩ := Dev.recOf_clear (d.gateCode c n before) (sampleCode nv).1 limit hclear
      exact ⟨hblanked, hcode.trans (congrArg Prod.fst (Dev.gateCode_crossed hpair hn hpos))⟩

end Sys2Proof.Machine
end

section
-- One proof at a time: checked side by side, the later proofs wait in threads of their own, past the memory limit.
set_option Elab.async false
/-! ### Blanks of a bank (R200 to R203) -/

namespace Sys2Proof.Machine

@[simp] theorem Dev.bank_modBank (d : Dev) (b : Nat) (f : BankSt → BankSt) : (d.modBank b f).bank b = f (d.bank b) :=
  tabGet_tabPut_same _ _ _ _

theorem Dev.bank_modBank_ne (d : Dev) {b k : Nat} (h : k ≠ b) (f : BankSt → BankSt) : (d.modBank b f).bank k = d.bank k :=
  tabGet_tabPut_ne _ _ _ _ h

theorem Touches.modBank {W : Set Fld} {a d : Dev} (h : Touches W a d) (b : Nat) (f : BankSt → BankSt) : Touches W a (d.modBank b f) :=
  h.upd rfl rfl rfl rfl rfl rfl rfl

/-- The status of a bank shows its command blank. -/
def Dev.bankShown (d : Dev) (b : Nat) : Dev := d.setBit (F.HAZ_BANK_STAT.CMD_BLANK b) (d.bank b).cmdEnd.isSome

/-- A blank of the bank begins. -/
def Dev.bankBegun (d : Dev) (b : Nat) : Dev :=
  ((d.setFld (F.HAZ_BANK_STAT.BLANKED b) 1).inc (F.HAZ_BANK_CNT.BLANKS b)).modBank b (fun k => { k with since := some d.now })

/-- The blank that began at `x` ends. -/
def Dev.bankEnded (d : Dev) (b : Nat) (x : Stamp) : Dev :=
  ((d.setFld (F.HAZ_BANK_BLANK_MAX.MAX_US b) (max (d.fld (F.HAZ_BANK_BLANK_MAX.MAX_US b)) (min 16777215 (d.now.since x)))).setFld
    (F.HAZ_BANK_STAT.BLANKED b) 0).modBank b (fun k => { k with since := none, lastEnd := some d.nowUp })

/-- A held bank is quiet from now, from before, or not at all. -/
def BankSt.quieted (k : BankSt) (on : Bool) (now : Stamp) : BankSt := { k with quiet := if on then none else some (k.quiet.getD now) }

section
variable (d : Dev) (b : Nat)

theorem Dev.bankShown_fld {g : Fld} (hg : (F.HAZ_BANK_STAT.CMD_BLANK b).apart g = true) : (d.bankShown b).fld g = d.fld g :=
  Dev.fld_setFld_apart _ _ _ _ Fld.fits hg

/-- The sources of a bank do not depend on what its status shows. -/
theorem Dev.bankShown_source : (d.bankShown b).bankSource b = d.bankSource b := by
  have hfld (lo w : Nat) : (d.bankShown b).fld ⟨.haz, 0x4 + 0x20 * b, lo, w⟩ = d.fld ⟨.haz, 0x4 + 0x20 * b, lo, w⟩ :=
    d.bankShown_fld b (Fld.apart_of_off (show 0xc + 0x20 * b ≠ 0x4 + 0x20 * b by omega))
  unfold Dev.bankSource Dev.on F.HAZ_BANK_BLANK.PIN_MASK F.HAZ_BANK_BLANK.PIN_POL F.HAZ_BANK_BLANK.PG_EN
  rw [hfld, hfld, hfld]
  rfl

theorem Dev.bankShown_held : (d.bankShown b).on (F.HAZ_BANK_STAT.HELD b) = d.on (F.HAZ_BANK_STAT.HELD b) :=
  Dev.on_setBit_apart _ _ _ _ Fld.fits (Fld.apart_of_bits (.inr (by decide : 2 + 1 ≤ 3)))

variable {d b}

theorem Dev.bankRelease_some {x : Stamp} (hx : (d.bank b).since = some x) : d.bankRelease b = d.bankEnded b x := by
  unfold Dev.bankRelease
  rw [hx]
  rfl

/-- A held bank is not gated; it notes since when its sources are quiet. -/
theorem Dev.bankEval_held (h : d.on (F.HAZ_BANK_STAT.HELD b) = true) :
    d.bankEval b = (d.bankShown b).modBank b (fun k => k.quieted (d.bankSource b) d.now) := by
  have hquiet (k : BankSt) (on : Bool) : { k with quiet := if on then none else match k.quiet with | some t => some t | none => some d.now }
      = k.quieted on d.now := by
    rcases hq : k.quiet with _ | q <;> simp [BankSt.quieted, hq]
  refine (if_pos ((d.bankShown_held b).trans h)).trans ?_
  rw [← d.bankShown_source b]
  exact congrArg ((d.bankShown b).modBank b) (funext fun k => hquiet k _)

theorem Dev.bankEval_begins (hheld : d.on (F.HAZ_BANK_STAT.HELD b) = false) (hon : d.bankSource b = true) (hsince : (d.bank b).since = none) :
    d.bankEval b = (d.bankShown b).bankBegun b := by
  refine (if_neg (by rw [← Dev.bankShown_held] at hheld; exact Bool.eq_false_iff.1 hheld)).trans ((if_pos ((d.bankShown_source b).trans hon)).trans
    (if_neg ?_))
  show ¬ (d.bank b).since.isSome = true
  simp [hsince]

theorem Dev.bankEval_ends {x : Stamp} (hheld : d.on (F.HAZ_BANK_STAT.HELD b) = false) (hoff : d.bankSource b = false)
    (hsince : (d.bank b).since = some x) : d.bankEval b = (d.bankShown b).bankEnded b x := by
  refine (if_neg (by rw [← Dev.bankShown_held] at hheld; exact Bool.eq_false_iff.1 hheld)).trans ((if_neg ?_).trans (Dev.bankRelease_some hsince))
  exact Bool.eq_false_iff.1 ((d.bankShown_source b).trans hoff)

variable (d b)

/-! ### What a bank shows -/

theorem Dev.bankBegun_reads : (d.bankBegun b).on (F.HAZ_BANK_STAT.BLANKED b) = true ∧ ((d.bankBegun b).bank b).since = some d.now := by
  have hset : (d.setBit (F.HAZ_BANK_STAT.BLANKED b) true).on (F.HAZ_BANK_STAT.BLANKED b) = true := Dev.on_setBit_same _ _ _ Fld.fits rfl
  have hbegun : Touches {F.HAZ_BANK_CNT.BLANKS b} (d.setBit (F.HAZ_BANK_STAT.BLANKED b) true) (d.bankBegun b) :=
    ((Touches.refl _ (d.setBit (F.HAZ_BANK_STAT.BLANKED b) true)).inc (F.HAZ_BANK_CNT.BLANKS b) 1 (Set.mem_singleton _) Fld.fits).modBank b _
  refine ⟨(hbegun.on ?_).trans hset, ?_⟩
  · rintro f rfl
    exact Fld.apart_of_off (show 0x14 + 0x20 * b ≠ 0xc + 0x20 * b by omega)
  · unfold Dev.bankBegun
    rw [Dev.bank_modBank]

/-- The end of a blank shows, and the longest one is kept. -/
theorem Dev.bankEnded_reads (x : Stamp) : (d.bankEnded b x).on (F.HAZ_BANK_STAT.BLANKED b) = false ∧ ((d.bankEnded b x).bank b).since = none
    ∧ min 16777215 (d.now.since x) ≤ (d.bankEnded b x).fld (F.HAZ_BANK_BLANK_MAX.MAX_US b) := by
  obtain ⟨n, hn⟩ : ∃ n, n = max (d.fld (F.HAZ_BANK_BLANK_MAX.MAX_US b)) (min 16777215 (d.now.since x)) := ⟨_, rfl⟩
  have hold : d.fld (F.HAZ_BANK_BLANK_MAX.MAX_US b) < 2 ^ 24 := d.fld_lt _
  unfold Dev.bankEnded
  rw [← hn, Dev.bank_modBank]
  have hfld (y : Dev) (f : BankSt → BankSt) (g : Fld) : (y.modBank b f).fld g = y.fld g := rfl
  refine ⟨?_, rfl, ?_⟩
  · rw [Dev.on, hfld]
    exact Dev.on_setFld_zero _ _ Fld.fits
  · rw [hfld, Dev.fld_setFld_apart _ _ _ _ Fld.fits (Fld.apart_of_off (show 0xc + 0x20 * b ≠ 0x18 + 0x20 * b by omega)),
      Dev.fld_setFld_same _ _ _ Fld.fits, Nat.mod_eq_of_lt (show n < 2 ^ (F.HAZ_BANK_BLANK_MAX.MAX_US b).w from by show n < 2 ^ 24; omega)]
    omega

/-- A bank follows its sources: a blank begins with the first, and ends with the last. -/
theorem bankEval_follows (hheld : d.on (F.HAZ_BANK_STAT.HELD b) = false) :
    (d.bankSource b = true → (d.bank b).since = none → (d.bankEval b).on (F.HAZ_BANK_STAT.BLANKED b) = true
        ∧ ((d.bankEval b).bank b).since = some d.now)
      ∧ (d.bankSource b = false → ∀ x, (d.bank b).since = some x → (d.bankEval b).on (F.HAZ_BANK_STAT.BLANKED b) = false
        ∧ ((d.bankEval b).bank b).since = none ∧ min 16777215 (d.now.since x) ≤ (d.bankEval b).fld (F.HAZ_BANK_BLANK_MAX.MAX_US b)) := by
  refine ⟨fun hon hsince => ?_, fun hoff x hx => ?_⟩
  · rw [Dev.bankEval_begins hheld hon hsince]
    exact (d.bankShown b).bankBegun_reads b
  · rw [Dev.bankEval_ends hheld hoff hx]
    exact (d.bankShown b).bankEnded_reads b x

end

/-! ### What the evaluation of a bank leaves alone -/

/-- What the evaluation of a bank writes. -/
def bankFlds (b : Nat) : Set Fld :=
  {F.HAZ_BANK_STAT.CMD_BLANK b, F.HAZ_BANK_STAT.BLANKED b, F.HAZ_BANK_CNT.BLANKS b, F.HAZ_BANK_BLANK_MAX.MAX_US b}

theorem Touches.bankEval {W : Set Fld} {a d : Dev} (h : Touches W a d) (b : Nat) (hW : bankFlds b ⊆ W) : Touches W a (d.bankEval b) := by
  have hblanked : F.HAZ_BANK_STAT.BLANKED b ∈ W := hW (.inr (.inl rfl))
  have hshown : Touches W a (d.bankShown b) := h.setBit _ _ (hW (.inl rfl)) Fld.fits
  have hrelease : Touches W a ((d.bankShown b).bankRelease b) := by
    unfold Dev.bankRelease
    split
    · exact ((hshown.setFld (F.HAZ_BANK_BLANK_MAX.MAX_US b) _ (hW (.inr (.inr (.inr rfl)))) Fld.fits).setFld _ _ hblanked Fld.fits).modBank b _
    · exact hshown
  have hbegun : Touches W a ((d.bankShown b).bankBegun b) :=
    ((hshown.setFld _ 1 hblanked Fld.fits).inc (F.HAZ_BANK_CNT.BLANKS b) 1 (hW (.inr (.inr (.inl rfl)))) Fld.fits).modBank b _
  exact (hshown.modBank b _).ite ((hshown.ite hbegun).ite hrelease)

/-- What is no register and no bank's state the evaluation of a bank leaves alone. -/
theorem Dev.bankEval_kept {α : Type} (g : Dev → α) (b : Nat) (hreg : ∀ (x : Dev) (bl : Blk) (off : Nat) (v : Word), g (x.setReg bl off v) = g x)
    (hbank : ∀ (x : Dev) (f : BankSt → BankSt), g (x.modBank b f) = g x) (d : Dev) : g (d.bankEval b) = g d := by
  have hshown : g (d.bankShown b) = g d := hreg ..
  have hrelease (x : Dev) : g (x.bankRelease b) = g x := by
    unfold Dev.bankRelease
    split
    · exact (hbank _ _).trans ((hreg ..).trans (hreg ..))
    · rfl
  unfold Dev.bankEval
  dsimp only
  split
  · exact (hbank _ _).trans hshown
  · split
    · split
      · exact hshown
      · exact (hbank _ _).trans ((hreg ..).trans ((hreg ..).trans hshown))
    · exact (hrelease _).trans hshown

/-- From one device to the next the bank stands with its registers, the pins and sample time. -/
structure BankStands (b : Nat) (a d : Dev) : Prop where
  bank : d.bank b = a.bank b
  pins : d.pins = a.pins
  now : d.now = a.now
  fld : ∀ g : Fld, g.blk = .haz → g.off / 0x20 = b → d.fld g = a.fld g

theorem BankStands.trans {b : Nat} {a d e : Dev} (h : BankStands b a d) (h' : BankStands b d e) : BankStands b a e :=
  ⟨h'.bank.trans h.bank, h'.pins.trans h.pins, h'.now.trans h.now, fun g hb ho => (h'.fld g hb ho).trans (h.fld g hb ho)⟩

/-- The evaluation of another bank lets a bank stand. -/
theorem bankEval_stands {b k : Nat} (h : k ≠ b) (d : Dev) : BankStands b d (d.bankEval k) := by
  refine ⟨Dev.bankEval_kept (fun x => x.bank b) k (fun _ _ _ _ => rfl) (fun x f => x.bank_modBank_ne h.symm f) d,
    Dev.bankEval_kept Dev.pins k (fun _ _ _ _ => rfl) (fun _ _ => rfl) d, Dev.bankEval_now .., fun g hb ho => ?_⟩
  refine ((Touches.refl _ d).bankEval k subset_rfl).fld g ?_
  rintro f (rfl | rfl | rfl | rfl) <;> refine Fld.apart_of_off ?_
  · show 0xc + 0x20 * k ≠ g.off; omega
  · show 0xc + 0x20 * k ≠ g.off; omega
  · show 0x14 + 0x20 * k ≠ g.off; omega
  · show 0x18 + 0x20 * k ≠ g.off; omega

theorem forL_bankEval_stands {b : Nat} {l : List Nat} (h : b ∉ l) (d : Dev) : BankStands b d (forL l (fun b d => d.bankEval b) d) :=
  List.foldlRecOn l (motive := BankStands b d) _ ⟨rfl, rfl, rfl, fun _ _ _ => rfl⟩
    (fun e he k hk => he.trans (bankEval_stands (fun hkb : k = b => h (hkb ▸ hk)) e))

/-- Evaluated in a row, each bank is evaluated once, where the banks before it have let it stand. -/
theorem Dev.bankEvalAll_at (d : Dev) {b : Nat} (hb : b < 8) : ∃ e, BankStands b d e ∧ BankStands b (e.bankEval b) d.bankEvalAll := by
  obtain ⟨l, r, hl⟩ := List.append_of_mem (List.mem_range.2 hb)
  have hnd : (l ++ b :: r).Nodup := hl ▸ List.nodup_range
  have hmid := (List.nodup_middle.1 hnd).notMem
  rw [List.mem_append, not_or] at hmid
  refine ⟨_, forL_bankEval_stands hmid.1 d, ?_⟩
  have hall : d.bankEvalAll = forL r (fun b d => d.bankEval b) ((forL l (fun b d => d.bankEval b) d).bankEval b) := by
    unfold Dev.bankEvalAll forN forL
    rw [hl, List.foldl_append, List.foldl_cons]
  rw [hall]
  exact forL_bankEval_stands hmid.2 _

/-! ### The pins that blank -/

/-- A pin that a bank's mask names is a source at the level of its polarity (Table HAZ-5). -/
theorem Dev.bankSource_pin {d : Dev} {b p : Nat} (hp : p < 4) (hmask : (d.fld (F.HAZ_BANK_BLANK.PIN_MASK b)).testBit p = true)
    (hpol : d.pins.testBit p = (d.fld (F.HAZ_BANK_BLANK.PIN_POL b)).testBit p) : d.bankSource b = true := by
  have hany : (List.range 4).any (fun p => (d.fld (F.HAZ_BANK_BLANK.PIN_MASK b)).testBit p
      && d.pins.testBit p = (d.fld (F.HAZ_BANK_BLANK.PIN_POL b)).testBit p) = true :=
    List.any_eq_true.2 ⟨p, List.mem_range.2 hp, by simp [hmask, hpol]⟩
  unfold Dev.bankSource
  dsimp only
  rw [hany]
  rfl

/-- A pin that passes its filter at the level that a bank's polarity names blanks the bank (R200). -/
theorem Dev.bankEvalAll_pin {d : Dev} {b p : Nat} (hb : b < 8) (hp : p < 4) (hmask : (d.fld (F.HAZ_BANK_BLANK.PIN_MASK b)).testBit p = true)
    (hpol : d.pins.testBit p = (d.fld (F.HAZ_BANK_BLANK.PIN_POL b)).testBit p) (hheld : d.on (F.HAZ_BANK_STAT.HELD b) = false)
    (hsince : (d.bank b).since = none) : d.bankEvalAll.pins = d.pins ∧ d.bankEvalAll.on (F.HAZ_BANK_STAT.BLANKED b) = true
      ∧ (d.bankEvalAll.bank b).since = some d.now := by
  obtain ⟨e, hbefore, hafter⟩ := d.bankEvalAll_at hb
  have hreg (lo w : Nat) : e.fld ⟨.haz, 0x4 + 0x20 * b, lo, w⟩ = d.fld ⟨.haz, 0x4 + 0x20 * b, lo, w⟩ :=
    hbefore.fld _ rfl (show (0x4 + 0x20 * b) / 0x20 = b by omega)
  have hstat (x y : Dev) (h : BankStands b x y) (lo w : Nat) : y.fld ⟨.haz, 0xc + 0x20 * b, lo, w⟩ = x.fld ⟨.haz, 0xc + 0x20 * b, lo, w⟩ :=
    h.fld _ rfl (show (0xc + 0x20 * b) / 0x20 = b by omega)
  have hsource : e.bankSource b = true := by
    refine Dev.bankSource_pin hp ((congrArg (Nat.testBit · p) (hreg 0 4)).trans hmask) ?_
    rw [hbefore.pins, hpol]
    exact congrArg (Nat.testBit · p) (hreg 4 4).symm
  have hheld' : e.on (F.HAZ_BANK_STAT.HELD b) = false := (congrArg (Decidable.decide <| · = 1) (hstat d e hbefore 2 1)).trans hheld
  obtain ⟨hon, hat⟩ := (bankEval_follows e b hheld').1 hsource (by rw [hbefore.bank, hsince])
  refine ⟨?_, (congrArg (Decidable.decide <| · = 1) (hstat _ _ hafter 0 1)).trans hon, by rw [hafter.bank, hat, hbefore.now]⟩
  rw [hafter.pins, Dev.bankEval_kept Dev.pins b (fun _ _ _ _ => rfl) (fun _ _ => rfl), hbefore.pins]

end Sys2Proof.Machine
end

section
-- One proof at a time: checked side by side, the later proofs wait in threads of their own, past the memory limit.
set_option Elab.async false
/-! ### Commands that blank and hold banks (R200, R202, R203) -/

namespace Sys2Proof.Machine

/-- A bank that has been blanked too long is released and held, and flagged. -/
def Dev.bankHeld (d : Dev) (b : Nat) (x : Stamp) : Dev :=
  ((d.bankEnded b x).setFld (F.HAZ_BANK_STAT.HELD b) 1).setFld (F.HAZ_BANK_FLAG.OVERLONG b) 1

section
variable (d : Dev) (b : Nat) (x : Stamp)

theorem Dev.bankHeld_reads : (d.bankHeld b x).on (F.HAZ_BANK_STAT.HELD b) = true ∧ (d.bankHeld b x).on (F.HAZ_BANK_STAT.BLANKED b) = false
    ∧ (d.bankHeld b x).on (F.HAZ_BANK_FLAG.OVERLONG b) = true ∧ ((d.bankHeld b x).bank b).since = none := by
  obtain ⟨hblanked, hsince, -⟩ := d.bankEnded_reads b x
  obtain ⟨e, he⟩ : ∃ e, e = d.bankEnded b x := ⟨_, rfl⟩
  unfold Dev.bankHeld
  rw [← he] at hblanked hsince ⊢
  have hflag {lo w : Nat} (y : Dev) : (y.setFld (F.HAZ_BANK_FLAG.OVERLONG b) 1).fld ⟨.haz, 0xc + 0x20 * b, lo, w⟩
      = y.fld ⟨.haz, 0xc + 0x20 * b, lo, w⟩ :=
    Dev.fld_setFld_apart _ _ _ _ Fld.fits (Fld.apart_of_off (show 0x10 + 0x20 * b ≠ 0xc + 0x20 * b by omega))
  refine ⟨?_, ?_, Dev.on_setBit_same _ (F.HAZ_BANK_FLAG.OVERLONG b) true Fld.fits rfl, hsince⟩
  · exact (congrArg (Decidable.decide <| · = 1) (hflag _)).trans (Dev.on_setBit_same e (F.HAZ_BANK_STAT.HELD b) true Fld.fits rfl)
  · refine (congrArg (Decidable.decide <| · = 1) (hflag _)).trans ((Dev.on_setBit_apart e (F.HAZ_BANK_STAT.HELD b) (F.HAZ_BANK_STAT.BLANKED b) true
      Fld.fits (Fld.apart_of_bits (.inr (by decide : 0 + 1 ≤ 2)))).trans hblanked)

/-- The evaluation of a held bank shows its command blank and starts no other. -/
theorem Dev.bankEval_keepsHeld {d : Dev} {b : Nat} (h : d.on (F.HAZ_BANK_STAT.HELD b) = true) :
    Touches {F.HAZ_BANK_STAT.CMD_BLANK b} d (d.bankEval b) ∧ ((d.bankEval b).bank b).since = (d.bank b).since := by
  rw [Dev.bankEval_held h, Dev.bank_modBank]
  exact ⟨((Touches.refl _ d).setBit (F.HAZ_BANK_STAT.CMD_BLANK b) _ (Set.mem_singleton _) Fld.fits).modBank b _, rfl⟩

/-- A held bank shows as much when it is evaluated. -/
theorem Dev.bankHeld_eval : ((d.bankHeld b x).bankEval b).on (F.HAZ_BANK_STAT.HELD b) = true
    ∧ ((d.bankHeld b x).bankEval b).on (F.HAZ_BANK_STAT.BLANKED b) = false
    ∧ ((d.bankHeld b x).bankEval b).on (F.HAZ_BANK_FLAG.OVERLONG b) = true ∧ (((d.bankHeld b x).bankEval b).bank b).since = none := by
  obtain ⟨hheld, hblanked, hover, hsince⟩ := d.bankHeld_reads b x
  obtain ⟨htouch, hkept⟩ := Dev.bankEval_keepsHeld hheld
  refine ⟨(htouch.on ?_).trans hheld, (htouch.on ?_).trans hblanked, (htouch.on ?_).trans hover, hkept.trans hsince⟩
  · rintro f rfl
    exact Fld.apart_of_bits (.inr (by decide : 2 + 1 ≤ 3))
  · rintro f rfl
    exact Fld.apart_of_bits (.inr (by decide : 0 + 1 ≤ 3))
  · rintro f rfl
    exact Fld.apart_of_off (show 0xc + 0x20 * b ≠ 0x10 + 0x20 * b by omega)

theorem Dev.blankOverlong_holds {d : Dev} {b : Nat} {x : Stamp} (hx : (d.bank b).since = some x)
    (hlong : d.fld (F.HAZ_BANK_BLANK_T.LIMIT_US b) ≤ d.now.since x) :
    d.blankOverlong b = ((d.bankHeld b x).bankEval b).fault .blankOverlong (.bank b) := by
  unfold Dev.blankOverlong
  rw [Dev.bankRelease_some hx, hx]
  exact if_pos hlong

/-- What a bank's hold writes beside its fault. -/
def holdFlds (b : Nat) : Set Fld := {F.HAZ_BANK_STAT.CMD_BLANK b, F.HAZ_BANK_STAT.BLANKED b, F.HAZ_BANK_STAT.HELD b,
  F.HAZ_BANK_BLANK_MAX.MAX_US b, F.HAZ_BANK_FLAG.OVERLONG b}

theorem Dev.bankHeld_touches : Touches (holdFlds b) d (d.bankHeld b x) :=
  (((((Touches.refl _ d).setFld (F.HAZ_BANK_BLANK_MAX.MAX_US b) _ (by simp [holdFlds]) Fld.fits).setFld (F.HAZ_BANK_STAT.BLANKED b) 0
    (by simp [holdFlds]) Fld.fits).modBank b _).setFld (F.HAZ_BANK_STAT.HELD b) 1 (by simp [holdFlds]) Fld.fits).setFld
    (F.HAZ_BANK_FLAG.OVERLONG b) 1 (by simp [holdFlds]) Fld.fits

/-- The registers that a bank's hold writes beside those of its fault. -/
theorem Dev.blankOverlong_regs : sameRegsBut ([(F.HAZ_BANK_STAT.HELD b).place, (F.HAZ_BANK_BLANK_MAX.MAX_US b).place,
    (F.HAZ_BANK_FLAG.OVERLONG b).place] ++ faultRegs (evClass .blankOverlong)) d
    (((d.bankHeld b x).bankEval b).fault .blankOverlong (.bank b)) := by
  have heval := (Dev.bankEval_keepsHeld (d.bankHeld_reads b x).1).1
  refine sameRegsBut.fault (((d.bankHeld_touches b x).trans (heval.mono ?_)).sameRegs ?_) _ _ _ _ _ _ (List.subset_append_right _ _)
  · rintro f rfl
    exact Set.mem_insert _ _
  · rintro f (rfl | rfl | rfl | rfl | rfl) <;> simp [Fld.place, F.HAZ_BANK_STAT.CMD_BLANK, F.HAZ_BANK_STAT.BLANKED, F.HAZ_BANK_STAT.HELD]

end

section
variable {s : State} {t : Stamp} {ns : Fin 1000} {a : Dev} {b : Fin 8}

/-- The end of a command blank comes once its time has come. -/
theorem blankCommandEnd_row (h : At s t 0 a) :
    ((∀ e, (a.bank b.val).cmdEnd = some e → a.now.reached e = false) → Turns (exec (.blankCommandEnd t b) s) s [] a a)
    ∧ (∀ e, (a.bank b.val).cmdEnd = some e → a.now.reached e = true →
      Does (exec (.blankCommandEnd t b) s) { s with dev := (a.modBank b.val (fun k => { k with cmdEnd := none })).bankEval b.val }) := by
  refine ⟨fun hearly => turns_runDev h ?_ (sameRegsBut.refl _ _), fun e he hdue => does_runDev h ?_⟩
  · show a.blankCommandEnd b.val = a
    unfold Dev.blankCommandEnd
    split
    · next e he => exact if_neg (by simp [hearly e he])
    · rfl
  · show a.blankCommandEnd b.val = _
    unfold Dev.blankCommandEnd
    rw [he]
    exact if_pos hdue

/-- A blank that has lasted for its limit is released, and its bank is held. -/
theorem blankOverlong_row (h : At s t 0 a) :
    ((∀ x, (a.bank b.val).since = some x → a.now.since x < a.fld (F.HAZ_BANK_BLANK_T.LIMIT_US b.val)) →
      Turns (exec (.blankOverlong t b) s) s [] a a)
    ∧ (∀ x, (a.bank b.val).since = some x → a.fld (F.HAZ_BANK_BLANK_T.LIMIT_US b.val) ≤ a.now.since x → ∃ d,
      Turns (exec (.blankOverlong t b) s) s ([(F.HAZ_BANK_STAT.HELD b.val).place, (F.HAZ_BANK_BLANK_MAX.MAX_US b.val).place,
        (F.HAZ_BANK_FLAG.OVERLONG b.val).place] ++ faultRegs (evClass .blankOverlong)) a d
      ∧ d.on (F.HAZ_BANK_STAT.HELD b.val) = true ∧ d.on (F.HAZ_BANK_STAT.BLANKED b.val) = false
      ∧ d.on (F.HAZ_BANK_FLAG.OVERLONG b.val) = true ∧ (d.bank b.val).since = none ∧ d.has .blankOverlong (.bank b.val) = true) := by
  refine ⟨fun hshort => turns_runDev h ?_ (sameRegsBut.refl _ _), fun x hx hlong => ?_⟩
  · show a.blankOverlong b.val = a
    unfold Dev.blankOverlong
    split
    · next x hx => exact if_neg (Nat.not_le.2 (hshort x hx))
    · rfl
  · obtain ⟨hheld, hblanked, hover, hsince⟩ := a.bankHeld_eval b.val x
    have hon {g : Fld} (hg : g.blk = .haz) : (((a.bankHeld b.val x).bankEval b.val).fault .blankOverlong (.bank b.val)).on g
        = ((a.bankHeld b.val x).bankEval b.val).on g := by
      rw [Dev.on, Dev.fault_fld_outside _ _ _ _ _ _ _ (by simp [hg]) (by simp [hg])]
      rfl
    refine ⟨_, turns_runDev h (Dev.blankOverlong_holds hx hlong) (a.blankOverlong_regs b.val x), (hon rfl).trans hheld, (hon rfl).trans hblanked,
      (hon rfl).trans hover, ?_, Dev.fault_has ..⟩
    rw [Dev.bank, Dev.fault_banks]
    exact hsince

/-- The hold ends after 1 ms of quiet. -/
theorem bankHoldEnd_row (h : At s t 0 a) :
    ((a.on (F.HAZ_BANK_STAT.HELD b.val) = false ∨ heldFor a.now 1000 (a.bank b.val).quiet = false) →
      Turns (exec (.bankHoldEnd t b) s) s [] a a)
    ∧ (a.on (F.HAZ_BANK_STAT.HELD b.val) = true → heldFor a.now 1000 (a.bank b.val).quiet = true → ∀ c : Dev,
      c = (a.setFld (F.HAZ_BANK_STAT.HELD b.val) 0).modBank b.val (fun k => { k with quiet := none }) →
      Does (exec (.bankHoldEnd t b) s) { s with dev := (c.clear .blankOverlong (.bank b.val)).bankEval b.val }) := by
  refine ⟨fun hnot => turns_runDev h (if_neg ?_) (sameRegsBut.refl _ _), fun hheld hquiet c hc => does_runDev h ?_⟩
  · rcases hnot with hnot | hnot <;> simp [hnot]
  · subst hc
    exact if_pos (by simp [hheld, hquiet])

/-- A level that a blank pin has held for 50 ns reaches the banks (R200). -/
theorem blankPinEdge_row {p : Fin 4} {level : Bool} {held : BitVec 16} (h : At s t ns.val a) :
    (held.toNat < 50 → Turns (exec (.blankPinEdge t ns p ⟨level, held⟩) s) s [] a a)
    ∧ (50 ≤ held.toNat → Does (exec (.blankPinEdge t ns p ⟨level, held⟩) s) { s with dev := ({ a with pins := setMask a.pins p.val level }).bankEvalAll })
    ∧ (50 ≤ held.toNat → ∀ b : Fin 8, (a.fld (F.HAZ_BANK_BLANK.PIN_MASK b.val)).testBit p.val = true →
        (a.fld (F.HAZ_BANK_BLANK.PIN_POL b.val)).testBit p.val = level → a.on (F.HAZ_BANK_STAT.HELD b.val) = false → (a.bank b.val).since = none →
      ∃ d, Does (exec (.blankPinEdge t ns p ⟨level, held⟩) s) { s with dev := d } ∧ d.pins.testBit p.val = level
        ∧ d.on (F.HAZ_BANK_STAT.BLANKED b.val) = true ∧ (d.bank b.val).since = some a.now) := by
  have hpasses (hlong : 50 ≤ held.toNat) : Does (exec (.blankPinEdge t ns p ⟨level, held⟩) s)
      { s with dev := ({ a with pins := setMask a.pins p.val level }).bankEvalAll } := does_runDev h (if_neg (Nat.not_lt.2 hlong))
  refine ⟨fun hshort => turns_runDev h (if_pos hshort) (sameRegsBut.refl _ _), hpasses, fun hlong b hmask hpol hheld hsince => ?_⟩
  have hlevel : (setMask a.pins p.val level).testBit p.val = level := by simp [testBit_setMask]
  obtain ⟨hpins, hblanked, hat⟩ := Dev.bankEvalAll_pin (d := { a with pins := setMask a.pins p.val level }) b.isLt p.isLt hmask
    (hlevel.trans hpol.symm) hheld hsince
  exact ⟨_, hpasses hlong, by rw [hpins]; exact hlevel, hblanked, hat⟩

end

end Sys2Proof.Machine
end

section
set_option Elab.async false
/-! ### Switches, clamps and self-tests (R195, R206, R211) -/

namespace Sys2Proof.Machine

/-- The switch of a channel in current limit opens. -/
def Dev.switchTripped (d : Dev) (c : Nat) : Dev :=
  (((((d.setFld (F.HAZ_CH_STAT.SWITCH_ON c) 0).setFld (F.HAZ_CH_STAT.OPENED c) 1).setFld (F.HAZ_CH_STAT.LIMIT c) 0).inc
    (F.HAZ_CH_CNT.LIMIT_TRIPS c)).setFld (F.HAZ_CH_FLAG.LIMIT_TRIP c) 1).modChan c (fun k => { k with openedAt := some d.now })

/-- The system that the channel serves takes the fault of its supply. -/
def Dev.supplyShort (d : Dev) (c : Nat) : Dev := match d.sysOfChan c with
  | some (h, x) => d.sysFault h x .senSupplyShort
  | none => d

theorem sameRegsBut.modChan {l : List (Blk × Nat)} {a d : Dev} (h : sameRegsBut l a d) (c : Nat) (f : ChanSt → ChanSt) :
    sameRegsBut l a (d.modChan c f) := h.upd rfl rfl

section
variable {d : Dev} {c : Nat}

theorem Dev.limitTrip_on (h : d.on (F.HAZ_CH_STAT.SWITCH_ON c) = true) :
    d.limitTrip c = if (d.switchTripped c).evaluating then (d.switchTripped c).supplyShort c else d.switchTripped c := if_pos h

/-- No head is faulted while the engines do not evaluate, or where none uses the channel. -/
theorem Dev.limitTrip_unused (h : d.on (F.HAZ_CH_STAT.SWITCH_ON c) = true)
    (hsys : (d.switchTripped c).evaluating = false ∨ (d.switchTripped c).sysOfChan c = none) : d.limitTrip c = d.switchTripped c := by
  rw [Dev.limitTrip_on h]
  rcases hsys with hev | hnone
  · exact if_neg (by simp [hev])
  · unfold Dev.supplyShort
    rw [hnone]
    exact ite_self _

theorem Dev.limitTrip_faults (h : d.on (F.HAZ_CH_STAT.SWITCH_ON c) = true) {n x : Nat} (hev : (d.switchTripped c).evaluating = true)
    (hsys : (d.switchTripped c).sysOfChan c = some (n, x)) : d.limitTrip c = (d.switchTripped c).sysFault n x .senSupplyShort := by
  rw [Dev.limitTrip_on h, if_pos hev, Dev.supplyShort, hsys]

theorem Dev.switchTripped_regs (d : Dev) (c : Nat) : sameRegsBut [(F.HAZ_CH_STAT.SWITCH_ON c).place, (F.HAZ_CH_CNT.LIMIT_TRIPS c).place,
    (F.HAZ_CH_FLAG.LIMIT_TRIP c).place] d (d.switchTripped c) := by
  have hopened : (F.HAZ_CH_STAT.OPENED c).place = (F.HAZ_CH_STAT.SWITCH_ON c).place := rfl
  have hlimit : (F.HAZ_CH_STAT.LIMIT c).place = (F.HAZ_CH_STAT.SWITCH_ON c).place := rfl
  exact ((((((sameRegsBut.refl _ d).setFld (F.HAZ_CH_STAT.SWITCH_ON c) 0 (by simp)).setFld (F.HAZ_CH_STAT.OPENED c) 1 (by simp [hopened])).setFld
    (F.HAZ_CH_STAT.LIMIT c) 0 (by simp [hlimit])).inc (F.HAZ_CH_CNT.LIMIT_TRIPS c) 1 (by simp)).setFld (F.HAZ_CH_FLAG.LIMIT_TRIP c) 1
    (by simp)).modChan c _

theorem Dev.switchClose_regs (d : Dev) (c : Nat) : sameRegsBut [(F.HAZ_CH_STAT.SWITCH_ON c).place] d (d.switchClose c) := by
  have hopened : (F.HAZ_CH_STAT.OPENED c).place = (F.HAZ_CH_STAT.SWITCH_ON c).place := rfl
  exact (((sameRegsBut.refl _ d).setFld (F.HAZ_CH_STAT.SWITCH_ON c) 1 (by simp)).setFld (F.HAZ_CH_STAT.OPENED c) 0 (by simp [hopened])).modChan c _

/-- A switch that closes shows closed and not opened, and its first records settle. -/
theorem Dev.switchClose_reads (d : Dev) (c : Nat) : (d.switchClose c).on (F.HAZ_CH_STAT.SWITCH_ON c) = true
    ∧ (d.switchClose c).on (F.HAZ_CH_STAT.OPENED c) = false ∧ ((d.switchClose c).chan c).settle = (if d.modeNow c = 2 then 2 else 5)
    ∧ ((d.switchClose c).chan c).openedAt = none := by
  obtain ⟨e, he⟩ : ∃ e, e = (d.setFld (F.HAZ_CH_STAT.SWITCH_ON c) 1).setFld (F.HAZ_CH_STAT.OPENED c) 0 := ⟨_, rfl⟩
  have hmode : e.modeNow c = d.modeNow c := by
    rw [he, Dev.modeNow, Dev.fld_setFld_apart _ _ _ _ Fld.fits (Fld.apart_of_bits (.inr (by decide : 0 + 2 ≤ 4))),
      Dev.fld_setFld_apart _ _ _ _ Fld.fits (Fld.apart_of_bits (.inr (by decide : 0 + 2 ≤ 2)))]
    rfl
  have hclose : d.switchClose c = e.modChan c (fun k => { k with settle := if e.modeNow c = 2 then 2 else 5, openedAt := none }) := he ▸ rfl
  rw [hclose, Dev.chan_modChan, hmode, Dev.on, Dev.on, Dev.modChan_fld, Dev.modChan_fld]
  refine ⟨?_, ?_, rfl, rfl⟩
  · rw [he, Dev.fld_setFld_apart _ _ _ _ Fld.fits (Fld.apart_of_bits (.inr (by decide : 2 + 1 ≤ 4)))]
    exact Dev.on_setBit_same d (F.HAZ_CH_STAT.SWITCH_ON c) true Fld.fits rfl
  · rw [he]
    exact Dev.on_setFld_zero _ _ Fld.fits

end

section
variable {s : State} {t : Stamp} {a : Dev} {c : Fin 64} (h : At s t 0 a)
include h

theorem currentLimitTrip_row : (a.on (F.HAZ_CH_STAT.SWITCH_ON c.val) = false → Turns (exec (.currentLimitTrip t c) s) s [] a a)
    ∧ (a.on (F.HAZ_CH_STAT.SWITCH_ON c.val) = true → ∀ b : Dev, b = a.switchTripped c.val →
      (b.evaluating = false ∨ b.sysOfChan c.val = none → Turns (exec (.currentLimitTrip t c) s) s
        [(F.HAZ_CH_STAT.SWITCH_ON c.val).place, (F.HAZ_CH_CNT.LIMIT_TRIPS c.val).place, (F.HAZ_CH_FLAG.LIMIT_TRIP c.val).place] a b)
      ∧ (∀ n x, b.evaluating = true → b.sysOfChan c.val = some (n, x) →
        Does (exec (.currentLimitTrip t c) s) { s with dev := b.sysFault n x .senSupplyShort })) := by
  refine ⟨fun hoff => turns_runDev h (if_neg (by simp [hoff])) (sameRegsBut.refl _ _), ?_⟩
  rintro hon b rfl
  exact ⟨fun hsys => turns_runDev h (Dev.limitTrip_unused hon hsys) (a.switchTripped_regs c.val),
    fun n x hev hsys => does_runDev h (Dev.limitTrip_faults hon hev hsys)⟩

theorem switchReclose_row : ((a.on (F.HAZ_CH_STAT.OPENED c.val) = false ∨ heldFor a.now 1000000 (a.chan c.val).openedAt = false) →
      Turns (exec (.switchReclose t c) s) s [] a a)
    ∧ (a.on (F.HAZ_CH_STAT.OPENED c.val) = true → heldFor a.now 1000000 (a.chan c.val).openedAt = true → ∃ d,
      Turns (exec (.switchReclose t c) s) s [(F.HAZ_CH_STAT.SWITCH_ON c.val).place] a d ∧ d.on (F.HAZ_CH_STAT.SWITCH_ON c.val) = true
      ∧ d.on (F.HAZ_CH_STAT.OPENED c.val) = false
      ∧ (d.chan c.val).settle = (if a.modeNow c.val = 2 then 2 else 5) ∧ (d.chan c.val).openedAt = none) := by
  refine ⟨fun hnot => turns_runDev h (if_neg ?_) (sameRegsBut.refl _ _), fun hopened hdue =>
    ⟨a.switchClose c.val, turns_runDev h (if_pos (by simp [hopened, hdue])) (a.switchClose_regs c.val), a.switchClose_reads c.val⟩⟩
  rcases hnot with hnot | hnot <;> simp [hnot]

theorem bankClamp_row : ((a.chan c.val).beyond = true → Turns (exec (.bankClamp t c) s) s [] a a)
    ∧ ((a.chan c.val).beyond = false → ∀ b : Dev, b = a.modChan c.val (fun k => { k with
        beyond := true, clampFrom := if k.clampFrom.isSome && k.clampTo.later a.now then k.clampFrom else some a.now }) →
      (a.on (F.HAZ_BANK_STAT.CLAMP (c.val / 8)) = true → Turns (exec (.bankClamp t c) s) s [] a b)
      ∧ (a.on (F.HAZ_BANK_STAT.CLAMP (c.val / 8)) = false → Turns (exec (.bankClamp t c) s) s
        ([(F.HAZ_BANK_STAT.CLAMP (c.val / 8)).place, (F.HAZ_BANK_FLAG.CLAMP_SEEN (c.val / 8)).place, (F.HAZ_BANK_CNT.CLAMPS (c.val / 8)).place]
          ++ eventRegs 0) a
        ((((b.setFld (F.HAZ_BANK_STAT.CLAMP (c.val / 8)) 1).setFld (F.HAZ_BANK_FLAG.CLAMP_SEEN (c.val / 8)) 1).inc
          (F.HAZ_BANK_CNT.CLAMPS (c.val / 8))).note .bankClamp (.chan c.val)))) := by
  refine ⟨fun hbeyond => turns_runDev h (if_pos hbeyond) (sameRegsBut.refl _ _), fun hin b hb => ?_⟩
  have hnot : ¬ (a.chan c.val).beyond = true := by simp [hin]
  have hmod (l : List (Blk × Nat)) : sameRegsBut l a b := hb ▸ (sameRegsBut.refl l a).modChan _ _
  refine ⟨fun hacts => turns_runDev h ((if_neg hnot).trans ((if_pos hacts).trans hb.symm)) (hmod []), fun hacts => turns_runDev h
    ((if_neg hnot).trans ((if_neg (by simp [hacts])).trans (hb ▸ rfl))) ?_⟩
  exact ((((hmod _).setFld (F.HAZ_BANK_STAT.CLAMP (c.val / 8)) 1 (by simp)).setFld (F.HAZ_BANK_FLAG.CLAMP_SEEN (c.val / 8)) 1 (by simp)).inc
    (F.HAZ_BANK_CNT.CLAMPS (c.val / 8)) 1 (by simp)).note .bankClamp (.chan c.val) 0 [] (List.subset_append_right _ _)

theorem bankClampRelease_row : ((a.chan c.val).beyond = false → Turns (exec (.bankClampRelease t c) s) s [] a a)
    ∧ ((a.chan c.val).beyond = true → ∀ b : Dev, b = a.modChan c.val (fun k => { k with beyond := false, clampTo := a.now.plus 25 }) →
      Turns (exec (.bankClampRelease t c) s) s [(F.HAZ_BANK_STAT.CLAMP (c.val / 8)).place] a
        (b.setBit (F.HAZ_BANK_STAT.CLAMP (c.val / 8)) ((List.range 8).any (fun i => (b.chan (8 * (c.val / 8) + i)).beyond)))) := by
  refine ⟨fun hin => turns_runDev h (if_neg (by simp [hin])) (sameRegsBut.refl _ _), fun hbeyond b hb => ?_⟩
  subst hb
  exact turns_runDev h (if_pos hbeyond) (((sameRegsBut.refl _ a).modChan _ _).setBit _ _ (by simp))

/-! ### Self-tests -/

theorem hazSelftest_idle {code : BitVec 16} (hpass : a.selftestPass c.val (apNum a.now) = none) : Turns (exec (.hazSelftest t c code) s) s [] a a := by
  refine turns_runDev h ?_ (sameRegsBut.refl _ _)
  unfold Dev.selftest
  rw [hpass]

end

/-- The register of a self-test's code. -/
def selftestFld (c : Nat) (odd : Bool) : Fld := if odd then F.HAZ_CH_ST_RESULT.REF_CODE c else F.HAZ_CH_ST_RESULT.ZERO_CODE c

theorem selftestFld_place (c : Nat) (odd : Bool) : (selftestFld c odd).place = (F.HAZ_CH_ST_RESULT.REF_CODE c).place := by cases odd <;> rfl

/-- A self-test's expectation does not depend on the code that it stores. -/
theorem Dev.selftest_expects (d : Dev) (c : Nat) (odd : Bool) (code : Int) : (d.setSFld (selftestFld c odd) code).modeNow c = d.modeNow c
    ∧ (d.setSFld (selftestFld c odd) code).fld (F.HAZ_CH_FREF.F_REF_HZ c) = d.fld (F.HAZ_CH_FREF.F_REF_HZ c) := by
  have hoff : (selftestFld c odd).off = 0x1024 + 0x40 * c := congrArg Prod.snd (selftestFld_place c odd)
  have hfits : (selftestFld c odd).lo + (selftestFld c odd).w ≤ 32 := by cases odd <;> exact Fld.fits
  refine ⟨Dev.fld_setFld_apart _ _ _ _ hfits (Fld.apart_of_off ?_), Dev.fld_setFld_apart _ _ _ _ hfits (Fld.apart_of_off ?_)⟩
  · rw [hoff]
    show 0x1024 + 0x40 * c ≠ 0x1010 + 0x40 * c; omega
  · rw [hoff]
    show 0x1024 + 0x40 * c ≠ 0x1004 + 0x40 * c; omega

/-- One half of the tests that a failed self-test asks for has passed. -/
def Dev.selftestPassed (d : Dev) (c : Nat) (odd : Bool) : Dev := d.modChan c (fun k => { k with need := setMask k.need odd.toNat false })

/-- A self-test fails: it is flagged, and both tests must pass again. -/
def Dev.selftestFailed (d : Dev) (c : Nat) : Dev := (d.setFld (F.HAZ_CH_FLAG.SELFTEST_FAIL c) 1).modChan c (fun k => { k with need := 3 })

theorem Dev.selftest_judged {d : Dev} {c : Nat} {code : Int} {odd : Bool} (hpass : d.selftestPass c (apNum d.now) = some odd) :
    d.selftest c code = if selftestGood (d.modeNow c) (d.fld (F.HAZ_CH_FREF.F_REF_HZ c)) odd code then
        (if (((d.setSFld (selftestFld c odd) code).selftestPassed c odd).chan c).need = 0 then
          ((d.setSFld (selftestFld c odd) code).selftestPassed c odd).clear .hazSelftestFail (.chan c)
          else (d.setSFld (selftestFld c odd) code).selftestPassed c odd)
      else ((d.setSFld (selftestFld c odd) code).selftestFailed c).fault .hazSelftestFail (.chan c) 0 0
        ([BitVec.ofNat 8 odd.toNat, 0] ++ leBytes 2 (unsgn 16 code)) := by
  obtain ⟨hmode, hfref⟩ := d.selftest_expects c odd code
  unfold Dev.selftest
  rw [hpass, ← hmode, ← hfref]
  rfl

section
variable {s : State} {t : Stamp} {a : Dev} {c : Fin 64} (h : At s t 0 a)
include h

theorem hazSelftest_judged {code : BitVec 16} {odd : Bool} {b : Dev} (hpass : a.selftestPass c.val (apNum a.now) = some odd)
    (hb : b = a.setSFld (selftestFld c.val odd) code.toInt) :
    (selftestGood (a.modeNow c.val) (a.fld (F.HAZ_CH_FREF.F_REF_HZ c.val)) odd code.toInt = false →
      Turns (exec (.hazSelftest t c code) s) s ([(F.HAZ_CH_ST_RESULT.REF_CODE c.val).place, (F.HAZ_CH_FLAG.SELFTEST_FAIL c.val).place]
        ++ faultRegs (evClass .hazSelftestFail)) a
        ((b.selftestFailed c.val).fault .hazSelftestFail (.chan c.val) 0 0 ([BitVec.ofNat 8 odd.toNat, 0] ++ leBytes 2 (unsgn 16 code.toInt))))
    ∧ (selftestGood (a.modeNow c.val) (a.fld (F.HAZ_CH_FREF.F_REF_HZ c.val)) odd code.toInt = true → ∃ d,
      Turns (exec (.hazSelftest t c code) s) s [(F.HAZ_CH_ST_RESULT.REF_CODE c.val).place] a d
      ∧ (d.chan c.val).need = setMask (a.chan c.val).need odd.toNat false
      ∧ ((d.chan c.val).need = 0 → d.has .hazSelftestFail (.chan c.val) = false)) := by
  have hjudged := Dev.selftest_judged (code := code.toInt) hpass
  rw [← hb] at hjudged
  have hcode {l : List (Blk × Nat)} (hl : (F.HAZ_CH_ST_RESULT.REF_CODE c.val).place ∈ l) : sameRegsBut l a b :=
    hb ▸ (sameRegsBut.refl l a).setFld _ _ (by rwa [selftestFld_place])
  have hneed : ((b.selftestPassed c.val odd).chan c.val).need = setMask (a.chan c.val).need odd.toNat false := by
    rw [Dev.selftestPassed, Dev.chan_modChan, hb]
    rfl
  refine ⟨fun hbad => turns_runDev h (hjudged.trans (if_neg (by simp [hbad]))) ?_, fun hgood => ?_⟩
  · exact (((hcode (by simp)).setFld (F.HAZ_CH_FLAG.SELFTEST_FAIL c.val) 1 (by simp)).modChan _ _).fault _ _ _ _ _ _ (List.subset_append_right _ _)
  · rw [if_pos hgood] at hjudged
    have hpassed {l : List (Blk × Nat)} (hl : (F.HAZ_CH_ST_RESULT.REF_CODE c.val).place ∈ l) : sameRegsBut l a (b.selftestPassed c.val odd) :=
      (hcode hl).modChan _ _
    by_cases h0 : ((b.selftestPassed c.val odd).chan c.val).need = 0
    · rw [if_pos h0] at hjudged
      exact ⟨_, turns_runDev h hjudged ((hpassed (by simp)).upd rfl rfl), hneed, fun _ => Dev.has_clear ..⟩
    · rw [if_neg h0] at hjudged
      exact ⟨_, turns_runDev h hjudged (hpassed (by simp)), hneed, fun hz => absurd hz h0⟩

end

end Sys2Proof.Machine
end

section
-- One proof at a time: checked side by side, the later proofs wait in threads of their own, past the memory limit.
set_option Elab.async false
/-! ### Conditions of an auxiliary channel (R209) -/

namespace Sys2Proof.Machine

@[simp] theorem Dev.auxOf_modAux (d : Dev) (n : Nat) (f : AuxSt → AuxSt) : (d.modAux n f).auxOf n = f (d.auxOf n) :=
  tabGet_tabPut_same _ _ _ _

section
variable {d : Dev} {n : Nat} {ev : Ev} {status flag : Fld} {present : Bool}

/-- What holds however the condition stood before. -/
theorem Dev.auxCond_cases {P : Dev → Prop} (hstays : present = true → d.has ev (.aux n) = true → P (d.setBit status present))
    (hrises : present = true → P (((d.setBit status present).setFld flag 1).fault ev (.aux n)))
    (hends : present = false → P ((d.setBit status present).clear ev (.aux n))) : P (d.auxCond n ev status flag present) := by
  unfold Dev.auxCond
  dsimp only
  split
  · next hp =>
    split
    · next hhas => exact hstays hp hhas
    · exact hrises hp
  · next hp => exact hends (by simpa using hp)

/-- The status bit shows whether the condition is present. -/
theorem Dev.auxCond_on (hfits : status.lo + status.w ≤ 32) (hw : status.w = 1) (hflag : flag.lo + flag.w ≤ 32) (hap : flag.apart status = true)
    (hblk : status.blk = .haz) : (d.auxCond n ev status flag present).on status = present := by
  have hset : (d.setBit status present).on status = present := Dev.on_setBit_same d status present hfits hw
  refine Dev.auxCond_cases (P := fun e => e.on status = present) (fun _ _ => hset) (fun _ => ?_) (fun _ => hset)
  rw [Dev.on, Dev.fault_fld_outside _ _ _ _ _ _ _ (by simp [hblk]) (by simp [hblk]), Dev.fld_setFld_apart _ _ _ _ hflag hap]
  exact hset

theorem Dev.auxCond_has : (d.auxCond n ev status flag present).has ev (.aux n) = present := by
  refine Dev.auxCond_cases (P := fun e => e.has ev (.aux n) = present) (fun hp hhas => hp ▸ hhas) (fun hp => ?_) (fun hp => ?_)
  · rw [hp, Dev.fault_has]
  · rw [hp, Dev.has_clear]

/-- What a condition writes: its status, its flag, what its fault writes. -/
theorem Dev.auxCond_touches (hev : ev ≠ .headSysStuck) (hfits : status.lo + status.w ≤ 32) (hflag : flag.lo + flag.w ≤ 32) :
    Touches ({status, flag} ∪ (reactFlds ∪ recFlds (evClass ev))) d (d.auxCond n ev status flag present) := by
  have hset : Touches ({status, flag} ∪ (reactFlds ∪ recFlds (evClass ev))) d (d.setBit status present) :=
    (Touches.refl _ d).setBit status present (.inl (.inl rfl)) hfits
  exact Dev.auxCond_cases (P := Touches _ d) (fun _ _ => hset)
    (fun _ => (hset.setFld flag 1 (.inl (.inr rfl)) hflag).fault ev (.aux n) 0 0 [] _ Set.subset_union_right) (fun _ => hset.clear hev _ _)

theorem Dev.auxCond_regs (hev : ev ≠ .headSysStuck) (hfits : status.lo + status.w ≤ 32) (hflag : flag.lo + flag.w ≤ 32) :
    sameRegsBut ([status.place, flag.place] ++ faultRegs (evClass ev)) d (d.auxCond n ev status flag present) := by
  refine (Dev.auxCond_touches hev hfits hflag).sameRegs ?_
  rintro f ((rfl | rfl) | hf)
  · simp
  · simp
  · exact List.mem_append_right _ (faultFlds_place f hf)

/-- Other fields of the front end a condition leaves alone. -/
theorem Dev.auxCond_fld (hev : ev ≠ .headSysStuck) (hfits : status.lo + status.w ≤ 32) (hflag : flag.lo + flag.w ≤ 32) {g : Fld} (hg : g.blk = .haz)
    (hstatus : status.apart g = true) (hflagg : flag.apart g = true) : (d.auxCond n ev status flag present).fld g = d.fld g := by
  refine (Dev.auxCond_touches hev hfits hflag).fld g ?_
  rintro f ((rfl | rfl) | hf)
  · exact hstatus
  · exact hflagg
  · exact faultFlds_apart (by simp [hg]) (by simp [hg]) f hf

theorem Dev.auxCond_kept : (d.auxCond n ev status flag present).auxs = d.auxs ∧ (d.auxCond n ev status flag present).part = d.part
    ∧ (d.auxCond n ev status flag present).freeCtr = d.freeCtr :=
  Dev.auxCond_cases (P := fun e => e.auxs = d.auxs ∧ e.part = d.part ∧ e.freeCtr = d.freeCtr) (fun _ _ => ⟨rfl, rfl, rfl⟩)
    (fun _ => ⟨Dev.fault_auxs .., Dev.fault_part .., Dev.fault_freeCtr ..⟩) (fun _ => ⟨rfl, rfl, rfl⟩)

end

/-! ### Reference slots (R209, R220) -/

/-- A reference measurement is kept, and with 8 of them V_ref shows. -/
def Dev.refKept (d : Dev) (n : Nat) (nv : Int) (beyond : Bool) : Dev :=
  let d := d.modAux n (fun x => { x with refs := (nv :: x.refs).take 8, refOver := beyond })
  if (d.auxOf n).refs.length = 8 then d.setFld (F.HAZ_AUX_VREF.VREF_UV n) ((clampI 0 16777215 ((d.auxOf n).refSum / 8000)).toNat) else d

theorem Dev.auxOf_refKept (d : Dev) (n : Nat) (nv : Int) (beyond : Bool) :
    (d.refKept n nv beyond).auxOf n = { d.auxOf n with refs := (nv :: (d.auxOf n).refs).take 8, refOver := beyond } := by
  have hmod := d.auxOf_modAux n (fun x => { x with refs := (nv :: x.refs).take 8, refOver := beyond })
  unfold Dev.refKept
  dsimp only
  split
  · exact hmod
  · exact hmod

theorem Dev.refSlot_running {d : Dev} {n : Nat} (h : d.auxRunning n = true) (nv : Int) (beyond : Bool) : d.refSlot n nv beyond
    = (d.refKept n nv beyond).auxCond n .auxRefFault (F.HAZ_AUX_STAT.REF_FAULT n) (F.HAZ_AUX_FLAG.REF_FAULT n)
        ((d.refKept n nv beyond).auxOf n).refBad := by
  have hmod := d.auxOf_modAux n (fun x => { x with refs := (nv :: x.refs).take 8, refOver := beyond })
  rw [d.auxOf_refKept, ← hmod]
  exact if_pos h

section
variable {s : State} {t : Stamp} {a : Dev} {n : Fin 16} (h : At s t 0 a)
include h

/-- A reference slot of a channel that runs keeps its measurement and judges the reference. -/
theorem referenceSlot_row (nv : Int) (beyond : Bool) :
    (a.auxRunning n.val = false → Turns (exec (.referenceSlot t n nv beyond) s) s [] a a)
    ∧ (a.auxRunning n.val = true → ∃ d, Does (exec (.referenceSlot t n nv beyond) s) { s with dev := d }
        ∧ (d.auxOf n.val).refs = (nv :: (a.auxOf n.val).refs).take 8 ∧ (d.auxOf n.val).refOver = beyond
        ∧ d.on (F.HAZ_AUX_STAT.REF_FAULT n.val) = (d.auxOf n.val).refBad) := by
  refine ⟨fun hoff => turns_runDev h (if_neg (by simp [hoff])) (sameRegsBut.refl _ _), fun hrun =>
    ⟨_, does_runDev h (Dev.refSlot_running hrun nv beyond), ?_⟩⟩
  obtain ⟨e, he⟩ : ∃ e, e = a.refKept n.val nv beyond := ⟨_, rfl⟩
  have hkept := a.auxOf_refKept n.val nv beyond
  rw [← he] at hkept ⊢
  obtain ⟨hauxs, -, -⟩ := Dev.auxCond_kept (d := e) (n := n.val) (ev := .auxRefFault) (status := F.HAZ_AUX_STAT.REF_FAULT n.val)
    (flag := F.HAZ_AUX_FLAG.REF_FAULT n.val) (present := (e.auxOf n.val).refBad)
  rw [Dev.auxOf, hauxs, ← Dev.auxOf]
  refine ⟨by rw [hkept], by rw [hkept], Dev.auxCond_on Fld.fits rfl Fld.fits (Fld.apart_of_off ?_) rfl⟩
  show 0x200c + 0x40 * n.val ≠ 0x2008 + 0x40 * n.val; omega

end

/-! ### Conversions (R208, R209) -/

/-- V doubled, in nanovolts (R208). -/
def Dev.auxNum (d : Dev) (n : Nat) (even odd : Int) : Int :=
  if !d.on (F.HAZ_AUX_CFG.SWAP n) then 2 * even else if d.fld (F.HAZ_AUX_CFG.WIRES n) = 3 then even - odd else even + odd

/-- The record of a conversion. -/
def auxWord (code : Int) (ovr beyond bad swap : Bool) (seq : Nat) : Nat :=
  unsgn 24 code + ovr.toNat * 2 ^ 24 + beyond.toNat * 2 ^ 25 + bad.toNat * 2 ^ 26 + swap.toNat * 2 ^ 27 + seq * 2 ^ 28

/-- A conversion counts, and an over-range flags. -/
def Dev.auxCounted (d : Dev) (n : Nat) (ovr : Bool) : Dev :=
  (if ovr then d.setFld (F.HAZ_AUX_FLAG.OVR n) 1 else d).incPair (F.HAZ_AUX_CNT_LO.V n) (F.HAZ_AUX_CNT_HI.V n)

/-- A record shows with its stamp. -/
def Dev.auxShown (d : Dev) (n w : Nat) : Dev :=
  let d := d.setReg .haz (F.HAZ_AUX_RESULT.RECORD n).off (BitVec.ofNat 32 w)
  (d.setFld (F.HAZ_AUX_TIME_LO.V n) (d.now.toNat % 2 ^ 32)).setFld (F.HAZ_AUX_TIME_HI.V n) (d.now.toNat / 2 ^ 32)

/-- The halves of a conversion are stored, and its record goes to its rings. -/
def Dev.auxStored (d : Dev) (n w : Nat) (e o : Int) (rings : List Nat) : Dev :=
  (((d.setSFld (F.HAZ_AUX_HALF_E.V n) e).setSFld (F.HAZ_AUX_HALF_O.V n) o).setFld (F.HAZ_AUX_STAT.RUNNING n) 1).stream rings (leBytes 4 w)

theorem Touches.stream {W : Set Fld} {a d : Dev} (h : Touches W a d) (rings : List Nat) (data : List Byte) : Touches W a (d.stream rings data) :=
  h.upd rfl rfl rfl rfl rfl rfl rfl

section
variable (d : Dev) (n : Nat)

theorem Dev.auxCounted_touches (ovr : Bool) : Touches {F.HAZ_AUX_FLAG.OVR n, F.HAZ_AUX_CNT_LO.V n, F.HAZ_AUX_CNT_HI.V n} d (d.auxCounted n ovr) :=
  (((Touches.refl _ d).setFld (F.HAZ_AUX_FLAG.OVR n) 1 (by simp) Fld.fits).ite (Touches.refl _ d)).incPair _ _ _ (by simp) (by simp) Fld.fits Fld.fits

/-- The low word of the count goes up, modulo 2^32. -/
theorem Dev.auxCounted_cnt (ovr : Bool) : (d.auxCounted n ovr).fld (F.HAZ_AUX_CNT_LO.V n) % 16 = (d.fld (F.HAZ_AUX_CNT_LO.V n) + 1) % 16 := by
  obtain ⟨e, he⟩ : ∃ e, e = if ovr then d.setFld (F.HAZ_AUX_FLAG.OVR n) 1 else d := ⟨_, rfl⟩
  have hcnt : e.fld (F.HAZ_AUX_CNT_LO.V n) = d.fld (F.HAZ_AUX_CNT_LO.V n) := by
    rw [he]
    split
    · exact Dev.fld_setFld_apart _ _ _ _ Fld.fits (Fld.apart_of_off (show 0x200c + 0x40 * n ≠ 0x2010 + 0x40 * n by omega))
    · rfl
  have hpair := e.fld_incPair (F.HAZ_AUX_CNT_LO.V n) (F.HAZ_AUX_CNT_HI.V n) 1 rfl rfl Fld.fits
    (Fld.apart_of_off (show 0x2014 + 0x40 * n ≠ 0x2010 + 0x40 * n by omega))
  have hw : 2 ^ (32 + (F.HAZ_AUX_CNT_HI.V n).w) = 2 ^ 64 := rfl
  rw [hw, hcnt] at hpair
  rw [Dev.auxCounted, ← he]
  omega

theorem Dev.auxShown_reads (w : Nat) : (d.auxShown n w).reg .haz (F.HAZ_AUX_RESULT.RECORD n).off = BitVec.ofNat 32 w
    ∧ (d.auxShown n w).fld (F.HAZ_AUX_TIME_LO.V n) + 2 ^ 32 * (d.auxShown n w).fld (F.HAZ_AUX_TIME_HI.V n) = d.now.toNat
    ∧ (d.auxShown n w).on (F.HAZ_AUX_STAT.OPEN n) = d.on (F.HAZ_AUX_STAT.OPEN n) := by
  have hnow := d.now.isLt
  have hhi : (F.HAZ_AUX_TIME_HI.V n).apart (F.HAZ_AUX_TIME_LO.V n) = true :=
    Fld.apart_of_off (show 0x201c + 0x40 * n ≠ 0x2018 + 0x40 * n by omega)
  unfold Dev.auxShown
  dsimp only
  rw [Dev.setReg_now]
  refine ⟨?_, ?_, ?_⟩
  · rw [Dev.reg_setFld_ne, Dev.reg_setFld_ne, Dev.reg_setReg_same]
    · simp [Fld.place, F.HAZ_AUX_TIME_LO.V, F.HAZ_AUX_RESULT.RECORD]
    · simp [Fld.place, F.HAZ_AUX_TIME_HI.V, F.HAZ_AUX_RESULT.RECORD]
  · rw [Dev.fld_setFld_apart _ _ _ _ Fld.fits hhi, Dev.fld_setFld_same _ _ _ Fld.fits, Dev.fld_setFld_same _ _ _ Fld.fits]
    show d.now.toNat % 2 ^ 32 % 2 ^ 32 + 2 ^ 32 * (d.now.toNat / 2 ^ 32 % 2 ^ 16) = d.now.toNat
    omega
  · rw [Dev.on, Dev.fld_setFld_apart _ _ _ _ Fld.fits (Fld.apart_of_off (show 0x201c + 0x40 * n ≠ 0x2008 + 0x40 * n by omega)),
      Dev.fld_setFld_apart _ _ _ _ Fld.fits (Fld.apart_of_off (show 0x2018 + 0x40 * n ≠ 0x2008 + 0x40 * n by omega)), Dev.on,
      Dev.fld_congr (Dev.reg_setReg_ne _ _ (by simp [F.HAZ_AUX_STAT.OPEN, F.HAZ_AUX_RESULT.RECORD]))]

theorem Dev.auxStored_touches (w : Nat) (e o : Int) (rings : List Nat) : Touches {F.HAZ_AUX_HALF_E.V n, F.HAZ_AUX_HALF_O.V n, F.HAZ_AUX_STAT.RUNNING n}
    d (d.auxStored n w e o rings) :=
  ((((Touches.refl _ d).setFld (F.HAZ_AUX_HALF_E.V n) _ (by simp) Fld.fits).setFld (F.HAZ_AUX_HALF_O.V n) _ (by simp) Fld.fits).setFld
    (F.HAZ_AUX_STAT.RUNNING n) 1 (by simp) Fld.fits).stream rings _

theorem Dev.auxStored_reads (w : Nat) (e o : Int) (rings : List Nat) :
    (d.auxStored n w e o rings).reg .haz (F.HAZ_AUX_RESULT.RECORD n).off = d.reg .haz (F.HAZ_AUX_RESULT.RECORD n).off
    ∧ (d.auxStored n w e o rings).fld (F.HAZ_AUX_TIME_LO.V n) = d.fld (F.HAZ_AUX_TIME_LO.V n)
    ∧ (d.auxStored n w e o rings).fld (F.HAZ_AUX_TIME_HI.V n) = d.fld (F.HAZ_AUX_TIME_HI.V n)
    ∧ (d.auxStored n w e o rings).on (F.HAZ_AUX_STAT.OPEN n) = d.on (F.HAZ_AUX_STAT.OPEN n) := by
  have htouch := d.auxStored_touches n w e o rings
  have hfld {g : Fld} (he : (F.HAZ_AUX_HALF_E.V n).apart g = true) (ho : (F.HAZ_AUX_HALF_O.V n).apart g = true)
      (hr : (F.HAZ_AUX_STAT.RUNNING n).apart g = true) : (d.auxStored n w e o rings).fld g = d.fld g := by
    refine htouch.fld g ?_
    rintro f (rfl | rfl | rfl)
    · exact he
    · exact ho
    · exact hr
  have hregs := htouch.sameRegs (l := [(F.HAZ_AUX_HALF_E.V n).place, (F.HAZ_AUX_HALF_O.V n).place, (F.HAZ_AUX_STAT.RUNNING n).place]) (by
    rintro f (rfl | rfl | rfl) <;> simp)
  refine ⟨hregs _ _ ?_, hfld ?_ ?_ ?_, hfld ?_ ?_ ?_,
    congrArg (Decidable.decide <| · = 1) (hfld ?_ ?_ (Fld.apart_of_bits (.inl (by decide : 0 + 1 ≤ 1))))⟩
  · simp [Fld.place, F.HAZ_AUX_HALF_E.V, F.HAZ_AUX_HALF_O.V, F.HAZ_AUX_STAT.RUNNING, F.HAZ_AUX_RESULT.RECORD]
  all_goals refine Fld.apart_of_off ?_
  · show 0x2020 + 0x40 * n ≠ 0x2018 + 0x40 * n; omega
  · show 0x2024 + 0x40 * n ≠ 0x2018 + 0x40 * n; omega
  · show 0x2008 + 0x40 * n ≠ 0x2018 + 0x40 * n; omega
  · show 0x2020 + 0x40 * n ≠ 0x201c + 0x40 * n; omega
  · show 0x2024 + 0x40 * n ≠ 0x201c + 0x40 * n; omega
  · show 0x2008 + 0x40 * n ≠ 0x201c + 0x40 * n; omega
  · show 0x2020 + 0x40 * n ≠ 0x2008 + 0x40 * n; omega
  · show 0x2024 + 0x40 * n ≠ 0x2008 + 0x40 * n; omega

end

/-! ### The result of a conversion -/

/-- The condition of a source beyond compliance is judged with the conversion. -/
def Dev.auxOpened (d : Dev) (n : Nat) (beyond : Bool) : Dev := d.auxCond n .auxOpen (F.HAZ_AUX_STAT.OPEN n) (F.HAZ_AUX_FLAG.OPEN n) beyond

section
variable (d : Dev) (n : Nat) (beyond : Bool)

theorem Dev.auxOpened_on : (d.auxOpened n beyond).on (F.HAZ_AUX_STAT.OPEN n) = beyond :=
  Dev.auxCond_on Fld.fits rfl Fld.fits (Fld.apart_of_off (show 0x200c + 0x40 * n ≠ 0x2008 + 0x40 * n by omega)) rfl

theorem Dev.auxOpened_fld {g : Fld} (hg : g.blk = .haz) (hstat : g.off ≠ 0x2008 + 0x40 * n) (hflag : g.off ≠ 0x200c + 0x40 * n) :
    (d.auxOpened n beyond).fld g = d.fld g :=
  Dev.auxCond_fld (by decide) Fld.fits Fld.fits hg (Fld.apart_of_off (Ne.symm hstat)) (Fld.apart_of_off (Ne.symm hflag))

theorem Dev.auxOpened_running : (d.auxOpened n beyond).auxRunning n = d.auxRunning n := by
  obtain ⟨-, hpart, -⟩ := Dev.auxCond_kept (d := d) (n := n) (ev := .auxOpen) (status := F.HAZ_AUX_STAT.OPEN n) (flag := F.HAZ_AUX_FLAG.OPEN n)
    (present := beyond)
  have hwires := d.auxOpened_fld n beyond (g := F.HAZ_AUX_CFG.WIRES n) rfl (show 0x2000 + 0x40 * n ≠ 0x2008 + 0x40 * n by omega)
    (show 0x2000 + 0x40 * n ≠ 0x200c + 0x40 * n by omega)
  rw [Dev.auxRunning, hwires, Dev.auxOpened, hpart]
  rfl

theorem Dev.auxOpened_num (even odd : Int) : (d.auxOpened n beyond).auxNum n even odd = d.auxNum n even odd := by
  have hcfg (lo w : Nat) : (d.auxOpened n beyond).fld ⟨.haz, 0x2000 + 0x40 * n, lo, w⟩ = d.fld ⟨.haz, 0x2000 + 0x40 * n, lo, w⟩ :=
    d.auxOpened_fld n beyond rfl (show 0x2000 + 0x40 * n ≠ 0x2008 + 0x40 * n by omega) (show 0x2000 + 0x40 * n ≠ 0x200c + 0x40 * n by omega)
  unfold Dev.auxNum Dev.on F.HAZ_AUX_CFG.SWAP F.HAZ_AUX_CFG.WIRES
  rw [hcfg, hcfg]

theorem Dev.auxOpened_swap : (d.auxOpened n beyond).on (F.HAZ_AUX_CFG.SWAP n) = d.on (F.HAZ_AUX_CFG.SWAP n) :=
  congrArg (Decidable.decide <| · = 1) (d.auxOpened_fld n beyond (g := F.HAZ_AUX_CFG.SWAP n) rfl (show 0x2000 + 0x40 * n ≠ 0x2008 + 0x40 * n by omega)
    (show 0x2000 + 0x40 * n ≠ 0x200c + 0x40 * n by omega))

variable {d n beyond} {even odd : Int}

/-- Before the 8th reference measurement there is no result (R220). -/
theorem Dev.auxResult_early (hrun : d.auxRunning n = true) (hrefs : (d.auxOf n).refs.length ≠ 8) : d.auxResult n even odd beyond = d.auxOpened n beyond := by
  unfold Dev.auxResult
  rw [if_pos hrun]
  exact if_neg (by simp [hrefs])

/-- With 8 reference measurements whose sum is not 0 a conversion counts, shows and is stored. -/
theorem Dev.auxResult_full {e : Dev} {code : Int} {ovr : Bool} (he : e = d.auxOpened n beyond) (hrun : d.auxRunning n = true)
    (hrefs : (d.auxOf n).refs.length = 8) (hsum : (d.auxOf n).refSum ≠ 0)
    (hratio : ratioCode (e.auxNum n even odd) 2 (d.auxOf n).refSum (Config.freeRatio e.freeCtr) = (code, ovr)) {w : Nat}
    (hw : w = auxWord code ovr beyond (d.auxOf n).refBad (e.on (F.HAZ_AUX_CFG.SWAP n)) ((e.auxCounted n ovr).fld (F.HAZ_AUX_CNT_LO.V n) % 16)) :
    ∃ he ho, d.auxResult n even odd beyond = ((e.auxCounted n ovr).auxShown n w).auxStored n w he ho (d.auxOf n).streams := by
  have hrunning : e.auxRunning n = true := by rw [he, Dev.auxOpened_running, hrun]
  refine ⟨(ratioCode even 1 (d.auxOf n).refSum (Config.freeRatio e.freeCtr)).1,
    if e.on (F.HAZ_AUX_CFG.SWAP n) then (ratioCode odd 1 (d.auxOf n).refSum (Config.freeRatio e.freeCtr)).1 else 0, ?_⟩
  unfold Dev.auxResult
  dsimp only
  rw [if_pos hrun, show d.auxCond n .auxOpen (F.HAZ_AUX_STAT.OPEN n) (F.HAZ_AUX_FLAG.OPEN n) beyond = e from he.symm,
    if_pos (by simp [hrunning, hrefs]), if_neg hsum]
  unfold Dev.auxNum at hratio
  rw [hratio, hw]
  unfold Dev.auxStored Dev.auxShown Dev.auxCounted auxWord
  rfl

end

section
variable {s : State} {t : Stamp} {a : Dev} {n : Fin 16} (h : At s t 0 a)
include h

theorem auxResult_row (even odd : Int) (beyond : Bool) :
    (a.auxRunning n.val = false → Turns (exec (.auxResult t n even odd beyond) s) s [] a a)
    ∧ (a.auxRunning n.val = true → (a.auxOf n.val).refs.length ≠ 8 → ∃ d, Turns (exec (.auxResult t n even odd beyond) s) s
        ([(F.HAZ_AUX_STAT.OPEN n.val).place, (F.HAZ_AUX_FLAG.OPEN n.val).place] ++ faultRegs (evClass .auxOpen)) a d
        ∧ d.on (F.HAZ_AUX_STAT.OPEN n.val) = beyond ∧ d.has .auxOpen (.aux n.val) = beyond)
    ∧ (a.auxRunning n.val = true → (a.auxOf n.val).refs.length = 8 → (a.auxOf n.val).refSum ≠ 0 → ∀ code ovr w, (code, ovr) = ratioCode
        (if a.on (F.HAZ_AUX_CFG.SWAP n.val) then (if a.fld (F.HAZ_AUX_CFG.WIRES n.val) = 3 then even - odd else even + odd) else 2 * even) 2
        (a.auxOf n.val).refSum (Config.freeRatio a.freeCtr) →
      w = auxWord code ovr beyond (a.auxOf n.val).refBad (a.on (F.HAZ_AUX_CFG.SWAP n.val)) ((a.fld (F.HAZ_AUX_CNT_LO.V n.val) + 1) % 16) →
      ∃ d, Does (exec (.auxResult t n even odd beyond) s) { s with dev := d }
        ∧ d.reg .haz (F.HAZ_AUX_RESULT.RECORD n.val).off = BitVec.ofNat 32 w
        ∧ d.fld (F.HAZ_AUX_TIME_LO.V n.val) + 2 ^ 32 * d.fld (F.HAZ_AUX_TIME_HI.V n.val) = a.now.toNat
        ∧ d.on (F.HAZ_AUX_STAT.OPEN n.val) = beyond) := by
  refine ⟨fun hoff => turns_runDev h ?_ (sameRegsBut.refl _ _), fun hrun hrefs => ⟨_, turns_runDev h (Dev.auxResult_early hrun hrefs)
    (Dev.auxCond_regs (by decide) Fld.fits Fld.fits), Dev.auxOpened_on .., Dev.auxCond_has⟩, fun hrun hrefs hsum code ovr w hratio hw => ?_⟩
  · show a.auxResult n.val even odd beyond = a
    unfold Dev.auxResult
    simp [hoff]
  obtain ⟨e, he⟩ : ∃ e, e = a.auxOpened n.val beyond := ⟨_, rfl⟩
  have hnum : e.auxNum n.val even odd = if a.on (F.HAZ_AUX_CFG.SWAP n.val) then
      (if a.fld (F.HAZ_AUX_CFG.WIRES n.val) = 3 then even - odd else even + odd) else 2 * even := by
    rw [he, Dev.auxOpened_num, Dev.auxNum]
    cases a.on (F.HAZ_AUX_CFG.SWAP n.val) <;> rfl
  have hfree : e.freeCtr = a.freeCtr := he ▸ Dev.auxCond_kept.2.2
  have hseq : (e.auxCounted n.val ovr).fld (F.HAZ_AUX_CNT_LO.V n.val) % 16 = (a.fld (F.HAZ_AUX_CNT_LO.V n.val) + 1) % 16 := by
    rw [Dev.auxCounted_cnt, he, Dev.auxOpened_fld _ _ _ rfl (show 0x2010 + 0x40 * n.val ≠ 0x2008 + 0x40 * n.val by omega)
      (show 0x2010 + 0x40 * n.val ≠ 0x200c + 0x40 * n.val by omega)]
  have hswap : e.on (F.HAZ_AUX_CFG.SWAP n.val) = a.on (F.HAZ_AUX_CFG.SWAP n.val) := he ▸ Dev.auxOpened_swap ..
  rw [← hnum, ← hfree] at hratio
  rw [← hseq, ← hswap] at hw
  obtain ⟨x, y, hfull⟩ := Dev.auxResult_full he hrun hrefs hsum hratio.symm hw
  have hcounted := e.auxCounted_touches n.val ovr
  have hopen : (e.auxCounted n.val ovr).on (F.HAZ_AUX_STAT.OPEN n.val) = beyond := by
    refine (hcounted.on ?_).trans (he ▸ Dev.auxOpened_on ..)
    rintro f (rfl | rfl | rfl) <;> refine Fld.apart_of_off ?_
    · show 0x200c + 0x40 * n.val ≠ 0x2008 + 0x40 * n.val; omega
    · show 0x2010 + 0x40 * n.val ≠ 0x2008 + 0x40 * n.val; omega
    · show 0x2014 + 0x40 * n.val ≠ 0x2008 + 0x40 * n.val; omega
  have hnow : (e.auxCounted n.val ovr).now = a.now :=
    hcounted.now.trans (he ▸ (Dev.auxCond_touches (by decide) Fld.fits Fld.fits).now)
  obtain ⟨c, hc⟩ : ∃ c, c = e.auxCounted n.val ovr := ⟨_, rfl⟩
  rw [← hc] at hfull hopen hnow
  obtain ⟨hrecord, htime, hshown⟩ := c.auxShown_reads n.val w
  obtain ⟨hreg, hlo, hhi, hstored⟩ := (c.auxShown n.val w).auxStored_reads n.val w x y (a.auxOf n.val).streams
  exact ⟨_, does_runDev h hfull, hreg.trans hrecord, by rw [hlo, hhi, htime, hnow], hstored.trans (hshown.trans hopen)⟩

end

end Sys2Proof.Machine
end

section
-- One proof at a time: checked side by side, the later proofs wait in threads of their own, past the memory limit.
set_option Elab.async false
/-! ### The events of the front end -/

namespace Sys2Proof.Machine

/-- Settles O46: an event does nothing until its time has come; then what it writes is named, and the rest of the registers stand. A bank follows
its sources at each evaluation, whichever event asks for it. -/
theorem frontEndEvents : Obligations.FrontEndEvents := by
  unfold Obligations.FrontEndEvents
  refine ⟨fun s t a h => ⟨fun c => ?_, fun b => ?_, fun n even odd nv beyond => ?_⟩, fun d b _ hheld => bankEval_follows d b hheld,
    fun s t ns p level held a h => blankPinEdge_row h⟩
  · obtain ⟨hoff, htrip⟩ := currentLimitTrip_row (c := c) h
    obtain ⟨hwait, hclose⟩ := switchReclose_row (c := c) h
    obtain ⟨hclamped, hclamp⟩ := bankClamp_row (c := c) h
    obtain ⟨hwithin, hrelease⟩ := bankClampRelease_row (c := c) h
    exact ⟨hoff, htrip, hwait, hclose, hclamped, hclamp, hwithin, hrelease, fun code => ⟨fun hpass => hazSelftest_idle h hpass,
      fun odd b hpass hb => hazSelftest_judged h hpass hb⟩⟩
  · obtain ⟨hopen, hdone⟩ := blankCommandEnd_row (b := b) h
    obtain ⟨hshort, hlong⟩ := blankOverlong_row (b := b) h
    obtain ⟨hloud, hquiet⟩ := bankHoldEnd_row (b := b) h
    exact ⟨hopen, hdone, hshort, hlong, hloud, hquiet⟩
  · obtain ⟨hoff, hearly, hfull⟩ := auxResult_row (n := n) h even odd beyond
    obtain ⟨hidle, hslot⟩ := referenceSlot_row (n := n) h nv beyond
    exact ⟨hoff, hearly, hfull, hidle, hslot⟩

end Sys2Proof.Machine
end
